-- ==== Sys2Proof/Word.lean ====
section
/-! DEFINITION. The word types of the model: bytes and sparse maps keyed by a natural number. -/

namespace Sys2Proof

/-- One byte, the smallest addressable unit of every memory (R7, R111). -/
abbrev Byte := BitVec 8

/-- A 64-bit word: digests (R268), table words. -/
abbrev Word64 := BitVec 64

/-- Sparse data by key, held as a list of pairs with rising keys (Machine/Bits.lean has its operations). -/
abbrev KMap (α : Type) := List (Nat × α)

end Sys2Proof
end

