-- ==== Sys2Proof/Syntax.lean ====
section
/-! DEFINITION. The commands and events of the module (spec/opcode_table.json), one constructor of `Instr` per row, and
the operands they carry. What the manual leaves to the silicon, to another party or to the module's choice (a stand the
module picks, a measured temperature, the digests of a second run, data a host returns) is an operand. -/

namespace Sys2Proof

/-- Who sends a dictionary request; the path alone decides it (R365, Table 11-1). -/
inductive Role where
  | host | bmc | tray | peer
  deriving DecidableEq, Repr

/-- The requester of a dictionary command: its role, its endpoint for a peer, its TAG (R372), how many requests its path
already has outstanding (R366), and what carries its message: on the I3C path the class byte and enterprise number of the
vendor-defined header and the MCTP message tag, with the requester's MCTP endpoint as `src` (R369); on the tray network the
class word, the EtherType and the frame's MAC addresses (R370). -/
structure Via where
  role : Role
  src : Nat := 0
  tag : Nat := 0
  ahead : Nat := 0
  cls : Nat := 1
  enterprise : Nat := 0
  msgTag : Nat := 0
  dest : BitVec 48 := 0
  etherType : Nat := 0x88B5
  mac : BitVec 48 := 0
  deriving DecidableEq, Repr

/-- A dictionary message (R372, Table 11-3). `reserved` says that some reserved bit of the header is set. -/
structure DictMsg where
  version : Nat := 1
  op : Nat
  resp : Bool := false
  reserved : Bool := false
  final : Bool := false
  tag : Nat := 0
  index : Nat
  sub : Nat
  offset : Nat := 0
  length : Nat := 0
  data : List Byte := []
  deriving DecidableEq, Repr

/-- The fabric control messages R238 and R257 name; their layout is not given, so they are carried as such. -/
inductive Ctl where
  | none | heartbeat | readyQuery | readyAnswer (ready : Bool) | flip | flipAnswer | drainPoll
  | drainReport (count : Nat) | retire
  deriving DecidableEq, Repr

/-- A Crexus packet: the header of Table 7-5 and the payload (R229). -/
structure Packet where
  dest : Nat
  src : Nat
  epoch : Nat := 0
  vc : Nat
  kind : Nat
  xfer : Nat := 0
  offset : Nat := 0
  total : Nat := 1
  plot : Nat := 0
  stepLo : Nat := 0
  pace : Nat := 0
  taint : Bool := false
  sbCopy : Bool := false
  hop : Bool := false
  job : Nat := 0
  level : Nat := 0
  length : Nat := 0
  addr : Nat := 0
  arrival : Nat := 0x7FF
  hcheck : BitVec 32 := 0
  payload : List Byte := []
  ctl : Ctl := .none
  /-- seedbank generation a READ_REQ, a READ_RESP or a live copy carries (R135, R136, R301), and the step a live copy is of
  (R301); the header gives them no place -/
  gen : Option Nat := none
  ofStep : Nat := 0
  deriving DecidableEq, Repr

/-- A grove-port flit (R219): the fields of its header, its 244 bytes of packet data and its CRC. Of `packets`, those whose last byte
the data bring, in order, only what the packet header gives no place is taken: the data say the rest. -/
structure Flit where
  fseq : Nat
  ackseq : Nat
  nak : Bool := false
  /-- 0 data, 1 idle, 2 audit, 3 training -/
  type : Nat := 0
  /-- up to two credit returns: virtual channel and count of 64-byte units -/
  credits : List (Nat × Nat) := []
  data : List Byte
  crc : BitVec 32
  packets : List Packet := []
  deriving DecidableEq, Repr

/-- A frame on an uplink (R227, R228, Table 7-4): the MAC header, the path header, a packet, the bytes that pad it to 64 or
follow it, and the FCS. -/
structure Frame where
  dst : BitVec 48
  src : BitVec 48
  /-- the tag control information of an IEEE 802.1Q tag -/
  tag : Option (BitVec 16) := none
  etherType : BitVec 16
  ptype : Nat
  pseq : BitVec 32
  pack : BitVec 32
  pcred : Nat := 0
  packet : Option Packet := none
  pad : List Byte := []
  fcs : BitVec 32 := 0
  deriving DecidableEq, Repr

/-- Where a task runs, as far as the module chooses (R165, R175, R267, R271, R273). -/
structure Placement where
  stand : Nat
  checker : Nat := 0xFF
  deriving DecidableEq, Repr

/-- The digests a run of a block forms (R268). -/
structure Digests where
  inp : Word64
  out : Word64
  deriving DecidableEq, Repr

/-- A task and where it runs, as far as the module chooses. -/
structure PlacedTask where
  id : BitVec 32
  place : Placement
  deriving DecidableEq, Repr

/-- What a third run brings: the digests it forms and the bytes it makes of a unit (R213, R272). -/
structure ThirdRun where
  digests : Digests
  out : List Byte := []
  deriving DecidableEq, Repr

/-- What a finished self-test suite found (Table 8-2). -/
inductive Finding where
  | column (array col : Nat)
  | array (array : Nat)
  | stand
  | scratch (line : Nat)
  deriving DecidableEq, Repr

/-- One stand's cruise-counter events of a 10 µs interval (Table 10-2). -/
structure StandActivity where
  stand : Nat
  fp16 : Nat := 0
  fp32 : Nat := 0
  fp64 : Nat := 0
  vec : Nat := 0
  scratch : Nat := 0
  canopy : Nat := 0
  deriving DecidableEq, Repr

/-- The cruise-counter events of one 10 µs interval (R322). -/
structure PowerSample where
  stands : List StandActivity := []
  understory : Nat := 0
  stackBlocks : Nat := 0
  bridge64 : Nat := 0
  deriving DecidableEq, Repr

/-- The sideband inputs (R399), as numbered by SIDEBAND_TOGGLES. -/
inductive Pin where
  | perst | pwrbrk | slotId
  deriving DecidableEq, Repr

/-- The clocked islands of R412. -/
inductive Island where
  | stackPhy (stack : Nat) | bridgePhy | portSerdes (port : Nat) | pcie | guestPhy (site : Nat) | mgmtClock (half : Nat)
  deriving DecidableEq, Repr

/-- The memories patrol scrub reads (R141), numbered as MEMORY of Table 4-9. -/
inductive MemKind where
  | stack | understory | scratch | table
  deriving DecidableEq, Repr

/-- What an upset has made of a block or line by the time scrub reads it (R123, R124, R126): its bytes, the check stored with
them (32 bits of a stack block, 16 of an SRAM line), the parity bits of an SRAM line's 16 words, and whether the stack reports
an error that its own correction could not correct; of a line in the understory reserve, whether it holds entries of an
endpoint table (the manual does not lay the reserve out). -/
structure Upset where
  data : List Byte
  check : BitVec 32
  parity : BitVec 16 := 0
  reported : Bool := false
  endpoint : Bool := false
  deriving DecidableEq, Repr

/-- What a trained grove port learned of its peer (R221). -/
structure PeerReport where
  endpoint : Nat
  grove : Nat
  /-- the credits its receiver advertises, per VC (R226) -/
  credits : List Nat
  deriving DecidableEq, Repr

/-- A loan message (Table 10-3) without its TYPE, which the row gives. -/
structure LoanMsg where
  lender : Nat
  borrower : Nat
  seq : Nat
  watts : Nat
  deriving DecidableEq, Repr

/-- A block of guest data with the check it arrived with (R421). -/
structure GuestBlock where
  data : List Byte
  check : BitVec 32
  deriving DecidableEq, Repr

/-- What CHALLENGE of SPDM asks for beside the slot: the requester's nonce, and the measurement summary: 0 none, 1 of the trusted
computing base, 0xFF of all measurements. -/
structure ChallengeAsk where
  nonce : List Byte
  summary : Nat := 0
  deriving DecidableEq, Repr

/-- The commands and events of the module, in the order of spec/opcode_table.json. -/
inductive Instr where
  -- channels (chapter 5)
  | tailWrite (h : Nat) (v : BitVec 32)
  | cplHeadWrite (h : Nat) (v : BitVec 32)
  | doorbellIllegalAccess (h offset width : Nat)
  | fetchDescriptor (h : Nat) (hostAnswer : Option (BitVec 1024))
  -- tasks (chapters 3, 5)
  | matmul (h : Nat) (t : BitVec 32) (p : Placement)
  | copy (h : Nat) (t : PlacedTask)
  | fabric (h : Nat) (t : BitVec 32)
  | wait (h : Nat) (t : BitVec 32)
  | stepEnd (h : Nat) (t : BitVec 32)
  | hostRead (h : Nat) (t : BitVec 32) (hostAnswer : Option (List Byte))
  | hostWrite (h : Nat) (t : BitVec 32)
  -- vector operations (Table 3-6, R160)
  | fadd (h : Nat) (t : BitVec 32) (p : Placement)
  | fsub (h : Nat) (t : BitVec 32) (p : Placement)
  | fmul (h : Nat) (t : BitVec 32) (p : Placement)
  | fma (h : Nat) (t : BitVec 32) (p : Placement)
  | fmin (h : Nat) (t : BitVec 32) (p : Placement)
  | fmax (h : Nat) (t : BitVec 32) (p : Placement)
  | fcmpEqual (h : Nat) (t : BitVec 32) (p : Placement)
  | fcmpLessThan (h : Nat) (t : BitVec 32) (p : Placement)
  | fcmpLessOrEqual (h : Nat) (t : BitVec 32) (p : Placement)
  | cvt (h : Nat) (t : BitVec 32) (p : Placement)
  | iadd (h : Nat) (t : BitVec 32) (p : Placement)
  | iand (h : Nat) (t : BitVec 32) (p : Placement)
  | ior (h : Nat) (t : BitVec 32) (p : Placement)
  | ixor (h : Nat) (t : BitVec 32) (p : Placement)
  | ishl (h : Nat) (t : BitVec 32) (p : Placement)
  | ishr (h : Nat) (t : BitVec 32) (p : Placement)
  | fdiv (h : Nat) (t : BitVec 32) (p : Placement)
  | fsqrt (h : Nat) (t : BitVec 32) (p : Placement)
  | exp2 (h : Nat) (t : BitVec 32) (p : Placement)
  | log2 (h : Nat) (t : BitVec 32) (p : Placement)
  | rcp (h : Nat) (t : BitVec 32) (p : Placement)
  | rsqrt (h : Nat) (t : BitVec 32) (p : Placement)
  | relu (h : Nat) (t : BitVec 32) (p : Placement)
  | gelu (h : Nat) (t : BitVec 32) (p : Placement)
  | sigmoid (h : Nat) (t : BitVec 32) (p : Placement)
  | silu (h : Nat) (t : BitVec 32) (p : Placement)
  | tanh (h : Nat) (t : BitVec 32) (p : Placement)
  | rowmax (h : Nat) (t : BitVec 32) (p : Placement)
  | rowsum (h : Nat) (t : BitVec 32) (p : Placement)
  | recadd (h : Nat) (t : BitVec 32) (p : Placement)
  | recrnd (h : Nat) (t : BitVec 32) (p : Placement)
  | softnorm (h : Nat) (t : BitVec 32) (p : Placement)
  -- the life of a task (chapter 5)
  | taskComplete (h : Nat) (t : BitVec 32)
  | taskRetry (h : Nat) (t : BitVec 32)
  | taskWatchdogExpiry (h : Nat) (t : BitVec 32)
  | handshakeStall (stand : Nat)
  | standTimeout (stand : Nat)
  | quantumBoundary
  | contextEvict (h : Nat)
  | jobWeightExpiry (stand : Nat)
  | taskResume (h : Nat) (t : BitVec 32)
  | fenceApply (stand : Nat)
  -- channel and job commands (dictionary writes)
  | channelCreate (v : Via)
  | channelDestroy (v : Via) (h : Nat)
  | channelResume (v : Via) (h : Nat)
  | jobSlotIdWrite (v : Via) (slot id : Nat)
  | jobScratchCommit (v : Via)
  | profileCommit (v : Via) (slot : Nat)
  | regionTableCommit (v : Via)
  -- memory (chapter 4)
  | bar2Read (offset len : Nat)
  | bar2Write (offset : Nat) (data : List Byte)
  | twinFetchRetry (block : Nat)
  | repairDone (block : Nat)
  | repairTimeout (block : Nat)
  | recomputeRerun (h : Nat) (t : BitVec 32) (hostAnswer : Option (List Byte))
  | scrubRead (m : MemKind) (upset : Option Upset)
  | stackEcsPoll (events : List (Nat × Nat))
  -- the clearing (chapter 6)
  | voteSend (slot : Nat)
  | voteReceive (p : Packet)
  | decisionReceive (p : Packet)
  | stepCommit (slot : Nat)
  | clearingTimeout (slot : Nat)
  -- ports and links (chapter 7)
  | portEnableWrite (v : Via) (port value : Nat)
  | portReenable (v : Via) (port value : Nat)
  | trainingDone (port : Nat) (peer : Option PeerReport)
  | linkLoss (port : Nat)
  | backoffExpiry (port : Nat)
  | backoffReset (port : Nat)
  | flitReceive (port : Nat) (f : Flit)
  | nakReceive (port lastGood : Nat)
  | creditReturnTimeout (port vc : Nat)
  | escapeWaitExpiry (n : Nat)
  | creditAuditIdle (port : Nat)
  | auditFlitReceive (port : Nat) (free : List Nat)
  -- packets and transfers (chapter 7)
  | packetSend (n : Nat) (viaUp : List Nat)
  | packetForward (port : Nat) (p : Packet)
  | writeReceive (p : Packet)
  | readReqReceive (p : Packet)
  | readRespReceive (p : Packet)
  | doneReceive (p : Packet)
  | refuseReceive (p : Packet)
  | refuseResendExpiry (xfer offset dest : Nat)
  | errorReceive (p : Packet)
  | collectiveReceive (p : Packet)
  | transferComplete (src xfer : Nat)
  | heartbeatTimer (peer : Nat)
  | heartbeatReceive (p : Packet)
  | peerLost (peer : Nat)
  -- table switches (chapter 7)
  | epochSwitch (v : Via) (value : Nat)
  | epochReadyQuery (src : Nat)
  | epochReadyAnswer (src : Nat) (ready : Bool)
  | flip (src : Nat)
  | flipRetry (peer : Nat)
  | drainPoll
  | drainCountReport (src : Nat) (count : Option Nat)
  | retire (src : Nat)
  | endpointTableCommit (v : Via)
  | endpointIdCommit (v : Via)
  -- forest paths (chapter 7)
  | grantRequest (f : Frame)
  | grant (f : Frame) (units : Nat)
  | forestPacketFrame (f : Frame)
  | acknowledgementFrame (f : Frame)
  | ackTimer (src : Nat)
  | forestRetransmit (dest : Nat) (pseq : BitVec 32)
  | pathCreditGiveBack (dest : Nat)
  -- silent errors, firebreaks and coppicing (chapter 8)
  | checkCompare (h : Nat) (t : BitVec 32) (block : Nat) (second : Digests)
  | optimiserUnitCompare (h : Nat) (t : BitVec 32) (unit : Nat) (second : Digests)
  | thirdRunDone (h : Nat) (t : BitVec 32) (block stand : Nat) (third : ThirdRun)
  | thirdRunTimeout (h : Nat) (t : BitVec 32) (block : Nat)
  | suspectRepeatDone (stand : Nat) (again : Digests)
  | selfTestDone (stand : Nat) (findings : List Finding)
  | standFence (v : Via) (stand value : Nat)
  | selfTestNow (v : Via) (stand value : Nat)
  | taintNotice (p : Packet)
  | replicaDigest (p : Packet)
  | expulsion (p : Packet)
  | errorRecordHandle (level unit : Nat)
  | errorAck (v : Via) (record : Nat)
  | cperAck (v : Via) (record : Nat)
  | errorOverflowClear (v : Via) (value : Nat)
  | replicaSetsCommit (v : Via)
  -- the seedbank (chapter 9)
  | seedbankSetsCommit (v : Via)
  | foldCheck (v : Via) (set gen : Nat) (value : Word64)
  | foldCheckCompare (slot set : Nat)
  | twinSlot (v : Via) (gen twinBase size : Nat)
  | generationCommit (slot : Nat)
  | genDone (v : Via) (slot gen plots failures cost : Nat)
  | genComplete (v : Via) (slot gen nextStep interval : Nat)
  | generationTimeout (slot : Nat)
  | restore (v : Via) (slot gen fromEp : Nat)
  -- power, heat and ageing (chapter 10)
  | powerModelTick (a : PowerSample)
  | modelCorrectionTick (measuredMj : Nat)
  | railAdjustTick
  | powerCapWrite (v : Via) (watts : Nat)
  | borrowTrigger
  | loanReturnTrigger
  | loanRecallTrigger
  | loanAuditTimer
  | loanRequest (v : Via) (m : LoanMsg)
  | loanGrant (v : Via) (m : LoanMsg)
  | loanRefuse (v : Via) (m : LoanMsg)
  | loanReturn (v : Via) (m : LoanMsg)
  | loanRecall (v : Via) (m : LoanMsg)
  | loanAudit (v : Via) (m : LoanMsg)
  | steadyLoadCommit (v : Via)
  | thermalLimiterTick (tj : Int)
  | outletLimiterTick (outlet : Int)
  | thermtrip (tj : Int)
  | supplySample (mv holdUpMv : Nat)
  | shedLevelExit
  /-- The counts of a stand's eight sentinels, and the Tj, 0.1 °C, at which the factory grid is read (R359). -/
  | sentinelMeasure (stand : Nat) (counts : List Nat) (factory : Int)
  | sentinelGap (stand : Nat)
  | marginReplan
  | replanNow (v : Via) (value : Nat)
  | persistWrite
  | restoreDefaults (v : Via) (value : Nat)
  -- the Glade dictionary (chapter 11)
  /-- A write of the control register with GO 1: the word of Table 11-2, and what the request buffer then holds. -/
  | mailboxGo (vector : BitVec 32) (m : DictMsg)
  /-- A write of the control register with GO 0. -/
  | mailboxDoneClear (vector : BitVec 32)
  | read (v : Via) (m : DictMsg)
  | write (v : Via) (m : DictMsg)
  | stageWrite (v : Via) (m : DictMsg)
  | readStaged (v : Via) (m : DictMsg)
  | describe (v : Via) (m : DictMsg)
  | stageDiscard (v : Via) (index : Nat)
  | stageTimeout (role : Role) (index : Nat)
  | diagEnableWrite (v : Via) (value : Nat)
  | guestRightsCommit (v : Via)
  | windowRegisterWrite (v : BitVec 64)
  -- boundary and reset (chapter 12)
  | gladeTimeout (half : Nat) (inProgress : Option (Via × DictMsg))
  | sidebandInputChange (pin : Pin) (level : Nat)
  | toggleAlertClear (pin : Pin)
  | perstNFall
  | perstNRise
  | pwrbrkNFall
  | pwrbrkNRise
  | powerOn
  | halfStart (half : Nat) (repairsLeft : List (Nat × Nat))
  | pcieReady
  | pcieHotReset
  | hostLinkDown
  | halfTimeout (half : Nat)
  | halfReset (half : Nat)
  | halfRejoinTimeout (half : Nat)
  | bridgeHeartbeatMiss (half : Nat) (mainMissed sideMissed : Nat)
  | islandLockLoss (i : Island)
  | guestLinkTrainingDone (site : Nat) (rate32 : Option Bool)
  | guestRead (site tag addr len : Nat)
  | guestWrite (site tag addr : Nat) (blocks : List GuestBlock)
  | guestReadResp (site tag : Nat) (blocks : List GuestBlock)
  | guestWriteAck (site tag : Nat)
  | guestError (site tag code : Nat)
  | guestRequestTimeout (site tag : Nat)
  -- attestation and the rest
  | getVersion
  | getCapabilities
  | negotiateAlgorithms
  | getDigests
  | getCertificate (slot offset len : Nat)
  | challenge (slot : Nat) (nonce : ChallengeAsk)
  | getMeasurements (index : Nat) (nonce : List Byte)
  | peerDictionaryResponse (src tag status : Nat)
  | flipAnswer (src : Nat)
  | hostLinkUp
  | tjAlert (tj : Int)
  | inletOutOfRange (inlet : Int)
  | stackTemperatureLimit (stack : Nat) (temp : Int)
  | dynamicAddressAssignment (addr : Nat)
  | mctpControlMessage (code : Nat) (data : List Byte)
  deriving DecidableEq, Repr

end Sys2Proof
end

