-- ==== Sys2Proof/Config.lean ====
section
/-! DEFINITION. What the manual leaves open and the machine nevertheless produces: free values. None has a body a proof
could see, so a claim about one holds whatever it is. Log entry 4 lists them. -/

namespace Sys2Proof.Config

/-- The vector unit's fixed activation sequences, whose bits R98 does not give (only an error of at most 2 units in the
last place): the FP32 bits that activation `act` (2 GELU, 3 SIGMOID, 4 SILU, 5 TANH) would give under the task's settings on
the FP32 bits of a number. Bits outside that bound are not taken (R98). -/
opaque activation : Nat → Nat → BitVec 32 → BitVec 32

/-- The flags those sequences raise on that operand (R98, R100 give the sequences no flags); NI is not among them. -/
opaque activationFlags : Nat → Nat → BitVec 32 → BitVec 8

/-- SOFTNORM of a row whose MAX is an infinity or a NaN (R106 states no result), by its operands, and the flags it raises. -/
opaque softnormOpen : List Nat → BitVec 32

/-- The flags of that result. -/
opaque softnormOpenFlags : List Nat → BitVec 8

/-- The n-th unspecified byte of a run: outputs of an aborted task (R174), a region whose MODE changed (R130). -/
opaque freeByte : Nat → Byte

/-- Leakage of a stand in mW by stand, rail in mV and Tj in 0.1 °C (R322: a table measured at test). -/
opaque leakage : Nat → Nat → Int → Nat

/-- The factory count of a stand's sentinel by stand, sentinel, rail in mV and Tj in 0.1 °C (R359: interpolated from a grid
measured at test). -/
opaque sentinelGrid : Nat → Nat → Nat → Int → Nat

/-- How many measurements a stand needs before its life is estimated (R362). -/
opaque fitMin : Nat

/-- The fit `a` of R362 in 10⁻¹⁰ %, from measurements (hours, slowdown): the manual gives no fitting method. -/
opaque ageFit : List (Nat × Nat) → Nat

/-- Flow in 0.01 L/min from power in W, inlet and outlet temperature in 0.1 °C and the glycol fraction (R352: the fluid
properties are not given). -/
opaque flowEstimate : Nat → Int → Int → Nat → Nat

/-- The generation the host link trains to, modulo 3 above 4, and whether it runs in FLIT mode below generation 6, modulo 2, by
the count of free values drawn: what the two ends agree on within Table 0-4. -/
opaque pcieGen : Nat → Nat
opaque pcieFlit : Nat → Nat

/-- CTExponent, DataTransferSize and MaxSPDMmsgSize of the SPDM CAPABILITIES response, which the manual does not give. -/
opaque spdmSizes : List (BitVec 8)

/-- SHA-384 of a byte string (R423, R424); the digest is 48 bytes. -/
opaque sha384 : List Byte → List Byte

/-- ECDSA P-384 signature by the factory-provisioned device key (R424). -/
opaque ecdsaSign : List Byte → List Byte

/-- The factory certificate chain of slot 0 (R424). -/
opaque certChain : List Byte

/-- The security block ROM of each half, which SPDM measurement 1 of Table 12-12 measures. -/
opaque securityRom : Nat → List Byte

/-- The SHA-384 digest of the n-th Glade image in flash when the module is delivered (R423). -/
opaque imageDigest : Nat → List Byte

/-- Sargicen's PCI-SIG vendor ID (R416 gives no number). -/
opaque vendorId : BitVec 16

/-- Beat rate in M beats/s at Tj 95 °C at a rail voltage in mV between two set points of Table 1-3, which bound it (R25). -/
opaque beatRate : Nat → Nat

/-- Stand beats of a COPY of so many bytes (R170, Table 5-5: the manual gives COPY no beats). -/
opaque copyBeats : Nat → Nat

/-- How many native instructions a task has finished on a stand when it is preempted, by the count of free values drawn (R97:
at a time-slice boundary, wherever the task stands). -/
opaque progress : Nat → Nat

/-- Identifiers of the creator and of the notification type of a CPER record, which UEFI's record has and R295 does not give. -/
opaque cperCreator : BitVec 128
opaque cperNotify : BitVec 128

/-- Hash of a task class fingerprint (R332): the manual names its inputs, not the hash. -/
opaque classHash : List Nat → Nat

/-- The lowest plot of a replica set (job, set): the manual does not say how a member that does not host it knows it (R287). -/
opaque lowestPlot : Nat → Nat → Nat

/-- Has the comparison of a replica set settled at its comparator: by job, set, step and time (R287). No message tells a member
whose digest agrees. -/
opaque replicaSettled : List Nat → Bool

/-- Mode-change bytes and other module choices that no rule fixes and no command carries. -/
opaque freeNat : Nat → Nat

end Sys2Proof.Config
end

