-- ==== Sys2Proof/Machine/Bits.lean ====
section
/-! DEFINITION. Sparse maps, byte strings, record fields, and the published codes the manual uses: CRC-32C (R123),
CRC-16 and parity (R124), CRC-32 (R227), CRC-64/XZ (R268), raw CRC-64 (R306) and Philox-4×32-10 (R57). -/

namespace Sys2Proof.Machine

/-! ## Sparse maps -/

/-- The value at key `k`, if one is listed. -/
def kget? {α : Type} : KMap α → Nat → Option α
  | [], _ => none
  | (a, v) :: t, k => if a = k then some v else kget? t k

/-- The value at key `k`, `d` where none is listed. -/
def kget {α : Type} (m : KMap α) (d : α) (k : Nat) : α := (kget? m k).getD d

/-- `m` with `v` at key `k`, keeping rising keys. -/
def kset {α : Type} : KMap α → Nat → α → KMap α
  | [], k, v => [(k, v)]
  | (a, w) :: t, k, v =>
    if k < a then (k, v) :: (a, w) :: t else if a = k then (k, v) :: t else (a, w) :: kset t k v

/-- `m` with nothing at key `k`. -/
def kdel {α : Type} (m : KMap α) (k : Nat) : KMap α := m.filter (fun p => p.1 != k)

/-- `m` with `f` applied to the value at `k` (to `d` where none is listed). -/
def kmod {α : Type} (m : KMap α) (d : α) (k : Nat) (f : α → α) : KMap α := kset m k (f (kget m d k))

/-- Rising lists of numbers as finite sets: insertion. -/
def nins : List Nat → Nat → List Nat
  | [], k => [k]
  | a :: t, k => if k < a then k :: a :: t else if a = k then a :: t else a :: nins t k

/-! ## Byte strings and fields -/

/-- `n` as `k` bytes, least significant first (R7). -/
def bytesOf (n : Nat) : Nat → List Byte
  | 0 => []
  | k + 1 => BitVec.ofNat 8 n :: bytesOf (n / 256) k

/-- The number a byte string spells, least significant byte first (R7). -/
def ofBytes : List Byte → Nat
  | [] => 0
  | b :: t => b.toNat + 256 * ofBytes t

/-- Field of `width` bits at bit `lo` (R6). -/
def fld (x lo width : Nat) : Nat := x / 2 ^ lo % 2 ^ width

/-- A record from its fields (bit, width, value); fields do not overlap. -/
def pack : List (Nat × Nat × Nat) → Nat
  | [] => 0
  | (lo, w, v) :: t => v % 2 ^ w * 2 ^ lo + pack t

/-- `b` as 0 or 1. -/
def bit (b : Bool) : Nat := if b then 1 else 0

/-- Quotient rounded up. -/
def ceilDiv (a b : Nat) : Nat := (a + b - 1) / b

/-- Two's complement reading of a 32-bit word. -/
def toInt32 (n : Nat) : Int := if n % 2 ^ 32 < 2 ^ 31 then (n % 2 ^ 32 : Nat) else (n % 2 ^ 32 : Nat) - 2 ^ 32

/-- An integer as a 32-bit word, modulo 2^32. -/
def ofInt32 (i : Int) : Nat := (i % 2 ^ 32).toNat

/-- Cut a list into pieces of `k`, at most `n` of them. -/
def chunks {α : Type} (k : Nat) : Nat → List α → List (List α)
  | 0, _ => []
  | n + 1, l => if l.isEmpty then [] else l.take k :: chunks k n (l.drop k)

/-- Does [a, a+n) meet [b, b+m)? -/
def overlaps (a n b m : Nat) : Bool := decide (a < b + m) && decide (b < a + n)

/-- The first `n` naturals. -/
abbrev upto (n : Nat) : List Nat := List.range n

/-! ## Checks -/

/-- One byte of a reflected CRC with polynomial `poly` (reflected). -/
def crcByte (poly : Nat) (c : Nat) (b : Byte) : Nat :=
  (upto 8).foldl (fun c _ => if c % 2 = 1 then (c / 2) ^^^ poly else c / 2) (c ^^^ b.toNat)

/-- CRC-32C of a byte string (R123). -/
def crc32c (l : List Byte) : BitVec 32 :=
  BitVec.ofNat 32 ((l.foldl (crcByte 0x82F63B78) 0xFFFFFFFF) ^^^ 0xFFFFFFFF)

/-- The frame check sequence of IEEE 802.3 (R227). -/
def crc32 (l : List Byte) : BitVec 32 :=
  BitVec.ofNat 32 ((l.foldl (crcByte 0xEDB88320) 0xFFFFFFFF) ^^^ 0xFFFFFFFF)

/-- CRC-64/XZ of a byte string (R268). -/
def crc64 (l : List Byte) : Word64 :=
  BitVec.ofNat 64 ((l.foldl (crcByte 0xC96C5795D7870F42) 0xFFFFFFFFFFFFFFFF) ^^^ 0xFFFFFFFFFFFFFFFF)

/-- Raw CRC-64: the same polynomial, initial value 0, no final XOR (R306). -/
def rawCrc64 (l : List Byte) : Word64 := BitVec.ofNat 64 (l.foldl (crcByte 0xC96C5795D7870F42) 0)

/-- One byte of CRC-16 with polynomial 0x1021, most significant bit first. -/
def crc16Byte (c : Nat) (b : Byte) : Nat :=
  (upto 8).foldl (fun c _ => if 0x8000 ≤ c then ((2 * c) % 0x10000) ^^^ 0x1021 else 2 * c) (c ^^^ (256 * b.toNat))

/-- CRC-16 with polynomial 0x1021 and initial value 0xFFFF (R124); neither reflected nor inverted at the end, since R124 names
neither (DEDUCED, log entry 62). -/
def crc16 (l : List Byte) : BitVec 16 := BitVec.ofNat 16 (l.foldl crc16Byte 0xFFFF)

/-- The odd parity bit of a 32-bit word (R124). -/
def oddParity (w : Nat) : Bool := ((upto 32).filter (fun i => w.testBit i)).length % 2 == 0

/-- The address word of a guest block check: CRC-32C over the block and its 8-byte device address (R421). -/
def guestCheck (data : List Byte) (addr : Nat) : BitVec 32 := crc32c (data ++ bytesOf addr 8)

/-! ## Philox-4×32-10 -/

/-- One Philox round on (c0, c1, c2, c3) with keys (k0, k1). -/
def philoxRound (c : Nat × Nat × Nat × Nat) (k0 k1 : Nat) : Nat × Nat × Nat × Nat :=
  let p0 := 0xD2511F53 * c.1
  let p1 := 0xCD9E8D57 * c.2.2.1
  ((p1 / 2 ^ 32) ^^^ c.2.1 ^^^ k0, p1 % 2 ^ 32, (p0 / 2 ^ 32) ^^^ c.2.2.2 ^^^ k1, p0 % 2 ^ 32)

/-- Output word 0 of Philox-4×32-10 on a 64-bit key and a 128-bit counter (R57). -/
def philox (key counter : Nat) : Nat :=
  let c0 := (fld counter 0 32, fld counter 32 32, fld counter 64 32, fld counter 96 32)
  ((upto 10).foldl (fun c i =>
    philoxRound c ((fld key 0 32 + i * 0x9E3779B9) % 2 ^ 32) ((fld key 32 32 + i * 0xBB67AE85) % 2 ^ 32)) c0).1

/-! ## Integer square root -/

/-- Square root rounded down, bit by bit from bit `b`. -/
def isqrtFrom (n : Nat) : Nat → Nat → Nat
  | 0, r => if (r + 1) * (r + 1) ≤ n then r + 1 else r
  | b + 1, r =>
    let r' := r + 2 ^ (b + 1)
    isqrtFrom n b (if r' * r' ≤ n then r' else r)

/-- Square root rounded down. -/
def isqrt (n : Nat) : Nat := isqrtFrom n (Nat.log2 n / 2 + 1) 0

end Sys2Proof.Machine
end

