-- ==== Sys2Proof/Machine/State.lean ====
section
/-! DEFINITION. The state of the module as plain data: memories, channels and tasks, jobs and the clearing, stands, the
fabric, firebreaks, the seedbank, power, the dictionary, the boundary, the clock, what has been sent out, and the queue
of waiting commands. Each field names the rule that gives it; INVENTORY.md lists every one with its reset value. -/

namespace Sys2Proof.Machine

/-- No command of the module ends in a fault: a step the manual describes always yields a next state. -/
inductive Fault
  deriving DecidableEq, Repr

/-- Why a command has no meaning. Raised by no meaning of this model; safe. -/
inductive Refusal where
  /-- The row `mnemonic` of the opcode table has no meaning yet; raised only by a refused arm of `exec`. Safe. -/
  | notModelled (mnemonic : String)
  deriving DecidableEq, Repr

/-! ## What leaves the module -/

/-- One thing the module has sent to the outside, oldest first in `State.out`. -/
inductive Out where
  /-- MSI-X message on a vector (R169, R367). -/
  | msix (vector : Nat)
  /-- Write to host memory (R159, R170, R416). -/
  | hostWrite (addr : Nat) (data : List Byte)
  /-- Read completion of a BAR2 read; `poisoned` as R139. -/
  | readData (data : List Byte) (poisoned : Bool)
  /-- Dictionary response on the I3C path, the bytes of its MCTP message (R369), or on the T1S path, the octets of its frame
  (R370). -/
  | response (role : Role) (data : List Byte)
  /-- Crexus packet on a grove port (R235). -/
  | packet (port : Nat) (p : Packet)
  /-- Flit-level control on a grove port: NAK with the last good FSEQ (R220). -/
  | nak (port lastGood : Nat)
  /-- Replay of the flits from this FSEQ on (R220). -/
  | replay (port fseq : Nat)
  /-- Audit flit: credits held and buffer free per VC (R234). -/
  | audit (port : Nat) (held free : List Nat)
  /-- Forest frame on uplink 0 or 1 (R228, Table 7-4). -/
  | frame (uplink dest : Nat) (f : Frame)
  /-- Flit on a grove port that carries packet data or credits (R219, R232). -/
  | flit (port : Nat) (f : Flit)
  /-- Guest message: its header (Table 12-10) and data blocks. -/
  | guest (site : Nat) (header : List Byte) (blocks : List GuestBlock)
  /-- In-band interrupt on the I3C path, with its mandatory byte: an answer waits to be read (R11). -/
  | ibi (mdb : Nat)
  /-- SPDM response on the I3C path (R424): its code and the message. -/
  | spdm (code : Nat) (data : List Byte)
  /-- MCTP control response (Table 0-4). -/
  | mctp (code : Nat) (data : List Byte)
  deriving DecidableEq, Repr

/-! ## Memory (chapter 4) -/

/-- One entry of the bad-block list (R435, Table 4-9). -/
structure BadBlock where
  addr : Nat
  memory : Nat
  first : Nat
  last : Nat
  /-- where the block lies, whatever the interleave: `State.physBlock` (R137) -/
  key : Nat
  deriving DecidableEq, Repr

/-- An access that waits for a block under repair (R120, R138). -/
inductive BlockAccess where
  /-- a host read through BAR2 (R139), by its number in `MemSt.reads` -/
  | hostRead (id : Nat)
  /-- the read of an admitted task -/
  | task (uid : Nat) (id : BitVec 32)
  /-- a descriptor fetch of a channel (R157) -/
  | fetch (uid : Nat)
  /-- the part of a host write that falls on the block -/
  | hostWrite (addr : Nat) (data : List Byte)
  /-- the part of a write of the module's own -/
  | ownWrite (addr : Nat) (data : List Byte)
  /-- one more arrival at the 8-byte counter at an address, for a transfer that is then complete: source and ID (R241, R246) -/
  | arrival (addr src xfer : Nat)
  /-- the part of a peer's packet (R243) -/
  | peer (p : Packet) (addr : Nat) (data : List Byte)
  deriving DecidableEq, Repr

/-- A block or line pending repair (R132, R135, R136, R138). -/
structure Repair where
  /-- address of the 64-byte block -/
  block : Nat
  /-- recovery class: 2 Twin, 3 Seedbank -/
  cls : Nat
  /-- (channel uid, task) of the readers that wait -/
  waiters : List (Nat × BitVec 32) := []
  /-- channels whose descriptor fetch waits (R157) -/
  fetchers : List Nat := []
  /-- accesses of the host, of peers and of the module that wait, in the order they came (R120, R138) -/
  accesses : List BlockAccess := []
  /-- time of the detection -/
  t0 : Nat
  /-- twin asked: 0 or 1 -/
  asked : Nat := 0
  /-- seedbank generation of the region at detection (R135) -/
  gen : Nat := 0
  /-- the region's job, its second twin (0 none), and the block's address at both twins, at detection (R129) -/
  job : Nat := 0
  second : Nat := 0
  copyAt : Nat := 0
  /-- transfer IDs asked, the first for EP0, or one per stripe member (R136) -/
  xfers : List Nat := []
  /-- answers still awaited (R136) -/
  missing : Nat := 1
  /-- data gathered so far: the twin's copy, or the XOR of the stripe -/
  data : Option (List Byte) := none
  /-- a fetch has failed for good -/
  failed : Bool := false
  deriving DecidableEq, Repr

/-- A host read through BAR2 that waits for blocks under repair (R120, R138, R139): its bytes as far as they have come, each
block's as it stood when the read reached it, and the blocks still awaited. -/
structure HostRead where
  id : Nat
  addr : Nat
  data : List Byte
  waits : List Nat
  deriving DecidableEq, Repr

/-- Bytes at a device address: to be written, or as a reader found them. -/
structure MemWrite where
  addr : Nat
  data : List Byte
  deriving DecidableEq, Repr

/-- A multicast group (R144, R145): its job, its exact stand set, the tasks that use it. -/
structure McGroup where
  id : Nat
  job : Nat
  set : List Nat
  users : List (Nat × BitVec 32)
  deriving DecidableEq, Repr

/-- Memories and their protection. -/
structure MemSt where
  /-- bytes of stack, understory and scratch memory by device address (R111) -/
  cells : List Host.Cell := []
  /-- numbers (address / 64) of the blocks and lines whose check passes (R123 to R125) -/
  okBlocks : List Nat := []
  /-- numbers (address / 4) of words with valid parity in SRAM lines whose line check fails (R125) -/
  okWords : List Nat := []
  /-- numbers (address / 4) of words with failing parity in SRAM lines whose line check passes (R124) -/
  badWords : List Nat := []
  /-- effective region table (R127) -/
  regions : List (BitVec 256) := []
  /-- bad-block list (R435), in order of first detection -/
  badBlocks : List BadBlock := []
  /-- entries the full bad-block list has lost (R142) -/
  badLost : Nat := 0
  /-- blocks pending repair (R138) -/
  repairs : List Repair := []
  /-- host reads that wait for repairs (R138) -/
  reads : List HostRead := []
  /-- blocks, by `State.physBlock`, at which an error was detected since their last repair or full rewrite (R137) -/
  errored : List Nat := []
  /-- time of the last successful repair or full rewrite after an error, by `State.physBlock` (R137) -/
  healed : KMap Nat := []
  /-- stack blocks, by `State.physBlock`, waiting for a row repair at the next start-up (R137) -/
  rowRepairs : List Nat := []
  /-- next block number patrol scrub reads, by memory (R141, R143) -/
  scrubAt : KMap Nat := []
  /-- multicast groups in use (R144) -/
  groups : List McGroup := []
  deriving DecidableEq, Repr

/-! ## Channels and tasks (chapter 5) -/

/-- A channel (R150, Table 5-1). -/
structure Chan where
  /-- serial number of this incarnation of the handle (R162: a dependency binds to the open channel) -/
  uid : Nat
  job : Nat
  ringBase : Nat
  ringHost : Bool
  ringEntries : Nat
  cplBase : Nat
  cplHost : Bool
  cplEntries : Nat
  msix : Nat
  /-- accepted TAIL (R155) -/
  tail : BitVec 32 := 0
  /-- accepted CPL_HEAD (R155) -/
  cplHead : BitVec 32 := 0
  /-- count of descriptors fetched (R156) -/
  fetched : BitVec 32 := 0
  /-- count of completion records written (R156) -/
  written : BitVec 32 := 0
  /-- next expected TASK_ID (R161) -/
  expected : BitVec 32 := 0
  /-- the channel is halted (R176) -/
  halted : Bool := false
  /-- the tasks it is halted on; none for a job fault alone (R202) -/
  haltedOn : List (BitVec 32) := []
  /-- destruction has begun (R154) -/
  destroying : Bool := false
  /-- blocks of its next descriptor that a repair has brought to the waiting fetch (R120, R138) -/
  early : List MemWrite := []
  /-- its context is resident (R180) -/
  resident : Bool := true
  /-- marked for eviction at a quantum boundary (R180) -/
  marked : Bool := false
  /-- it waits to be swapped in since (R180) -/
  waitingSince : Option Nat := none
  /-- time it got its context, and time it last became idle (R180) -/
  residentSince : Nat := 0
  idleSince : Nat := 0
  /-- IDs that ended with MULTICAST_EXHAUSTED, with the fetch count at that time; at most 64 (R162) -/
  exhausted : List (BitVec 32 × Nat) := []
  /-- descriptors fetched in all, not wrapped (for the 65,536-descriptor rule of R162) -/
  fetchTotal : Nat := 0
  /-- steps for which it holds a provisional record (R172) -/
  provisional : List Nat := []
  /-- completion records held back, with their IRQ: ring unmapped (R409) or host link down (R416) -/
  held : List (BitVec 512 × Bool) := []
  /-- tasks of it that completed with OK, newest first, with their descriptors and the time: possible producers (R133) -/
  history : List (BitVec 32 × BitVec 1024 × Nat) := []
  deriving DecidableEq, Repr

/-- How a bound dependency stands (R162). -/
inductive DepState where
  | waiting | met | failed
  deriving DecidableEq, Repr

/-- A dependency bound to the channel open under its handle at admission (R162). -/
structure Dep where
  uid : Nat
  id : BitVec 32
  state : DepState
  deriving DecidableEq, Repr

/-- The life of an admitted task (Table 5-4). -/
inductive Phase where
  /-- admitted, not started -/
  | waiting
  /-- started; `result` says how it will end, none while an answer is awaited -/
  | running
  /-- its reads wait for a repair (R132) or for a guest (R421) -/
  | held
  /-- saved in a save slot of its stand (R97) -/
  | preempted
  /-- aborted, or its dependency failed: its retry or its record is due (R174, R175) -/
  | ended
  deriving DecidableEq, Repr

/-- The arithmetic report (R62, Table 2-12). -/
structure Report where
  firstRow : Nat := 0xFFFFFF
  firstCol : Nat := 0xFFFFFF
  firstK : Nat := 0xFFFFFFFF
  invCount : Nat := 0
  flags : BitVec 8 := 0
  deriving DecidableEq, Repr

/-- The block a failure signature describes (Table 8-8): mode, shape, folded, input digest. -/
structure SigInfo where
  mode : Nat := 0
  m : Nat := 0
  n : Nat := 0
  k : Nat := 0
  folded : Bool := false
  hash : Nat := 0
  /-- output digests of the suspect and of the majority, 0 while there is none -/
  suspect : Nat := 0
  majority : Nat := 0
  deriving DecidableEq, Repr

/-- What a block makes every stand that runs it count: its invalid events, and, by the stand's own width and tile, what its
descriptor, rows and columns cost there (R64, R77, R92). -/
structure BlkWork where
  events : Nat := 0
  desc : BitVec 1024 := 0
  r0 : Nat := 0
  rows : Nat := 0
  c0 : Nat := 0
  cols : Nat := 0
  deriving DecidableEq, Repr

/-- One output unit of an optimiser task (R271), held until its two runs agree. -/
structure OptUnit where
  index : Nat
  writes : List MemWrite
  digests : Digests
  /-- output digest of the second run once they disagree (R272) -/
  second : Option Word64 := none
  /-- stands of its two runs, and what they run -/
  orig : Nat := 0xFF
  checker : Nat := 0xFF
  sig : SigInfo := {}
  /-- the stand of the third run, once it is due (R272) -/
  third : Nat := 0xFF
  work : BlkWork := {}
  /-- time they disagreed -/
  at_ : Nat := 0
  /-- written -/
  done : Bool := false
  /-- the disagreement stays without a majority (R272) -/
  dead : Bool := false
  deriving DecidableEq, Repr

/-- An admitted task with the module's own copy of its descriptor (R157). -/
structure Task where
  uid : Nat
  handle : Nat
  id : BitVec 32
  job : Nat
  desc : BitVec 1024
  /-- attempt of its step at admission (R173) -/
  attempt : Nat := 0
  /-- what it has read before its start: by EARLY_B (R167), or as a repair brought it (R120, R138) -/
  early : List MemWrite := []
  deps : List Dep := []
  phase : Phase := .waiting
  /-- it has started at some time (R164, R175) -/
  started : Bool := false
  /-- the status it will complete with -/
  result : Option (BitVec 8) := none
  /-- stands it runs or ran on, in set order; empty for a task that needs none -/
  stands : List Nat := []
  retried : Bool := false
  /-- the producer was re-run for this reader (R133) -/
  recomputed : Bool := false
  report : Report := {}
  faultAddr : Nat := 0
  faultDetail : Nat := 0
  busy : Nat := 0
  /-- time from which the watchdog runs (R178) -/
  startAt : Nat := 0
  /-- what a MATMUL has read, as it found it (R97) -/
  read : List MemWrite := []
  /-- how many of its instructions each of its stands has finished at its last preemption (R97) -/
  finished : KMap Nat := []
  /-- what its preemption wrote to the context save area: (address, length) (R97, R183) -/
  savedAt : List (Nat × Nat) := []
  /-- time since which its watchdog is paused (R178) -/
  pausedAt : Option Nat := none
  /-- number of its multicast group (R145) -/
  group : Option Nat := none
  /-- output units of an optimiser task (R271) -/
  units : List OptUnit := []
  /-- guest requests it waits for (R421): (site, tag) -/
  guestWaits : List (Nat × Nat) := []
  /-- its region-checked inputs from the guest windows have arrived (R421) -/
  guestReady : Bool := false
  /-- it has been counted as waiting for an outgoing transfer entry (R244) -/
  xferCounted : Bool := false
  deriving DecidableEq, Repr

/-- All channels and tasks. -/
structure ChanSt where
  /-- open channels by handle -/
  chans : KMap Chan := []
  /-- admitted tasks, in order of admission -/
  tasks : List Task := []
  /-- serial number of the next channel created -/
  nextUid : Nat := 1
  /-- lowest handle never used (R153) -/
  nextFresh : Nat := 1
  /-- freed handles, freed longest first (R153) -/
  freed : List Nat := []
  deriving DecidableEq, Repr

/-! ## Jobs and the clearing (chapter 6) -/

/-- A clearing vote (R190, Table 6-1). -/
structure Vote where
  step : Nat
  job : Nat
  attempt : Nat
  plots : Nat
  overflow : Bool := false
  taint : Bool := false
  checksClosed : Bool := false
  lossMismatch : Bool := false
  pace : Nat := 0
  loss : BitVec 32 := 0
  taintSource : Nat := 0
  deriving DecidableEq, Repr

/-- A clearing decision (R199, Table 6-3); `decision` is 0 PASS, 1 SKIP, 2 TAINT. -/
structure Decision where
  step : Nat
  job : Nat
  attempt : Nat
  decision : Nat
  pace : Nat := 0
  lossScaleExp : Nat := 0
  taintSource : Nat := 0
  loss : BitVec 32 := 0
  cleanSteps : Nat := 0
  deriving DecidableEq, Repr

/-- The round state of a plot tree node hosted here (R195, R203): its inputs by child, each with its first plot. -/
structure NodeSt where
  level : Nat
  index : Nat
  /-- (level, first plot) of the child, and its vote -/
  inputs : List ((Nat × Nat) × Vote) := []
  /-- sent on, or decided -/
  done : Bool := false
  deriving DecidableEq, Repr

/-- A seedbank generation in progress (R310, Table 9-5). -/
structure Gen where
  gen : Nat
  step : Nat
  t0 : Nat
  /-- endpoints of the job's modules of this grove in ascending order (R303) -/
  grove : List Nat := []
  /-- parity bands zeroed so far: (set, band) (R311) -/
  zeroed : List (Nat × Nat) := []
  /-- bytes folded, by (source, set) (R306) -/
  folded : List (Nat × Nat × Nat) := []
  /-- FOLD_CHECK values: (source, set, value, tag of the request) (R306) -/
  checks : List (Nat × Nat × Word64 × Nat) := []
  /-- the copy has been taken (event 3), and when -/
  copied : Bool := false
  copiedAt : Nat := 0
  /-- TWIN_SLOT messages that wait for the live copies to be complete: (endpoint, value) (Table 9-5) -/
  slots : List (Nat × Nat) := []
  /-- FOLD_CHECK and TWIN_SLOT answers still awaited: (endpoint, tag) -/
  awaiting : List (Nat × Nat) := []
  /-- LOSS and DECISION of the first PASS or SKIP of S_g + 1 (Table 9-4) -/
  verify : Option (BitVec 32 × Nat) := none
  /-- commit words written -/
  committed : Bool := false
  /-- GEN_DONE sums at the nodes hosted here: (level, index, plots, failures, cost) (R312) -/
  sums : List (Nat × Nat × Nat × Nat × Nat) := []
  /-- the cost of this generation in ms -/
  cost : Nat := 0
  /-- abandoned here; kept until GEN_COMPLETE ends its round (R313) -/
  abandoned : Bool := false
  deriving DecidableEq, Repr

/-- A piece of state to be rebuilt by a restore (R316): where it goes, its length, the sources still to be combined, what
they have given so far, the sources to try when one fails, and the transfer that is out. -/
structure Fetch where
  target : Nat
  len : Nat
  sources : List (Nat × Nat)
  acc : List Byte
  alt : List (Nat × Nat) := []
  xfer : Option Nat := none
  /-- it brings the generation's header, and goes nowhere -/
  header : Bool := false
  deriving DecidableEq, Repr

/-- A restore in progress (R316). -/
structure Restore where
  gen : Nat
  /-- FROM, 0 for none -/
  from_ : Nat := 0
  /-- the generation's header, once one has been read -/
  head : Option Nat := none
  /-- 0 the header is awaited, 1 this module's own copy (item 2), 2 FROM's (item 3) -/
  stage : Nat := 0
  todo : List Fetch := []
  deriving DecidableEq, Repr

/-- A stepped task of a later step that has ended with a status of class run: its taint is confirmed when its step begins (R192). -/
structure FailedRun where
  step : Nat
  attempt : Nat
  stand : Nat
  handle : Nat
  task : Nat
  status : Nat
  deriving DecidableEq, Repr

/-- What a job slot holds beside its dictionary objects (R149, R205). -/
structure JobSt where
  /-- the job has faulted and its profile has not been committed since (R202) -/
  faulted : Bool := false
  /-- decided steps, newest first: (step, attempt decided, 0 PASS or 1 SKIP) (R163, R173, R201) -/
  decided : List (Nat × Nat × Nat) := []
  /-- time of those decisions, newest first, at most 101: the ends of 100 steps (R314) -/
  decidedAt : List Nat := []
  /-- decisions that came before this module's STEP_END started (R201): (step, attempt, decision) -/
  kept : List (Nat × Nat × Nat) := []
  /-- the STEP_END task in progress: channel uid, task, start time, loss (R192, R202) -/
  stepEnd : Option (Nat × BitVec 32 × Nat × BitVec 32) := none
  /-- this module's vote of the attempt has been sent (R192) -/
  voted : Bool := false
  /-- this module has confirmed taint in the attempt (R281) -/
  tainted : Bool := false
  /-- this module's early taint vote waits at the root it hosts (R192, R197) -/
  earlyVote : Bool := false
  /-- a taint notice holds its unstarted stepped tasks (R283) -/
  heldByNotice : Bool := false
  /-- steps and attempts of which a stepped task has completed with OF, IV or NI (R191) -/
  overflow : List (Nat × Nat) := []
  /-- failures that wait for their step to begin (R192) -/
  failedRuns : List FailedRun := []
  /-- largest own pace during the attempt (R337) -/
  maxPace : Nat := 0
  /-- round state of hosted nodes (R203) -/
  nodes : List NodeSt := []
  /-- this module is expelled for the job (R288) -/
  expelled : Bool := false
  /-- the other modules known to be expelled for the job (R288) -/
  expelledEps : List Nat := []
  /-- passed steps not yet committed, oldest first (R189) -/
  toCommit : List Nat := []
  /-- steps of which an OPTIMISER task ended otherwise than with OK: they are not committed (R189) -/
  spoilt : List Nat := []
  /-- PACE values of packets of the job in the last 1 ms: (time, pace) (R262) -/
  paceSeen : List (Nat × Nat) := []
  /-- replica digests gathered here: (set, step, source, digest) (R287) -/
  digests : List (Nat × Nat × Nat × BitVec 128) := []
  /-- replica sets whose comparison is open here: (set, step) (R287) -/
  comparing : List (Nat × Nat) := []
  /-- replica sets whose digest this module has sent to their comparator: (set, step) (R287) -/
  digestsSent : List (Nat × Nat) := []
  /-- generation in progress (R310) -/
  gen : Option Gen := none
  /-- FOLD_CHECK values that came before the generation started here: (generation, source, set, value, tag) (R306) -/
  earlyChecks : List (Nat × Nat × Nat × Word64 × Nat) := []
  /-- restore in progress (R316) -/
  restore : Option Restore := none
  /-- generation number of the live copies (R135) and of the last restore (R317) -/
  restored : Option Nat := none
  /-- the plot table in use until the decision, when a change came during an undecided step (R204) -/
  plotsHeld : Option (List Nat) := none
  /-- number of stores made when the copy of a generation was taken, by generation (R307) -/
  copySeq : KMap Nat := []
  /-- number of stores made when the last live copies were read, and of those complete at both twins (R300, R302) -/
  liveSent : Option Nat := none
  liveDone : Option Nat := none
  deriving DecidableEq, Repr

/-! ## Stands (chapters 3, 8, 10) -/

/-- A suspect's block to be repeated (R275): task, block, original's input digest, majority's output digest, and what its
record and signature say of it (R290, R295). -/
structure Suspect where
  uid : Nat
  id : BitVec 32
  block : Nat
  inp : Word64
  majority : Word64
  handle : Nat := 0
  job : Nat := 0
  step : Nat := 0
  attempt : Nat := 0
  sig : SigInfo := {}
  work : BlkWork := {}
  deriving DecidableEq, Repr

/-- Why a stand runs the self-test suite (Table 8-2, last row). -/
inductive TestReason where
  | suspect | unresolved | unitWithoutMajority | request
  deriving DecidableEq, Repr

/-- A weight tile (R76, R78): where it lies, its format and shape, and the weights loaded. -/
structure Tile where
  addr : Nat
  pitch : Nat
  fmt : Nat
  k : Nat
  n : Nat
  data : List Byte
  deriving DecidableEq, Repr

/-- A stand's state beside its dictionary objects. -/
structure StandSt where
  /-- the self-test suite runs or is due (R276) -/
  selfTest : Option TestReason := none
  /-- the suspect's block that calls for it (R275, R276) -/
  tested : Option Suspect := none
  /-- findings decided and not yet applied (R93, R278): new ARRAY_FENCE bits, new BYPASSED_COLUMNS bits, STAND_STATE -/
  pendFence : Nat := 0
  pendBypass : Nat := 0
  pendState : Nat := 0
  /-- repeats due, oldest first (R275) -/
  suspects : List Suspect := []
  /-- times of its resets (R277) and of its transient faults (R275) -/
  resets : List Nat := []
  transients : List Nat := []
  /-- tasks in its save slots 0 to 7 (R183, R184): (uid, id) by slot -/
  saved : KMap (Nat × BitVec 32) := []
  /-- the weight tile active in its arrays (R76 to R78) -/
  tile : Option Tile := none
  /-- job slot it serves and since when (R181) -/
  servesSlot : Option Nat := none
  servesSince : Nat := 0
  /-- since when its pipelines have had their present work: a check, a third run, a repeat or a test (R28) -/
  worksSince : Nat := 0
  /-- withheld share, units of 1/256 (R330), and its sum over the current millisecond with the count of intervals -/
  w : Nat := 0
  wSum : Nat := 0
  wCount : Nat := 0
  /-- rail in mV (R331) -/
  rail : Nat := 720
  /-- the ageing offset in effect, mV (R361) -/
  offset : Nat := 0
  /-- modelled power and budget of the last interval, mW (R330, R333) -/
  power : Nat := 0
  budget : Nat := 0
  /-- task-class table: (fingerprint, mean power mW, last use) , at most 64 (R332) -/
  classes : List (Nat × Nat × Nat) := []
  /-- what its tasks have drawn: (uid, id, sum of the modelled power in mW, intervals) (R332) -/
  drawn : List (Nat × BitVec 32 × Nat × Nat) := []
  /-- slowdown measurements, newest first, at most 16, in 0.01 % (R359) -/
  samples : List Nat := []
  /-- all measurements for the fit of R362: (operating hours, slowdown) -/
  fitData : List (Nat × Nat) := []
  /-- time of the last measurement (R360) and a gap due at the next instruction boundary -/
  measuredAt : Nat := 0
  gapDue : Bool := false
  deriving DecidableEq, Repr

/-! ## The fabric (chapter 7) -/

/-- A port's state beside PORT_STATE, PORT_PEER, PORT_ENABLE and FLAPS. -/
structure Port where
  /-- backoff in ms before the next retrain, 0 for the minimum, and the present wait (R224) -/
  backoff : Nat := 0
  wait : Nat := 0
  /-- time it entered its present state -/
  since : Nat := 0
  /-- times of its flaps in the window (R225) -/
  flapTimes : List Nat := []
  /-- credits held as sender, per VC, in 64-byte units (R231) -/
  credits : List Nat := [128, 128, 256, 1024, 1024, 128]
  /-- buffer free as receiver, per VC (R231) -/
  free : List Nat := [128, 128, 256, 1024, 1024, 128]
  /-- sequence number of the next flit (R219) -/
  txNext : Nat := 0
  /-- bytes of packets that wait to fill a flit (R219) -/
  txRest : List Byte := []
  /-- credits to return in the next flits: (VC, units) (R232) -/
  owed : List (Nat × Nat) := []
  /-- the retry buffer: flits sent and not accepted, oldest first (R220) -/
  sent : List Flit := []
  /-- packets sent and not acknowledged: (number of the flit with their last byte, packet) (R220, R226) -/
  retry : List (Nat × Packet) := []
  /-- how often each flit not yet acknowledged has been replayed (R220) -/
  replays : KMap Nat := []
  /-- sequence number of the next flit expected (R220) -/
  rxNext : Nat := 0
  /-- bytes received of a packet that has only begun (R219) -/
  rxData : List Byte := []
  /-- packets sent and not yet credited back, oldest first: (VC, units, epoch) (R231, R256) -/
  uncredited : List (Nat × Nat × Nat) := []
  /-- time credits of each VC last returned, and since when a packet waits for them (R232) -/
  creditAt : List Nat := [0, 0, 0, 0, 0, 0]
  waitAt : List (Option Nat) := [none, none, none, none, none, none]
  /-- bytes of frames queued on an uplink, at a time (R250) -/
  outBytes : Nat := 0
  outAt : Nat := 0
  /-- time a packet was last sent or received, and time of the last audit (R234) -/
  lastPacket : Nat := 0
  lastAudit : Option Nat := none
  /-- held in DISABLED by a reset of its half (R405, R408) -/
  heldByReset : Bool := false
  deriving DecidableEq, Repr

/-- What an outgoing transfer is for (R244). -/
inductive XferUse where
  | task (uid : Nat) (id : BitVec 32)
  | repair (block : Nat)
  | twinCopy (slot : Nat)
  | fold (slot : Nat)
  | restore (slot target : Nat)
  deriving DecidableEq, Repr

/-- An outgoing transfer (R239, R242, R244). -/
structure OutXfer where
  xfer : Nat
  dest : Nat
  job : Nat
  use : XferUse
  /-- endpoints whose answer is awaited (R242) -/
  awaiting : List Nat
  /-- some answer was not DONE -/
  failed : Bool := false
  /-- the packets, kept for resending after REFUSE (R244) -/
  packets : List Packet := []
  deriving DecidableEq, Repr

/-- An incoming transfer (R241): packets counted, TOTAL, arrival index, complete and waiting for TRANSFER_COMPLETE. -/
structure InXfer where
  src : Nat
  xfer : Nat
  job : Nat
  total : Nat
  count : Nat
  arrival : Nat
  epoch : Nat
  /-- address of its first byte (R243) -/
  base : Nat := 0
  /-- it is complete, and its arrival counter waits for a repair (R241) -/
  closing : Bool := false
  deriving DecidableEq, Repr

/-- A transfer of the module's own that waits for a free outgoing entry (R244): its packets have no transfer ID yet. -/
structure Launch where
  dest : Nat
  job : Nat
  use : XferUse
  packets : List Packet
  deriving DecidableEq, Repr

/-- A packet to be sent again after REFUSE (R244). -/
structure Resend where
  dest : Nat
  packet : Packet
  /-- present wait, µs, and when it ends; none once sent again -/
  wait : Nat
  due : Option Nat
  deriving DecidableEq, Repr

/-- A forest path to one remote endpoint (R247 to R249). -/
structure Path where
  nextPseq : BitVec 32 := 0
  expected : BitVec 32 := 0
  /-- frames accepted beyond `expected` (R248) -/
  early : List (BitVec 32) := []
  /-- path credits held for sending, 64-byte units (R247) -/
  credits : Nat := 0
  requested : Bool := false
  /-- credits granted to this source from the pool -/
  granted : Nat := 0
  /-- credits to return in the next frame -/
  toReturn : Nat := 0
  /-- frames not acknowledged: (pseq, sent at, retransmissions, packet) -/
  unacked : List (BitVec 32 × Nat × Nat × Packet) := []
  /-- an acknowledgement is owed since -/
  ackDue : Option Nat := none
  lastUsed : Nat := 0
  lastSent : Nat := 0
  deriving DecidableEq, Repr

/-- A grove peer's liveness (R238). -/
structure Peer where
  heardAt : Nat := 0
  sentAt : Nat := 0
  lost : Bool := false
  deriving DecidableEq, Repr

/-- The coordinator's table switch (R257). -/
structure Switch where
  via : Option Via := none
  /-- modules whose ready answer is awaited -/
  queries : List Nat := []
  notReady : Bool := false
  /-- modules whose FLIP answer is awaited, with the time FLIP was sent -/
  flips : List (Nat × Nat) := []
  /-- time of the last drain poll -/
  pollAt : Nat := 0
  /-- latest drain counts by module -/
  counts : KMap Nat := []
  deriving DecidableEq, Repr

/-- A packet waiting at this intermediate for its last hop (R233): arrival port, packet, since. -/
structure Waiting where
  port : Nat
  packet : Packet
  since : Nat
  deriving DecidableEq, Repr

/-- A dictionary request this module sent to a peer and whose response it awaits (R312, R342). -/
inductive PeerAsk where
  | fold (slot : Nat) | twin (slot : Nat) | loan (type : Nat) (m : LoanMsg)
  deriving DecidableEq, Repr

/-- The fabric's state. -/
structure FabSt where
  ports : KMap Port := []
  /-- packets formed and not yet sent, oldest first; their EPOCH, PACE and TAINT are set at sending (R255, R262, R281) -/
  sendQ : List Packet := []
  /-- packets to be routed again after a port left UP; they keep their epoch (R226) -/
  requeue : List Packet := []
  /-- packets received and not yet taken from the receive buffers: (port, packet) -/
  rx : List (Nat × Packet) := []
  /-- packets waiting at this module as intermediate (R233) -/
  waitingFwd : List Waiting := []
  outXfers : List OutXfer := []
  inXfers : List InXfer := []
  /-- transfers of the module's own that wait for an outgoing entry, oldest first (R300, R305) -/
  launches : List Launch := []
  /-- next transfer ID (R244) -/
  nextXfer : Nat := 0
  resends : List Resend := []
  paths : KMap Path := []
  /-- grant requests waiting for pool space, in order of arrival (R247) -/
  grantWait : List Nat := []
  /-- the two endpoint table versions (R252): endpoint to entry -/
  ept0 : KMap (BitVec 128) := []
  ept1 : KMap (BitVec 128) := []
  /-- the two versions of the plot tables, by job slot (R253) -/
  plots0 : KMap (List Nat) := []
  plots1 : KMap (List Nat) := []
  /-- the inactive version has been committed since the last switch (R257) -/
  ready : Bool := false
  /-- epoch still draining (R256): none when idle -/
  oldEpoch : Option Nat := none
  /-- time of the last drain poll received, or of the drain's beginning (R258) -/
  polledAt : Nat := 0
  /-- packets counted as waiting for path state, as they were formed (R263) -/
  pathWaits : List Packet := []
  switch : Switch := {}
  peers : KMap Peer := []
  /-- dictionary requests to peers: (peer, tag, what) -/
  asks : List (Nat × Nat × PeerAsk) := []
  nextTag : Nat := 0
  /-- packets of a reserved KIND discarded (Table 7-6) -/
  reservedKinds : Nat := 0
  deriving DecidableEq, Repr

/-! ## Firebreaks (chapter 8) -/

/-- A sampled check (R265 to R273). -/
structure Check where
  handle : Nat
  uid : Nat
  id : BitVec 32
  slot : Nat
  step : Nat
  attempt : Nat
  block : Nat
  orig : Nat
  checker : Nat
  digests : Digests
  sig : SigInfo := {}
  /-- the checker's output digest and the time, once they disagree -/
  other : Option (Word64 × Nat) := none
  /-- the stand of the third run, once it is due (R273) -/
  third : Nat := 0xFF
  work : BlkWork := {}
  deriving DecidableEq, Repr

/-- An error record (R290, Table 8-6). -/
structure ErrRec where
  id : Nat := 0
  time : Nat := 0
  code : Nat
  severity : Nat
  level : Nat
  stand : Nat := 0xFF
  array : Nat := 0xF
  column : Nat := 0xFF
  stack : Nat := 0x3F
  job : Nat := 0
  step : Nat := 0
  address : Nat := 0
  handle : Nat := 0
  task : Nat := 0
  status : Nat := 0
  attempt : Nat := 0
  detail0 : Nat := 0
  detail1 : Nat := 0
  lost : Nat := 0
  deriving DecidableEq, Repr

/-- One error queue (R292, R294): at most 64 records, the last place kept for an overflow record. -/
structure ErrQueue where
  records : List ErrRec := []
  /-- records lost since the previous record here (LOST of Table 8-6) -/
  lostSince : Nat := 0
  deriving DecidableEq, Repr

/-- A failure signature (R295): its record, the CPER severity, and the section of Table 8-8. -/
structure Cper where
  id : Nat
  severity : Nat
  body : BitVec 640
  deriving DecidableEq, Repr

/-- Firebreak state. -/
structure FireSt where
  checks : List Check := []
  /-- error queues: key 0 to 191 stands, 192 and 193 halves, 194 the module -/
  queues : KMap ErrQueue := []
  nextRecord : Nat := 0
  /-- failure signatures held (R295) -/
  cpers : List Cper := []
  /-- replica tables by job slot (R285) -/
  replicas : KMap (List (BitVec 128)) := []
  /-- the stand floor has been crossed (R280) -/
  floorAlert : Bool := false
  /-- stands tested for an optimiser unit without a majority: that of the first run, and those not yet found whole (R272) -/
  trios : List (Nat × List Nat) := []
  deriving DecidableEq, Repr

/-! ## The seedbank (chapter 9) -/

/-- What a twin keeps of a copy it holds (R301), or of the part of one that a transfer brings: TWIN_BASE, slot (0 live, 1 A,
2 B), generation, step, and the packets still to come. -/
structure TwinCopy where
  base : Nat
  size : Nat
  slot : Nat
  gen : Nat
  step : Nat
  left : Nat := 0
  deriving DecidableEq, Repr

/-- Seedbank state. -/
structure BankSt where
  /-- set tables and fold maps by job slot (R297, R304) -/
  sets : KMap (List (BitVec 256)) := []
  folds : KMap (List (BitVec 128)) := []
  copies : List TwinCopy := []
  /-- commit words held by the Glade at shed levels 3 and 4 (Table 9-7) -/
  heldCommits : List MemWrite := []
  /-- 64 KiB bands by number: the number of the last store to each, counted from power-on (R302, R307) -/
  dirty : KMap Nat := []
  stores : Nat := 0
  /-- times of failures in the trailing 30 days, kept in flash (R314) -/
  failures : List Nat := []
  deriving DecidableEq, Repr

/-! ## Power, heat, supply and ageing (chapter 10) -/

/-- One loan: the other module, watts, last sequence number (R338, R342). -/
structure Loan where
  peer : Nat
  watts : Nat
  seq : Nat
  deriving DecidableEq, Repr

/-- The 16-byte ageing record of a stand in flash (R363, Table 10-8). -/
structure AgeRec where
  slowdown : Nat := 0
  offsetSteps : Nat := 0
  lifeHours : Nat := 0xFFFFFFFF
  fitA : Nat := 0
  replanHours : Nat := 0
  deriving DecidableEq, Repr

/-- One of two alternately written flash areas with its commit word (R363, R388, Table 10-9). -/
structure FlashArea (α : Type) where
  /-- SEQUENCE; none while erased -/
  seq : Option Nat := none
  hours : Nat := 0xFFFFFFFF
  /-- RECORDS_CHECK as written -/
  check : BitVec 32 := 0xFFFFFFFF
  /-- bits [31:0] of the commit word: reserved, all ones while erased -/
  rest : BitVec 32 := 0xFFFFFFFF
  data : α
  deriving DecidableEq, Repr

/-- Power state. -/
structure PowerSt where
  /-- last samples of the 48 V input, mV, newest first, at most five: the 50 µs average (R353) -/
  samples : List Nat := []
  /-- by level, the time since which the average has been at or above the level's exit value (R354) -/
  exitSince : KMap Nat := []
  /-- time since which the input has been at or above 44.0 V while off (R357, R402) -/
  onSince : Option Nat := none
  /-- coefficients of Table 10-2 in fJ: fp16, fp32, fp64, vector, scratch, canopy, understory, stack, bridge, port -/
  coeff : List Nat := [1316000, 1316000, 1316000, 1920, 19000, 23700, 300000, 1130000, 250000, 160000000000]
  /-- fixed terms, mW (R322; Table 10-1: understory 94 W, host link 26 W, management 20 W) -/
  fixedMw : Nat := 140000
  /-- rail of the understory's memory banks, mV (R322; DESIGN CHOICE, log entry 112) -/
  understoryMv : Nat := 720
  /-- correction k × 4,096 (R323) -/
  k : Nat := 4096
  /-- energy not yet counted in mJ, in units of 10 nJ (R324) -/
  energyRest : Nat := 0
  /-- modelled module power of the last interval, mW; those of the last 100 intervals, newest first (1 ms); the means of the
  last 100 milliseconds, newest first; intervals counted in the present millisecond -/
  powerMw : Nat := 0
  history : List Nat := []
  means : List Nat := []
  tick : Nat := 0
  /-- modelled power of the interval before correction by k, mW summed since the last correction (R323) -/
  rawMw : Nat := 0
  /-- thermal and outlet limiters, mW, none while they do not bind (R351) -/
  thermal : Option Nat := none
  outlet : Option Nat := none
  /-- stack issue and packet injection limits, in 1/16 of peak (R334) -/
  stackLimit : Nat := 16
  linkLimit : Nat := 16
  /-- per-stack limits for temperature, in 1/16 (R350) -/
  stackTemp : KMap Nat := []
  /-- time since which own pace has exceeded 0, and been 0 (R339, R340) -/
  paceSince : Option Nat := none
  idleSince : Option Nat := some 0
  lent : List Loan := []
  borrowed : List Loan := []
  /-- next sequence number by lender × 2^16 + borrower (Table 10-3), and peers asked in this round of borrowing (R339) -/
  seqs : KMap Nat := []
  asked : List Nat := []
  shortfall : Nat := 0
  /-- OWN_PACE of the present millisecond: 256 × beats withheld, and beats of the running stands (R335) -/
  paceSum : Nat := 0
  paceCount : Nat := 0
  /-- target of the ramp, µW (R347) -/
  rampUw : Nat := 0
  /-- ballast power of the last interval, mW (R346) -/
  ballastMw : Nat := 0
  /-- since when ballast has run (R28, R346) -/
  ballastSince : Nat := 0
  /-- ballast energy not yet counted, in units of 10 nJ (R346) -/
  ballastRest : Nat := 0
  /-- the present fall below the steady band has been counted (R348) -/
  rampMissed : Bool := false
  /-- operating hours at the last re-plan (R361) -/
  replanAt : Nat := 0
  /-- ageing areas A and B in flash (R363) -/
  ageA : FlashArea (KMap AgeRec) := { data := [] }
  ageB : FlashArea (KMap AgeRec) := { data := [] }
  /-- ageing data in force -/
  ages : KMap AgeRec := []
  /-- when each periodic event last occurred, by its number in `State.due` -/
  ticks : KMap Nat := []
  deriving DecidableEq, Repr

/-! ## The dictionary (chapter 11) -/

/-- Values a role has staged at an index (R382, R386). -/
structure Staged where
  role : Role
  index : Nat
  /-- scalar values by subindex -/
  values : KMap Nat := []
  /-- tables by subindex: bytes by offset, and the length a FINAL write fixed -/
  tables : KMap (KMap Byte × Option Nat) := []
  /-- time of the role's last write to the index (R385) -/
  at_ : Nat := 0
  deriving DecidableEq, Repr

/-- Dictionary state. -/
structure DictSt where
  /-- values of the numbered objects, key index × 256 + subindex; an unlisted object has its default -/
  objs : KMap Nat := []
  staged : List Staged := []
  /-- mailbox control register (R367) -/
  msixVector : Nat := 0xFFFF
  done : Bool := false
  go : Bool := false
  /-- the request buffer of the mailbox (R367; the manual gives no reset value: DESIGN CHOICE zeros, log entry 117) -/
  request : DictMsg := { version := 0, op := 0, index := 0, sub := 0 }
  /-- its response buffer: a message and its STATUS (R367; DESIGN CHOICE zeros, log entry 117) -/
  responseBuf : DictMsg × Nat := ({ version := 0, op := 0, index := 0, sub := 0 }, 0)
  /-- requests that came while the active Glade had stopped and the standby had not yet taken over, oldest first, with the slot a
  seedbank message is for (R381) -/
  held : List (Via × Option Nat × DictMsg) := []
  /-- settings areas in flash (R388) -/
  flashA : FlashArea (KMap Nat) := { data := [] }
  flashB : FlashArea (KMap Nat) := { data := [] }
  /-- time of the oldest change not yet in flash (R388) -/
  pendingSince : Option Nat := none
  deriving DecidableEq, Repr

/-! ## Boundary and reset (chapter 12) -/

/-- A sideband input (R399): accepted level, pending change, last accepted edge, rejected toggles. -/
structure PinSt where
  level : Nat
  pending : Option (Nat × Nat) := none
  lastEdge : Nat := 0
  toggles : List Nat := []
  lastToggle : Nat := 0
  deriving DecidableEq, Repr

/-- Why ALERT_N is asserted (R396). -/
inductive Alert where
  | capUnattainable | peerLost (ep : Nat) | tj | inlet | overVoltage | toggles (pin : Nat) | standFloor
  | queueOverflow | verifyFailed (slot : Nat)
  deriving DecidableEq, Repr

/-- Why FAULT_N is asserted (R396, R412, R423). -/
inductive FaultCause where
  | startUp (half : Nat) | pairing | glades | noImage | mgmtClock
  deriving DecidableEq, Repr

/-- A Glade image in flash (R423): its version, and whether its signature verifies. -/
structure Image where
  version : Nat
  signed : Bool
  digest : List Byte
  deriving DecidableEq, Repr

/-- A guest request the module or the guest has outstanding (R421). -/
structure GuestReq where
  site : Nat
  tag : Nat
  op : Nat
  addr : Nat
  len : Nat
  at_ : Nat
  /-- waiting task -/
  uid : Nat
  id : BitVec 32
  /-- the site and tag of the other guest whose request this one serves -/
  answer : Option (Nat × Nat) := none
  deriving DecidableEq, Repr

/-- Fuses of a half (R413): stepping, capability word, lowest accepted partner. -/
structure Fuses where
  stepping : Nat := 0x10
  caps : Nat := 0x1F
  lowest : Nat := 0
  deriving DecidableEq, Repr

/-- Boundary state. -/
structure EdgeSt where
  /-- clock value at the last power-on (R290) -/
  bootAt : Nat := 0
  /-- SGN-IB9-2304-U (R1) -/
  variantU : Bool := false
  perst : PinSt := { level := 0 }
  pwrbrk : PinSt := { level := 1 }
  slot : PinSt := { level := 0 }
  /-- causes that hold ALERT_N and FAULT_N (R396) -/
  alerts : List Alert := []
  faults : List FaultCause := []
  /-- THERMTRIP_N latch (R352) -/
  tripped : Bool := false
  /-- READY released (R396) -/
  ready : Bool := false
  /-- the management rail is on: the security blocks and Glades run (Table 12-4) -/
  powered : Bool := false
  /-- Glade of half 0 and 1 runs (R365, R403) -/
  glade0 : Bool := false
  glade1 : Bool := false
  /-- halves once reset again without success (R406), and time of their loss -/
  retriedHalf : List Nat := []
  lostAt : KMap Nat := []
  /-- halves that stay in reset (R406) -/
  deadHalves : List Nat := []
  fuses0 : Fuses := {}
  fuses1 : Fuses := {}
  images : List Image := [⟨1, true, Config.imageDigest 0⟩, ⟨1, true, Config.imageDigest 1⟩]
  /-- the running Glade image (R423, R424) -/
  image : Option Image := none
  minVersion : Nat := 0
  /-- time PERST_N was accepted high; none while low (R402) -/
  perstHighAt : Option Nat := none
  /-- the host link is up (R416) -/
  hostLink : Bool := false
  /-- halves that have not started since power-on (Table 12-4, event 5) -/
  coldHalves : List Nat := [0, 1]
  /-- lost locks: 0 REFCLK_PCIE, 2 REFCLK_MGMT of half 0, 3 of half 1; of REFCLK_LINK, by island, 1 the bridge, 10 + port, 20 + site,
  32 + stack (R395, R412) -/
  unlocked : List Nat := []
  /-- orderly-off mark in flash (R357) -/
  orderlyOff : Bool := false
  /-- window register (R417) -/
  window : BitVec 64 := 0
  /-- MSI-X pending bits (Table 12-8): vectors that wait for the host link or for their mask to be cleared -/
  msixPending : List Nat := []
  /-- MSI-X table (Table 12-8): entries the host has set; bit 96 masks the vector, as it does in any other entry -/
  msixTable : KMap (BitVec 128) := []
  /-- BAR2 holds 2 to this power bytes, 30 to 36: the setting of its Resizable BAR capability (R417) -/
  bar2Bits : Nat := 36
  /-- Completion Timeout Value of Device Control 2 (R418) -/
  completionTimeout : BitVec 4 := 0
  /-- guest requests outstanding toward the guests -/
  guestReqs : List GuestReq := []
  /-- guest messages that wait for a free tag: request and blocks (R421) -/
  guestQueue : List (GuestReq × List GuestBlock) := []
  nextGuestTag : Nat := 0
  /-- I3C dynamic address, MCTP endpoint ID (R11, R369), and how far SPDM negotiation has come (R424) -/
  i3cAddr : Option Nat := none
  mctpEid : Nat := 0
  spdm : Nat := 0
  /-- transcript of SPDM: the messages of the negotiation (R424) -/
  spdmVca : List Byte := []
  /-- those of digests and certificates since the last challenge (R424) -/
  spdmCert : List Byte := []
  deriving DecidableEq, Repr

/-- The module. -/
structure State where
  /-- ns since power-on, the clock of error records (R290) -/
  now : Nat := 0
  mem : MemSt := {}
  chan : ChanSt := {}
  /-- job slots 0 to 15 -/
  jobs : KMap JobSt := []
  /-- stands 0 to 191 -/
  stands : KMap StandSt := []
  fab : FabSt := {}
  fire : FireSt := {}
  bank : BankSt := {}
  power : PowerSt := {}
  dict : DictSt := {}
  edge : EdgeSt := {}
  /-- MODEL'S OWN: how many free values have been drawn -/
  free : Nat := 0
  /-- what the module has sent out, oldest first -/
  out : List Out := []
  /-- MODEL'S OWN: commands waiting, first in first out -/
  pending : List Instr := []
  deriving DecidableEq, Repr

/-- The module with its input just applied and nothing started: halves off, every object at its default. -/
def State.reset : State := {}

end Sys2Proof.Machine
end

