-- ==== Sys2Proof/Machine/Flags.lean ====
section
/-! DEFINITION. The sticky arithmetic flags (R61, Table 2-11) and the arithmetic report (R62, R63). -/

namespace Sys2Proof.Machine

/-- A set of sticky flags, bits as Table 2-11. -/
abbrev Flags := BitVec 8

/-- A result differs from its exact value. -/
def fIX : Flags := 0x01
/-- A tiny result was inexact or flushed (R55). -/
def fUF : Flags := 0x02
/-- A rounded magnitude exceeded the result format. -/
def fOF : Flags := 0x04
/-- A result took the invalid branch. -/
def fIV : Flags := 0x08
/-- A NaN operand was seen. -/
def fNI : Flags := 0x10
/-- A result was saturated. -/
def fSA : Flags := 0x20
/-- An input or a result was flushed to zero. -/
def fFZ : Flags := 0x40

/-- `f` when `c` holds, else nothing. -/
def flagIf (c : Bool) (f : Flags) : Flags := if c then f else 0

/-- Lexicographic order of (row, column, k) (R63). -/
def eventBefore (a b : Nat × Nat × Nat) : Bool :=
  decide (a.1 < b.1) || (a.1 == b.1 && (decide (a.2.1 < b.2.1) || (a.2.1 == b.2.1 && decide (a.2.2 < b.2.2))))

/-- The report with one more invalid event at (row, column, k): counted, saturating, and first when it sorts first (R63). -/
def Report.addEvent (r : Report) (row col k : Nat) : Report :=
  let first := r.invCount == 0 || eventBefore (row, col, k) (r.firstRow, r.firstCol, r.firstK)
  { r with
    firstRow := if first then row else r.firstRow
    firstCol := if first then col else r.firstCol
    firstK := if first then k else r.firstK
    invCount := min (r.invCount + 1) 0xFFFFFFFF }

/-- The report with more flags. -/
def Report.addFlags (r : Report) (f : Flags) : Report := { r with flags := r.flags ||| f }

/-- The 16 bytes of the report (Table 2-12). -/
def Report.toNat (r : Report) : Nat :=
  pack [(104, 24, r.firstRow), (80, 24, r.firstCol), (48, 32, r.firstK), (16, 32, r.invCount), (0, 8, r.flags.toNat)]

end Sys2Proof.Machine
end

