-- ==== Sys2Proof/Machine/Float.lean ====
section
/-! DEFINITION. The binary formats (R38, Table 2-1), their decoding (R42), rounding (R52 to R57) and the exact results
from which every floating-point operation is rounded. -/

namespace Sys2Proof.Machine

/-- A binary format: precision, least and greatest exponent (Table 2-1). -/
structure FFmt where
  p : Nat
  emin : Int
  emax : Int
  deriving DecidableEq, Repr

def fp16 : FFmt := ⟨11, -14, 15⟩
def fp32 : FFmt := ⟨24, -126, 127⟩
def fp64 : FFmt := ⟨53, -1022, 1023⟩

namespace FFmt
/-- Width of the exponent field. -/
def ebits (f : FFmt) : Nat := Nat.log2 (f.emax.toNat + 1) + 1
/-- Encoding of +Inf. -/
def inf (f : FFmt) : Nat := (2 ^ f.ebits - 1) * 2 ^ (f.p - 1)
/-- Canonical quiet NaN (R39). -/
def qnan (f : FFmt) : Nat := f.inf + 2 ^ (f.p - 2)
/-- Sign bit. -/
def signBit (f : FFmt) : Nat := 2 ^ (f.ebits + f.p - 1)
/-- Exponent of the last place at emin. -/
def qmin (f : FFmt) : Int := f.emin - f.p + 1
/-- Bytes of one value. -/
def bytes (f : FFmt) : Nat := (f.ebits + f.p) / 8
end FFmt

/-- A decoded operand: a NaN (signalling or quiet), an infinity, or (−1)^s × m × 2^e. -/
inductive FVal where
  | nan (signalling : Bool)
  | inf (s : Bool)
  | fin (s : Bool) (m : Nat) (e : Int)
  deriving DecidableEq, Repr

/-- Decoding by Table 2-3, without flushing. -/
def decodeF (f : FFmt) (bits : Nat) : FVal :=
  let s := bits / f.signBit % 2 == 1
  let ef := bits / 2 ^ (f.p - 1) % 2 ^ f.ebits
  let fr := bits % 2 ^ (f.p - 1)
  if ef == 2 ^ f.ebits - 1 then
    if fr == 0 then .inf s else .nan (fr / 2 ^ (f.p - 2) == 0)
  else if ef == 0 then .fin s fr f.qmin
  else .fin s (2 ^ (f.p - 1) + fr) (f.qmin + ef - 1)

/-- Decoding an input under the task's flush-to-zero setting: a subnormal becomes a zero of its sign and sets FZ (R54). -/
def decodeIn (f : FFmt) (ftz : Bool) (bits : Nat) : FVal × Flags :=
  match decodeF f bits with
  | .fin s m e => if ftz && m != 0 && decide (m < 2 ^ (f.p - 1)) then (.fin s 0 e, fFZ) else (.fin s m e, 0)
  | v => (v, 0)

namespace FVal
def isNan : FVal → Bool
  | .nan _ => true
  | _ => false
def isSnan : FVal → Bool
  | .nan q => q
  | _ => false
def isInf : FVal → Bool
  | .inf _ => true
  | _ => false
def isZero : FVal → Bool
  | .fin _ m _ => m == 0
  | _ => false
def sign : FVal → Bool
  | .inf s => s
  | .fin s _ _ => s
  | .nan _ => false
end FVal

/-- Rounding mode: nearest with ties to even, or stochastic with the element's 16 bits (R56). -/
inductive RMode where
  | rne
  | sr (r : Nat)
  deriving DecidableEq, Repr

/-- The settings a final rounding applies (R52). -/
structure RSet where
  mode : RMode := .rne
  sat : Bool := false
  ftz : Bool := false
  deriving DecidableEq, Repr

/-- The position of the last place of a magnitude m × 2^e in a format (R56, step 1). -/
def lastPlace (f : FFmt) (m : Nat) (e : Int) : Int := max ((Nat.log2 m : Int) + e) f.emin - f.p + 1

/-- round() of R52: a non-zero magnitude (m + δ) × 2^e, with 0 < δ < 1 when `st` and δ = 0 otherwise, placed on the
format's grid with an unbounded exponent. The result is k × 2^q with whether it differs from the magnitude. -/
def roundMag (f : FFmt) (mode : RMode) (m : Nat) (e : Int) (st : Bool) : Nat × Int × Bool :=
  let q := lastPlace f m e
  if q ≤ e then (m * 2 ^ (e - q).toNat, q, st)
  else
    let sh := (q - e).toNat
    let k := m / 2 ^ sh
    let rem := m % 2 ^ sh
    let up := match mode with
      | .rne => decide (2 * rem > 2 ^ sh) || (2 * rem == 2 ^ sh && (st || k % 2 == 1))
      | .sr r => decide (rem * 2 ^ 16 / 2 ^ sh + r ≥ 2 ^ 16)
    (if up then k + 1 else k, q, rem != 0 || st)

/-- Encoding of the rounded magnitude k × 2^q; at or above `inf` when it exceeds the format. -/
def encodeMag (f : FFmt) (k : Nat) (q : Int) : Nat :=
  if k == 0 then 0 else (q - f.qmin).toNat * 2 ^ (f.p - 1) + k

/-- `bits` with a sign. -/
def signed (f : FFmt) (s : Bool) (bits : Nat) : Nat := if s then bits + f.signBit else bits

/-- The end of R52 for a non-zero exact magnitude: flush, round, overflow, saturate. -/
def finishMag (f : FFmt) (c : RSet) (s : Bool) (m : Nat) (e : Int) (st : Bool) : Nat × Flags :=
  let tiny := decide ((Nat.log2 m : Int) + e < f.emin)
  if c.ftz && tiny then (signed f s 0, fUF ||| fIX ||| fFZ)
  else
    let (k, q, ix) := roundMag f c.mode m e st
    let b := encodeMag f k q
    let fl := flagIf ix fIX ||| flagIf (ix && tiny) fUF
    if b ≥ f.inf then
      if c.sat then (signed f s (f.inf - 1), fl ||| fOF ||| fIX ||| fSA)
      else (signed f s f.inf, fl ||| fOF ||| fIX)
    else (signed f s b, fl)

/-- The exact result of an operation, before rounding. -/
inductive Exact where
  /-- invalid operation or NaN operand; the flags it raises -/
  | nan (fl : Flags)
  | inf (s : Bool)
  | zero (s : Bool)
  /-- (−1)^s × (m + δ) × 2^e, m ≠ 0 -/
  | mag (s : Bool) (m : Nat) (e : Int) (st : Bool)
  deriving DecidableEq, Repr

/-- Round an exact result. -/
def finish (f : FFmt) (c : RSet) : Exact → Nat × Flags
  | .nan fl => (f.qnan, fl)
  | .inf s => (signed f s f.inf, 0)
  | .zero s => (signed f s 0, 0)
  | .mag s m e st => finishMag f c s m e st

/-- NaN operands: NI, with IV for a signalling one (R100). -/
def nanFlags (l : List FVal) : Flags := flagIf (l.any FVal.isNan) fNI ||| flagIf (l.any FVal.isSnan) fIV

/-- An integer multiple of 2^e as an exact result; `zs` is the sign of an exact zero. -/
def exactInt (v : Int) (e : Int) (zs : Bool) : Exact :=
  if v == 0 then .zero zs else .mag (decide (v < 0)) v.natAbs e false

/-- The signed integer of a finite value at scale 2^e0 (e0 at or below its exponent). -/
def atScale (s : Bool) (m : Nat) (e e0 : Int) : Int :=
  let n : Int := (m * 2 ^ (e - e0).toNat : Nat)
  if s then -n else n

/-- Sum of two values; an exact zero of unlike signs is +0 (IEEE 754-2019, R98). -/
def exAdd (a b : FVal) : Exact :=
  match a, b with
  | .nan _, _ => .nan (nanFlags [a, b])
  | _, .nan _ => .nan (nanFlags [a, b])
  | .inf s, .inf t => if s == t then .inf s else .nan fIV
  | .inf s, _ => .inf s
  | _, .inf t => .inf t
  | .fin s m e, .fin t n g =>
    let e0 := min e g
    exactInt (atScale s m e e0 + atScale t n g e0) e0 (s && t && (m == 0 && n == 0))

/-- The negated value. -/
def fneg : FVal → FVal
  | .fin s m e => .fin (!s) m e
  | .inf s => .inf (!s)
  | v => v

/-- Product of two values. -/
def exMul (a b : FVal) : Exact :=
  match a, b with
  | .nan _, _ => .nan (nanFlags [a, b])
  | _, .nan _ => .nan (nanFlags [a, b])
  | .inf s, v => if v.isZero then .nan fIV else .inf (s != v.sign)
  | v, .inf s => if v.isZero then .nan fIV else .inf (s != v.sign)
  | .fin s m e, .fin t n g => if m * n == 0 then .zero (s != t) else .mag (s != t) (m * n) (e + g) false

/-- Is a × b a product of a zero and an infinity? -/
def zeroTimesInf (a b : FVal) : Bool := (a.isZero && b.isInf) || (a.isInf && b.isZero)

/-- fusedMultiplyAdd(a, b, c). A zero times an infinity is invalid whatever c is (R66, R100). -/
def exFma (a b c : FVal) : Exact :=
  if a.isNan || b.isNan || c.isNan then .nan (nanFlags [a, b, c] ||| flagIf (zeroTimesInf a b) fIV)
  else match exMul a b, c with
    | .nan fl, _ => .nan fl
    | .inf s, .inf t => if s == t then .inf s else .nan fIV
    | .inf s, _ => .inf s
    | _, .inf t => .inf t
    | .zero s, .fin t n g => if n == 0 then .zero (s && t) else .mag t n g false
    | .mag s m e _, .fin t n g =>
      let e0 := min e g
      exactInt (atScale s m e e0 + atScale t n g e0) e0 false
    | x, _ => x

/-- Quotient; a zero divisor gives the exact infinity without a flag (R428). -/
def exDiv (a b : FVal) : Exact :=
  match a, b with
  | .nan _, _ => .nan (nanFlags [a, b])
  | _, .nan _ => .nan (nanFlags [a, b])
  | .inf _, .inf _ => .nan fIV
  | .inf s, v => .inf (s != v.sign)
  | v, .inf t => .zero (v.sign != t)
  | .fin s m e, .fin t n g =>
    if n == 0 then (if m == 0 then .nan fIV else .inf (s != t))
    else if m == 0 then .zero (s != t)
    else
      let sh : Nat := Nat.log2 n + 80
      let x := m * 2 ^ sh
      .mag (s != t) (x / n) (e - g - sh) (x % n != 0)

/-- Square root. -/
def exSqrt : FVal → Exact
  | .nan q => .nan (nanFlags [.nan q])
  | .inf s => if s then .nan fIV else .inf false
  | .fin s m e =>
    if m == 0 then .zero s
    else if s then .nan fIV
    else
      let sh : Nat := if e % 2 == 0 then 160 else 161
      let x := m * 2 ^ sh
      .mag false (isqrt x) ((e - sh) / 2) (isqrt x * isqrt x != x)

/-- Reciprocal square root; a zero gives the infinity of its sign (R428). -/
def exRsqrt : FVal → Exact
  | .nan q => .nan (nanFlags [.nan q])
  | .inf s => if s then .nan fIV else .zero false
  | .fin s m e =>
    if m == 0 then .inf s
    else if s then .nan fIV
    else
      let sh : Nat := if e % 2 == 0 then 240 else 241
      let x := 2 ^ sh / m
      .mag false (isqrt x) ((-e - sh) / 2) (isqrt x * isqrt x * m != 2 ^ sh)

/-- Roots 2^(2^-i), i = 1 to n, as integers at scale 2^-200, rounded down. -/
def twoRoots : Nat → Nat → List Nat
  | 0, _ => []
  | n + 1, r => let r' := isqrt (r * 2 ^ 200); r' :: twoRoots n r'

/-- 2^f × 2^200, rounded down, for a fraction f of 72 bits (most significant first from bit 71). -/
def pow2frac (fr : Nat) : Nat :=
  ((twoRoots 72 (2 * 2 ^ 200)).zip (upto 72)).foldl
    (fun acc (r, i) => if fr / 2 ^ (71 - i) % 2 == 1 then acc * r / 2 ^ 200 else acc) (2 ^ 200)

/-- Base-2 exponential of an FP32 value, to far more bits than FP32 needs to be rounded correctly (R98). -/
def exExp2 : FVal → Exact
  | .nan q => .nan (nanFlags [.nan q])
  | .inf s => if s then .zero false else .inf false
  | .fin s m e =>
    if m == 0 then .mag false 1 0 false
    else if (Nat.log2 m : Int) + e ≥ 12 then (if s then .mag false 1 (-4096) true else .mag false 1 4096 true)
    else
      let v := atScale s m e (-200)
      let n := v / (2 : Int) ^ 200
      let fr := (v % (2 : Int) ^ 200).toNat
      if fr == 0 then .mag false 1 n false else .mag false (pow2frac (fr / 2 ^ 128)) (n - 200) true

/-- `n` fractional bits of log2 of x × 2^-400 in [1, 2), most significant first. -/
def log2bits : Nat → Nat → Nat → Nat
  | 0, _, acc => acc
  | n + 1, x, acc =>
    let y := x * x / 2 ^ 400
    if y ≥ 2 ^ 401 then log2bits n (y / 2) (2 * acc + 1) else log2bits n y (2 * acc)

/-- Base-2 logarithm (R98); a zero gives −Inf (R428). -/
def exLog2 : FVal → Exact
  | .nan q => .nan (nanFlags [.nan q])
  | .inf s => if s then .nan fIV else .inf false
  | .fin s m e =>
    if m == 0 then .inf true
    else if s then .nan fIV
    else
      let l := Nat.log2 m
      let n : Int := l + e
      if m == 2 ^ l then exactInt n 0 false
      else
        let fr := log2bits 128 (m * 2 ^ (400 - l)) 0
        let v : Int := n * (2 : Int) ^ 128 + fr
        if v ≥ 0 then .mag false v.toNat (-128) true else .mag true ((-v).toNat - 1) (-128) true

/-- Does a compare below b, with −0 equal to +0; neither is a NaN. -/
def fless (a b : FVal) : Bool :=
  match a, b with
  | .inf s, .inf t => s && !t
  | .inf s, _ => s
  | _, .inf t => !t
  | .fin s m e, .fin t n g => let e0 := min e g; decide (atScale s m e e0 < atScale t n g e0)
  | _, _ => false

/-- Do a and b compare equal (R429)? -/
def feq (a b : FVal) : Bool := !a.isNan && !b.isNan && !fless a b && !fless b a

/-- The larger of two values, +0 above −0; a NaN operand gives NaN (R99). -/
def fmaxV (a b : FVal) : FVal :=
  if a.isNan || b.isNan then .nan false
  else if fless a b then b else if fless b a then a else if a.sign then b else a

/-- The smaller of two values, −0 below +0 (R99). -/
def fminV (a b : FVal) : FVal :=
  if a.isNan || b.isNan then .nan false
  else if fless a b then a else if fless b a then b else if a.sign then a else b

/-- A decoded value as an exact result. -/
def exOf : FVal → Exact
  | .nan q => .nan (nanFlags [.nan q])
  | .inf s => .inf s
  | .fin s m e => if m == 0 then .zero s else .mag s m e false

/-- FP32 to I32 (R430): nearest, ties to even, saturating; the flags. -/
def cvtToI32 : FVal → Nat × Flags
  | .nan q => (0, fIV ||| nanFlags [.nan q])
  | .inf s => (if s then 0x80000000 else 0x7FFFFFFF, fIV)
  | .fin s m e =>
    let r : Nat := if e ≥ 0 then m * 2 ^ e.toNat else
      let sh := (-e).toNat
      let k := m / 2 ^ sh
      let rem := m % 2 ^ sh
      if 2 * rem > 2 ^ sh || (2 * rem == 2 ^ sh && k % 2 == 1) then k + 1 else k
    let exact := decide (e ≥ 0) || m % 2 ^ (-e).toNat == 0
    let v : Int := if s then -(r : Int) else r
    if v > 0x7FFFFFFF then (0x7FFFFFFF, fIV)
    else if v < -0x80000000 then (0x80000000, fIV)
    else (ofInt32 v, flagIf (!exact) fIX)

end Sys2Proof.Machine
end

