-- ==== Sys2Proof/Machine/Heartwood.lean ====
section
/-! DEFINITION. The heartwood accumulators (R45 to R51), their final rounding (R52), spill records (R69 to R75) and the
sequential FP64 path (R65 to R67). -/

namespace Sys2Proof.Machine

/-- The two record forms (R425): Heartwood-112 and Heartwood-592. -/
inductive HForm where
  | h112 | h592
  deriving DecidableEq, Repr

/-- Weight exponent of bit 0 of the form's value, negated (R45). -/
def HForm.frac : HForm → Nat
  | .h112 => 48
  | .h592 => 298
/-- Width of VALUE in the form's record (R69, R70). -/
def HForm.valueBits : HForm → Nat
  | .h112 => 120
  | .h592 => 608
/-- Bytes of the form's record. -/
def HForm.bytes : HForm → Nat
  | .h112 => 16
  | .h592 => 80

/-- A heartwood register with its sideband and zero-sign bit (R49, R51). The value is kept as an integer multiple of
2^-298, of which every weight of Heartwood-112 is a multiple (R425). -/
structure Heart where
  v : Int := 0
  nan : Bool := false
  pinf : Bool := false
  ninf : Bool := false
  inv : Bool := false
  z : Bool := true
  deriving DecidableEq, Repr

namespace Heart

/-- A finite value as an integer multiple of 2^-298 (R46). -/
def place (s : Bool) (m : Nat) (e : Int) : Int := atScale s m e (-298)

/-- Add the product of two operands, by the first matching row of Table 2-7. -/
def addProduct (h : Heart) (a b : FVal) : Heart :=
  if a.isSnan || b.isSnan then { h with nan := true, inv := true, z := false }
  else if a.isNan || b.isNan then { h with nan := true, z := false }
  else if zeroTimesInf a b then { h with inv := true, z := false }
  else match a, b with
    | .fin s m e, .fin t n g =>
      if m * n == 0 then { h with z := h.z && (s != t) }
      else { h with v := h.v + place (s != t) (m * n) (e + g), z := false }
    | _, _ =>
      if a.sign != b.sign then { h with ninf := true, z := false } else { h with pinf := true, z := false }

/-- Add an addend, by the first matching row of Table 2-7. -/
def addAddend (h : Heart) : FVal → Heart
  | .nan q => { h with nan := true, inv := h.inv || q, z := false }
  | .inf s => if s then { h with ninf := true, z := false } else { h with pinf := true, z := false }
  | .fin s m e => if m == 0 then { h with z := h.z && s } else { h with v := h.v + place s m e, z := false }

/-- Merge two registers or records: values add, sidebands are ORed, Z bits are ANDed (R71, R75). -/
def merge (a b : Heart) : Heart :=
  { v := a.v + b.v, nan := a.nan || b.nan, pinf := a.pinf || b.pinf, ninf := a.ninf || b.ninf,
    inv := a.inv || b.inv, z := a.z && b.z }

/-- Both infinities were seen: one invalid event of the element (R61). -/
def opposite (h : Heart) : Bool := h.pinf && h.ninf

/-- The exact sum before rounding. -/
def exact (h : Heart) : Exact := exactInt h.v (-298) h.z

/-- The final rounding (R52). -/
def round (h : Heart) (f : FFmt) (c : RSet) : Nat × Flags :=
  if h.nan || h.inv || h.opposite then (f.qnan, flagIf h.nan fNI ||| flagIf (h.inv || h.opposite) fIV)
  else if h.pinf then (f.inf, 0)
  else if h.ninf then (signed f true f.inf, 0)
  else finish f c h.exact

/-- Does the value fit the VALUE field of the form's record (R73)? -/
def fits (h : Heart) (form : HForm) : Bool :=
  let u := h.v / (2 : Int) ^ (298 - form.frac)
  decide (-(2 : Int) ^ (form.valueBits - 1) ≤ u) && decide (u < (2 : Int) ^ (form.valueBits - 1))

/-- Sideband bits (Table 2-6). -/
def sideband (h : Heart) : Nat := 8 * bit h.nan + 4 * bit h.pinf + 2 * bit h.ninf + bit h.inv

/-- The register as a spill record (Tables 2-13, 2-14). -/
def toRecord (h : Heart) : HForm → Nat
  | .h112 => pack [(124, 4, h.sideband), (123, 1, bit h.z), (120, 3, 1),
      (0, 120, (h.v / (2 : Int) ^ 250 % (2 : Int) ^ 120).toNat)]
  | .h592 => pack [(636, 4, h.sideband), (635, 1, bit h.z), (632, 3, 2), (0, 608, (h.v % (2 : Int) ^ 608).toNat)]

/-- Signed reading of a field. -/
def signedField (x w : Nat) : Int := if x < 2 ^ (w - 1) then (x : Int) else (x : Int) - (2 : Int) ^ w

/-- A record read as a register; none when its FMT is not the form's or a reserved bit is set (R72). -/
def ofRecord (form : HForm) (r : Nat) : Option Heart :=
  let hi := match form with
    | .h112 => r / 2 ^ 120
    | .h592 => r / 2 ^ 632
  let ok := match form with
    | .h112 => hi % 8 == 1
    | .h592 => hi % 8 == 2 && fld r 608 24 == 0
  let v := match form with
    | .h112 => signedField (fld r 0 120) 120 * (2 : Int) ^ 250
    | .h592 => signedField (fld r 0 608) 608
  if ok then
    some { v := v, nan := fld hi 7 1 == 1, pinf := fld hi 6 1 == 1, ninf := fld hi 5 1 == 1, inv := fld hi 4 1 == 1,
           z := fld hi 3 1 == 1 }
  else none

end Heart

/-- One step of the FP64 path (R65, R66): the new acc, its flags, and whether it is an invalid event, of which a step counts one at
most (R67; DESIGN CHOICE, log entry 77). -/
def fma64 (a b acc : Nat) : Nat × Flags × Bool :=
  let (va, vb, vc) := (decodeF fp64 a, decodeF fp64 b, decodeF fp64 acc)
  let (r, fl) := finish fp64 {} (exFma va vb vc)
  (r, fl, (fl &&& fIV) != 0)

/-- NI is set by NaN operands of the task alone, not by a NaN that arose in acc (R67). -/
def clearNi (f : Flags) : Flags := f &&& ~~~fNI

end Sys2Proof.Machine
end

