-- ==== Sys2Proof/Machine/Objects.lean ====
section
/-! DEFINITION. The objects of the Glade dictionary (R390): one row per object or run of subindices, with its type, access,
default and range as the owning table gives them; the names under which the rest of the model reads and writes them; and
the rights of the roles (R378). -/

namespace Sys2Proof.Machine

/-- Object types (R377, Table 11-5). A TABLE has an entry size and a greatest entry count. -/
inductive OType where
  | u8 | u16 | u32 | u64 | i32 | f32 | bool | enum8 | bits32
  | octets (n : Nat) | string (n : Nat) | table (entry count : Nat)
  deriving DecidableEq, Repr

/-- Access kinds (R375). -/
inductive Acc where
  | ro | rw | wo | rwc
  deriving DecidableEq, Repr

/-- Size in bytes of a value of fixed size. -/
def OType.size : OType → Nat
  | .u8 | .bool | .enum8 => 1
  | .u16 => 2
  | .u32 | .i32 | .f32 | .bits32 => 4
  | .u64 => 8
  | .octets n | .string n => n
  | .table _ _ => 0

/-- Type code of Table 11-5. -/
def OType.code : OType → Nat
  | .u8 => 1 | .u16 => 2 | .u32 => 3 | .u64 => 4 | .i32 => 5 | .f32 => 6 | .bool => 7 | .enum8 => 8 | .bits32 => 9
  | .octets _ => 10 | .string _ => 11 | .table _ _ => 12

/-- Access code of R375. -/
def Acc.code : Acc → Nat
  | .ro => 0 | .rw => 1 | .wo => 2 | .rwc => 3

/-- A run of objects: index, subindices `lo` to `hi`, type, access, default, least and greatest value (for an ENUM8 the
codes, for a BITS32 the mask of bits that may be set). -/
structure ObjRow where
  index : Nat
  lo : Nat
  hi : Nat
  type : OType
  acc : Acc
  default : Nat := 0
  min : Nat := 0
  max : Nat := 2 ^ 64 - 1
  deriving DecidableEq, Repr

/-- A string as the number its bytes spell. -/
def strNat (s : String) : Nat := ofBytes (s.toList.map (fun c => BitVec.ofNat 8 c.toNat))

/-- Identity and dictionary objects (Table 11-9). -/
def identityRows : List ObjRow := [
  { index := 0x1000, lo := 1, hi := 1, type := .string 16, acc := .ro, default := strNat "Sargicen" },
  { index := 0x1000, lo := 2, hi := 2, type := .string 16, acc := .ro, default := strNat "Ihlori Barian" },
  { index := 0x1000, lo := 3, hi := 3, type := .string 16, acc := .ro, default := strNat "SGN-IB9-2304" },
  { index := 0x1000, lo := 4, hi := 4, type := .string 16, acc := .ro },
  { index := 0x1000, lo := 5, hi := 5, type := .u32, acc := .ro },
  { index := 0x1000, lo := 6, hi := 6, type := .u8, acc := .ro },
  { index := 0x1000, lo := 7, hi := 7, type := .u8, acc := .ro, default := 1 },
  { index := 0x1000, lo := 8, hi := 8, type := .u32, acc := .ro },
  { index := 0x1001, lo := 1, hi := 2, type := .u8, acc := .ro },
  { index := 0x1001, lo := 3, hi := 3, type := .u8, acc := .ro },
  { index := 0x1001, lo := 4, hi := 4, type := .bits32, acc := .ro },
  { index := 0x1001, lo := 5, hi := 5, type := .u16, acc := .ro, default := 2304 },
  { index := 0x1F00, lo := 1, hi := 1, type := .u32, acc := .rw, default := 60, min := 5, max := 3600 },
  { index := 0x1F00, lo := 2, hi := 2, type := .bool, acc := .wo, max := 1 },
  { index := 0x1F00, lo := 3, hi := 3, type := .bool, acc := .ro },
  { index := 0x1F10, lo := 1, hi := 2, type := .bits32, acc := .rw, default := 0xFFFE, max := 0xFFFE },
  { index := 0x1F20, lo := 1, hi := 1, type := .u8, acc := .ro },
  { index := 0x1F20, lo := 2, hi := 2, type := .u8, acc := .rw, default := 32, min := 16, max := 255 }]

/-- Power, heat and ageing objects (Table 10-10). -/
def powerRows : List ObjRow := [
  { index := 0x2001, lo := 1, hi := 1, type := .u32, acc := .rw, default := 3000, max := 3400 },
  { index := 0x2001, lo := 2, hi := 2, type := .u32, acc := .ro, default := 3000 },
  { index := 0x2001, lo := 3, hi := 3, type := .bits32, acc := .ro },
  { index := 0x2001, lo := 4, hi := 6, type := .u32, acc := .ro },
  { index := 0x2001, lo := 7, hi := 7, type := .u16, acc := .ro, default := 4096 },
  { index := 0x2002, lo := 1, hi := 1, type := .bool, acc := .rw, default := 1, max := 1 },
  { index := 0x2002, lo := 2, hi := 2, type := .u8, acc := .ro },
  { index := 0x2003, lo := 1, hi := 1, type := .bool, acc := .rw, default := 1, max := 1 },
  { index := 0x2003, lo := 2, hi := 2, type := .u32, acc := .rw, default := 600, max := 2300 },
  { index := 0x2003, lo := 3, hi := 4, type := .u32, acc := .ro },
  { index := 0x2004, lo := 1, hi := 1, type := .bool, acc := .rwc, max := 1 },
  { index := 0x2004, lo := 2, hi := 2, type := .u32, acc := .rwc, default := 2500 },
  { index := 0x2004, lo := 3, hi := 3, type := .u16, acc := .rwc, default := 200 },
  { index := 0x2010, lo := 1, hi := 3, type := .i32, acc := .ro },
  { index := 0x2010, lo := 4, hi := 4, type := .u8, acc := .rw, default := 30, max := 30 },
  { index := 0x2010, lo := 5, hi := 5, type := .u16, acc := .ro },
  { index := 0x2010, lo := 6, hi := 6, type := .i32, acc := .rw, default := 1050, min := 950, max := 1050 },
  { index := 0x2010, lo := 7, hi := 7, type := .i32, acc := .rw, default := 800, min := 600, max := 800 },
  { index := 0x2020, lo := 1, hi := 1, type := .u8, acc := .ro },
  { index := 0x2050, lo := 1, hi := 1, type := .octets 16, acc := .wo },
  { index := 0x8001, lo := 1, hi := 192, type := .u16, acc := .ro },
  { index := 0x8002, lo := 1, hi := 192, type := .u8, acc := .ro },
  { index := 0x8003, lo := 1, hi := 192, type := .u32, acc := .ro, default := 0xFFFFFFFF },
  { index := 0x8004, lo := 1, hi := 1, type := .u32, acc := .rw, default := 1000, min := 100, max := 10000 },
  { index := 0x8004, lo := 2, hi := 2, type := .bool, acc := .wo, max := 1 },
  { index := 0x8004, lo := 3, hi := 3, type := .u32, acc := .ro },
  { index := 0x8004, lo := 5, hi := 5, type := .u8, acc := .rw, default := 60, max := 60 },
  { index := 0xA190, lo := 1, hi := 6, type := .u64, acc := .ro },
  { index := 0xA190, lo := 7, hi := 11, type := .u64, acc := .ro }]

/-- Numerics profiles and step state (Table 6-6), channels and job slots (Table 5-1). -/
def jobsRows : List ObjRow := [
  { index := 0x4010, lo := 1, hi := 1, type := .u16, acc := .rwc, default := 0xFFFF },
  { index := 0x4010, lo := 2, hi := 2, type := .u64, acc := .rwc },
  { index := 0x4010, lo := 3, hi := 3, type := .enum8, acc := .rwc, max := 1 },
  { index := 0x4010, lo := 4, hi := 4, type := .u32, acc := .rwc, default := 1024 },
  { index := 0x4010, lo := 5, hi := 5, type := .u64, acc := .rwc },
  { index := 0x4010, lo := 6, hi := 6, type := .enum8, acc := .rwc, max := 1 },
  { index := 0x4010, lo := 7, hi := 7, type := .u32, acc := .rwc, default := 1024 },
  { index := 0x4010, lo := 8, hi := 8, type := .u16, acc := .rwc, default := 0xFFFF },
  { index := 0x4011, lo := 1, hi := 1, type := .u16, acc := .ro },
  { index := 0x4011, lo := 2, hi := 2, type := .u32, acc := .ro },
  { index := 0x4011, lo := 3, hi := 3, type := .u16, acc := .ro },
  { index := 0x4012, lo := 1, hi := 2, type := .u16, acc := .wo },
  { index := 0x4013, lo := 1, hi := 1, type := .u32, acc := .rw, default := 100, min := 10, max := 10000 },
  { index := 0x4014, lo := 1, hi := 16, type := .u8, acc := .rw, default := 1, min := 1, max := 16 },
  { index := 0x4015, lo := 1, hi := 1, type := .u32, acc := .rwc, default := 0x20, max := 0xFFFF },
  { index := 0x4015, lo := 2, hi := 16, type := .u32, acc := .rwc, max := 0xFFFF },
  { index := 0x4020, lo := 1, hi := 16, type := .u16, acc := .rw, default := 0xFFFF },
  { index := 0x6030, lo := 1, hi := 1, type := .u32, acc := .rw, default := 30, min := 4, max := 3600 },
  { index := 0x6030, lo := 2, hi := 2, type := .u8, acc := .rw, default := 3, min := 1, max := 15 },
  { index := 0xA140, lo := 1, hi := 4, type := .u64, acc := .ro },
  { index := 0xA150, lo := 1, hi := 2, type := .u64, acc := .ro }]

/-- Fabric objects (Table 7-13). -/
def fabricRows : List ObjRow := [
  { index := 0x5000, lo := 1, hi := 1, type := .u16, acc := .rwc, min := 1, max := 0xFFFE },
  { index := 0x5000, lo := 2, hi := 2, type := .u16, acc := .rwc, max := 4095 },
  { index := 0x5000, lo := 4, hi := 4, type := .octets 6, acc := .ro },
  { index := 0x5000, lo := 5, hi := 5, type := .u16, acc := .rw, default := 0x88B5 },
  { index := 0x5000, lo := 6, hi := 6, type := .u16, acc := .rw, default := 0xFFFF, min := 1, max := 0xFFFF },
  { index := 0x5001, lo := 1, hi := 9, type := .bool, acc := .rw, default := 1, max := 1 },
  { index := 0x5002, lo := 1, hi := 9, type := .bits32, acc := .ro },
  { index := 0x5003, lo := 1, hi := 9, type := .u16, acc := .ro },
  { index := 0x5004, lo := 1, hi := 9, type := .bool, acc := .wo, max := 1 },
  { index := 0x5005, lo := 1, hi := 1, type := .u8, acc := .rw, default := 16, min := 2, max := 255 },
  { index := 0x5005, lo := 2, hi := 2, type := .u32, acc := .rw, default := 60, min := 10, max := 3600 },
  { index := 0x5005, lo := 3, hi := 3, type := .u32, acc := .rw, default := 1, min := 1, max := 1000 },
  { index := 0x5005, lo := 4, hi := 4, type := .u32, acc := .rw, default := 4000, min := 1, max := 60000 },
  { index := 0x5005, lo := 5, hi := 13, type := .u64, acc := .ro },
  { index := 0x5010, lo := 1, hi := 1, type := .table 16 65536, acc := .rwc },
  { index := 0x5011, lo := 1, hi := 16, type := .table 2 65536, acc := .rwc },
  { index := 0x5012, lo := 1, hi := 1, type := .u8, acc := .wo, max := 1 },
  { index := 0x5012, lo := 2, hi := 2, type := .u8, acc := .ro },
  { index := 0x5012, lo := 3, hi := 3, type := .enum8, acc := .ro },
  { index := 0x5012, lo := 4, hi := 4, type := .u32, acc := .ro },
  { index := 0x5020, lo := 1, hi := 1, type := .bool, acc := .rw, default := 1, max := 1 },
  { index := 0x5020, lo := 2, hi := 2, type := .u32, acc := .rw, default := 1, min := 1, max := 100 },
  { index := 0x5030, lo := 1, hi := 1, type := .u32, acc := .rw, default := 200, min := 50, max := 10000 },
  { index := 0x5030, lo := 2, hi := 2, type := .u8, acc := .rw, default := 8, min := 1, max := 64 },
  { index := 0x5050, lo := 1, hi := 16, type := .u64, acc := .rw },
  { index := 0xA160, lo := 1, hi := 8, type := .u64, acc := .ro },
  { index := 0xA161, lo := 1, hi := 16, type := .u8, acc := .ro }]

/-- Presented width (Table 3-4), stand counters, memory (Table 4-8) and correctness objects (Table 8-9). -/
def correctRows : List ObjRow := [
  { index := 0x6001, lo := 1, hi := 1, type := .u16, acc := .rw, default := 256, min := 1, max := 4096 },
  { index := 0x6001, lo := 2, hi := 2, type := .u64, acc := .rw },
  { index := 0x6001, lo := 3, hi := 3, type := .bool, acc := .rw, default := 1, max := 1 },
  { index := 0x6002, lo := 1, hi := 1, type := .u8, acc := .rw, default := 4, min := 1, max := 255 },
  { index := 0x6002, lo := 2, hi := 2, type := .u8, acc := .rw, default := 3, min := 1, max := 16 },
  { index := 0x6002, lo := 3, hi := 3, type := .u16, acc := .rw, default := 60, min := 10, max := 1440 },
  { index := 0x6002, lo := 4, hi := 4, type := .u8, acc := .rw, default := 160, max := 192 },
  { index := 0x6003, lo := 1, hi := 192, type := .bool, acc := .wo, max := 1 },
  { index := 0x6004, lo := 1, hi := 192, type := .enum8, acc := .ro },
  { index := 0x6010, lo := 1, hi := 192, type := .u8, acc := .ro },
  { index := 0x6011, lo := 1, hi := 192, type := .bits32, acc := .ro },
  { index := 0x6012, lo := 1, hi := 192, type := .octets 32, acc := .ro },
  { index := 0x6040, lo := 1, hi := 16, type := .u16, acc := .rw, default := 50, max := 65535 },
  { index := 0x6041, lo := 1, hi := 16, type := .table 16 1024, acc := .rwc },
  { index := 0x6050, lo := 1, hi := 1, type := .table 64 64, acc := .ro },
  { index := 0x6050, lo := 2, hi := 2, type := .u32, acc := .wo },
  { index := 0x6050, lo := 3, hi := 3, type := .bool, acc := .rw, max := 1 },
  { index := 0x6050, lo := 4, hi := 4, type := .u32, acc := .ro },
  { index := 0x6060, lo := 1, hi := 1, type := .table 280 256, acc := .ro },
  { index := 0x6060, lo := 2, hi := 2, type := .u32, acc := .wo },
  { index := 0x6100, lo := 1, hi := 1, type := .table 32 1024, acc := .rwc },
  { index := 0x6110, lo := 1, hi := 1, type := .u32, acc := .rw, default := 24, min := 1, max := 168 },
  { index := 0x6110, lo := 2, hi := 2, type := .u32, acc := .rw, default := 60, min := 10, max := 1440 },
  { index := 0x6110, lo := 3, hi := 3, type := .u32, acc := .rw, default := 10, min := 1, max := 1440 },
  { index := 0x6110, lo := 4, hi := 4, type := .bool, acc := .rw, default := 1, max := 1 },
  { index := 0x6120, lo := 1, hi := 1, type := .table 32 4096, acc := .ro },
  { index := 0xA120, lo := 1, hi := 192, type := .u64, acc := .ro },
  { index := 0xA121, lo := 1, hi := 192, type := .u64, acc := .ro },
  { index := 0xA122, lo := 1, hi := 192, type := .u64, acc := .ro },
  { index := 0xA130, lo := 1, hi := 64, type := .u64, acc := .ro },
  { index := 0xA131, lo := 1, hi := 2, type := .u64, acc := .ro },
  { index := 0xA132, lo := 1, hi := 4, type := .u64, acc := .ro },
  { index := 0xA133, lo := 1, hi := 1, type := .u64, acc := .ro },
  { index := 0xA134, lo := 1, hi := 1, type := .u16, acc := .ro },
  { index := 0xA135, lo := 1, hi := 32, type := .u16, acc := .ro },
  { index := 0xA135, lo := 33, hi := 64, type := .bool, acc := .ro },
  { index := 0xA170, lo := 1, hi := 8, type := .u64, acc := .ro },
  { index := 0xA171, lo := 1, hi := 4, type := .u64, acc := .ro },
  { index := 0xA172, lo := 1, hi := 192, type := .u64, acc := .ro },
  { index := 0xA173, lo := 1, hi := 192, type := .u64, acc := .ro }]

/-- Seedbank objects (Tables 9-6, 9-8). -/
def bankRows : List ObjRow := [
  { index := 0x7001, lo := 1, hi := 16, type := .u16, acc := .ro },
  { index := 0x7002, lo := 1, hi := 16, type := .u64, acc := .ro, default := 10 },
  { index := 0x7003, lo := 1, hi := 16, type := .u32, acc := .ro },
  { index := 0x7004, lo := 1, hi := 1, type := .u16, acc := .rw, default := 10, min := 10, max := 5000 },
  { index := 0x7004, lo := 2, hi := 2, type := .u16, acc := .rw, default := 5000, min := 10, max := 5000 },
  { index := 0x7004, lo := 3, hi := 3, type := .u16, acc := .rw, max := 5000 },
  { index := 0x7004, lo := 4, hi := 4, type := .u32, acc := .rw, default := 300, min := 10, max := 3600 },
  { index := 0x7005, lo := 1, hi := 2, type := .u32, acc := .ro },
  { index := 0x7010, lo := 1, hi := 16, type := .table 32 256, acc := .rwc },
  { index := 0x7011, lo := 1, hi := 16, type := .table 16 1024, acc := .rwc },
  { index := 0x7020, lo := 1, hi := 16, type := .octets 8, acc := .wo },
  { index := 0x7021, lo := 1, hi := 16, type := .enum8, acc := .ro },
  { index := 0x7030, lo := 1, hi := 4, type := .octets 16, acc := .wo },
  { index := 0xA180, lo := 1, hi := 5, type := .u64, acc := .ro }]

/-- Boundary and diagnostic objects (Table 11-10) and dictionary counters. -/
def boundaryRows : List ObjRow := [
  { index := 0x9000, lo := 1, hi := 1, type := .u8, acc := .ro },
  { index := 0x9000, lo := 2, hi := 2, type := .bits32, acc := .ro },
  { index := 0x9001, lo := 1, hi := 3, type := .u64, acc := .ro },
  { index := 0x9002, lo := 1, hi := 2, type := .enum8, acc := .ro },
  { index := 0x9002, lo := 3, hi := 3, type := .u8, acc := .ro },
  { index := 0x9003, lo := 1, hi := 1, type := .bits32, acc := .ro },
  { index := 0x9004, lo := 1, hi := 3, type := .bool, acc := .ro },
  { index := 0x9010, lo := 1, hi := 9, type := .u32, acc := .ro },
  { index := 0x9020, lo := 1, hi := 2, type := .bits32, acc := .rwc, max := 0xFFF0000F },
  { index := 0x9021, lo := 1, hi := 2, type := .bits32, acc := .ro },
  { index := 0xA1F0, lo := 1, hi := 6, type := .u64, acc := .ro },
  { index := 0xF000, lo := 1, hi := 1, type := .bool, acc := .rw, max := 1 },
  { index := 0xF001, lo := 1, hi := 192, type := .bool, acc := .wo, max := 1 }]

/-- Rows of the numerics profile of job slot `s` (Table 6-6). -/
def profileRows (s : Nat) : List ObjRow := [
  { index := 0x3100 + s, lo := 1, hi := 1, type := .u32, acc := .rwc, default := 1, min := 1, max := 65536 },
  { index := 0x3100 + s, lo := 2, hi := 2, type := .u8, acc := .rwc, default := 8, min := 2, max := 16 },
  { index := 0x3100 + s, lo := 3, hi := 3, type := .enum8, acc := .rwc, default := 0, min := 0, max := 1 },
  { index := 0x3100 + s, lo := 4, hi := 4, type := .u64, acc := .rwc, default := 0, min := 0, max := 2 ^ 64 - 1 },
  { index := 0x3100 + s, lo := 5, hi := 5, type := .u64, acc := .rwc, default := 0, min := 0, max := 2 ^ 48 - 1 },
  { index := 0x3100 + s, lo := 6, hi := 6, type := .u8, acc := .rwc, default := 16, min := 1, max := 64 },
  { index := 0x3100 + s, lo := 7, hi := 7, type := .u8, acc := .rwc, default := 16, min := 0, max := 24 },
  { index := 0x3100 + s, lo := 8, hi := 8, type := .u16, acc := .rwc, default := 2000, min := 1, max := 65535 },
  { index := 0x3100 + s, lo := 9, hi := 9, type := .u8, acc := .rwc, default := 0, min := 0, max := 24 },
  { index := 0x3100 + s, lo := 10, hi := 10, type := .u8, acc := .rwc, default := 24, min := 0, max := 24 },
  { index := 0x3100 + s, lo := 11, hi := 11, type := .bits32, acc := .rwc, default := 7, min := 0, max := 0x1F }]

/-- Rows of the step state of job slot `s` (Table 6-6). -/
def stepRows (s : Nat) : List ObjRow := [
  { index := 0x3200 + s, lo := 1, hi := 1, type := .u64, acc := .ro, default := 0 },
  { index := 0x3200 + s, lo := 2, hi := 2, type := .u8, acc := .ro, default := 0 },
  { index := 0x3200 + s, lo := 3, hi := 3, type := .u64, acc := .ro, default := 2 ^ 64 - 1 },
  { index := 0x3200 + s, lo := 4, hi := 4, type := .u8, acc := .ro, default := 16 },
  { index := 0x3200 + s, lo := 5, hi := 5, type := .u16, acc := .ro, default := 0 },
  { index := 0x3200 + s, lo := 6, hi := 6, type := .u64, acc := .ro, default := 0 },
  { index := 0x3200 + s, lo := 7, hi := 7, type := .u64, acc := .ro, default := 0 },
  { index := 0x3200 + s, lo := 8, hi := 8, type := .u64, acc := .ro, default := 0 },
  { index := 0x3200 + s, lo := 9, hi := 9, type := .u32, acc := .ro, default := 0 },
  { index := 0x3200 + s, lo := 10, hi := 10, type := .u8, acc := .ro, default := 0 }]

/-- The rows of one index. -/
def rowsAt (index : Nat) : List ObjRow :=
  if 0x3100 ≤ index ∧ index ≤ 0x310F then profileRows (index - 0x3100)
  else if 0x3200 ≤ index ∧ index ≤ 0x320F then stepRows (index - 0x3200)
  else
    let rows := if index < 0x2000 then identityRows else if index < 0x3000 then powerRows
      else if 0x8000 ≤ index ∧ index < 0x9000 then powerRows ++ boundaryRows
      else if index < 0x5000 then jobsRows else if index < 0x6000 then fabricRows
      else if index < 0x7000 then correctRows ++ jobsRows else if index < 0x8000 then bankRows
      else powerRows ++ jobsRows ++ fabricRows ++ correctRows ++ bankRows ++ boundaryRows
    rows.filter (fun r => r.index == index)

/-- The row of an object, if it exists (R390). -/
def rowOf (index sub : Nat) : Option ObjRow :=
  (rowsAt index).find? (fun r => decide (r.lo ≤ sub) && decide (sub ≤ r.hi))

/-- Key of an object in `DictSt.objs`. -/
def okey (index sub : Nat) : Nat := index * 256 + sub

/-- Default of an object by key. -/
def objDefault (key : Nat) : Nat := ((rowOf (key / 256) (key % 256)).map (·.default)).getD 0


/-! ## Names of objects -/
namespace Obj
def stageTimeout : Nat := 0x1F0001
def bmcMask : Nat := 0x1F1001
def trayMask : Nat := 0x1F1002
def powerCap : Nat := 0x200101
def powerStatus : Nat := 0x200103
def modulePower : Nat := 0x200104
def inputVoltage : Nat := 0x200105
def inputPower : Nat := 0x200106
def modelCorrection : Nat := 0x200107
def paceMatch : Nat := 0x200201
def ownPace : Nat := 0x200202
def lendEnable : Nat := 0x200301
def lendMax : Nat := 0x200302
def steadyEnable : Nat := 0x200401
def steadySetpoint : Nat := 0x200402
def rampLimit : Nat := 0x200403
def tjMax : Nat := 0x201001
def inletTemp : Nat := 0x201002
def outletTemp : Nat := 0x201003
def throttleTj : Nat := 0x201006
def outletLimit : Nat := 0x201007
def shedLevel : Nat := 0x202001
def replanInterval : Nat := 0x800401
def operatingHours : Nat := 0x800403
def offsetLimit : Nat := 0x800405
def energy : Nat := 0xA19001
def bubbleBeats : Nat := 0xA19002
def ballastEnergy : Nat := 0xA19003
def rampViolations : Nat := 0xA19004
def loanMismatches : Nat := 0xA19005
def thermalTime : Nat := 0xA19006
def newJob : Nat := 0x401001
def newRingBase : Nat := 0x401002
def newRingLocation : Nat := 0x401003
def newRingEntries : Nat := 0x401004
def newCplBase : Nat := 0x401005
def newCplLocation : Nat := 0x401006
def newCplEntries : Nat := 0x401007
def newMsix : Nat := 0x401008
def lastHandle : Nat := 0x401101
def taskWatchdog : Nat := 0x401301
def clearingTimeout : Nat := 0x603001
def replayLimit : Nat := 0x603002
def doorbellsIgnored : Nat := 0xA14001
def contextSwaps : Nat := 0xA14002
def taskRetries : Nat := 0xA14003
def tasksRefused : Nat := 0xA14004
def staleVotes : Nat := 0xA15001
def duplicateVotes : Nat := 0xA15002
def endpointId : Nat := 0x500001
def groveId : Nat := 0x500002
def flapLimit : Nat := 0x500501
def flapWindow : Nat := 0x500502
def backoffMin : Nat := 0x500503
def backoffMax : Nat := 0x500504
def epochActive : Nat := 0x501202
def drainState : Nat := 0x501203
def twoHop : Nat := 0x502001
def escapeWait : Nat := 0x502002
def forestRetransmit : Nat := 0x503001
def forestRetries : Nat := 0x503002
def auditMismatches : Nat := 0xA16001
def linkReplays : Nat := 0xA16002
def escapeUses : Nat := 0xA16003
def transfersWaiting : Nat := 0xA16004
def refusals : Nat := 0xA16005
def foreignFrames : Nat := 0xA16006
def grantsWaiting : Nat := 0xA16007
def pathsWaiting : Nat := 0xA16008
def checkRate : Nat := 0x600101
def checkSeed : Nat := 0x600102
def checkEnable : Nat := 0x600103
def transientLimit : Nat := 0x600201
def resetLimit : Nat := 0x600202
def resetWindow : Nat := 0x600203
def standFloor : Nat := 0x600204
def errorOverflow : Nat := 0x605003
def powerOnCount : Nat := 0x605004
def scrubEnable : Nat := 0x611004
def sramParityErrors : Nat := 0xA13101
def sramLineErrors : Nat := 0xA13102
def repairsTwin : Nat := 0xA13201
def repairsSeedbank : Nat := 0xA13202
def recomputes : Nat := 0xA13203
def repairFailures : Nat := 0xA13204
def unmappedAccesses : Nat := 0xA13301
def checksRun : Nat := 0xA17001
def checksAbandoned : Nat := 0xA17002
def checkDisagreements : Nat := 0xA17003
def noticesSent : Nat := 0xA17004
def noticesReceived : Nat := 0xA17005
def staleNotices : Nat := 0xA17006
def replicaComparisons : Nat := 0xA17007
def expulsions : Nat := 0xA17008
def moduleRecordsLost : Nat := 0xA17103
def cperLost : Nat := 0xA17104
def intervalMin : Nat := 0x700401
def intervalMax : Nat := 0x700402
def intervalFixed : Nat := 0x700403
def generationTimeout : Nat := 0x700404
def generationCost : Nat := 0x700502
def gensComplete : Nat := 0xA18001
def gensAbandoned : Nat := 0xA18002
def restores : Nat := 0xA18003
def restoreFailures : Nat := 0xA18004
def unfolded : Nat := 0xA18005
def gladeActive : Nat := 0x900203
def pcieLink : Nat := 0x900301
def dictRefused : Nat := 0xA1F005
def dictDiscarded : Nat := 0xA1F006
def diagEnable : Nat := 0xF00001
def slowdown (n : Nat) : Nat := 0x800101 + n
def voltageOffset (n : Nat) : Nat := 0x800201 + n
def lifeRemaining (n : Nat) : Nat := 0x800301 + n
def shedEntries (n : Nat) : Nat := 0xA19007 + n
def jobWeight (n : Nat) : Nat := 0x401401 + n
def jobScratch (n : Nat) : Nat := 0x401501 + n
def jobSlotId (n : Nat) : Nat := 0x402001 + n
def portEnable (n : Nat) : Nat := 0x500101 + n
def portState (n : Nat) : Nat := 0x500201 + n
def portPeer (n : Nat) : Nat := 0x500301 + n
def flaps (n : Nat) : Nat := 0x500505 + n
def arrivalBase (n : Nat) : Nat := 0x505001 + n
def peerPace (n : Nat) : Nat := 0xA16101 + n
def standState (n : Nat) : Nat := 0x600401 + n
def arrayFence (n : Nat) : Nat := 0x601101 + n
def bypassed (n : Nat) : Nat := 0x601201 + n
def replicaInterval (n : Nat) : Nat := 0x604001 + n
def invalidEvents (n : Nat) : Nat := 0xA12001 + n
def weightWait (n : Nat) : Nat := 0xA12101 + n
def columnPasses (n : Nat) : Nat := 0xA12201 + n
def stackCheckErrors (n : Nat) : Nat := 0xA13001 + n
def stackOndie (n : Nat) : Nat := 0xA13021 + n
def rowRepairsLeft (n : Nat) : Nat := 0xA13501 + n
def stackDegraded (n : Nat) : Nat := 0xA13521 + n
def halfRecordsLost (n : Nat) : Nat := 0xA17101 + n
def standRecordsLost (n : Nat) : Nat := 0xA17201 + n
def transientFaults (n : Nat) : Nat := 0xA17301 + n
def intervalInForce (n : Nat) : Nat := 0x700101 + n
def nextGenStep (n : Nat) : Nat := 0x700201 + n
def lastGen (n : Nat) : Nat := 0x700301 + n
def restoreState (n : Nat) : Nat := 0x702101 + n
def sidebandToggles (n : Nat) : Nat := 0x900101 + n
def halfState (n : Nat) : Nat := 0x900201 + n
def guestRights (n : Nat) : Nat := 0x902001 + n
def guestLink (n : Nat) : Nat := 0x902101 + n
def dictRequests (n : Nat) : Nat := 0xA1F001 + n
def plotCount (slot : Nat) : Nat := (0x3100 + slot) * 256 + 1
def treeArity (slot : Nat) : Nat := (0x3100 + slot) * 256 + 2
def wireFormat (slot : Nat) : Nat := (0x3100 + slot) * 256 + 3
def seed (slot : Nat) : Nat := (0x3100 + slot) * 256 + 4
def startStep (slot : Nat) : Nat := (0x3100 + slot) * 256 + 5
def scaleWindow (slot : Nat) : Nat := (0x3100 + slot) * 256 + 6
def scaleInit (slot : Nat) : Nat := (0x3100 + slot) * 256 + 7
def scaleGrowth (slot : Nat) : Nat := (0x3100 + slot) * 256 + 8
def scaleMin (slot : Nat) : Nat := (0x3100 + slot) * 256 + 9
def scaleMax (slot : Nat) : Nat := (0x3100 + slot) * 256 + 10
def srPaths (slot : Nat) : Nat := (0x3100 + slot) * 256 + 11
def currentStep (slot : Nat) : Nat := (0x3200 + slot) * 256 + 1
def attempt (slot : Nat) : Nat := (0x3200 + slot) * 256 + 2
def lastCommitted (slot : Nat) : Nat := (0x3200 + slot) * 256 + 3
def lossScaleExp (slot : Nat) : Nat := (0x3200 + slot) * 256 + 4
def cleanSteps (slot : Nat) : Nat := (0x3200 + slot) * 256 + 5
def stepsPassed (slot : Nat) : Nat := (0x3200 + slot) * 256 + 6
def stepsSkipped (slot : Nat) : Nat := (0x3200 + slot) * 256 + 7
def stepsTainted (slot : Nat) : Nat := (0x3200 + slot) * 256 + 8
def lastLoss (slot : Nat) : Nat := (0x3200 + slot) * 256 + 9
def jobPace (slot : Nat) : Nat := (0x3200 + slot) * 256 + 10
end Obj

/-- The value of an object: the one set, else its default. -/
def State.ob (s : State) (key : Nat) : Nat := (kget? s.dict.objs key).getD (objDefault key)

/-- Operating hours: those in flash at power-on and the hours since (R361). -/
def State.hours (s : State) : Nat :=
  s.ob Obj.operatingHours + (if s.edge.powered then (s.now - s.edge.bootAt) / 3600000000000 else 0)

/-- Capabilities of the pair: the AND of the two capability words (R413, Table 12-7); guest sites exist only on
SGN-IB9-2304-U. -/
def State.caps (s : State) : Nat :=
  s.edge.fuses0.caps &&& s.edge.fuses1.caps &&& (if s.edge.variantU then 0x1F else 0x0F)

/-- Is a capability present? Bits: 0 two-hop routing, 1 forest uplinks, 2 ballast, 3 pace matching, 4 guest sites. -/
def State.cap (s : State) (n : Nat) : Bool := s.caps / 2 ^ n % 2 == 1

/-- The value an object reads as: its off value when its capability is absent (R414). -/
def State.shown (s : State) (key : Nat) : Nat :=
  if (key == Obj.twoHop && !s.cap 0) || (key == Obj.steadyEnable && !s.cap 2) || (key == Obj.paceMatch && !s.cap 3) then 0
  else s.ob key

/-- Set an object. -/
def State.setOb (s : State) (key v : Nat) : State := { s with dict := { s.dict with objs := kset s.dict.objs key v } }

/-- An object takes its default again. -/
def State.clearOb (s : State) (key : Nat) : State := { s with dict := { s.dict with objs := kdel s.dict.objs key } }

/-- Add `n` to a counter. -/
def State.addOb (s : State) (key n : Nat) : State := s.setOb key (s.ob key + n)

/-- Count one event. -/
def State.bump (s : State) (key : Nat) : State := s.addOb key 1

/-- Bits of a status object set or cleared. -/
def State.setBit (s : State) (key bitNo : Nat) (v : Bool) : State :=
  let x := s.ob key
  let y := x - x / 2 ^ bitNo % 2 * 2 ^ bitNo
  s.setOb key (if v then y + 2 ^ bitNo else y)

/-! ## Rights (R378, Table 11-6) -/

/-- Table 11-6: may the role read objects of this index? -/
def tableRead (r : Role) (index : Nat) : Bool :=
  match r with
  | .host => true
  | .bmc => true
  | .tray => index / 0x1000 != 0xF
  | .peer => (decide (0x1000 ≤ index) && decide (index ≤ 0x1001)) || (decide (0x5000 ≤ index) && decide (index ≤ 0x5003))

/-- Table 11-6: may the role write objects of this index? -/
def tableWrite (r : Role) (index : Nat) : Bool :=
  let range := index / 0x1000
  match r with
  | .host => if range == 1 then decide (0x1F00 ≤ index) && decide (index ≤ 0x1F2F) else range != 0xA
  | .bmc => [2, 5, 8, 9, 0xF].contains range
  | .tray => [2, 5].contains range
  | .peer => index == 0x2050 || index == 0x7030

/-- Rights in force after the masks of R379 and the access kind (R378); that of `0x2050:01 LOAN` is "WO, peer" (Table 10-10). -/
def mayRead (r : Role) (row : ObjRow) : Bool := row.acc != .wo && tableRead r row.index

def mayWrite (s : State) (r : Role) (row : ObjRow) : Bool :=
  let masked := match r with
    | .bmc => s.ob Obj.bmcMask / 2 ^ (row.index / 0x1000) % 2 == 1
    | .tray => s.ob Obj.trayMask / 2 ^ (row.index / 0x1000) % 2 == 1
    | _ => true
  row.acc != .ro && tableWrite r row.index && masked && (row.index != 0x2050 || r == .peer)

end Sys2Proof.Machine
end

