-- ==== Sys2Proof/Machine/Records.lean ====
section
/-! DEFINITION. The layouts of records, descriptors and headers: packet header (Table 7-5), flit
and frame (R219, R227, R228), guest message (Table 12-10), vote and decision (Tables 6-1,
6-3), firebreak message (Table 8-3), error record and failure signature (Tables 8-6, 8-8), completion record (Table 5-5),
bad-block entry (Table 4-9), generation header and commit words (Tables 9-3, 9-4, 10-9), and the fields of table entries. -/

namespace Sys2Proof
open Sys2Proof.Machine

/-! ## Packets -/

/-- Bits [255:32] of the packet header, at their places (Table 7-5). -/
def Packet.headerBits (p : Packet) : Nat :=
  pack [(240, 16, p.dest), (224, 16, p.src), (223, 1, p.epoch), (220, 3, p.vc), (216, 4, p.kind), (196, 20, p.xfer),
    (180, 16, p.offset), (164, 16, p.total), (148, 16, p.plot), (132, 16, p.stepLo), (124, 8, p.pace), (123, 1, bit p.taint),
    (122, 1, bit p.sbCopy), (121, 1, bit p.hop), (109, 12, p.job), (104, 5, p.level), (91, 13, p.length), (43, 48, p.addr),
    (32, 11, p.arrival)]

/-- HCHECK: CRC-32C over bits [255:32] (R229), least significant byte first (R7). -/
def Packet.checkOf (p : Packet) : BitVec 32 := crc32c (bytesOf (p.headerBits / 2 ^ 32) 28)

/-- The packet with its HCHECK filled in. -/
def Packet.seal (p : Packet) : Packet := { p with hcheck := p.checkOf }

/-- Does HCHECK match (R230)? -/
def Packet.checkOk (p : Packet) : Bool := p.hcheck == p.checkOf

/-- Credits the packet takes on a hop (R231). -/
def Packet.credits (p : Packet) : Nat := min (ceilDiv (32 + p.length) 64) 65

/-- A packet from its bytes (Table 7-5). -/
def Packet.ofOctets (l : List Byte) : Packet :=
  let h := ofBytes (l.take 32)
  { dest := fld h 240 16, src := fld h 224 16, epoch := fld h 223 1, vc := fld h 220 3, kind := fld h 216 4, xfer := fld h 196 20
    offset := fld h 180 16, total := fld h 164 16, plot := fld h 148 16, stepLo := fld h 132 16, pace := fld h 124 8
    taint := fld h 123 1 == 1, sbCopy := fld h 122 1 == 1, hop := fld h 121 1 == 1, job := fld h 109 12, level := fld h 104 5
    length := fld h 91 13, addr := fld h 43 48, arrival := fld h 32 11, hcheck := BitVec.ofNat 32 h, payload := l.drop 32 }

/-- The packet's bytes: the header, least significant byte first (R229, R7), and the payload. -/
def Packet.octets (p : Packet) : List Byte := bytesOf (p.headerBits + p.hcheck.toNat) 32 ++ p.payload

/-! ## Flits -/

/-- The 64-bit flit header: the fields of R219 in the order it lists them, from the most significant bit on (PRESUMED, log
entry 96). -/
def Flit.header (f : Flit) : Nat :=
  let c := f.credits.getD 0 (0, 0)
  let d := f.credits.getD 1 (0, 0)
  pack [(52, 12, f.fseq), (40, 12, f.ackseq), (39, 1, bit f.nak), (37, 2, f.type), (34, 3, c.1), (26, 8, c.2), (23, 3, d.1),
    (15, 8, d.2)]

/-- The CRC of a flit: CRC-32C over its first 252 bytes (R219). -/
def Flit.check (f : Flit) : BitVec 32 := crc32c (bytesOf f.header 8 ++ f.data)

/-- The flit with its CRC filled in. -/
def Flit.seal (f : Flit) : Flit := { f with crc := f.check }

/-- The packets that end in a port's bytes, and the bytes of one that has only begun (R219). What follows the last packet of a flit
is zeros (DESIGN CHOICE, log entry 96). -/
def unpackBytes : Nat → List Byte → List Packet × List Byte
  | 0, l => ([], l)
  | n + 1, l =>
    let k := 32 + fld (ofBytes (l.take 32)) 91 13
    if l.length < 32 then ([], l)
    else if l.all (· == 0) then ([], [])
    else if l.length < k then ([], l)
    else
      let (ps, rest) := unpackBytes n (l.drop k)
      (Packet.ofOctets (l.take k) :: ps, rest)

/-- A port's bytes with those of one more flit. Fewer than 32 zeros that a flit ended with are a packet's first bytes only when its
HCHECK then is right (DESIGN CHOICE, log entry 96). -/
def joinFlit (rest data : List Byte) : List Byte :=
  if rest.all (· == 0) && !(Packet.ofOctets ((rest ++ data).take 32)).checkOk then data else rest ++ data

/-- What a packet carries that its header gives no place. -/
def Packet.withExtra (p : Packet) (q : Option Packet) : Packet := match q with
  | some q => { p with ctl := q.ctl, gen := q.gen, ofStep := q.ofStep }
  | none => p

/-- The packets a flit's data end, and the bytes left over. -/
def Flit.unpack (f : Flit) (rest : List Byte) : List Packet × List Byte :=
  let l := joinFlit rest f.data
  let (ps, left) := unpackBytes l.length l
  ((ps.zip (upto ps.length)).map (fun (p, i) => p.withExtra f.packets[i]?), left)

/-! ## Frames -/

/-- The 16 bytes of the path header, least significant byte first (R228, Table 7-4). -/
def Frame.pathHeader (f : Frame) : List Byte :=
  bytesOf (Machine.pack [(96, 32, f.pseq.toNat), (64, 32, f.pack.toNat), (48, 16, f.pcred), (40, 8, f.ptype)]) 16

/-- The bytes of a frame before its padding: the MAC header, most significant octet first (R7), the path header and the
packet. -/
def Frame.body (f : Frame) : List Byte :=
  (bytesOf f.dst.toNat 6).reverse ++ (bytesOf f.src.toNat 6).reverse ++
  (match f.tag with
    | some t => [0x81, 0x00] ++ (bytesOf t.toNat 2).reverse
    | none => []) ++
  (bytesOf f.etherType.toNat 2).reverse ++ f.pathHeader ++ ((f.packet.map Packet.octets).getD [])

/-- The frame without its FCS, and its size with it. -/
def Frame.octets (f : Frame) : List Byte := f.body ++ f.pad
def Frame.size (f : Frame) : Nat := f.octets.length + 4

/-- The FCS of a frame (R227). -/
def Frame.check (f : Frame) : BitVec 32 := crc32 f.octets

/-- The frame of a grant: its PCRED is the units granted. -/
def Frame.granting (f : Frame) (units : Nat) : Frame := { f with pcred := units }

/-- The frame padded to 64 bytes, with its FCS filled in. -/
def Frame.seal (f : Frame) : Frame :=
  let g := { f with pad := List.replicate (60 - f.body.length) 0 }
  { g with fcs := g.check }

end Sys2Proof

namespace Sys2Proof.Machine


/-! ## Guest messages -/

/-- The header of a guest message (Table 12-10), least significant byte first (R421). -/
def guestHeader (op tag addr length code : Nat) : List Byte :=
  bytesOf (pack [(124, 4, op), (116, 8, tag), (68, 48, addr), (55, 13, length), (47, 8, code)]) 16

/-! ## Dictionary messages (Table 11-3) -/

/-- Role code of Table 11-1. -/
def roleCode : Role → Nat
  | .host => 0 | .bmc => 1 | .tray => 2 | .peer => 3

/-- The message as bytes: header and data. -/
def msgBytes (m : DictMsg) (role status : Nat) : List Byte :=
  bytesOf (pack [(124, 4, m.version), (120, 4, m.op), (119, 1, bit m.resp), (116, 3, role), (115, 1, bit m.final),
    (96, 16, m.tag), (80, 16, m.index), (72, 8, m.sub), (64, 8, status), (32, 32, m.offset), (16, 16, m.data.length)]) 16 ++ m.data

/-- The MCTP header of a response: to the requester's endpoint, from the module's, with the message tag of the request (R369;
PRESUMED, log entry 130). -/
def mctpHeader (dest src tag : Nat) : List Byte := [0x01] ++ bytesOf dest 1 ++ bytesOf src 1 ++ bytesOf (0xC0 + tag % 8) 1

/-- An MCTP message of type 0x7F of the dictionary: the vendor-defined header with its enterprise number, and the class byte
0x01 (R369). The number goes most significant byte first, as DSP0236 has it (PRESUMED, log entry 104). -/
def mctpVendor (iana : Nat) (msg : List Byte) : List Byte := [0x7F] ++ (bytesOf iana 4).reverse ++ [0x01] ++ msg

/-- A frame of the tray field network: MAC addresses and EtherType most significant octet first, the class word 0x0001 least
significant byte first, and a dictionary message (R7, R370). -/
def trayFrame (dst src : BitVec 48) (etherType : Nat) (msg : List Byte) : List Byte :=
  (bytesOf dst.toNat 6).reverse ++ (bytesOf src.toNat 6).reverse ++ (bytesOf etherType 2).reverse ++ [0x01, 0x00] ++ msg

/-! ## Votes and decisions -/

/-- Table 6-1. -/
def Vote.toNat (v : Vote) : Nat :=
  pack [(208, 48, v.step), (196, 12, v.job), (192, 4, v.attempt), (175, 17, v.plots), (174, 1, bit v.overflow),
    (173, 1, bit v.taint), (172, 1, bit v.checksClosed), (171, 1, bit v.lossMismatch), (163, 8, v.pace),
    (128, 32, v.loss.toNat), (112, 16, v.taintSource)]

def Vote.ofNat (n : Nat) : Vote :=
  { step := fld n 208 48, job := fld n 196 12, attempt := fld n 192 4, plots := fld n 175 17,
    overflow := fld n 174 1 == 1, taint := fld n 173 1 == 1, checksClosed := fld n 172 1 == 1,
    lossMismatch := fld n 171 1 == 1, pace := fld n 163 8, loss := BitVec.ofNat 32 (fld n 128 32),
    taintSource := fld n 112 16 }

/-- Table 6-3. -/
def Decision.toNat (d : Decision) : Nat :=
  pack [(208, 48, d.step), (196, 12, d.job), (192, 4, d.attempt), (190, 2, d.decision), (182, 8, d.pace),
    (176, 6, d.lossScaleExp), (160, 16, d.taintSource), (128, 32, d.loss.toNat), (112, 16, d.cleanSteps)]

def Decision.ofNat (n : Nat) : Decision :=
  { step := fld n 208 48, job := fld n 196 12, attempt := fld n 192 4, decision := fld n 190 2, pace := fld n 182 8,
    lossScaleExp := fld n 176 6, taintSource := fld n 160 16, loss := BitVec.ofNat 32 (fld n 128 32),
    cleanSteps := fld n 112 16 }

/-! ## Firebreak messages (R282) -/

structure Firebreak where
  type : Nat
  step : Nat
  job : Nat
  attempt : Nat
  source : Nat
  reason : Nat := 0
  set : Nat := 0
  digest : Nat := 0
  deriving DecidableEq, Repr

def Firebreak.toNat (m : Firebreak) : Nat :=
  pack [(248, 8, m.type), (200, 48, m.step), (188, 12, m.job), (184, 4, m.attempt), (168, 16, m.source),
    (160, 8, m.reason), (144, 16, m.set), (0, 128, m.digest)]

def Firebreak.ofNat (n : Nat) : Firebreak :=
  { type := fld n 248 8, step := fld n 200 48, job := fld n 188 12, attempt := fld n 184 4, source := fld n 168 16,
    reason := fld n 160 8, set := fld n 144 16, digest := fld n 0 128 }

/-! ## Error records and failure signatures -/

/-- Table 8-6. -/
def ErrRec.toNat (r : ErrRec) : Nat :=
  pack [(480, 32, r.id), (416, 64, r.time), (400, 16, r.code), (397, 3, r.severity), (395, 2, r.level), (384, 8, r.stand),
    (380, 4, r.array), (372, 8, r.column), (366, 6, r.stack), (352, 12, r.job), (304, 48, r.step), (256, 48, r.address),
    (240, 16, r.handle), (208, 32, r.task), (200, 8, r.status), (196, 4, r.attempt), (128, 64, r.detail0),
    (64, 64, r.detail1), (32, 32, r.lost)]

/-- Severities of Table 8-7; 0x0705 has severity 4 at the floor and 0x070C that of the highest lost record, which their
senders give. -/
def severityOf (code : Nat) : Nat :=
  if [0x0101, 0x0102, 0x0104, 0x0203, 0x0205, 0x0703, 0x0704, 0x0705, 0x0706].contains code then 2
  else if [0x0303, 0x0401, 0x0402, 0x0403, 0x0404, 0x0708, 0x0709, 0x070A].contains code then 3
  else if [0x0601, 0x0602, 0x0603].contains code then 4
  else if code == 0x070B then 0 else 1

/-! ## Bad blocks -/

/-- Table 4-9. -/
def BadBlock.toNat (b : BadBlock) : Nat := pack [(192, 64, b.last), (128, 64, b.first), (64, 8, b.memory), (0, 48, b.addr)]

/-! ## Region table entries (Table 4-5) -/

abbrev Region := BitVec 256
namespace Region
def fieldAt (r : Region) (lo w : Nat) : Nat := fld r.toNat lo w
/-- first device address -/
def base (r : Region) : Nat := fieldAt r 224 32 * 65536
/-- bytes -/
def size (r : Region) : Nat := fieldAt r 192 32 * 65536
def job (r : Region) : Nat := fieldAt r 180 12
/-- 0 None, 1 Recompute, 2 Twin, 3 Seedbank -/
def cls (r : Region) : Nat := fieldAt r 178 2
def halfLocal (r : Region) : Bool := fieldAt r 177 1 == 1
def valid (r : Region) : Bool := fieldAt r 176 1 == 1
def twin0 (r : Region) : Nat := fieldAt r 160 16
def twin1 (r : Region) : Nat := fieldAt r 144 16
def twinBase (r : Region) : Nat := fieldAt r 112 32 * 65536
def bankSet (r : Region) : Nat := fieldAt r 96 16
def reserved (r : Region) : Nat := fieldAt r 0 96
/-- Does the entry cover this address? -/
def covers (r : Region) (a : Nat) : Bool := r.valid && decide (r.base ≤ a) && decide (a < r.base + r.size)
end Region

/-! ## Endpoint table entries (Table 7-8) -/

abbrev EpEntry := BitVec 128
namespace EpEntry
/-- 0 unreachable, 1 self, 2 grove, 3 forest -/
def route (e : EpEntry) : Nat := fld e.toNat 126 2
def port (e : EpEntry) : Nat := fld e.toNat 123 3
def uplinks (e : EpEntry) : Nat := fld e.toNat 121 2
def grove (e : EpEntry) : Nat := fld e.toNat 109 12
def mac (e : EpEntry) : Nat := fld e.toNat 48 48
end EpEntry

/-! ## Replica table entries (Table 8-5) -/

abbrev Replica := BitVec 128
namespace Replica
def set (e : Replica) : Nat := fld e.toNat 112 16
def plot (e : Replica) : Nat := fld e.toNat 96 16
def members (e : Replica) : Nat := fld e.toNat 88 8
def base (e : Replica) : Nat := fld e.toNat 48 32 * 65536
def size (e : Replica) : Nat := fld e.toNat 16 32 * 65536
def reserved (e : Replica) : Bool := fld e.toNat 80 8 != 0 || fld e.toNat 0 16 != 0
end Replica

/-! ## Seedbank set and fold-map entries (Tables 9-1, 9-2) -/

abbrev BankSet := BitVec 256
namespace BankSet
def set (e : BankSet) : Nat := fld e.toNat 240 16
def multiWrite (e : BankSet) : Bool := fld e.toNat 239 1 == 1
def reserved (e : BankSet) : Bool := fld e.toNat 224 15 != 0 || fld e.toNat 1 31 != 0
/-- size in 64 KiB bands -/
def size (e : BankSet) : Nat := fld e.toNat 192 32
def copyA (e : BankSet) : Nat := fld e.toNat 160 32 * 65536
def copyB (e : BankSet) : Nat := fld e.toNat 128 32 * 65536
def parityA (e : BankSet) : Nat := fld e.toNat 96 32 * 65536
def parityB (e : BankSet) : Nat := fld e.toNat 64 32 * 65536
def paritySize (e : BankSet) : Nat := fld e.toNat 32 32
def rides (e : BankSet) : Bool := fld e.toNat 0 1 == 1
/-- twin copy when at most 256 bands or MULTI_WRITE (R298) -/
def twin (e : BankSet) : Bool := decide (e.size ≤ 256) || e.multiWrite
/-- copy and parity area of generation g: slot A when g is odd (R308) -/
def copyOf (e : BankSet) (g : Nat) : Nat := if g % 2 == 1 then e.copyA else e.copyB
def parityOf (e : BankSet) (g : Nat) : Nat := if g % 2 == 1 then e.parityA else e.parityB
end BankSet

abbrev FoldEntry := BitVec 128
namespace FoldEntry
def source (e : FoldEntry) : Nat := fld e.toNat 112 16
def set (e : FoldEntry) : Nat := fld e.toNat 96 16
def base (e : FoldEntry) : Nat := fld e.toNat 64 32 * 65536
def size (e : FoldEntry) : Nat := fld e.toNat 32 32 * 65536
def offset (e : FoldEntry) : Nat := fld e.toNat 0 32
end FoldEntry

/-- Generation header (Table 9-3). -/
def genHeader (g step job scale clean set pos members size : Nat) (eps : List Nat) (crc : Nat) : Nat :=
  pack ([(480, 32, g), (432, 48, step), (420, 12, job), (414, 6, scale), (396, 16, clean), (368, 16, set), (360, 8, pos),
    (352, 8, members), (320, 32, size), (128, 64, crc)] ++ (eps.zip (upto 8)).map (fun (e, k) => (192 + 16 * k, 16, e)))

/-- Commit word (Table 9-4). -/
def commitWord (g loss decision : Nat) (check : BitVec 32) : Nat :=
  pack [(96, 32, g), (64, 32, loss), (62, 2, decision), (0, 32, check.toNat)]

/-! ## Task status codes (Table 5-6) -/

namespace Status
def ok : BitVec 8 := 0x00
def stepSkipped : BitVec 8 := 0x01
def stepTainted : BitVec 8 := 0x02
def stepNotCommitted : BitVec 8 := 0x03
def descriptorInvalid : BitVec 8 := 0x10
def operandFormat : BitVec 8 := 0x11
def shape : BitVec 8 := 0x12
def passLength : BitVec 8 := 0x13
def spillOverlap : BitVec 8 := 0x14
def badAddress : BitVec 8 := 0x15
def multicastExhausted : BitVec 8 := 0x16
def descriptorFetch : BitVec 8 := 0x17
def malformedSpillRecord : BitVec 8 := 0x20
def accumulatorRange : BitVec 8 := 0x21
def memoryError : BitVec 8 := 0x22
def stall : BitVec 8 := 0x23
def watchdog : BitVec 8 := 0x24
def standFenced : BitVec 8 := 0x25
def halfReset : BitVec 8 := 0x26
def fabricError : BitVec 8 := 0x27
def supplyShed : BitVec 8 := 0x28
def clearingTimeout : BitVec 8 := 0x29
def dependencyFailed : BitVec 8 := 0x30
def cancelled : BitVec 8 := 0x31

/-- Class outcome: 0x00 to 0x03. -/
def isOutcome (st : BitVec 8) : Bool := decide (st.toNat < 4)
/-- Class run: a task aborted while running; BAD_ADDRESS of a started task is of class run (R185). -/
def isRun (st : BitVec 8) (started : Bool) : Bool :=
  (decide (0x20 ≤ st.toNat) && decide (st.toNat ≤ 0x29)) || (st == badAddress && started)
/-- The Halts column. -/
def halts (st : BitVec 8) : Bool := !isOutcome st && st != multicastExhausted && st != cancelled
/-- The Retryable column; MEMORY_ERROR only under class None, which FAULT_DETAIL carries. -/
def retryable (st : BitVec 8) (detail : Nat) : Bool :=
  st == stall || st == standFenced || (st == memoryError && detail % 4 == 0)
/-- Refused at admission: counted in TASKS_REFUSED (R185). CANCELLED tasks were admitted. -/
def isRefusal (st : BitVec 8) (started : Bool) : Bool :=
  (decide (0x10 ≤ st.toNat) && decide (st.toNat ≤ 0x17) && !(st == badAddress && started)) || st == dependencyFailed
end Status

end Sys2Proof.Machine
end

