-- ==== Sys2Proof/Machine/Ops.lean ====
section
/-! DEFINITION. The named operations over the module's memories and registers: the address map and interleave (R111 to
R119), error records and failure signatures (R290 to R295), detected errors (R122 to R137), reads and writes of memory,
alerts, interrupts and packets to be sent. -/

namespace Sys2Proof.Machine

/-! ## Outputs -/

/-- Something leaves the module. -/
def State.emit (s : State) (o : Out) : State := { s with out := s.out ++ [o] }

/-- An entry of the MSI-X table. One that the host has not set masks its vector, as the PCI Express standard has it (R12; PRESUMED,
log entry 102). -/
def State.msixEntry (s : State) (vector : Nat) : BitVec 128 := kget s.edge.msixTable (1#128 <<< 96) vector

/-- Is a vector masked in the MSI-X table? -/
def State.msixMasked (s : State) (vector : Nat) : Bool := (s.msixEntry vector).getLsbD 96

/-- An answer on the I3C path: with an address assigned, an in-band interrupt says that it waits (R11; the mandatory byte 0xAE is
that of the MCTP binding, PRESUMED, log entry 130). -/
def State.answerI3c (s : State) (o : Out) : State := if s.edge.i3cAddr.isSome then (s.emit (.ibi 0xAE)).emit o else s.emit o

/-- An MSI-X message; none for vector 0xFFFF. While the host link is down it becomes a pending bit (Table 12-8). -/
def State.msix (s : State) (vector : Nat) : State :=
  if vector == 0xFFFF then s
  else if s.edge.hostLink && !s.msixMasked vector then s.emit (.msix vector)
  else { s with edge := { s.edge with msixPending := nins s.edge.msixPending vector } }

/-- ALERT_N is asserted for a cause (R396). -/
def State.raise (s : State) (a : Alert) : State :=
  if s.edge.alerts.contains a then s else { s with edge := { s.edge with alerts := s.edge.alerts ++ [a] } }

/-- A cause of ALERT_N no longer holds. -/
def State.calm (s : State) (a : Alert) : State :=
  { s with edge := { s.edge with alerts := s.edge.alerts.filter (· != a) } }

/-- FAULT_N is asserted for a cause (R396). -/
def State.faultN (s : State) (c : FaultCause) : State :=
  if s.edge.faults.contains c then s else { s with edge := { s.edge with faults := s.edge.faults ++ [c] } }

/-- A clock or an island has lock again (R395, R412). -/
def State.relock (s : State) (c : Nat) : State := { s with edge := { s.edge with unlocked := s.edge.unlocked.filter (· != c) } }

/-- This module's endpoint. -/
def State.me (s : State) : Nat := s.ob Obj.endpointId

/-- Supply shed level (R353, R354). -/
def State.shed (s : State) : Nat := s.ob Obj.shedLevel

/-- At supply shed levels 3 and 4 ports carry VC0 only and hold the credits of the other VCs (Table 10-7). -/
def State.vcHeld (s : State) (vc : Nat) : Bool := decide (3 ≤ s.shed) && vc != 0

/-- Is a periodic event due: its period has passed since it last occurred? 0 POWER_MODEL_TICK, 1 MODEL_CORRECTION_TICK,
2 RAIL_ADJUST_TICK, 3 THERMAL_LIMITER_TICK, 4 OUTLET_LIMITER_TICK, 5 SUPPLY_SAMPLE, 6 LOAN_AUDIT_TIMER, 7 STACK_ECS_POLL,
8 QUANTUM_BOUNDARY. -/
def State.due (s : State) (k period : Nat) : Bool :=
  match kget? s.power.ticks k with
  | some t => decide (t + period ≤ s.now)
  | none => true

/-- A periodic event occurs. -/
def State.ticked (s : State) (k : Nat) : State := { s with power := { s.power with ticks := kset s.power.ticks k s.now } }

/-- This module's MAC address (R228, R370). -/
def State.mac (s : State) : BitVec 48 := BitVec.ofNat 48 (s.ob 0x500004)

/-- A packet is formed and waits to be sent (R255 stamps it then). -/
def State.send (s : State) (p : Packet) : State := { s with fab := { s.fab with sendQ := s.fab.sendQ ++ [p] } }

/-! ## Free values -/

/-- `n` unspecified bytes (log entry 4). -/
def State.freeBytes (s : State) (n : Nat) : List Byte := (upto n).map (fun i => Config.freeByte (s.free + i))

/-- The state once they are drawn. -/
def State.drawn (s : State) (n : Nat) : State := { s with free := s.free + n }

/-! ## Address map -/

/-- What a device address reaches (Table 4-1). -/
inductive Place where
  | stack | under (half : Nat) | scratch (stand off : Nat) | guest (half : Nat) | control | unmapped
  deriving DecidableEq, Repr

/-- Table 4-1. An address of 0x8000_0000_0000 or above fits 48 bits and stands in no row of it: it is taken as unmapped
(DESIGN CHOICE, log entry 84). -/
def placeOf (a : Nat) : Place :=
  if a < 0x024000000000 then .stack
  else if a < 0x400000000000 then .unmapped
  else if a < 0x400034000000 then .under 0
  else if a < 0x400068000000 then .under 1
  else if a < 0x400100000000 then .unmapped
  else if a < 0x400118000000 then .scratch ((a - 0x400100000000) / 0x200000) ((a - 0x400100000000) % 0x200000)
  else if a < 0x500000000000 then .unmapped
  else if a < 0x501000000000 then .guest 0
  else if a < 0x502000000000 then .guest 1
  else if a < 0x7F0000000000 then .unmapped
  else if a < 0x800000000000 then .control
  else .unmapped

/-- Is the address in stack memory? -/
def isStack (a : Nat) : Bool := placeOf a == .stack

/-- First address of a stand's scratch. -/
def scratchBase (n : Nat) : Nat := 0x400100000000 + n * 0x200000

/-- The stand whose scratch an address is in. -/
def scratchStand (a : Nat) : Option Nat :=
  match placeOf a with
  | .scratch n _ => some n
  | _ => none

/-- The module-reserved areas of Table 4-2. -/
def reservedArea (a : Nat) : Bool :=
  (decide (0x023F00000000 ≤ a) && decide (a < 0x024000000000)) ||
  (decide (0x400032000000 ≤ a) && decide (a < 0x400034000000)) ||
  (decide (0x400066000000 ≤ a) && decide (a < 0x400068000000))

/-- The valid region entry that covers an address; entries never overlap (R128). -/
def State.regionAt (s : State) (a : Nat) : Option Region := s.mem.regions.find? (fun r => r.covers a)

/-- Does the address lie in half-local interleave, and where does its region begin and how many bands has it: the two
context save areas form one half-local region (R112). -/
def State.halfLocalAt (s : State) (a : Nat) : Option (Nat × Nat) :=
  if decide (0x023F00000000 ≤ a) && decide (a < 0x024000000000) then some (0x023F00000000, 65536)
  else match s.regionAt a with
    | some r => if r.halfLocal then some (r.base, r.size / 65536) else none
    | none => none

/-- f(B) = B[4:0] XOR B[9:5]. -/
def foldBand (b : Nat) : Nat := b % 32 ^^^ b / 32 % 32

/-- Global stack and local offset in whole-module interleave (R117). -/
def wholeLoc (a : Nat) : Nat × Nat :=
  let b := a / 65536
  ((a / 2048 % 32) ^^^ foldBand b, b * 2048 + a % 2048)

/-- Global stack and local offset in half-local interleave of a region at `base` with 2n bands (R118). -/
def halfLoc (base n a : Nat) : Nat × Nat :=
  let b := a / 65536
  let i := b - base / 65536
  let t := a / 2048 % 32
  let (l, u, home) := if i < n then (b, b + n, 0) else (b - n, b, 1)
  (16 * home + ((t % 16) ^^^ (foldBand l % 16)), (if t / 16 = 0 then l else u) * 2048 + a % 2048)

/-- Global stack and local offset of a stack address. -/
def State.stackLoc (s : State) (a : Nat) : Nat × Nat :=
  match s.halfLocalAt a with
  | some (base, bands) => halfLoc base (bands / 2) a
  | none => wholeLoc a

/-- Where a block lies, whatever the region table says: for a stack block its address word over 64, that is its global stack
and its local offset (R123); else its number. -/
def State.physBlock (s : State) (b : Nat) : Nat :=
  if isStack (b * 64) then (let (k, o) := s.stackLoc (b * 64); k * 2 ^ 31 + o / 64) else b

/-- Global stack of a block by `State.physBlock`. -/
def stackOfPhys (key : Nat) : Nat := key / 2 ^ 31

/-- The half an address is homed on. -/
def State.homeOf (s : State) (a : Nat) : Option Nat :=
  match placeOf a with
  | .stack => some ((s.stackLoc a).1 / 16)
  | .under h => some h
  | .scratch n _ => some (n / 96)
  | .guest h => some h
  | _ => none

/-- HALF_STATE 2: the half runs (Table 11-10). -/
def State.halfRuns (s : State) (h : Nat) : Bool := s.ob (Obj.halfState h) == 2

/-- The half stays in reset (R406). -/
def State.halfDead (s : State) (h : Nat) : Bool := s.edge.deadHalves.contains h

/-- A stand whose STAND_STATE is 2 or above is fenced (Table 8-9). -/
def State.fenced (s : State) (n : Nat) : Bool := decide (2 ≤ s.ob (Obj.standState n))

/-- The guest site is up (R419). -/
def State.guestUp (s : State) (site : Nat) : Bool := s.ob (Obj.guestLink site) % 4 == 2

/-- Is the address mapped, but for the rules of who asks (R113)? With a half that stays in reset only half-local regions homed on
the other are usable (R406). -/
def State.mapped (s : State) (a : Nat) : Bool :=
  match placeOf a with
  | .stack => s.edge.deadHalves.isEmpty || (match s.halfLocalAt a with
      | some (base, bands) => !s.halfDead ((halfLoc base (bands / 2) a).1 / 16)
      | none => false)
  | .under _ => s.edge.deadHalves.isEmpty
  | .scratch n _ => !s.fenced n && s.edge.deadHalves.isEmpty
  | .guest h => s.cap 4 && s.guestUp h && s.edge.deadHalves.isEmpty
  | .control | .unmapped => false

/-- Mapped for a task (R113). -/
def State.taskMapped (s : State) (a : Nat) : Bool := s.mapped a && !reservedArea a

/-- Mapped for a host access through BAR2 (R113, R407); the guest windows are not reached by the host (Table 4-1). -/
def State.hostMapped (s : State) (a : Nat) : Bool :=
  s.mapped a && !reservedArea a && (match placeOf a with
    | .guest _ => false
    | _ => match s.homeOf a with
      | some h => s.halfRuns h
      | none => false)

/-- Numbers of the 64 KiB bands that [a, a + n) meets. -/
def bandsOf (a n : Nat) : List Nat :=
  if n = 0 then [] else (upto ((a + n - 1) / 65536 - a / 65536 + 1)).map (· + a / 65536)

/-- Numbers of the 64-byte blocks that [a, a + n) meets. -/
def blocksOf (a n : Nat) : List Nat :=
  if n = 0 then [] else (upto ((a + n - 1) / 64 - a / 64 + 1)).map (· + a / 64)

/-- The first address and length of the part of [a, a + n) in block b. -/
def blockPart (a n b : Nat) : Nat × Nat :=
  let lo := max a (b * 64)
  (lo, min (a + n) (b * 64 + 64) - lo)

/-! ## Jobs -/

/-- The slot that holds a job ID (R149). -/
def State.slotOf (s : State) (job : Nat) : Option Nat :=
  if job < 4096 then (upto 16).find? (fun i => s.ob (Obj.jobSlotId i) == job) else none

/-- The job of a slot, if it holds one. -/
def State.jobOf (s : State) (slot : Nat) : Option Nat :=
  let j := s.ob (Obj.jobSlotId slot)
  if slot < 16 ∧ j < 4096 then some j else none

def State.job (s : State) (slot : Nat) : JobSt := kget s.jobs {} slot
def State.setJob (s : State) (slot : Nat) (j : JobSt) : State := { s with jobs := kset s.jobs slot j }
def State.modJob (s : State) (slot : Nat) (f : JobSt → JobSt) : State := s.setJob slot (f (s.job slot))
def State.stand (s : State) (n : Nat) : StandSt := kget s.stands {} n
def State.setStand (s : State) (n : Nat) (x : StandSt) : State := { s with stands := kset s.stands n x }
def State.modStand (s : State) (n : Nat) (f : StandSt → StandSt) : State := s.setStand n (f (s.stand n))

/-- Base and size in bytes of a job's range of every stand's scratch (R182). -/
def State.scratchRange (s : State) (slot : Nat) : Nat × Nat :=
  let v := s.ob (Obj.jobScratch slot)
  (fld v 8 8 * 65536, fld v 0 8 * 65536)

/-- JOB and rights of a guest site (R420). -/
def State.guestJob (s : State) (site : Nat) : Nat := fld (s.ob (Obj.guestRights site)) 20 12
def State.guestRight (s : State) (site bitNo : Nat) : Bool := fld (s.ob (Obj.guestRights site)) bitNo 1 == 1

/-- May a task of this job touch this address (R113, R115, R182, R420)? -/
def State.taskMay (s : State) (job : Nat) (write : Bool) (a : Nat) : Bool :=
  s.taskMapped a && (match placeOf a with
    | .stack | .under _ => match s.regionAt a with
      | some r => r.job == job
      | none => false
    | .scratch _ off => match s.slotOf job with
      | some slot => let (b, n) := s.scratchRange slot; decide (b ≤ off) && decide (off < b + n)
      | none => false
    | .guest h => s.guestJob h == job && s.guestRight h (if write then 1 else 0)
    | _ => false)

/-- The first address of [a, a + n) a task of the job may not touch, if any. Every rule of `taskMay` is the same over a
64 KiB band. -/
def State.firstRefused (s : State) (job : Nat) (write : Bool) (a n : Nat) : Option Nat :=
  ((bandsOf a n).map (fun b => max a (b * 65536))).find? (fun x => !s.taskMay job write x)

/-- May a peer's packet of the job touch all of [a, a + n) (R243, Table 4-1)? -/
def State.peerMay (s : State) (job a n : Nat) : Bool :=
  (bandsOf a n).all (fun b =>
    let x := max a (b * 65536)
    (match placeOf x with
      | .stack | .under _ => true
      | _ => false) && s.taskMapped x && ((s.regionAt x).map (fun r => r.job == job)).getD false)

/-! ## Error records -/

/-- The clock of error records and completion records: ns since the last power-on (R170, R290). -/
def State.clock (s : State) : Nat := s.now - s.edge.bootAt

/-- Queue of a half, and of the module. -/
def halfUnit (h : Nat) : Nat := 192 + h
def moduleUnit : Nat := 194

/-- A record of a code, with the severity of Table 8-7. -/
def errRec (code : Nat) : ErrRec := { code := code, severity := severityOf code, level := 2 }

/-- Level of a queue: 0 stand, 1 half, 2 module. -/
def levelOf (unit : Nat) : Nat := if unit < 192 then 0 else if unit < 194 then 1 else 2

/-- Lost counter of a queue (Table 8-9). -/
def lostCounter (unit : Nat) : Nat :=
  if unit < 192 then Obj.standRecordsLost unit else if unit < 194 then Obj.halfRecordsLost (unit - 192) else Obj.moduleRecordsLost

/-- Is it the overflow record that a level keeps for its own losses? One passed up from a lower level is a record like any
other (R294). -/
def ErrRec.isOverflow (r : ErrRec) (level : Nat) : Bool := r.code == 0x070C && r.level == level

/-- A record among others in the order of their timestamps (R36, Table 1-5). -/
def insRecord (r : ErrRec) : List ErrRec → List ErrRec
  | [] => [r]
  | x :: t => if r.time < x.time then r :: x :: t else x :: insRecord r t

/-- The oldest held record of severity 0 or 1 gives its place to a lost record of severity 4 (R294): the others with that
one, and the record lost instead. -/
def replaceLow (level : Nat) (l : List ErrRec) (r : ErrRec) : Option (List ErrRec × ErrRec) :=
  (l.find? (fun x => decide (x.severity ≤ 1) && !x.isOverflow level)).map (fun x => (insRecord r (l.erase x), x))

/-- A lost record: counted, and noted in the kept entry with the highest lost severity and the count (R294). -/
def State.loseRecord (s : State) (unit : Nat) (lost : ErrRec) (q : ErrQueue) : State :=
  let lv := levelOf unit
  let fresh := !q.records.any (·.isOverflow lv)
  let noted (o : ErrRec) : ErrRec := { o with severity := max o.severity lost.severity, detail0 := o.detail0 + 1 }
  let records := if fresh then
      insRecord { errRec 0x070C with id := s.fire.nextRecord, time := s.clock, level := lv, severity := lost.severity, detail0 := 1 } q.records
    else q.records.map (fun r => if r.isOverflow lv then noted r else r)
  let q' : ErrQueue := { records := records, lostSince := min (q.lostSince + 1) 0xFFFFFFFF }
  let s := { s with fire := { s.fire with
    queues := kset s.fire.queues unit q',
    nextRecord := if fresh then (s.fire.nextRecord + 1) % 2 ^ 32 else s.fire.nextRecord } }
  let s := s.bump (lostCounter unit)
  if unit == moduleUnit then (s.setOb Obj.errorOverflow 1).raise .queueOverflow else s

/-- Entries of a queue but the one kept for its own overflow record. -/
def ErrQueue.used (q : ErrQueue) (unit : Nat) : Nat := (q.records.filter (fun x => !x.isOverflow (levelOf unit))).length

/-- A record enters a queue: 63 entries, and one kept for the overflow record (R292, R294). -/
def State.enqueue (s : State) (unit : Nat) (r : ErrRec) : State :=
  let q := kget s.fire.queues {} unit
  if q.used unit < 63 then
    let own := r.level == levelOf unit
    let q' : ErrQueue := { records := insRecord (if own then { r with lost := q.lostSince } else r) q.records,
                           lostSince := if own then 0 else q.lostSince }
    { s with fire := { s.fire with queues := kset s.fire.queues unit q' } }
  else if r.severity == 4 then
    let own := r.level == levelOf unit
    match replaceLow (levelOf unit) q.records (if own then { r with lost := q.lostSince } else r) with
    | some (l, x) => s.loseRecord unit x { records := l, lostSince := if own then 0 else q.lostSince }
    | none => s.loseRecord unit r q
  else s.loseRecord unit r q

/-- The set points of Table 1-3: rail in mV, beat rate at Tj 95 °C in M beats/s (R25). -/
def setPoints : List (Nat × Nat) := [(550, 850), (600, 1050), (720, 1500), (850, 1850)]

/-- Beat rate at Tj 95 °C (R25): that of Table 1-3 at a set point; between two of them a free value that they bound (log
entry 81). -/
def railRate (mv : Nat) : Nat :=
  match (setPoints.filter (fun x => x.1 ≤ mv)).getLast?, setPoints.find? (fun x => mv ≤ x.1) with
  | some (_, lo), some (_, hi) => max lo (min hi (Config.beatRate mv))
  | none, some (_, hi) => hi
  | some (_, lo), none => lo
  | none, none => 0

/-- Beat rate in M beats/s at a rail in mV and a junction temperature in 0.1 °C: 0.1 % more for each K between 40 and 105 °C
(R25, R26). -/
def beatRate (mv : Nat) (tj : Int) : Nat := railRate mv * (10000 + (max 400 (min tj 1050)) - 950).toNat / 10000

/-- Stepping of the stand's half, by its fuses (R413). -/
def State.fuses (s : State) (h : Nat) : Fuses := if h == 0 then s.edge.fuses0 else s.edge.fuses1

/-- The section body of a record's failure signature (Table 8-8). -/
def State.cperOf (s : State) (r : ErrRec) (info : SigInfo) : BitVec 640 :=
  let half := if r.stand < 192 then r.stand / 96 else s.ob Obj.gladeActive
  let st := s.stand r.stand
  let tj := s.ob Obj.tjMax
  BitVec.ofNat 640 (pack [(608, 32, r.id), (592, 16, r.code), (584, 8, r.stand), (580, 4, r.array), (568, 8, r.column),
    (560, 8, (s.fuses half).stepping), (556, 4, info.mode), (539, 13, info.m), (526, 13, info.n), (513, 13, info.k),
    (512, 1, bit info.folded), (448, 64, info.hash), (384, 64, info.suspect), (320, 64, info.majority), (304, 16, st.rail),
    (288, 16, tj), (272, 16, s.ob (Obj.slowdown r.stand)), (256, 16, beatRate st.rail (toInt32 tj)),
    (240, 16, s.me), (192, 48, r.step), (160, 32, s.hours)])

/-- CPER severity of a record: 1 fatal for 4, 0 recoverable for 2 and 3, 2 corrected otherwise (R295; the codes are those of
UEFI Appendix N, log entry 82). -/
def cperSeverity (severity : Nat) : Nat := if severity == 4 then 1 else if severity == 2 || severity == 3 then 0 else 2

/-- The section type: GUID 3B1E9A40-7C25-4F8D-A6E1-5D0C72B49F18 in the byte order of a UEFI GUID (R295). -/
def cperSection : List Byte := bytesOf 0x3B1E9A40 4 ++ bytesOf 0x7C25 2 ++ bytesOf 0x4F8D 2 ++ (bytesOf 0xA6E15D0C72B49F18 8).reverse

/-- A failure signature as a UEFI Common Platform Error Record with one section (R11, R295): header, section descriptor and
body, 280 bytes. The fields R295 does not complete are 0 and not marked valid, and the identifiers of the creator and of the
notification are free (PRESUMED layout of UEFI Appendix N, log entry 82). -/
def Cper.bytes (c : Cper) : List Byte :=
  -- "CPER", revision, signature end, section count, severity, validation bits, length
  bytesOf 0x52455043 4 ++ bytesOf 0x0101 2 ++ bytesOf 0xFFFFFFFF 4 ++ bytesOf 1 2 ++ bytesOf c.severity 4 ++ bytesOf 0 4 ++ bytesOf 280 4 ++
  -- timestamp, platform, partition, creator, notification type, record ID, flags, persistence, reserved
  bytesOf 0 8 ++ bytesOf 0 16 ++ bytesOf 0 16 ++ bytesOf Config.cperCreator.toNat 16 ++ bytesOf Config.cperNotify.toNat 16 ++
  bytesOf c.id 8 ++ bytesOf 0 4 ++ bytesOf 0 8 ++ bytesOf 0 12 ++
  -- section offset, length, revision, validation bits, reserved, flags, type, FRU ID, severity, FRU text
  bytesOf 200 4 ++ bytesOf 80 4 ++ bytesOf 0x0100 2 ++ bytesOf 0 1 ++ bytesOf 0 1 ++ bytesOf 0 4 ++ cperSection ++ bytesOf 0 16 ++
  bytesOf c.severity 4 ++ bytesOf 0 20 ++ bytesOf c.body.toNat 80

/-- The signature is held, or lost when 256 are held (R295). -/
def State.sign (s : State) (r : ErrRec) (info : SigInfo) : State :=
  if (decide (0x0701 ≤ r.code) && decide (r.code ≤ 0x070A)) || r.code == 0x0204 then
    if s.fire.cpers.length < 256 then
      { s with fire := { s.fire with cpers := s.fire.cpers ++ [⟨r.id, cperSeverity r.severity, s.cperOf r info⟩] } }
    else s.bump Obj.cperLost
  else s

/-- Log an error record in the queue of its origin (R290, R292), with its failure signature (R295). -/
def State.logAt (s : State) (unit : Nat) (r : ErrRec) (info : SigInfo := {}) : State :=
  let r := { r with id := s.fire.nextRecord, time := s.clock, level := levelOf unit }
  let s := { s with fire := { s.fire with nextRecord := (s.fire.nextRecord + 1) % 2 ^ 32 } }
  (s.enqueue unit r).sign r info

/-- The ID the next record will take. -/
def State.nextRec (s : State) : Nat := s.fire.nextRecord

/-- Log a record of the module's own. -/
def State.log (s : State) (r : ErrRec) : State := s.logAt moduleUnit r

/-- Log a record of a stand. -/
def State.logStand (s : State) (n : Nat) (r : ErrRec) (info : SigInfo := {}) : State :=
  s.logAt n { r with stand := n } info

/-- Log a record of a half. -/
def State.logHalf (s : State) (h : Nat) (r : ErrRec) : State := s.logAt (halfUnit h) r

/-- An unmapped access is counted and logged (R114). -/
def State.unmappedAccess (s : State) (a : Nat) (r : ErrRec := errRec 0x0205) : State :=
  (s.bump Obj.unmappedAccesses).log { r with code := 0x0205, severity := 2, address := a % 2 ^ 48 }

/-! ## Memory -/

/-- One byte of memory; a byte nothing has written reads 0 (DESIGN CHOICE, log entry 3). -/
def State.byteAt (s : State) (a : Nat) : Byte := kget s.mem.cells 0 a

/-- The bytes of [a, a + n). -/
def State.bytesAt (s : State) (a n : Nat) : List Byte := (upto n).map (fun i => s.byteAt (a + i))

/-- The number in [a, a + n), least significant byte first (R7). -/
def State.numAt (s : State) (a n : Nat) : Nat := ofBytes (s.bytesAt a n)

/-- One byte stored in the canonical list. -/
def cellPut (c : List Host.Cell) (a : Nat) (v : Byte) : List Host.Cell := if v = 0 then kdel c a else kset c a v

/-- Bytes stored from an address on. -/
def cellsWrite (c : List Host.Cell) (a : Nat) : List Byte → List Host.Cell
  | [] => c
  | v :: t => cellsWrite (cellPut c a v) (a + 1) t

/-- Keys strictly rising. -/
def rising {α : Type} : KMap α → Bool
  | [] => true
  | [_] => true
  | (a, _) :: (b, w) :: t => decide (a < b) && rising ((b, w) :: t)

/-- The canonical form of memory: rising addresses, and no entry equal to what an unlisted address reads as. -/
def Memory.wf (c : List Host.Cell) : Bool := rising c && c.all (fun x => x.2 != 0)

/-- How a check fails (R123, R124). -/
inductive BadKind where
  | stackCheck | parity | line
  deriving DecidableEq, Repr

/-- The check of a stack block that lies at `State.physBlock` key and holds these bytes: CRC-32C over the data and the address
word (R123). -/
def stackCheck (key : Nat) (data : List Byte) : BitVec 32 := crc32c (data ++ bytesOf (key * 64) 8)

/-- The check of an SRAM line (R124). -/
def lineCheck (b : Nat) (data : List Byte) : BitVec 16 := crc16 (data ++ bytesOf (b * 64) 8)

/-- Numbers of the 32-bit words that [lo, lo + len) meets. -/
def wordsOf (lo len : Nat) : List Nat := (upto ((lo + len - 1) / 4 - lo / 4 + 1)).map (· + lo / 4)

/-- The detected error of an access to bytes [lo, lo + len) of block b, if any (R123 to R126). -/
def State.blockFault (s : State) (b lo len : Nat) : Option BadKind :=
  if s.mem.okBlocks.contains b then
    if len = 64 || s.mem.badWords.isEmpty || (wordsOf lo len).all (fun w => !s.mem.badWords.contains w) then none else some .parity
  else if isStack (b * 64) then some .stackCheck
  else if len = 64 then some .line
  else if (wordsOf lo len).all (fun w => s.mem.okWords.contains w) then none
  else some .parity

/-- Is the block pending repair (R138)? -/
def State.pendingRepair (s : State) (b : Nat) : Bool := s.mem.repairs.any (fun r => r.block == b)

/-- Why a read of bytes [lo, lo + len) of block b is not served: a repair in progress, which every reader joins, or a detected
error (R126, R138). -/
def State.readBad (s : State) (b lo len : Nat) : Option BadKind :=
  if s.pendingRepair b then some (if isStack (b * 64) then .stackCheck else .line) else s.blockFault b lo len

/-- Has a reader all of [a, a + n) already? -/
def hasRead (l : List MemWrite) (a n : Nat) : Bool := l.any (fun w => decide (w.addr ≤ a) && decide (a + n ≤ w.addr + w.data.length))

/-- The first block of [a, a + n) whose read is not served, and why, for a reader that has read `early` already. -/
def State.unreadFault (s : State) (early : List MemWrite) (a n : Nat) : Option (Nat × BadKind) :=
  (blocksOf a n).findSome? (fun b =>
    let (lo, len) := blockPart a n b
    if hasRead early lo len then none else (s.readBad b lo len).map (fun k => (b, k)))

/-- The first block of [a, a + n) whose read is not served, and why. -/
def State.firstFault (s : State) (a n : Nat) : Option (Nat × BadKind) := s.unreadFault [] a n

/-- The recovery class of the region holding a block (R131, R132): 0 None, 1 Recompute, 2 Twin, 3 Seedbank. -/
def State.classOf (s : State) (b : Nat) : Nat := ((s.regionAt (b * 64)).map (·.cls)).getD 0

/-- MEMORY of Table 4-9 for a block. -/
def memoryNo (b : Nat) : Nat :=
  match placeOf (b * 64) with
  | .stack => 0
  | .under _ => if reservedArea (b * 64) then 3 else 1
  | .scratch _ _ => 2
  | _ => 3

/-- Is a block in the bad-block list? -/
def State.listed (s : State) (b : Nat) : Bool := s.mem.badBlocks.any (fun x => x.key == s.physBlock b)

/-- A detection at a block enters it in the bad-block list, with FIRST the time of that detection (DESIGN CHOICE, log entry 115), or
updates its LAST field (R142, R435). A full list loses the
entry, which is counted and escalates as a lost error record of the module does (R142, R294). -/
def State.listBad (s : State) (b : Nat) : State :=
  let key := s.physBlock b
  if s.listed b then
    { s with mem := { s.mem with badBlocks := s.mem.badBlocks.map (fun x => if x.key == key then { x with last := s.clock } else x) } }
  else if s.mem.badBlocks.length < 4096 then
    { s with mem := { s.mem with badBlocks := s.mem.badBlocks ++ [⟨b * 64, memoryNo b, s.clock, s.clock, key⟩] } }
  else { s with mem := { s.mem with badLost := s.mem.badLost + 1 } }.loseRecord moduleUnit (errRec 0x0204) (kget s.fire.queues {} moduleUnit)

/-- Unit whose queue takes a memory record: the stand of a scratch line, else the half. -/
def State.memUnit (s : State) (b : Nat) : Nat :=
  match placeOf (b * 64) with
  | .scratch n _ => n
  | _ => halfUnit ((s.homeOf (b * 64)).getD 0)

/-- A new fence, array fence or bypass is decided on a stand; it takes effect once the stand holds no running task (R93,
R278). `fence` and `bypass` are masks of ARRAY_FENCE and BYPASSED_COLUMNS, `state` a STAND_STATE of 2 or above or 0. -/
def State.decideStand (s : State) (n fence bypass state : Nat) : State :=
  s.modStand n (fun x => { x with
    pendFence := x.pendFence ||| fence
    pendBypass := x.pendBypass ||| bypass
    pendState := if x.pendState == 0 then state else x.pendState })

/-- Bytes change, without regard to checks. -/
def State.poke (s : State) (a : Nat) (data : List Byte) : State :=
  { s with mem := { s.mem with cells := cellsWrite s.mem.cells a data } }

/-- The bands of [a, a + n) count as written (R302). -/
def State.soil (s : State) (a n : Nat) : State :=
  { s with bank := { s.bank with
    dirty := (bandsOf a n).foldl (fun m b => kset m b (s.bank.stores + 1)) s.bank.dirty
    stores := s.bank.stores + 1 } }

/-- Bytes are stored, without regard to checks; the bands they lie in count as written (R302). -/
def State.store (s : State) (a : Nat) (data : List Byte) : State := (s.poke a data).soil a data.length

/-- A block's check and the parity of its words are right. -/
def MemSt.good (m : MemSt) (b : Nat) : MemSt :=
  { m with
    okBlocks := nins m.okBlocks b
    okWords := m.okWords.filter (fun w => w / 16 != b)
    badWords := m.badWords.filter (fun w => w / 16 != b) }

/-- A block's check fails, and so does the parity of its words but for those listed. -/
def MemSt.bad (m : MemSt) (b : Nat) (words : List Nat) : MemSt :=
  { m with
    okBlocks := m.okBlocks.filter (· != b)
    okWords := words.foldl nins (m.okWords.filter (fun w => w / 16 != b))
    badWords := m.badWords.filter (fun w => w / 16 != b) }

/-- The error at a block, by `State.physBlock`, has been put right (R137). -/
def MemSt.heal (m : MemSt) (key now : Nat) : MemSt :=
  { m with
    errored := m.errored.filter (· != key)
    healed := if m.errored.contains key then kset m.healed key now else m.healed }

/-- A block's check and its error are put right, and its repair is over. -/
def State.healBlock (s : State) (b : Nat) : State :=
  let key := s.physBlock b
  let m := (s.mem.good b).heal key s.now
  { s with mem := { m with
    badBlocks := if m.rowRepairs.contains key then m.badBlocks else m.badBlocks.filter (fun x => x.key != key)
    repairs := m.repairs.filter (fun r => r.block != b) } }

/-- A host read takes the bytes of a block that it waited for, and completes with the last of them (R120, R138, R139). -/
def State.hostReadOn (s : State) (id b : Nat) : State :=
  match s.mem.reads.find? (fun r => r.id == id) with
  | none => s
  | some r =>
    let (lo, len) := blockPart r.addr r.data.length b
    let data := r.data.take (lo - r.addr) ++ s.bytesAt lo len ++ r.data.drop (lo - r.addr + len)
    let waits := r.waits.filter (· != b)
    let rest := s.mem.reads.filter (fun x => x.id != id)
    if waits.isEmpty then { s with mem := { s.mem with reads := rest } }.emit (.readData data false)
    else { s with mem := { s.mem with reads := rest ++ [{ r with data := data, waits := waits }] } }

/-- A waiting task takes a block as it stands at the task's turn (R120, R138). -/
def State.giveTask (s : State) (uid : Nat) (id : BitVec 32) (b : Nat) : State :=
  { s with chan := { s.chan with tasks := s.chan.tasks.map (fun t =>
    if t.uid == uid && t.id == id then { t with early := t.early ++ [⟨b * 64, s.bytesAt (b * 64) 64⟩] } else t) } }

/-- A waiting descriptor fetch takes a block as it stands at its turn (R120, R138). -/
def State.giveFetch (s : State) (uid b : Nat) : State :=
  { s with chan := { s.chan with chans := s.chan.chans.map (fun x =>
    if x.2.uid == uid then (x.1, { x.2 with early := x.2.early ++ [⟨b * 64, s.bytesAt (b * 64) 64⟩] }) else x) } }

/-- A task that waited for repairs waits for none any more: its watchdog runs on (R178). -/
def State.unpause (s : State) (w : Nat × BitVec 32) : State :=
  if s.mem.repairs.any (fun r => r.waiters.contains w) then s
  else { s with chan := { s.chan with tasks := s.chan.tasks.map (fun t =>
    if (t.uid, t.id) == w && t.phase == .held then
      { t with startAt := t.startAt + (s.now - t.pausedAt.getD s.now), pausedAt := none } else t) } }

/-- A live copy that begins to arrive: the twin keeps its generation and step (R301). -/
def State.noteCopy (s : State) (p : Packet) : State :=
  match p.gen with
  | some g =>
    let base := p.addr - 4096 * p.offset
    let same (c : TwinCopy) : Bool := c.base == base && c.slot == 0 && c.step == p.ofStep && c.left != 0
    if p.kind != 1 then s
    else if s.bank.copies.any same then
      { s with bank := { s.bank with copies := s.bank.copies.map (fun c => if same c then { c with left := c.left - 1 } else c) } }
    else
      let l := s.bank.copies.filter (fun c => !(c.slot == 0 && overlaps c.base c.size base (p.total * 4096)))
      { s with bank := { s.bank with copies := l ++ [⟨base, p.total * 4096, 0, g, p.ofStep, p.total - 1⟩] } }
  | none => s

/-- An incoming transfer is no longer tracked (R241, R243). -/
def State.dropIn (s : State) (src xfer : Nat) : State :=
  { s with fab := { s.fab with inXfers := s.fab.inXfers.filter (fun x => !(x.src == src && x.xfer == xfer)) } }

/-- A transfer in progress is answered with ERROR and ends (R243). -/
def State.endIn (s : State) (x : InXfer) (code : Nat) : State :=
  (s.send { dest := x.src, src := s.me, vc := 2, kind := 6, xfer := x.xfer, total := x.total, job := x.job, length := 8,
            payload := bytesOf code 8 }).dropIn x.src x.xfer

/-- The same, by the transfer's source and ID. -/
def State.endXfer (s : State) (src xfer code : Nat) : State :=
  match s.fab.inXfers.find? (fun x => x.src == src && x.xfer == xfer) with
  | some x => s.endIn x code
  | none => s

/-- A complete transfer is answered with DONE (R241). -/
def State.sendDone (s : State) (src xfer : Nat) : State :=
  match s.fab.inXfers.find? (fun x => x.src == src && x.xfer == xfer) with
  | some x => (s.dropIn src xfer).send
      { dest := src, src := s.me, vc := 2, kind := 4, xfer := xfer, total := x.total, job := x.job }
  | none => s

/-- One more packet of an incoming transfer has been written (R241). -/
def State.countIn (s : State) (p : Packet) : State :=
  { s with fab := { s.fab with inXfers := s.fab.inXfers.map (fun x =>
      if x.src == p.src && x.xfer == p.xfer then { x with count := x.count + 1 } else x) } }

/-- The peers' packets of which some part waits for a repair, each once. -/
def State.waitingPackets (s : State) : List Packet :=
  (s.mem.repairs.flatMap (fun r => r.accesses.filterMap (fun x => match x with
    | .peer p _ _ => some p
    | _ => none))).foldl (fun l p => if l.contains p then l else l ++ [p]) []

/-- Does part of a peer's packet still wait for a repair? -/
def State.partWaits (s : State) (p : Packet) : Bool :=
  s.mem.repairs.any (fun r => r.accesses.any (fun x => match x with
    | .peer q _ _ => q == p
    | _ => false))

/-- An access that waited for block b is made. Where a full write has cancelled the repair (`over`), what an earlier write
would have stored is overwritten already. -/
def State.access (s : State) (b : Nat) (full : Bool) (x : BlockAccess) : State :=
  let put (a : Nat) (l : List Byte) : State := if full then s else s.store a l
  match x with
  | .hostRead id => s.hostReadOn id b
  | .task uid id => s.giveTask uid id b
  | .fetch uid => s.giveFetch uid b
  | .hostWrite a l | .ownWrite a l => put a l
  | .arrival a src xfer => (put a (bytesOf ((s.numAt a 8 + 1) % 2 ^ 64) 8)).sendDone src xfer
  | .peer p a l => let s := put a l; if s.partWaits p then s else (s.noteCopy p).countIn p

/-- A block is mended: by a repair, or (`over`) by a full rewrite after an error, which cancels a repair (R137, R138, R142).
What waited for it is done in the order it came (R120), and the watchdogs of its readers run on (R178). Reads that waited when a full write cancels the repair receive the
written data, since R138 gives them no other (DESIGN CHOICE, log entry 85). -/
def State.mended (s : State) (b : Nat) (full : Bool) : State :=
  match s.mem.repairs.find? (fun r => r.block == b) with
  | none => s.healBlock b
  | some r =>
    let s := s.healBlock b
    let s := { s with fab := { s.fab with outXfers := s.fab.outXfers.filter (fun o => o.use != .repair b) } }
    r.waiters.foldl State.unpause (r.accesses.foldl (fun s x => s.access b full x) s)

/-- Why a write of `len` bytes at `lo` to block b is not performed: a repair in progress, or a detected error of the read that
it needs, of the whole stack block or of the rest of an SRAM line whose check passes (R122, R124, R138). -/
def State.writeBad (s : State) (b lo len : Nat) : Option BadKind :=
  let words := wordsOf lo len
  if len = 64 then none
  else if s.pendingRepair b then some (if isStack (b * 64) then .stackCheck else .line)
  else if s.mem.okBlocks.contains b then
    if s.mem.badWords.any (fun w => w / 16 == b && !words.contains w) then some .parity else none
  else if isStack (b * 64) then some .stackCheck
  else none

/-- A write to part or all of one block (R122, R124, R125, R138): performed, or not. An SRAM word of which a part is written counts as
written, its other bytes unread (DESIGN CHOICE, log entry 62). -/
def State.writeBlock (s : State) (b lo : Nat) (data : List Byte) : State × Bool :=
  if data.length = 64 then ((s.store lo data).mended b true, true)
  else if (s.writeBad b lo data.length).isSome then (s, false)
  else
    let words := wordsOf lo data.length
    let s := s.store lo data
    let ok := s.mem.okBlocks.contains b
    ({ s with mem := { s.mem with
      okWords := if ok then s.mem.okWords else words.foldl nins s.mem.okWords
      badWords := if ok then s.mem.badWords.filter (fun w => !words.contains w) else s.mem.badWords } }, true)

/-- A write of bytes from an address on, block by block; the blocks whose part was not performed. -/
def State.writeRange (s : State) (a : Nat) (data : List Byte) : State × List Nat :=
  (blocksOf a data.length).foldl (fun (acc : State × List Nat) b =>
    let (lo, len) := blockPart a data.length b
    let (s', done) := acc.1.writeBlock b lo ((data.drop (lo - a)).take len)
    (s', if done then acc.2 else acc.2 ++ [b])) (s, [])

/-- Several writes. -/
def State.writeAll (s : State) (ws : List MemWrite) : State × List Nat :=
  ws.foldl (fun acc w => let (s', bad) := acc.1.writeRange w.addr w.data; (s', acc.2 ++ bad)) (s, [])

/-- The module's own write of whole blocks, or of data whose blocks it has checked. -/
def State.put (s : State) (a : Nat) (data : List Byte) : State := (s.writeRange a data).1

/-- A write to host memory (R159, R170). -/
def State.hostWrite (s : State) (a : Nat) (data : List Byte) : State := s.emit (.hostWrite a data)

/-! ## Transfers -/

/-- The next transfer ID that is not outstanding (R244), among the first `n` from the counter on. -/
def nextXferFrom (busy : List OutXfer) : Nat → Nat → Nat
  | 0, x => x
  | n + 1, x => if busy.any (fun o => o.xfer == x) then nextXferFrom busy n ((x + 1) % 2 ^ 20) else x

/-- Allocate a transfer ID (R244). -/
def State.allocXfer (s : State) : Nat × State :=
  let x := nextXferFrom s.fab.outXfers s.fab.outXfers.length (s.fab.nextXfer % 2 ^ 20)
  (x, { s with fab := { s.fab with nextXfer := (x + 1) % 2 ^ 20 } })

/-- Does an outgoing transfer belong to a FABRIC task? -/
def OutXfer.ofTask (o : OutXfer) : Bool := match o.use with
  | .task _ _ => true
  | _ => false

/-- Is an outgoing entry free: of 65,536, of which tasks may hold all but the 1,024 kept for repairs and the seedbank (R244)? -/
def State.xferRoom (s : State) (own : Bool) : Bool :=
  decide (s.fab.outXfers.length < 65536) && (own || decide ((s.fab.outXfers.filter OutXfer.ofTask).length < 64512))

/-- An outgoing transfer is tracked. -/
def State.track (s : State) (o : OutXfer) : State := { s with fab := { s.fab with outXfers := s.fab.outXfers ++ [o] } }

/-- A READ_REQ for 64 bytes at a peer, with its generation (R135, R136, Table 7-6). -/
def readReq (s : State) (xfer dest addr job gen : Nat) : Packet :=
  { dest := dest, src := s.me, vc := 1, kind := 2, xfer := xfer, job := job, length := 64, addr := addr, gen := some gen }

/-- A response to a packet: it takes no part in a transfer of its own (Table 7-6). -/
def State.answer (s : State) (p : Packet) (kind : Nat) (payload : List Byte) : State :=
  s.send { dest := p.src, src := s.me, vc := 2, kind := kind, xfer := p.xfer, offset := p.offset, total := p.total,
           plot := p.plot, stepLo := p.stepLo, job := p.job, level := p.level, length := payload.length, payload := payload }

/-- ERROR with its code (Table 7-6). -/
def State.answerError (s : State) (p : Packet) (code : Nat) : State := s.answer p 6 (bytesOf code 8)

/-! ## Plot tables -/

/-- The table version of the injection epoch (R253, R255). -/
def State.epoch (s : State) : Nat := s.ob Obj.epochActive

/-- The endpoint table entry of an epoch. -/
def State.epEntry (s : State) (epoch ep : Nat) : EpEntry :=
  ((if epoch == 0 then kget? s.fab.ept0 ep else kget? s.fab.ept1 ep)).getD 0

/-- The plot table of a slot in an epoch. -/
def State.plotTable (s : State) (epoch slot : Nat) : List Nat :=
  kget (if epoch == 0 then s.fab.plots0 else s.fab.plots1) [] slot

/-- The plots of the slot's job: the first PLOT_COUNT entries, of the old table while a change is held (R204). -/
def State.plots (s : State) (slot : Nat) : List Nat :=
  (((s.job slot).plotsHeld).getD (s.plotTable s.epoch slot)).take (s.ob (Obj.plotCount slot))

/-- Endpoints of a list, each once, in order of first appearance. -/
def dedup (l : List Nat) : List Nat := l.foldl (fun acc x => if acc.contains x then acc else acc ++ [x]) []

/-- The other modules named in the job's plot table. -/
def State.jobPeers (s : State) (slot : Nat) : List Nat := dedup ((s.plots slot).filter (· != s.me))

end Sys2Proof.Machine
end

