-- ==== Sys2Proof/Machine/Operands.lean ====
section
/-! DEFINITION. The task descriptor (R159, Table 5-3) and its operands: formats, record form, layouts and strides (R433,
R434), and the declared input and output ranges of each kind of task. -/

namespace Sys2Proof.Machine

/-- A task descriptor. -/
abbrev Desc := BitVec 1024

/-- A field of the descriptor (Table 5-3). -/
def dfld (d : Desc) (lo w : Nat) : Nat := fld d.toNat lo w

namespace D
def kind (d : Desc) : Nat := dfld d 1020 4
def irq (d : Desc) : Bool := dfld d 1019 1 == 1
def stepped (d : Desc) : Bool := dfld d 1018 1 == 1
def optimiser (d : Desc) : Bool := dfld d 1017 1 == 1
def serial (d : Desc) : Bool := dfld d 1016 1 == 1
def earlyB (d : Desc) : Bool := dfld d 1015 1 == 1
def stand (d : Desc) : Nat := dfld d 1000 8
def taskId (d : Desc) : BitVec 32 := BitVec.ofNat 32 (dfld d 960 32)
def step (d : Desc) : Nat := dfld d 912 48
def pass (d : Desc) : Nat := dfld d 896 16
def tensor (d : Desc) : Nat := dfld d 872 24
def fmtA (d : Desc) : Nat := dfld d 868 4
def fmtB (d : Desc) : Nat := dfld d 864 4
def fmtC (d : Desc) : Nat := dfld d 860 4
def fmtOut (d : Desc) : Nat := dfld d 856 4
def rmode (d : Desc) : Nat := dfld d 854 2
def sat (d : Desc) : Bool := dfld d 853 1 == 1
def ftz (d : Desc) : Bool := dfld d 852 1 == 1
/-- stages 6 to 2 as a mask: bit k - 2 for stage k -/
def stages (d : Desc) : Nat := dfld d 847 5
def stage (d : Desc) (k : Nat) : Bool := dfld d (845 + k) 1 == 1
def act (d : Desc) : Nat := dfld d 844 3
def perCol (d : Desc) : Bool := dfld d 843 1 == 1
def vop (d : Desc) : Nat := dfld d 835 8
def m (d : Desc) : Nat := dfld d 819 13
def n (d : Desc) : Nat := dfld d 806 13
def k (d : Desc) : Nat := dfld d 793 13
def kpass (d : Desc) : Nat := dfld d 768 25
def length (d : Desc) : Nat := dfld d 792 40
def addrA (d : Desc) : Nat := dfld d 720 48
def strideA (d : Desc) : Nat := dfld d 704 16
def addrB (d : Desc) : Nat := dfld d 656 48
def strideB (d : Desc) : Nat := dfld d 640 16
def addrC (d : Desc) : Nat := dfld d 592 48
def strideC (d : Desc) : Nat := dfld d 576 16
def addrOut (d : Desc) : Nat := dfld d 528 48
def strideOut (d : Desc) : Nat := dfld d 512 16
def addrSpill (d : Desc) : Nat := dfld d 464 48
def addrScale (d : Desc) : Nat := dfld d 400 48
def addrBias (d : Desc) : Nat := dfld d 336 48
def addrRow (d : Desc) : Nat := dfld d 272 48
def addrOff (d : Desc) : Nat := dfld d 208 48
def dep0Handle (d : Desc) : Nat := dfld d 176 16
def dep0Task (d : Desc) : BitVec 32 := BitVec.ofNat 32 (dfld d 144 32)
def dep1Handle (d : Desc) : Nat := dfld d 128 16
def dep1Task (d : Desc) : BitVec 32 := BitVec.ofNat 32 (dfld d 96 32)
def mcFirst (d : Desc) : Nat := dfld d 88 8
def mcCount (d : Desc) : Nat := dfld d 80 8
def mcStride (d : Desc) : Nat := dfld d 72 8
def target (d : Desc) : Nat := dfld d 0 64
def remoteAddr (d : Desc) : Nat := dfld d 0 48
def remoteEp (d : Desc) : Nat := dfld d 48 16
end D

/-- Codes of KIND. -/
def kMatmul : Nat := 1
def kVector : Nat := 2
def kCopy : Nat := 3
def kFabric : Nat := 4
def kWait : Nat := 5
def kStepEnd : Nat := 6
def kHostRead : Nat := 7
def kHostWrite : Nat := 8

/-- The kinds whose [831:792] is LENGTH. -/
def lengthKind (k : Nat) : Bool := [kCopy, kFabric, kHostRead, kHostWrite].contains k

/-- The kinds whose operands are arrays of M rows. -/
def standKind (k : Nat) : Bool := k == kMatmul || k == kVector

/-- The kinds that run on a stand: COPY as well, a single-stand task by Table 5-3 (R165). -/
def runsOnStand (k : Nat) : Bool := standKind k || k == kCopy

/-- Is any reserved bit of the descriptor set (Table 5-3)? -/
def descReserved (d : Desc) : Bool :=
  dfld d 1008 7 != 0 || dfld d 992 8 != 0 || dfld d 832 3 != 0 || dfld d 448 16 != 0 || dfld d 384 16 != 0 ||
  dfld d 320 16 != 0 || dfld d 256 16 != 0 || dfld d 192 16 != 0 || dfld d 64 8 != 0 ||
  (!([kFabric, kHostRead, kHostWrite]).contains (D.kind d) && D.target d != 0)

/-- Bytes of one element of a format code. -/
def fmtBytes : Nat → Nat
  | 0 => 2
  | 1 => 4
  | 2 => 8
  | 3 => 4
  | 8 => 16
  | 9 => 80
  | _ => 0

/-- Is the code FP16 or FP32? -/
def isFl (f : Nat) : Bool := f == 0 || f == 1

/-- Is the code a record form? -/
def isRec (f : Nat) : Bool := f == 8 || f == 9

/-- Does epilogue stage k run: a record output runs stage 1 alone (R102)? -/
def D.runs (d : Desc) (k : Nat) : Bool := D.stage d k && !isRec (D.fmtOut d)

/-- The binary format of a code; FP32 for the codes that name none. -/
def fmtOf : Nat → FFmt
  | 0 => fp16
  | 2 => fp64
  | _ => fp32

/-- The FP64 path (R65). -/
def fp64Path (d : Desc) : Bool := D.fmtA d == 2

/-- Split-exponential mode (R104). -/
def splitExp (d : Desc) : Bool := D.runs d 4 && D.act d == 6

/-- Flags of a task's report that make its module's vote carry OVERFLOW (R191): IV and NI; OF, but not that of saturated
results, so under SAT only that of an FP64 reduction, which ignores SAT (R67), and that of R105 (DEDUCED, log entry 72). -/
def votesOverflow (d : Desc) (f : Flags) : Bool :=
  (f &&& (fIV ||| fNI)) != 0 || ((f &&& fOF) != 0 && (!D.sat d || (D.kind d == 1 && (fp64Path d || splitExp d))))

/-- Code of the heartwood a reduction accumulates in: Heartwood-112 when every multiplicand and any floating-point addend
is FP16, Heartwood-592 otherwise (R45, Table 2-4). -/
def ownForm (d : Desc) : Nat :=
  if D.fmtA d == 0 && D.fmtB d == 0 && (D.addrC d == 0 || D.fmtC d == 0 || isRec (D.fmtC d)) then 8 else 9

/-- Code of the task's record form (R425). -/
def recForm (d : Desc) : Nat := if isRec (D.fmtOut d) then D.fmtOut d else ownForm d

/-- The record form as a heartwood form. -/
def formOf (code : Nat) : HForm := if code == 8 then .h112 else .h592

/-- Bytes of one element of the pass array (R433). -/
def spillBytes (d : Desc) : Nat := if fp64Path d then 8 else fmtBytes (recForm d)

/-- An operand: rows of `rowLen` bytes each, `pitch` bytes apart. -/
structure Layout where
  addr : Nat
  rows : Nat
  rowLen : Nat
  pitch : Nat
  deriving DecidableEq, Repr

/-- A row-major array with a stride in 16-byte units; 0 is packed (R433). -/
def layout (addr rows rowLen stride : Nat) : Layout := ⟨addr, rows, rowLen, if stride = 0 then rowLen else 16 * stride⟩

/-- Bytes from the first to one past the last of the operand. -/
def Layout.span (l : Layout) : Nat := if l.rows = 0 ∨ l.rowLen = 0 then 0 else (l.rows - 1) * l.pitch + l.rowLen

/-- Address of byte x of row i. -/
def Layout.at (l : Layout) (i x : Nat) : Nat := l.addr + i * l.pitch + x

/-- Columns of offset blocks (R104). -/
def offCols (n : Nat) : Nat := (n + 63) / 64

/-- Output rows and row bytes of a vector operation (R434). -/
def vecOut (d : Desc) : Layout :=
  let v := D.vop d
  if 0x07 ≤ v ∧ v ≤ 0x09 then ⟨D.addrOut d, 1, (D.m d * D.n d + 7) / 8, 0⟩
  else if v == 0x1C then ⟨D.addrOut d, D.m d, 4, 4⟩
  else if v == 0x1D then ⟨D.addrOut d, D.m d, 80, 80⟩
  else layout (D.addrOut d) (D.m d) (D.n d * fmtBytes (D.fmtOut d)) (D.strideOut d)

/-- Vector operations with a second operand at ADDR_B. -/
def vecHasB (v : Nat) : Bool := (decide (0x01 ≤ v) && decide (v ≤ 0x09)) || (decide (0x0B ≤ v) && decide (v ≤ 0x11)) || v == 0x1E

namespace Lay
def a (d : Desc) : Layout :=
  if D.kind d == kMatmul then layout (D.addrA d) (D.m d) (D.k d * fmtBytes (D.fmtA d)) (D.strideA d)
  else layout (D.addrA d) (D.m d) (D.n d * fmtBytes (D.fmtA d)) (D.strideA d)
def b (d : Desc) : Layout :=
  if D.kind d == kMatmul then layout (D.addrB d) (D.k d) (D.n d * fmtBytes (D.fmtB d)) (D.strideB d)
  else layout (D.addrB d) (D.m d) (D.n d * fmtBytes (D.fmtB d)) (D.strideB d)
def c (d : Desc) : Layout := layout (D.addrC d) (D.m d) (D.n d * fmtBytes (D.fmtC d)) (D.strideC d)
def out (d : Desc) : Layout :=
  if D.kind d == kMatmul then layout (D.addrOut d) (D.m d) (D.n d * fmtBytes (D.fmtOut d)) (D.strideOut d) else vecOut d
def spill (d : Desc) : Layout := layout (D.addrSpill d) (D.m d) (D.n d * spillBytes d) 0
def scale (d : Desc) : Layout := layout (D.addrScale d) 1 (4 * (if D.perCol d then D.n d else 1)) 0
def bias (d : Desc) : Layout := layout (D.addrBias d) 1 (4 * (if D.perCol d then D.n d else 1)) 0
def row (d : Desc) : Layout := layout (D.addrRow d) (D.m d) 96 0
def off (d : Desc) : Layout := layout (D.addrOff d) (D.m d) (4 * offCols (D.n d)) 0
end Lay

/-- A declared operand: its code in FAULT_DETAIL (Table 5-5), address, bytes, read, written. -/
structure Operand where
  code : Nat
  addr : Nat
  len : Nat
  rd : Bool
  wr : Bool
  deriving DecidableEq, Repr

/-- An operand from its layout, when `present`. -/
def opnd (present : Bool) (code : Nat) (l : Layout) (rd wr : Bool) : List Operand :=
  if present && l.span != 0 then [⟨code, l.addr, l.span, rd, wr⟩] else []

/-- The operands a descriptor names, in the order of FAULT_DETAIL (R161 check 6, R433, R434). An address field of 0 names
none where Table 5-3 says so. -/
def operands (d : Desc) : List Operand :=
  let k := D.kind d
  if k == kMatmul then
    opnd true 1 (Lay.a d) true false ++ opnd true 2 (Lay.b d) true false ++
    opnd (D.addrC d != 0) 3 (Lay.c d) true false ++ opnd true 4 (Lay.out d) false true ++
    opnd (D.addrSpill d != 0 && D.kpass d != 0) 5 (Lay.spill d) false true ++ opnd (D.addrScale d != 0) 6 (Lay.scale d) true false ++
    opnd (D.addrBias d != 0) 7 (Lay.bias d) true false ++ opnd (D.addrRow d != 0) 8 (Lay.row d) true true ++
    opnd (D.addrOff d != 0) 9 (Lay.off d) false true
  else if k == kVector then
    let v := D.vop d
    opnd true 1 (Lay.a d) true false ++ opnd (vecHasB v) 2 (Lay.b d) true false ++
    opnd (v == 0x04) 3 (Lay.c d) true false ++ opnd true 4 (Lay.out d) false true ++
    opnd (v == 0x20) 8 (Lay.row d) true false ++ opnd (v == 0x20) 9 (Lay.off d) true false
  else if k == kCopy then [⟨1, D.addrA d, D.length d, true, false⟩, ⟨4, D.addrOut d, D.length d, false, true⟩]
  else if k == kFabric || k == kHostWrite then [⟨1, D.addrA d, D.length d, true, false⟩]
  else if k == kHostRead then [⟨4, D.addrOut d, D.length d, false, true⟩]
  else []

/-- Declared inputs and outputs. -/
def inputsOf (d : Desc) : List Operand := (operands d).filter (·.rd)
def outputsOf (d : Desc) : List Operand := (operands d).filter (·.wr)

/-- Does some output range overlap some input range (R175)? -/
def inPlace (d : Desc) : Bool :=
  (outputsOf d).any (fun o => (inputsOf d).any (fun i => overlaps o.addr o.len i.addr i.len))

/-- Does the descriptor name some address of [a, a + n)? -/
def names (d : Desc) (a n : Nat) : Bool := (operands d).any (fun o => overlaps o.addr o.len a n)

/-! ## Formats that fit (R161 check 2) -/

/-- R40, R425, R426. The format of an absent addend is not looked at but for a record form, which an FP64 reduction never
takes (DESIGN CHOICE, log entry 73). -/
def matmulFormats (d : Desc) : Bool :=
  let (fa, fb, fc, fo) := (D.fmtA d, D.fmtB d, D.fmtC d, D.fmtOut d)
  let hasC := D.addrC d != 0
  if fa == 2 || fb == 2 then
    fa == 2 && fb == 2 && (if hasC then fc == 2 else !isRec fc) && fo == 2 && D.stages d % 16 == 0
  else
    isFl fa && isFl fb && (!hasC || isFl fc || isRec fc) && (isFl fo || isRec fo) &&
    !(ownForm d == 9 && recForm d == 8) && !(isRec fc && fc != recForm d)

/-- Table 3-6, R430. -/
def vectorFormats (d : Desc) : Bool :=
  let (fa, fb, fc, fo) := (D.fmtA d, D.fmtB d, D.fmtC d, D.fmtOut d)
  let v := D.vop d
  if v ≤ 0x06 then isFl fa && isFl fb && (v != 0x04 || isFl fc) && fo == 1
  else if v ≤ 0x09 then isFl fa && isFl fb
  else if v == 0x0A then
    (fa == 1 && fo == 0) || (fa == 0 && fo == 1) || (fa == 3 && fo == 1) || (fa == 1 && fo == 3)
  else if v ≤ 0x10 then fa == 3 && fb == 3 && fo == 3
  else if v == 0x11 then fa == 1 && fb == 1 && fo == 1
  else if v ≤ 0x1B then fa == 1 && fo == 1
  else if v == 0x1C then fa == 1 && fo == 1
  else if v == 0x1D then isFl fa && fo == 9
  else if v == 0x1E then isRec fa && fb == fa && fo == fa
  else if v == 0x1F then isRec fa && isFl fo
  else isFl fa && isFl fo

/-! ## Reading operands -/

/-- Element j of row i of an operand with elements of `size` bytes. -/
def State.elem (s : State) (l : Layout) (size i j : Nat) : Nat := s.numAt (l.at i (j * size)) size

/-- The bytes of an operand, row by row. -/
def State.rowsOf (s : State) (l : Layout) : List (List Byte) := (upto l.rows).map (fun i => s.bytesAt (l.at i 0) l.rowLen)

end Sys2Proof.Machine
end

