-- ==== Sys2Proof/Machine/Tree.lean ====
section
/-! DEFINITION. The canonical plot tree (R211), the combining of votes at its nodes (R195 to R198) and the root's decision
(R197), and the loss scale (R207). -/

namespace Sys2Proof.Machine

/-- Least level l ≥ 1 with a^l ≥ P (R211), searched upward from `l`. -/
def rootLevelFrom (a p : Nat) : Nat → Nat → Nat
  | 0, l => l
  | n + 1, l => if a ^ l ≥ p then l else rootLevelFrom a p n (l + 1)

/-- The root's level. -/
def rootLevel (a p : Nat) : Nat := rootLevelFrom a p 17 1

/-- First plot of node (l, j) (R211). -/
def firstPlot (a l j : Nat) : Nat := j * a ^ l

/-- Number of plots node (l, j) covers (R211). -/
def coverCount (a p l j : Nat) : Nat := min ((j + 1) * a ^ l) p - j * a ^ l

/-- Arity and plot count of a slot's job. -/
def State.arity (s : State) (slot : Nat) : Nat := s.ob (Obj.treeArity slot)
def State.plotCount (s : State) (slot : Nat) : Nat := s.ob (Obj.plotCount slot)
def State.rootLv (s : State) (slot : Nat) : Nat := rootLevel (s.arity slot) (s.plotCount slot)

/-- Host of a plot in the table of the injection epoch; 0 where the table names none. -/
def State.hostOf (s : State) (slot plot : Nat) : Nat := (s.plots slot).getD plot 0

/-- Host of node (l, j): the host of its first plot (R195). -/
def State.nodeHost (s : State) (slot l j : Nat) : Nat := s.hostOf slot (firstPlot (s.arity slot) l j)

/-- Host of the root. -/
def State.rootHost (s : State) (slot : Nat) : Nat := s.hostOf slot 0

/-- Plots this module hosts. -/
def State.ownPlots (s : State) (slot : Nat) : List Nat :=
  (upto (s.plots slot).length).filter (fun p => s.hostOf slot p == s.me)

/-- Existing nodes of level l. -/
def nodesAt (a p l : Nat) : List Nat := upto ((p + a ^ l - 1) / a ^ l)

/-- Hosts of the children of every node hosted here, each once, without this module (R199). -/
def State.childHosts (s : State) (slot : Nat) : List Nat :=
  let a := s.arity slot
  let p := s.plotCount slot
  dedup (((upto (s.rootLv slot)).flatMap (fun l =>
    (nodesAt a p l).filter (fun j => s.nodeHost slot (l + 1) (j / a) == s.me) |>.map (fun j => s.nodeHost slot l j))).filter
      (fun e => e != s.me))

/-- Step and attempt of a slot (R186). -/
def State.step (s : State) (slot : Nat) : Nat := s.ob (Obj.currentStep slot)
def State.att (s : State) (slot : Nat) : Nat := s.ob (Obj.attempt slot)

/-! ## Votes -/

/-- Do two inputs carry different LOSS? -/
def lossDiffers (vs : List Vote) : Bool :=
  match vs with
  | [] => false
  | v :: t => t.any (fun w => w.loss != v.loss)

/-- Lowest non-zero source (Table 6-2). -/
def lowestSource (vs : List Vote) : Nat :=
  vs.foldl (fun acc v => if v.taintSource == 0 then acc else if acc == 0 then v.taintSource else min acc v.taintSource) 0

/-- Table 6-2, over inputs keyed by their child's (level, first plot). -/
def combineVotes (step job att : Nat) (ins : List ((Nat × Nat) × Vote)) : Vote :=
  let vs := ins.map (·.2)
  let lowest := ins.foldl (fun (acc : Option ((Nat × Nat) × Vote)) x => match acc with
    | none => some x
    | some y => if x.1.2 < y.1.2 then some x else some y) none
  { step := step, job := job, attempt := att
    plots := vs.foldl (fun n v => n + v.plots) 0
    overflow := vs.any (·.overflow), taint := vs.any (·.taint), checksClosed := vs.all (·.checksClosed)
    lossMismatch := vs.any (·.lossMismatch) || lossDiffers vs
    pace := vs.foldl (fun n v => max n v.pace) 0
    loss := (lowest.map (fun x => x.2.loss)).getD 0
    taintSource := lowestSource vs }

/-- Round state of a node hosted here. -/
def nodeSt (j : JobSt) (l i : Nat) : NodeSt :=
  (j.nodes.find? (fun n => n.level == l && n.index == i)).getD { level := l, index := i }

def setNode (j : JobSt) (n : NodeSt) : JobSt :=
  { j with nodes := j.nodes.filter (fun x => !(x.level == n.level && x.index == n.index)) ++ [n] }

/-- A vote or decision leaves as a packet of VC0 that names a node (R190, R199). -/
def State.sendRecord (s : State) (kind dest slot l first : Nat) (payload : Nat) : State :=
  let (x, s) := s.allocXfer
  s.send { dest := dest, src := s.me, vc := 0, kind := kind, xfer := x, total := 1, plot := first, level := l,
           stepLo := s.step slot % 65536, job := (s.jobOf slot).getD 0, length := 32, payload := bytesOf payload 32 }

/-- A vote enters a node hosted here; a complete node passes its combined vote to its parent, here or at its host (R195).
`n` bounds the climb. The root's inputs wait for its decision. -/
def State.addVote (s : State) (slot : Nat) : Nat → Nat → Nat → Nat × Nat → Vote → State
  | 0, _, _, _, _ => s
  | n + 1, l, i, key, v =>
    let a := s.arity slot
    let p := s.plotCount slot
    let j := s.job slot
    let nd := nodeSt j l i
    if nd.inputs.any (fun x => x.1 == key) then s.bump Obj.duplicateVotes
    else if nd.done then s.bump Obj.staleVotes
    else
      let differed := lossDiffers (nd.inputs.map (·.2))
      let nd := { nd with inputs := nd.inputs ++ [(key, v)] }
      let s := if lossDiffers (nd.inputs.map (·.2)) && !differed then
          s.log { errRec 0x0401 with job := v.job, step := v.step, attempt := v.attempt, detail0 := l, detail1 := firstPlot a l i }
        else s
      let c := combineVotes v.step v.job v.attempt nd.inputs
      if l == s.rootLv slot then s.setJob slot (setNode (s.job slot) nd)
      else if c.plots == coverCount a p l i then
        let s := s.setJob slot (setNode (s.job slot) { nd with done := true })
        let up := i / a
        let host := s.nodeHost slot (l + 1) up
        let key' := (l, firstPlot a l i)
        if host == s.me then s.addVote slot n (l + 1) up key' c
        else s.sendRecord 8 host slot l (firstPlot a l i) c.toNat
      else s.setJob slot (setNode (s.job slot) nd)

/-! ## The decision -/

/-- LOSS_SCALE_EXP and CLEAN_STEPS after a decision (R207): 0 PASS, 1 SKIP, 2 TAINT. -/
def scaleAfter (e clean growth lo hi dec : Nat) : Nat × Nat :=
  if dec == 1 then (max (e - 1) lo, 0)
  else if dec == 0 then (if clean + 1 == growth then (min (e + 1) hi, 0) else (e, clean + 1))
  else (e, clean)

/-- The slot's loss scale after a decision. -/
def State.scaleAfter (s : State) (slot dec : Nat) : Nat × Nat :=
  Machine.scaleAfter (s.ob (Obj.lossScaleExp slot)) (s.ob (Obj.cleanSteps slot)) (s.ob (Obj.scaleGrowth slot))
    (s.ob (Obj.scaleMin slot)) (s.ob (Obj.scaleMax slot)) dec

/-- Is this attempt the last one REPLAY_LIMIT allows (R197)? Attempts count from 0 (DEDUCED, log entry 27). -/
def State.lastAttempt (s : State) (slot : Nat) : Bool := decide (s.ob Obj.replayLimit ≤ s.att slot + 1)

/-- What the host of the root decides on its inputs, if anything (R197). -/
def State.rootDecision (s : State) (slot : Nat) : Option Decision :=
  let nd := nodeSt (s.job slot) (s.rootLv slot) 0
  if nd.done || nd.inputs.isEmpty then none
  else
    let c := combineVotes (s.step slot) ((s.jobOf slot).getD 0) (s.att slot) nd.inputs
    let mk (dec : Nat) : Decision :=
      let (e, cl) := s.scaleAfter slot dec
      { step := c.step, job := c.job, attempt := c.attempt, decision := dec, pace := c.pace, lossScaleExp := e,
        taintSource := c.taintSource, loss := c.loss, cleanSteps := cl }
    if c.taint || c.lossMismatch then (if s.lastAttempt slot then none else some (mk 2))
    else if c.plots == s.plotCount slot && c.checksClosed then some (mk (if c.overflow then 1 else 0))
    else none

/-- A decision goes to the hosts of the children of every node hosted here (R199). -/
def State.passOn (s : State) (slot : Nat) (d : Decision) : State :=
  (s.childHosts slot).foldl (fun s e => s.sendRecord 9 e slot (s.rootLv slot) 0 d.toNat) s

/-! ## Taint (R192, R281) -/

/-- The module's own vote for the attempt, over the plots it hosts (R190, R191). -/
def State.ownVote (s : State) (slot : Nat) : Vote :=
  let j := s.job slot
  let loss := (j.stepEnd.map (fun x => x.2.2.2)).getD 0
  { step := s.step slot, job := (s.jobOf slot).getD 0, attempt := s.att slot, plots := (s.ownPlots slot).length,
    overflow := j.overflow.contains (s.step slot, s.att slot) || fld loss.toNat 23 8 == 255, taint := j.expelled, checksClosed := true,
    pace := j.maxPace, loss := loss, taintSource := if j.expelled then s.me else 0 }

/-- Firebreak message as a packet (R282). -/
def State.sendFirebreak (s : State) (dest : Nat) (m : Firebreak) : State :=
  let (x, s) := s.allocXfer
  s.send { dest := dest, src := s.me, vc := 0, kind := 0xA, xfer := x, total := 1, stepLo := m.step % 65536, job := m.job,
           length := 32, payload := bytesOf m.toNat 32 }

/-- Taint is confirmed for the current attempt: record 0x0708, the early taint vote to the host of the root, a notice to
every other module of the plot table, and TAINT in every packet of the job until the decision (R192, R281). -/
def State.confirmTaint (s : State) (slot reason : Nat) (r : ErrRec) (info : SigInfo := {}) : State :=
  if (s.job slot).tainted then s
  else
    let rid := s.nextRec
    let s := s.logAt moduleUnit
      { r with code := 0x0708, severity := 3, job := (s.jobOf slot).getD 0, step := s.step slot, attempt := s.att slot } info
    let s := s.modJob slot (fun j => { j with tainted := true })
    let v := { s.ownVote slot with taint := true, checksClosed := false, taintSource := s.me }
    let first := (s.ownPlots slot).headD 0
    let s := if s.rootHost slot == s.me then
        let s := s.modJob slot (fun j => { j with earlyVote := true })
        let nd := nodeSt (s.job slot) (s.rootLv slot) 0
        s.setJob slot (setNode (s.job slot) { nd with inputs := nd.inputs ++ [((17, first), v)] })
      else s.sendRecord 8 (s.rootHost slot) slot 0 first v.toNat
    let m : Firebreak := { type := 1, step := s.step slot, job := (s.jobOf slot).getD 0, attempt := s.att slot,
                           source := s.me, reason := reason, digest := rid * 2 ^ 96 }
    let s := (s.jobPeers slot).foldl (fun s e => s.sendFirebreak e m) s
    s.addOb Obj.noticesSent (s.jobPeers slot).length

end Sys2Proof.Machine
end

