-- ==== Sys2Proof/Machine/Life.lean ====
section
/-! DEFINITION. The life of a task as shared operations: looking up channels and tasks, completion records (R169 to R172),
dependencies (R162), ending, aborting and retrying (R173 to R176), job faults (R202), stands (R93, R277 to R280, R404)
and the repair of memory blocks (R132 to R138). -/

namespace Sys2Proof.Machine

/-! ## Channels and tasks -/

def State.chanAt (s : State) (h : Nat) : Option Chan := kget? s.chan.chans h
def State.setChan (s : State) (h : Nat) (c : Chan) : State := { s with chan := { s.chan with chans := kset s.chan.chans h c } }
def State.modChan (s : State) (h : Nat) (f : Chan → Chan) : State :=
  match s.chanAt h with
  | some c => s.setChan h (f c)
  | none => s

/-- The handle open with this serial number. -/
def State.handleOf (s : State) (uid : Nat) : Option Nat := (s.chan.chans.find? (fun x => x.2.uid == uid)).map (·.1)

/-- The admitted task of a channel by its ID. -/
def State.taskAt (s : State) (h : Nat) (t : BitVec 32) : Option Task :=
  s.chan.tasks.find? (fun x => x.handle == h && x.id == t)

def State.taskBy (s : State) (uid : Nat) (t : BitVec 32) : Option Task :=
  s.chan.tasks.find? (fun x => x.uid == uid && x.id == t)

def State.setTasks (s : State) (l : List Task) : State := { s with chan := { s.chan with tasks := l } }

/-- Change one task. -/
def State.modTask (s : State) (uid : Nat) (t : BitVec 32) (f : Task → Task) : State :=
  s.setTasks (s.chan.tasks.map (fun x => if x.uid == uid && x.id == t then f x else x))

/-- Channels of a job, by handle. -/
def State.jobChans (s : State) (job : Nat) : List (Nat × Chan) := s.chan.chans.filter (fun x => x.2.job == job)

/-- Outstanding tasks of a channel. -/
def State.outstanding (s : State) (uid : Nat) : Nat := (s.chan.tasks.filter (fun x => x.uid == uid)).length

/-- Does a task run on this stand now? -/
def Task.onStand (t : Task) (n : Nat) : Bool := t.stands.contains n && (t.phase == .running || t.phase == .held)

/-- The task that runs on a stand, if any. -/
def State.runningOn (s : State) (n : Nat) : Option Task := s.chan.tasks.find? (fun t => t.onStand n)

/-- Stands in service and idle: enabled, their half running, no task on them and no fence decided. -/
def State.standIdle (s : State) (n : Nat) : Bool :=
  decide (n < 192) && s.ob (Obj.standState n) == 0 && s.halfRuns (n / 96) && (s.runningOn n).isNone &&
  (s.stand n).pendFence == 0 && (s.stand n).pendBypass == 0 && (s.stand n).pendState == 0

/-- Stands enabled and in a running half. -/
def State.standEnabled (s : State) (n : Nat) : Bool :=
  decide (n < 192) && !s.fenced n && s.halfRuns (n / 96)

/-- Number of stands that are not fenced (R280). -/
def State.enabledCount (s : State) : Nat := ((upto 192).filter (fun n => !s.fenced n)).length

/-! ## Steps and attempts -/

/-- Has step `st` of the slot been decided PASS or SKIP, with its attempt? -/
def State.decidedAt (s : State) (slot st : Nat) : Option (Nat × Nat) :=
  ((s.job slot).decided.find? (fun x => x.1 == st)).map (·.2)

/-- Was this attempt of the step decided TAINT (R173)? -/
def State.attemptTainted (s : State) (slot st att : Nat) : Bool :=
  if st == s.step slot then decide (att < s.att slot)
  else match s.decidedAt slot st with
    | some (a, _) => decide (att < a)
    | none => false

/-! ## Completion records -/

/-- The fields of a completion record but PHASE and TIMESTAMP (Table 5-5). -/
structure CplRec where
  id : Nat
  status : BitVec 8
  record : Nat := 1
  provisional : Bool := false
  retried : Bool := false
  step : Nat := 0
  handle : Nat
  stand : Nat := 0xFF
  report : Report := {}
  faultAddr : Nat := 0
  detail : Nat := 0
  busy : Nat := 0
  deriving DecidableEq, Repr

/-- Table 5-5, PHASE and TIMESTAMP 0. -/
def CplRec.toBits (r : CplRec) : BitVec 512 :=
  BitVec.ofNat 512 (pack [(480, 32, r.id), (472, 8, r.status.toNat), (468, 4, r.record), (467, 1, bit r.provisional),
    (466, 1, bit r.retried), (416, 48, r.step), (400, 16, r.handle), (392, 8, r.stand), (256, 128, r.report.toNat),
    (144, 48, r.faultAddr), (128, 16, r.detail), (96, 32, min r.busy 0xFFFFFFFF)])

/-- PHASE of the next record of a channel: 1 on the first pass, inverted on each wrap (R170). -/
def Chan.phaseBit (c : Chan) : Nat := 1 - c.written.toNat / c.cplEntries % 2

/-- Address of the next completion record. -/
def Chan.cplAddr (c : Chan) : Nat := c.cplBase + c.written.toNat % c.cplEntries * 64

/-- Can the next record be written (R409, R416)? -/
def State.cplWritable (s : State) (c : Chan) : Bool :=
  if c.cplHost then s.edge.hostLink
  else s.mapped c.cplAddr && ((s.homeOf c.cplAddr).map s.halfRuns).getD false

/-- A record as it is written: PROVISIONAL says whether its step is undecided then (R171). -/
def State.stampRec (s : State) (c : Chan) (r : BitVec 512) : BitVec 512 :=
  if r.getLsbD 467 && (s.decidedAt ((s.slotOf c.job).getD 16) (fld r.toNat 416 48)).isSome then r &&& ~~~(BitVec.ofNat 512 (2 ^ 467))
  else r

/-- Write one record, and signal its vector when IRQ is set (R169, R170). -/
def State.writeRec (s : State) (h : Nat) (r : BitVec 512) (irq : Bool) : State :=
  match s.chanAt h with
  | none => s
  | some c =>
    let n := (s.stampRec c r).toNat + c.phaseBit * 2 ^ 465 + s.clock % 2 ^ 64 * 2 ^ 192
    let s := if c.cplHost then s.hostWrite c.cplAddr (bytesOf n 64) else s.put c.cplAddr (bytesOf n 64)
    let s := s.setChan h { c with written := c.written + 1 }
    if irq then s.msix c.msix else s

/-- Write a record, or hold it behind those already held. -/
def State.emitRec (s : State) (h : Nat) (r : BitVec 512) (irq : Bool) : State :=
  match s.chanAt h with
  | none => s
  | some c =>
    if c.held.isEmpty && s.cplWritable c then s.writeRec h r irq
    else s.setChan h { c with held := c.held ++ [(r, irq)] }

/-- Write the records a channel has held back, oldest first, while they can be written. -/
def State.flushHeld (s : State) (h : Nat) : Nat → State
  | 0 => s
  | n + 1 => match s.chanAt h with
    | none => s
    | some c => match c.held with
      | [] => s
      | (r, irq) :: t => if s.cplWritable c then ((s.setChan h { c with held := t }).writeRec h r irq).flushHeld h n else s

/-! ## Dependencies -/

/-- Resolve a dependency when a descriptor is admitted (R161 check 1, R162); none when it is invalid. -/
def State.bindDep (s : State) (job h : Nat) (id : BitVec 32) : Option Dep :=
  match s.chanAt h with
  | none => none
  | some c =>
    if c.job != job || c.destroying then none
    else
      let st : DepState :=
        if (id - c.expected).toNat < 2 ^ 31 then .waiting
        else if (c.expected - id).toNat ≥ 65536 then .met
        else if (s.taskBy c.uid id).isSome then .waiting
        else if c.exhausted.any (fun x => x.1 == id) || (c.halted && c.haltedOn.contains id) then .failed
        else .met
      some { uid := c.uid, id := id, state := st }

/-- A named task has completed: the dependencies on it are met or have failed (R162). -/
def State.resolve (s : State) (uid : Nat) (id : BitVec 32) (ok : Bool) : State :=
  s.setTasks (s.chan.tasks.map (fun t => { t with
    deps := t.deps.map (fun d => if d.uid == uid && d.id == id && d.state == .waiting then
      { d with state := if ok then .met else .failed } else d) }))

/-- Free the handle of a channel being destroyed once its last record is written (R154), or discarded with a ring that has
become unmapped (R409); dependencies on its tasks that were never fetched fail (R162). -/
def State.freeChan (s : State) (h : Nat) : State :=
  match s.chanAt h with
  | none => s
  | some c =>
    if c.destroying && s.outstanding c.uid == 0 && (c.held.isEmpty || (!c.cplHost && !s.mapped c.cplAddr)) then
      let s := { s with chan := { s.chan with chans := kdel s.chan.chans h, freed := s.chan.freed ++ [h] } }
      s.setTasks (s.chan.tasks.map (fun t => { t with
        deps := t.deps.map (fun d => if d.uid == c.uid && d.state == .waiting then { d with state := .failed } else d) }))
    else s

/-- The held records of every channel are written, and channels being destroyed are freed (R154, R409, R416). -/
def State.flushAll (s : State) : State := s.chan.chans.foldl (fun s x => (s.flushHeld x.1 x.2.held.length).freeChan x.1) s

/-! ## Ending a task -/

/-- Leave a multicast group; the last user releases it (R145). -/
def State.leaveGroup (s : State) (t : Task) : State :=
  match t.group with
  | none => s
  | some g => { s with mem := { s.mem with groups := (s.mem.groups.map (fun x => if x.id == g then
      { x with users := x.users.filter (fun u => u != (t.uid, t.id)) } else x)).filter (fun x => !x.users.isEmpty) } }

/-- Save slots no longer hold the task. -/
def State.unsave (s : State) (t : Task) : State :=
  { s with stands := s.stands.map (fun x => (x.1, { x.2 with saved := x.2.saved.filter (fun y => y.2 != (t.uid, t.id)) })) }

/-- Guest requests, checks, repairs and transfers no longer wait for the task. -/
def State.forget (s : State) (t : Task) : State :=
  { s with
    fire := { s.fire with checks := s.fire.checks.filter (fun c => !(c.uid == t.uid && c.id == t.id)) }
    edge := { s.edge with guestQueue := s.edge.guestQueue.filter (fun x => !(x.1.uid == t.uid && x.1.id == t.id)) }
    mem := { s.mem with repairs := s.mem.repairs.map (fun r => { r with waiters := r.waiters.filter (fun w => w != (t.uid, t.id)) }) } }

/-- The slot that holds the task's job; 16 when none does. -/
def State.slotOfTask (s : State) (t : Task) : Nat := (s.slotOf t.job).getD 16

/-- The task's record is written and everything that hangs on it follows, but for taint and job faults (R154, R162, R169
to R173, R176, R191). -/
def State.finishCore (s : State) (t : Task) (status : BitVec 8) : State :=
  let slot := s.slotOfTask t
  let d := t.desc
  let step := D.step d
  let isEnd := D.kind d == kStepEnd
  let status := if D.stepped d && !isEnd && s.attemptTainted slot step t.attempt then Status.stepTainted else status
  let provisional := D.stepped d && (s.decidedAt slot step).isNone && !s.attemptTainted slot step t.attempt
  let good := status == Status.ok
  let r : CplRec := {
    id := (D.taskId d).toNat, status := status, provisional := provisional, retried := t.retried, step := step,
    handle := t.handle, stand := t.stands.headD 0xFF, report := t.report, busy := t.busy,
    faultAddr := if good then 0 else t.faultAddr,
    detail := if status == Status.memoryError || status == Status.badAddress then t.faultDetail else 0 }
  let s := s.setTasks (s.chan.tasks.filter (fun x => !(x.uid == t.uid && x.id == t.id)))
  let s := s.emitRec t.handle r.toBits (D.irq d)
  let halts := Status.halts status
  let s := s.modChan t.handle (fun c => { c with
    provisional := if provisional then nins c.provisional step else c.provisional
    halted := c.halted || halts
    haltedOn := if halts then c.haltedOn ++ [t.id] else c.haltedOn
    history := if good then (t.id, d, s.now) :: c.history else c.history
    idleSince := if t.started then s.now else c.idleSince })
  let s := (s.leaveGroup t).unsave t
  let s := s.resolve t.uid t.id (Status.isOutcome status)
  let s := if Status.isRefusal status t.started then s.bump Obj.tasksRefused else s
  let s := if provisional && good && !isEnd && votesOverflow d t.report.flags
    then s.modJob slot (fun j => { j with overflow := j.overflow.erase (step, t.attempt) ++ [(step, t.attempt)] }) else s
  let s := if isEnd then s.modJob slot (fun j => { j with stepEnd := none }) else s
  let s := if D.optimiser d && !good then
      s.modJob slot (fun j => { j with toCommit := j.toCommit.filter (· != step), spoilt := nins j.spoilt step }) else s
  s.freeChan t.handle

/-- One withdrawal record to each channel of the job that holds a provisional record of the step (R172, R202). -/
def State.withdraw (s : State) (job step : Nat) (status : BitVec 8) : State :=
  (s.jobChans job).foldl (fun s x =>
    if x.2.provisional.contains step then
      let s := s.modChan x.1 (fun c => { c with provisional := c.provisional.filter (· != step) })
      s.emitRec x.1 ({ id := 0xFFFFFFFF, status := status, record := 2, step := step, handle := x.1 } : CplRec).toBits false
    else s) s

/-- A generation in progress is abandoned (R313); a new one waits for the GEN_COMPLETE that ends its round (DEDUCED, log
entry 31). -/
def State.abandonGen (s : State) (slot : Nat) : State :=
  match (s.job slot).gen with
  | some g => if g.abandoned then s
      else (s.modJob slot (fun j => { j with gen := some { g with abandoned := true, awaiting := [] } })).bump Obj.gensAbandoned
  | none => s

/-- A failure of R314 is counted in flash. -/
def State.failure (s : State) : State := { s with bank := { s.bank with failures := s.bank.failures ++ [s.now] } }

/-- Is the current step of a slot's job undecided with a round under way: some task of its current attempt has been admitted
or has left a provisional record, or a vote has come (R204)? -/
def State.roundOpen (s : State) (slot : Nat) : Bool :=
  let j := s.job slot
  j.stepEnd.isSome || j.voted || !j.nodes.isEmpty || j.tainted ||
  s.chan.tasks.any (fun t => some t.job == s.jobOf slot && D.stepped t.desc && D.step t.desc == s.step slot) ||
  s.chan.chans.any (fun x => some x.2.job == s.jobOf slot && x.2.provisional.contains (s.step slot))

/-- The plot table a packet's vote tree is that of: the version of its epoch (R253), but while a change is held the old one (R204). -/
def State.plotsOf (s : State) (epoch slot : Nat) : List Nat :=
  if epoch == s.epoch || (s.job slot).plotsHeld.isSome then s.plots slot else (s.plotTable epoch slot).take (s.plotCount slot)

/-- A packet of another epoch that opens a round opens it on its own table, which stays in use until the decision (R204, R253). -/
def State.holdPlots (s : State) (epoch slot : Nat) : State :=
  if epoch == s.epoch || s.roundOpen slot || (s.job slot).plotsHeld.isSome then s
  else s.modJob slot (fun j => { j with plotsHeld := some (s.plotTable epoch slot) })

/-- Job fault in a step (R202): the STEP_END in progress completes with CLEARING_TIMEOUT, withdrawal records follow, every
channel of the job halts, and no STEP_END is accepted until the profile is committed again. -/
def State.jobFaultIn (s : State) (slot step : Nat) : State :=
  match s.jobOf slot with
  | none => s
  | some job =>
    let s := match (s.job slot).stepEnd with
      | some (uid, id, _, _) => match s.taskBy uid id with
        | some t => s.finishCore t Status.clearingTimeout
        | none => s
      | none => s
    let s := s.withdraw job step Status.clearingTimeout
    let s := (s.jobChans job).foldl (fun s x => s.modChan x.1 (fun c => { c with halted := true })) s
    let s := s.modJob slot (fun j => { j with faulted := true, stepEnd := none, toCommit := [] })
    (s.abandonGen slot).failure

/-- Job fault in the job's current step. -/
def State.jobFault (s : State) (slot : Nat) : State := s.jobFaultIn slot (s.step slot)

/-- A task ends: its record, and what a failure does to its step, at once or when that step begins, and to its job (R189, R192,
R281). -/
def State.finish (s : State) (t : Task) (status : BitVec 8) : State :=
  let slot := s.slotOfTask t
  let d := t.desc
  let isEnd := D.kind d == kStepEnd
  let tainted := D.stepped d && !isEnd && s.attemptTainted slot (D.step d) t.attempt
  let run := Status.isRun status t.started && !tainted
  let r : ErrRec := { errRec 0x0708 with
    stand := t.stands.headD 0xFF, job := t.job, step := D.step d, handle := t.handle,
    task := t.id.toNat, status := status.toNat, attempt := t.attempt }
  let s := s.finishCore t status
  let s := if !run || !D.stepped d || isEnd then s
    else if D.step d == s.step slot && t.attempt == s.att slot then s.confirmTaint slot 3 r
    else if s.step slot < D.step d then s.modJob slot (fun j => { j with
      failedRuns := j.failedRuns ++ [⟨r.step, r.attempt, r.stand, r.handle, r.task, r.status⟩] })
    else s
  if run && D.optimiser d && ((s.decidedAt slot (D.step d)).map (·.2)) == some 0 then
    (s.log { r with code := 0x0404, severity := 3 }).jobFault slot
  else s

/-! ## Aborting a running task -/

/-- The outputs a task may have written by now: units of an optimiser task that are done, else every declared output of a
task that runs, is held or is preempted (R174). -/
def writtenRanges (t : Task) : List (Nat × Nat) :=
  if !t.units.isEmpty then (t.units.filter (·.done)).flatMap (fun u => u.writes.map (fun w => (w.addr, w.data.length)))
  else if t.phase == .running || t.phase == .held || t.phase == .preempted then (outputsOf t.desc).map (fun o => (o.addr, o.len))
  else []

/-- Their contents become unspecified (R174). -/
def State.spoil (s : State) (l : List (Nat × Nat)) : State :=
  l.foldl (fun s (a, n) => (s.store a (s.freeBytes n)).drawn n) s

/-- A started task will end with a status: its open checks are discarded (R270), it no longer waits, and its retry or its
record is due. -/
def State.stop (s : State) (t : Task) (status : BitVec 8) (addr : Nat := 0) (detail : Nat := 0) : State :=
  let s := ((s.forget t).unsave t).leaveGroup t
  s.modTask t.uid t.id (fun t => { t with
    phase := .ended, result := some status, faultAddr := addr, faultDetail := detail, units := [], guestWaits := []
    group := none, pausedAt := none })

/-- A started task is aborted with a status: the outputs it has written are unspecified (R174). -/
def State.abort (s : State) (t : Task) (status : BitVec 8) (addr : Nat := 0) (detail : Nat := 0) : State :=
  (s.spoil (writtenRanges t)).stop t status addr detail

/-- Is an automatic retry due (R175)? The reader's run after its producer's re-run is outside it: a detected error there ends the
reader (R133). -/
def retryDue (t : Task) : Bool :=
  match t.result with
  | some st => t.started && Status.retryable st t.faultDetail && !t.retried && !inPlace t.desc &&
      !(t.recomputed && st == Status.memoryError)
  | none => false

/-! ## Stands -/

/-- A fence, array fence or bypass is decided: the running task aborts with STAND_FENCED at its next instruction boundary
(R278). -/
def State.fenceDecide (s : State) (n fence bypass state : Nat) : State :=
  let s := s.decideStand n fence bypass state
  match s.runningOn n with
  | some t => s.abort t Status.standFenced
  | none => s

/-- Stand reset (R404): record 0x0104, and the reset counts toward fencing (R277). -/
def State.standReset (s : State) (n : Nat) : State :=
  let s := s.logStand n (errRec 0x0104)
  let window := s.ob Obj.resetWindow * 60000000000
  let recent := ((s.stand n).resets.filter (fun t => s.now - t < window)) ++ [s.now]
  let s := s.modStand n (fun x => { x with resets := recent, tile := none })
  if decide (s.ob Obj.resetLimit ≤ recent.length) && !s.fenced n then s.fenceDecide n 0 0 4 else s

/-! ## Detected errors -/

/-- A detected error is counted for its memory (R126, Table 4-9). -/
def State.countDetected (s : State) (k : BadKind) (stackNo : Nat) : State :=
  match k with
  | .stackCheck => s.bump (Obj.stackCheckErrors stackNo)
  | .parity => s.bump Obj.sramParityErrors
  | .line => s.bump Obj.sramLineErrors

/-- What the records of an error at a block say of where it is (R126, Table 8-5). -/
def State.detectRec (s : State) (b : Nat) (r : ErrRec) : ErrRec :=
  { r with address := b * 64, stack := if isStack (b * 64) then stackOfPhys (s.physBlock b) else 0x3F,
           stand := (scratchStand (b * 64)).getD r.stand, severity := 1 }

/-- A block that failed and was mended within 24 h, and whose row is not taken out of use yet: a permanent fault (R137). -/
def State.permanentAt (s : State) (key : Nat) : Bool :=
  (match kget? s.mem.healed key with
    | some t => decide (s.now - t < 86400000000000)
    | none => false) && !s.mem.rowRepairs.contains key

/-- What a permanent fault leads to: row repair of a stack row at the next reset, fencing of a scratch line's stand (R137, R278). -/
def State.permanentFault (s : State) (b : Nat) (r : ErrRec) : State :=
  let s := s.logAt (s.memUnit b) { r with code := 0x0204 }
  if isStack (b * 64) then { s with mem := { s.mem with rowRepairs := s.mem.rowRepairs ++ [s.physBlock b] } }
  else match scratchStand (b * 64) with
    | some n => s.fenceDecide n 0 0 7
    | none => s

/-- The error at a block is detected: counted, logged, and taken as permanent when the same block failed and was mended
within 24 h (R126, R132, R137). A permanent fault of a scratch line fences its stand (R278). -/
def State.detect (s : State) (b : Nat) (k : BadKind) (r : ErrRec := errRec 0) : State :=
  let r := s.detectRec b r
  let permanent := s.permanentAt (s.physBlock b)
  let s := (s.countDetected k r.stack).logAt (s.memUnit b) { r with code := if k == .stackCheck then 0x0201 else 0x0202 }
  let s := { s with mem := { s.mem with errored := nins s.mem.errored (s.physBlock b) } }
  let s := if permanent || s.listed b then s.listBad b else s
  if permanent then s.permanentFault b r else s

/-- An error met at a block: detected unless the block is pending repair already (R138). -/
def State.meet (s : State) (b : Nat) (k : BadKind) (r : ErrRec := errRec 0) : State := if s.pendingRepair b then s else s.detect b k r

/-! ## Repair of a block (R132 to R138) -/

/-- The valid regions of a set, in entry order (R297). -/
def State.setRegions (s : State) (job set : Nat) : List Region :=
  s.mem.regions.filter (fun r => r.valid && r.job == job && r.bankSet == set)

/-- Offset within a set's data of a device address (R297). -/
def offsetIn : List Region → Nat → Option Nat
  | [], _ => none
  | r :: t, a => if r.covers a then some (a - r.base) else (offsetIn t a).map (· + r.size)

/-- Device address of an offset within a set's data. -/
def addrIn : List Region → Nat → Option Nat
  | [], _ => none
  | r :: t, x => if x < r.size then some (r.base + x) else addrIn t (x - r.size)

/-- The set entry of a slot's table. -/
def State.bankEntry (s : State) (slot set : Nat) : Option BankSet :=
  (kget s.bank.sets [] slot).find? (fun (e : BankSet) => e.set == set)

/-- Has the band of an address been written since store number `n` (R302, R307)? -/
def State.writtenSince (s : State) (a n : Nat) : Bool :=
  match kget? s.bank.dirty (a / 65536) with
  | some k => decide (n < k)
  | none => false

/-- Members and own position in the header of a copy at an address (Table 9-3). -/
def State.headerAt (s : State) (copy : Nat) : Nat := s.numAt copy 64
def headerEps (h : Nat) : List Nat := (upto (fld h 352 8)).map (fun k => fld h (192 + 16 * k) 16)

/-- The parity holder and the parity band of band b at position p of n (R303). -/
def holderOf (p n b : Nat) : Nat := (p + 1 + b % (n - 1)) % n
def parityBand (n b : Nat) : Nat := b / (n - 1)

/-- The band of position p' in the stripe of parity band i at holder q (R303). -/
def stripeBand (p' q n i : Nat) : Nat := i * (n - 1) + (q + n - p' - 1) % n

/-- The blocks a Seedbank repair fetches: (endpoint, address), or none when the repair must fail at once (R136, R307). -/
def State.stripeOf (s : State) (slot job set a : Nat) : Option (Nat × List (Nat × Nat)) :=
  match s.bankEntry slot set, offsetIn (s.setRegions job set) a with
  | some e, some x =>
    let g := s.ob (Obj.lastGen slot)
    match kget? (s.job slot).copySeq g with
    | none => none
    | some k =>
      let h := s.headerAt (e.copyOf g)
      let eps := headerEps h
      let n := eps.length
      let p := fld h 360 8
      if g == 0 || n < 2 || s.writtenSince a k then none
      else
        let b := x / 65536
        let q := holderOf p n b
        let i := parityBand n b
        let others := (upto n).filter (fun p' => p' != p && p' != q && decide (stripeBand p' q n i < e.size))
        some (g, (eps.getD q 0, e.parityOf g + i * 65536 + x % 65536) ::
          others.map (fun p' => (eps.getD p' 0, e.copyOf g + 65536 + stripeBand p' q n i * 65536 + x % 65536)))
  | _, _ => none

/-- Send a READ_REQ for 64 bytes and track its transfer; with no outgoing entry free nothing is sent, and the repair's bound
decides (R132, R244; DEDUCED, log entry 86). -/
def State.ask (s : State) (dest addr job gen block : Nat) : List Nat × State :=
  if !s.xferRoom true then ([], s)
  else
    let (x, s) := s.allocXfer
    let p := readReq s x dest addr job gen
    ([x], (s.track { xfer := x, dest := dest, job := job, use := .repair block, awaiting := [dest], packets := [p] }).send p)

/-- A descriptor read failed (R157, R161, R418): the task of the expected ID ends with DESCRIPTOR_FETCH, and the channel
halts. -/
def State.fetchFailed (s : State) (h addr : Nat) : State :=
  match s.chanAt h with
  | none => s
  | some c =>
    let s := s.setChan h { c with fetched := c.fetched + 1, fetchTotal := c.fetchTotal + 1, expected := c.expected + 1, early := [],
                                  halted := true, haltedOn := c.haltedOn ++ [c.expected] }
    let s := s.bump Obj.tasksRefused
    let r : CplRec := { id := c.expected.toNat, status := Status.descriptorFetch, handle := h, faultAddr := addr }
    (s.emitRec h r.toBits false).resolve c.uid c.expected false

/-- A host read one of whose repairs has failed completes poisoned (R139). -/
def State.hostReadFails (s : State) (id : Nat) : State :=
  match s.mem.reads.find? (fun r => r.id == id) with
  | none => s
  | some r => { s with mem := { s.mem with reads := s.mem.reads.filter (fun x => x.id != id) } }.emit (.readData r.data true)

/-- The repair of a block that fails for good: counted, logged, and its readers end (R132, R139). -/
def State.repairFailed (s : State) (r : Repair) : State :=
  let s := { s with mem := { s.mem with repairs := s.mem.repairs.filter (fun x => x.block != r.block) } }
  let s := (s.bump Obj.repairFailures).logAt (s.memUnit r.block) { errRec 0x0203 with address := r.block * 64 }
  let s := r.waiters.foldl (fun s (uid, id) => match s.taskBy uid id with
    | some t => s.abort t Status.memoryError (r.block * 64) r.cls
    | none => s) s
  let s := r.fetchers.foldl (fun s uid => match s.handleOf uid with
    | some h => s.fetchFailed h (r.block * 64)
    | none => s) s
  r.accesses.foldl (fun s x => match x with
    | .hostRead id => s.hostReadFails id
    | .task _ _ | .fetch _ => s
    | .peer p _ _ => (s.answerError p 3).dropIn p.src p.xfer
    | .arrival _ src xfer => s.endXfer src xfer 3
    | .hostWrite _ _ | .ownWrite _ _ => s) s

/-- Begin the repair of a block under class Twin or Seedbank (Table 4-7, R136), or fail at once (R302, R307). The readers
named in `r` wait for it. -/
def State.startRepair (s : State) (r : Repair) : State :=
  let a := r.block * 64
  match s.regionAt a with
  | none => s.repairFailed r
  | some reg =>
    let slot := (s.slotOf reg.job).getD 16
    if r.cls == 2 then
      let stale := reg.bankSet != 0xFFFF && (match (s.job slot).liveDone with
        | some k => s.writtenSince a k
        | none => true)
      if stale then s.repairFailed r
      else
        let gen := s.ob (Obj.lastGen slot)
        let copyAt := reg.twinBase + (a - reg.base)
        let (xs, s) := s.ask reg.twin0 copyAt reg.job gen r.block
        { s with mem := { s.mem with repairs := s.mem.repairs ++
            [{ r with t0 := s.now, gen := gen, xfers := xs, missing := 1, job := reg.job, second := reg.twin1, copyAt := copyAt }] } }
    else match (s.bankEntry slot reg.bankSet).bind (fun e => s.firstFault (e.copyOf (s.ob (Obj.lastGen slot))) 64) with
    -- the header names the members, and is read first
    | some (b, k) => (s.meet b k).repairFailed r
    | none => match s.stripeOf slot reg.job reg.bankSet a with
      | none => s.repairFailed r
      | some (g, l) =>
        let (xs, s) := l.foldl (fun (acc : List Nat × State) (ep, ad) =>
          let (x, s) := acc.2.ask ep ad reg.job g r.block
          (acc.1 ++ x, s)) ([], s)
        { s with mem := { s.mem with repairs := s.mem.repairs ++
            [{ r with t0 := s.now, gen := g, job := reg.job, xfers := xs, missing := l.length, data := some (List.replicate 64 0) }] } }

/-- A reader meets a block pending repair, or one whose repair it starts (R138). -/
def State.waitRepair (s : State) (b cls : Nat) (f : Repair → Repair) : State :=
  if s.pendingRepair b then
    { s with mem := { s.mem with repairs := s.mem.repairs.map (fun r => if r.block == b then f r else r) } }
  else s.startRepair (f { block := b, cls := cls, t0 := s.now })

/-- Does an access that meets an error at a block wait for a repair: one in progress, or that of class Twin or Seedbank
(R132, R138)? -/
def State.repairable (s : State) (b : Nat) : Bool := s.pendingRepair b || s.classOf b == 2 || s.classOf b == 3

/-- An error the module meets on its own account, with no reader waiting: detected, and its repair begun under class Twin or
Seedbank (R126, R132). -/
def State.ownError (s : State) (b : Nat) (k : BadKind) : State :=
  if s.pendingRepair b then s
  else
    let s := s.detect b k
    if s.repairable b then s.startRepair { block := b, cls := s.classOf b, t0 := s.now } else s

/-- The blocks of [a, a + n) whose read is not served at once, and why. -/
def State.badBlocksOf (s : State) (a n : Nat) : List (Nat × BadKind) :=
  (blocksOf a n).filterMap (fun b =>
    let (lo, len) := blockPart a n b
    (s.readBad b lo len).map (fun k => (b, k)))

/-- The module reads [a, a + n) for itself: every error it meets is handled (R126, R132). -/
def State.ownRead (s : State) (a n : Nat) : State := (s.badBlocksOf a n).foldl (fun s (b, k) => s.ownError b k) s

/-- A write to one block by the host, a peer or the module itself (R122, R138): performed; waiting for a repair, as `x`; or
not performed after an error, which the flag says. -/
def State.blockWrite (s : State) (b lo : Nat) (data : List Byte) (x : BlockAccess) : State × Bool :=
  match s.writeBad b lo data.length with
  | none => ((s.writeBlock b lo data).1, true)
  | some k =>
    let s := s.meet b k
    if s.repairable b then (s.waitRepair b (s.classOf b) (fun r => { r with accesses := r.accesses ++ [x] }), true) else (s, false)

/-- A write of bytes from an address on, each block's part waiting as `x` makes of it where it must. -/
def State.partsWrite (s : State) (a : Nat) (data : List Byte) (x : Nat → List Byte → BlockAccess) : State × Bool :=
  (blocksOf a data.length).foldl (fun (acc : State × Bool) b =>
    let (lo, len) := blockPart a data.length b
    let part := (data.drop (lo - a)).take len
    let (s, ok) := acc.1.blockWrite b lo part (x lo part)
    (s, acc.2 && ok)) (s, true)

/-- The module's own write of part of a block (R122, R138). -/
def State.ownWrite (s : State) (a : Nat) (data : List Byte) : State := (s.partsWrite a data .ownWrite).1

/-- The most recent completed task among a task's declared dependencies whose declared outputs cover the block at an address:
its producer (R133). -/
def State.producer (s : State) (t : Task) (a : Nat) : Option Desc :=
  let covers (d : Desc) : Bool := (outputsOf d).any (fun o => decide (o.addr ≤ a) && decide (a + 64 ≤ o.addr + o.len))
  let l := t.deps.filterMap (fun d => ((s.handleOf d.uid).bind s.chanAt).bind (fun c =>
    c.history.find? (fun x => x.1 == d.id && covers x.2.1)))
  (l.foldl (fun (m : Option (BitVec 32 × BitVec 1024 × Nat)) x => match m with
    | none => some x
    | some y => if y.2.2 < x.2.2 then some x else some y) none).map (·.2.1)

/-- A task's reads wait for a repair; its watchdog pauses (R178). -/
def State.holdTask (s : State) (t : Task) : State :=
  s.modTask t.uid t.id (fun t => { t with phase := .held, pausedAt := some s.now })

/-- A task's reads wait for its producer's second run: the watchdog bounds it (Table 4-6). -/
def State.holdRerun (s : State) (t : Task) (b : Nat) : State :=
  s.modTask t.uid t.id (fun t => { t with phase := .held, faultAddr := b * 64, faultDetail := 1 })

/-- A task's read waits for the repair of a block, in its turn among the accesses to that block (R120, R138). -/
def State.taskWaits (s : State) (t : Task) (b : Nat) : State :=
  s.waitRepair b (s.classOf b) (fun r => if r.waiters.contains (t.uid, t.id) then r else
    { r with waiters := r.waiters ++ [(t.uid, t.id)], accesses := r.accesses ++ [.task t.uid t.id] })

/-- A running task detects an error at a block: it aborts, waits for a repair, or waits for its producer's re-run, by the
block's class (Table 4-6); in its run after that re-run it ends (R133). One whose own stand the error has fenced does not wait
(R278). -/
def State.taskFault (s : State) (t : Task) (b : Nat) (k : BadKind) : State :=
  let r : ErrRec := { errRec 0x0201 with job := t.job, step := D.step t.desc, handle := t.handle, task := t.id.toNat, attempt := t.attempt }
  let cls := s.classOf b
  let s := s.meet b k r
  let ended := ((s.taskBy t.uid t.id).map (fun x => x.phase == .ended)).getD true
  if s.repairable b then
    if ended then s.waitRepair b cls id
    else if t.recomputed then (s.waitRepair b cls id).abort t Status.memoryError (b * 64) cls
    else (s.holdTask t).taskWaits t b
  else if cls == 1 && (s.producer t (b * 64)).isSome && !t.recomputed && !ended then s.holdRerun t b
  else
    let s := if cls == 1 then (s.bump Obj.repairFailures).logAt (s.memUnit b) { r with code := 0x0203, severity := 2, address := b * 64 } else s
    s.abort t Status.memoryError (b * 64) cls

end Sys2Proof.Machine
end

