-- ==== Sys2Proof/Machine/Start.lean ====
section
/-! DEFINITION. Starting a task: when it may start (R162 to R164, R173, R180, R283, R353, R416), where it runs (R165, R166),
whether its reads can be served (R114, R132, R405, R421), and how its results are written (R122, R271). -/

namespace Sys2Proof.Machine

/-- Members of a stand set that are enabled, each once (R166). -/
def State.members (s : State) (d : Desc) : List Nat :=
  dedup (((upto (D.mcCount d)).map (fun i => D.mcFirst d + i * D.mcStride d)).filter (fun n => s.standEnabled n))

/-- Data that a step still to be committed copies or digests: the sets' regions and the replica ranges (R286, R300, R310). -/
def State.securedRange (s : State) (slot job : Nat) : List (Nat × Nat) :=
  (s.mem.regions.filter (fun (r : Region) => r.valid && r.job == job && r.bankSet != 0xFFFF)).map
    (fun (r : Region) => (r.base, r.size)) ++
  (kget s.fire.replicas [] slot).map (fun e => (Replica.base e, Replica.size e))

/-- A stepped task of a later step that writes such data waits for the commit (R286, R300, R310). -/
def State.waitsCommit (s : State) (slot : Nat) (t : Task) : Bool :=
  (D.stepped t.desc || D.optimiser t.desc) && (s.job slot).toCommit.any (fun st => decide (st < D.step t.desc)) &&
    (s.securedRange slot t.job).any (fun (a, n) => (outputsOf t.desc).any (fun o => overlaps o.addr o.len a n))

/-- Earlier tasks of its channel that are outstanding. -/
def State.earlier (s : State) (t : Task) : List Task :=
  (s.chan.tasks.filter (fun x => x.uid == t.uid)).takeWhile (fun x => x.id != t.id)

/-- Does a guest still owe the task an answer? -/
def State.guestOwes (s : State) (t : Task) : Bool :=
  !t.guestWaits.isEmpty || s.edge.guestQueue.any (fun x => x.1.uid == t.uid && x.1.id == t.id)

/-- Do a repair, a producer's re-run or a guest still hold its reads? -/
def State.stillHeld (s : State) (t : Task) : Bool :=
  s.mem.repairs.any (fun r => r.waiters.contains (t.uid, t.id)) || s.guestOwes t ||
  (t.phase == .held && t.faultDetail == 1 && !t.recomputed)

/-- May the task start now, but for a stand? A task that was held, or that is retried, starts over. -/
def State.mayStart (s : State) (t : Task) : Bool :=
  match s.chanAt t.handle with
  | none => false
  | some c =>
    let slot := s.slotOfTask t
    let d := t.desc
    let st := D.step d
    (t.phase == .waiting || t.phase == .held) && !s.stillHeld t &&
    decide (s.shed < 3) &&
    (t.phase == .held || s.edge.hostLink || !(c.ringHost || c.cplHost)) &&
    (t.started || (!c.halted && !c.marked && c.resident)) &&
    (t.started || (s.earlier t).all (fun x => x.started || x.phase == .ended)) &&
    (!D.serial d || (s.earlier t).isEmpty) &&
    t.deps.all (fun x => x.state == .met) &&
    (!D.stepped d || D.kind d == kStepEnd || t.started ||
      (!s.attemptTainted slot st t.attempt && !((s.job slot).heldByNotice && st == s.step slot && t.attempt == s.att slot))) &&
    (!D.optimiser d || (s.decidedAt slot st).map (·.2) == some 0) &&
    !s.waitsCommit slot t

/-- The stands a task is bound to: those it is held on, its set, or the stand it names when that is enabled and not under test;
none where the module chooses (R165, R166, R175, R276). -/
def State.boundTo (s : State) (t : Task) : List Nat :=
  let set := if D.mcCount t.desc != 0 && !t.retried then s.members t.desc else []
  let named := D.stand t.desc
  if t.phase == .held then t.stands
  else if !set.isEmpty then set
  else if !t.retried && s.standEnabled named && s.ob (Obj.standState named) == 0 then [named] else []

/-- Does a waiting task have work ready for this stand (R165, R166, R181)? -/
def State.wantsStand (s : State) (n : Nat) (t : Task) : Bool :=
  runsOnStand (D.kind t.desc) && s.mayStart t && ((s.boundTo t).isEmpty || (s.boundTo t).contains n)

/-- Has the job of a slot work ready for a stand: waiting for it, on it, or preempted from it? -/
def State.readyAt (s : State) (n slot : Nat) : Bool :=
  s.chan.tasks.any (fun t => s.slotOfTask t == slot &&
    (s.wantsStand n t || t.onStand n || (t.phase == .preempted && t.stands.contains n)))

/-- The share of a stand that the job of a slot has been given is not over: JOB_WEIGHT × 2 ms (R181). -/
def State.inShare (s : State) (n slot : Nat) : Bool :=
  decide (s.now < (s.stand n).servesSince + s.ob (Obj.jobWeight slot) * 2000000)

/-- The slot whose job has a stand now, in weighted round robin over the jobs with work ready for it (R181): the one it
serves until its share is over, or while no other has work; then the next in the order of the slots. The order is a DESIGN
CHOICE, log entry 76. -/
def State.turn (s : State) (n : Nat) : Option Nat :=
  let l := (upto 16).filter (s.readyAt n)
  match (s.stand n).servesSlot with
  | some cur =>
    if l.contains cur && (s.inShare n cur || l.all (· == cur)) then some cur
    else ((upto 16).map (fun i => (cur + 1 + i) % 16)).find? l.contains
  | none => l.head?

/-- The stands a task runs on: those it is bound to, else the module's choice; none while one of them is not idle, or the first of
them is another job's by turn (R165, R166, R175, R181; that a set waits for the turn of its first member alone is a DESIGN CHOICE,
log entry 76). A held task goes on where it is. -/
def State.place (s : State) (t : Task) (p : Placement) : Option (List Nat) :=
  let bound := s.boundTo t
  let pick := if bound.isEmpty then [p.stand] else bound
  if t.phase == .held then some pick
  else if pick.all (fun n => s.standIdle n) && s.turn (pick.headD 0) == some (s.slotOfTask t) then some pick else none

/-- Time its watchdog has been paused until now (R178). -/
def Task.pausedFor (t : Task) (now : Nat) : Nat := match t.pausedAt with
  | some p => now - p
  | none => 0

/-- A stand serves the job of a task that starts on it (R181). Its share runs from then on, whether another job waits or not (DESIGN
CHOICE, log entry 76). -/
def State.serve (s : State) (slot n : Nat) : State :=
  if (s.stand n).servesSlot == some slot then s
  else s.modStand n (fun x => { x with servesSlot := some slot, servesSince := s.now })

/-- Hash of a task's class (R332). -/
def classOfTask (d : Desc) : Nat :=
  Config.classHash [D.kind d, D.fmtA d, D.fmtB d, D.fmtOut d, D.vop d, D.act d, Nat.log2 (D.m d), Nat.log2 (D.n d), Nat.log2 (D.k d)]

/-- A task boundary of a stand: its ageing offset takes effect (R361), and a task that starts uses its class's entry (R332). -/
def State.taskBoundary (s : State) (t : Task) (n : Nat) : State :=
  let off := s.ob (Obj.voltageOffset n)
  s.modStand n (fun x => { x with
    offset := off, rail := max x.rail (550 + off)
    classes := x.classes.map (fun c => if c.1 == classOfTask t.desc then (c.1, c.2.1, s.now) else c)
    drawn := if t.started then x.drawn else x.drawn.filter (fun d => !(d.1 == t.uid && d.2.1 == t.id)) })

/-- A task has started (R178). -/
def State.begin (s : State) (t : Task) (stands : List Nat) : State :=
  let s := s.modTask t.uid t.id (fun t => { t with
    phase := .running, started := true, result := none, stands := stands
    startAt := if t.phase == .held then t.startAt + t.pausedFor s.now else s.now
    pausedAt := none })
  stands.foldl (fun s n => (s.serve (s.slotOfTask t) n).taskBoundary t n) s

/-- Rows of an operand as (address, length). -/
def Layout.pieces (l : Layout) : List (Nat × Nat) := (upto l.rows).map (fun i => (l.at i 0, l.rowLen))

/-- What a task reads: (operand code, address, length), row by row (R433, R434). -/
def readPieces (d : Desc) : List (Nat × Nat × Nat) :=
  let tag (present : Bool) (code : Nat) (l : Layout) : List (Nat × Nat × Nat) :=
    if present then l.pieces.map (fun x => (code, x)) else []
  let k := D.kind d
  if k == kMatmul then
    tag true 1 (Lay.a d) ++ tag true 2 (Lay.b d) ++ tag (D.addrC d != 0) 3 (Lay.c d) ++
    tag (D.runs d 2 && D.addrScale d != 0) 6 (Lay.scale d) ++ tag (D.runs d 2 && D.addrBias d != 0) 7 (Lay.bias d) ++
    tag ((D.runs d 3 || D.runs d 5) && D.addrRow d != 0) 8 (Lay.row d)
  else (inputsOf d).flatMap (fun o => match o.code with
    | 1 => if standKind k then tag true 1 (Lay.a d) else [(1, o.addr, o.len)]
    | 2 => tag true 2 (Lay.b d)
    | 3 => tag true 3 (Lay.c d)
    | 8 => tag true 8 (Lay.row d)
    | _ => tag true 9 (Lay.off d))

/-- Does [a, a + n) touch a half that is not running (R405)? -/
def State.touchesLost (s : State) (a n : Nat) : Bool :=
  (!s.halfRuns 0 || !s.halfRuns 1) &&
  (blocksOf a n).any (fun b => ((s.homeOf (b * 64)).map (fun h => !s.halfRuns h)).getD false)

/-- Is the address in a guest window? -/
def isGuest (a : Nat) : Bool :=
  match placeOf a with
  | .guest _ => true
  | _ => false

/-- Site of a guest address. -/
def siteOf (a : Nat) : Nat :=
  match placeOf a with
  | .guest h => h
  | _ => 0

/-- The part of guest data at [a, a + n) as requests of at most 4,096 bytes on 64-byte blocks (R421). -/
def guestChunks (a n : Nat) : List (Nat × Nat) :=
  let lo := a / 64 * 64
  let hi := (a + n + 63) / 64 * 64
  (upto (ceilDiv (hi - lo) 4096)).map (fun i => (lo + i * 4096, min 4096 (hi - lo - i * 4096)))

/-- A tag no outstanding request of the site holds, if one is free: at most 256 are outstanding (R421). -/
def State.guestTag (s : State) (site : Nat) : Option Nat :=
  let busy := (s.edge.guestReqs.filter (fun r => r.site == site)).map (·.tag)
  ((upto 256).map (fun i => (s.edge.nextGuestTag + i) % 256)).find? (fun t => !busy.contains t)

/-- A message to a guest. -/
def State.toGuest (s : State) (site op tag a n code : Nat) (blocks : List GuestBlock) : State :=
  s.emit (.guest site (guestHeader op tag a n code) blocks)

/-- What has come of a request forwarded for the other guest goes to that guest, if its site is up (R421). -/
def State.answerGuest (s : State) (r : GuestReq) (op code : Nat) (blocks : List GuestBlock) : State :=
  match r.answer with
  | some (site, tag) => if s.guestUp site then s.toGuest site op tag r.addr r.len code blocks else s
  | none => s

/-- A guest request leaves when a tag is free, and waits otherwise (R421). -/
def State.sendGuest (s : State) (r : GuestReq) (blocks : List GuestBlock) : State :=
  match s.guestTag r.site with
  | none => { s with edge := { s.edge with guestQueue := s.edge.guestQueue ++ [(r, blocks)] } }
  | some tag =>
    let s := { s with edge := { s.edge with
      nextGuestTag := (tag + 1) % 256
      guestReqs := s.edge.guestReqs ++ [{ r with tag := tag, at_ := s.now }] } }
    let s := s.modTask r.uid r.id (fun t => { t with guestWaits := t.guestWaits ++ [(r.site, tag)] })
    s.emit (.guest r.site (guestHeader r.op tag r.addr r.len 0) blocks)

/-- A guest request is sent for a task (R421). -/
def State.askGuest (s : State) (t : Task) (op a n : Nat) (blocks : List GuestBlock) : State :=
  s.sendGuest { site := siteOf a, tag := 0, op := op, addr := a, len := n, at_ := s.now, uid := t.uid, id := t.id } blocks

/-- A tag has come free: the oldest waiting request of the site leaves. -/
def State.pumpGuest (s : State) (site : Nat) : State :=
  match s.edge.guestQueue.find? (fun x => x.1.site == site) with
  | some (r, blocks) =>
    let s := { s with edge := { s.edge with guestQueue := s.edge.guestQueue.erase (r, blocks) } }
    s.sendGuest r blocks
  | none => s

/-- Why a task's reads cannot be served as it starts: (status, address, operand), for an access refused or a lost half. -/
def State.refusedAccess (s : State) (t : Task) (l : List (Nat × Nat × Nat)) (write : Bool) : Option (BitVec 8 × Nat × Nat) :=
  l.findSome? (fun (code, a, n) => match s.firstRefused t.job write a n with
    | some x => some (Status.badAddress, x, code)
    | none => if s.touchesLost a n then some (Status.halfReset, a, 0) else none)

/-- The first detected error of a reader's reads, of what it has not read already; data from a guest were checked as they came
(R421). -/
def State.readFault (s : State) (early : List MemWrite) (l : List (Nat × Nat × Nat)) : Option (Nat × BadKind) :=
  l.findSome? (fun (_, a, n) => if isGuest a then none else s.unreadFault early a n)

/-- The first block of the writes that cannot be written because of a detected error or a repair in progress (R122, R138). -/
def State.writeFault (s : State) (ws : List MemWrite) : Option (Nat × BadKind) :=
  ws.findSome? (fun w => if isGuest w.addr then none else
    (blocksOf w.addr w.data.length).findSome? (fun b =>
      let (lo, len) := blockPart w.addr w.data.length b
      (s.writeBad b lo len).map (fun k => (b, k))))

/-- Neighbouring writes as one, so that whole blocks are written whole (R122). -/
def joinWrites : List MemWrite → List MemWrite
  | [] => []
  | w :: t => match joinWrites t with
    | [] => [w]
    | v :: t' => if v.addr == w.addr + w.data.length then ⟨w.addr, w.data ++ v.data⟩ :: t' else w :: v :: t'

/-- A task's writes: to memory, and to a guest as WRITE requests of whole blocks (R421). -/
def State.deliver (s : State) (t : Task) (ws : List MemWrite) : State :=
  (joinWrites ws).foldl (fun s w =>
    if isGuest w.addr then
      (guestChunks w.addr w.data.length).foldl (fun s (a, n) =>
        let s := s.store (max a w.addr) ((w.data.drop (a - w.addr)).take (min (a + n) (w.addr + w.data.length) - max a w.addr))
        s.askGuest t 2 a n ((upto (n / 64)).map (fun i =>
          let data := s.bytesAt (a + 64 * i) 64
          ({ data := data, check := guestCheck data (a + 64 * i) } : GuestBlock)))) s
    else s.put w.addr w.data) s

/-- May a stand check a block of another: it is enabled, STAND_STATE 0, in a running half (R267, R279)? -/
def State.canCheck (s : State) (orig n : Nat) : Bool := n != orig && s.standEnabled n && s.ob (Obj.standState n) == 0

/-- The checker of a block: the stand the module chose when it may check it, else the first that may, of the other half
before this one (R267). -/
def State.checkerFor (s : State) (orig choice : Nat) : Option Nat :=
  let other := (upto 96).map (· + 96 * (1 - orig / 96)) |>.filter (s.canCheck orig)
  let same := (upto 96).map (· + 96 * (orig / 96)) |>.filter (s.canCheck orig)
  let l := if other.isEmpty then same else other
  if l.contains choice then some choice else l.head?

/-- What a run of a task yields: its writes, report and beats; the units of an optimiser task, or the sampled checks it
opens; the counters it advances; or the status it aborts with. -/
structure Ran where
  writes : List MemWrite := []
  report : Report := {}
  busy : Nat := 0
  units : List OptUnit := []
  /-- the checks of its sampled blocks (R266, R269) -/
  checks : List Check := []
  /-- sampled blocks that no stand could check: (stand, block) (R267) -/
  unchecked : List (Nat × Nat) := []
  /-- the weight tile each stand is left with (R76) -/
  tiles : List (Nat × Tile) := []
  /-- counters to advance: (object, amount) -/
  counts : List (Nat × Nat) := []
  abort : Option (BitVec 8 × Nat × Nat) := none
  /-- records that an abort leaves unwritten: address, length, and what an earlier spill has put there (R73) -/
  left : List (Nat × Nat × List Byte) := []
  /-- data for host memory (HOST_WRITE) -/
  host : Option (Nat × List Byte) := none
  /-- its result comes later: a transfer is under way -/
  later : Bool := false
  deriving DecidableEq, Repr

/-- Guest data a task reads are requested first; it waits for them (R421). -/
def State.fetchGuest (s : State) (t : Task) : State :=
  let l := (readPieces t.desc).filter (fun (_, a, _) => isGuest a)
  l.foldl (fun s (_, a, n) => (guestChunks a n).foldl (fun s (x, k) => s.askGuest t 1 x k []) s)
    (s.modTask t.uid t.id (fun t => { t with phase := .held }))

/-- A sampled block without a checker counts as unsampled (R267, R270). -/
def State.noteUnchecked (s : State) (t : Task) (x : Nat × Nat) : State :=
  (s.logStand x.1 { errRec 0x070B with
    job := t.job, step := D.step t.desc, handle := t.handle, task := t.id.toNat, attempt := t.attempt, detail0 := x.2 }).bump
    Obj.checksAbandoned

/-- A stand is left with a weight tile. -/
def State.leaveTile (s : State) (x : Nat × Tile) : State := s.modStand x.1 (fun y => { y with tile := some x.2 })

/-- What a run leaves however it ends: the counters it advanced and the weight tiles of its stands. -/
def State.counted (s : State) (r : Ran) : State :=
  r.tiles.foldl State.leaveTile (r.counts.foldl (fun s (k, n) => s.addOb k n) s)

/-- The same, with its sampled blocks without a checker. -/
def State.tally (s : State) (t : Task) (r : Ran) : State := r.unchecked.foldl (fun s x => s.noteUnchecked t x) (s.counted r)

/-- A stand's pipelines take up work for another's task (R28). -/
def State.engage (s : State) (n : Nat) : State := s.modStand n (fun x => { x with worksSince := s.now })

/-- What a task leaves that runs to its end: its report, beats and result, its open checks, what it sends to the host, and
its writes. A task with units to compare, or with an answer to come, has no result yet. -/
def State.ran (s : State) (t : Task) (r : Ran) : State :=
  let reads := if D.kind t.desc == kMatmul then (readPieces t.desc).map (fun x => (⟨x.2.1, s.bytesAt x.2.1 x.2.2⟩ : MemWrite)) else []
  let s := s.modTask t.uid t.id (fun t => { t with
    report := r.report, busy := r.busy, units := r.units, read := reads ++ t.early,
    result := if r.units.isEmpty && !r.later then some Status.ok else none })
  let s := { s with fire := { s.fire with checks := s.fire.checks ++ r.checks } }
  let s := (r.checks.map (·.checker) ++ r.units.map (·.checker)).foldl State.engage (s.tally t r)
  let s := match r.host with
    | some (a, l) => s.hostWrite a l
    | none => s
  s.deliver t r.writes

/-- The parts of a range outside [a, a + n). -/
def cutRange (a n : Nat) (r : Nat × Nat) : List (Nat × Nat) :=
  if overlaps r.1 r.2 a n then [(r.1, a - r.1), (a + n, r.1 + r.2 - (a + n))].filter (fun x => x.2 != 0) else [r]

/-- A run ends in an abort: its counters stand, and what it has written is unspecified (R64, R174), but for the records that
would leave their range, which stay as they were or as an earlier spill has written them (R73), and for an optimiser task
without a second stand, which writes nothing (R271). -/
def State.ranAbort (s : State) (t : Task) (r : Ran) (st : BitVec 8) (a detail : Nat) : State :=
  let s := (s.modTask t.uid t.id (fun t => { t with report := r.report, busy := t.busy + r.busy })).tally t r
  let outs := (outputsOf t.desc).map (fun o => (o.addr, o.len))
  let l := if st == Status.standFenced then []
    else r.left.foldl (fun l x => l.flatMap (cutRange x.1 x.2.1)) outs
  (r.left.foldl (fun s x => s.put x.1 x.2.2) (s.spoil l)).stop t st a detail

/-- The state as a task sees its operands: what it has read before its start keeps the bytes it found (R120, R167). -/
def State.withEarly (s : State) (t : Task) : State := t.early.foldl (fun s w => s.poke w.addr w.data) s

/-- A task starts on its stands: its accesses are checked, its data read, `run` gives its result, and its writes are made.
An access refused, a lost half or a detected error ends or holds it as its rule says; one refused in the prologue has
written nothing (R167). -/
def State.start (s : State) (t : Task) (stands : List Nat) (run : State → Task → Ran) : State :=
  let s := s.begin t stands
  match s.taskBy t.uid t.id with
  | none => s
  | some t =>
    let outs := (outputsOf t.desc).map (fun o => (o.code, o.addr, o.len))
    match (s.refusedAccess t (readPieces t.desc) false).orElse (fun _ => s.refusedAccess t outs true) with
    | some (st, a, code) =>
      let s := if st == Status.badAddress then s.unmappedAccess a { errRec 0x0205 with job := t.job, handle := t.handle, task := t.id.toNat } else s
      s.stop t st a (if st == Status.badAddress then code else 0)
    | none =>
      if !t.guestReady && (readPieces t.desc).any (fun (_, a, _) => isGuest a) then s.fetchGuest t
      else match s.readFault t.early (readPieces t.desc) with
        | some (b, k) => s.taskFault t b k
        | none =>
          let r := run (s.withEarly t) t
          match r.abort with
          | some (st, a, detail) => s.ranAbort t r st a detail
          | none =>
            match s.writeFault (joinWrites r.writes) with
            | some (b, k) => (s.counted r).taskFault t b k
            | none => s.ran t r

/-- The start of a task of a given kind, when it may start and its stands are there; otherwise the event does not occur. -/
def State.startOn (s : State) (h : Nat) (id : BitVec 32) (p : Placement) (ok : Desc → Bool) (run : State → Task → Ran) : State :=
  match s.taskAt h id with
  | none => s
  | some t =>
    if ok t.desc && s.mayStart t then
      match s.place t p with
      | some stands => s.start t stands run
      | none => s
    else s

end Sys2Proof.Machine
end

