-- ==== Sys2Proof/Machine/Channels.lean ====
section
/-! DEFINITION. Channels (chapter 5): doorbells (R155, R156), descriptor fetch and admission (R157 to R162), and resident
contexts (R180, R183). -/

namespace Sys2Proof.Machine

/-! ## Resident contexts (R180) -/

/-- Most contexts resident at once. -/
def maxResident : Nat := 16384

def State.residentCount (s : State) : Nat := (s.chan.chans.filter (fun x => x.2.resident)).length

/-- A context is idle when none of its tasks has started and not completed. -/
def State.contextIdle (s : State) (c : Chan) : Bool := !(s.chan.tasks.any (fun t => t.uid == c.uid && t.started))

/-- The entry with the least value of `f`, the first of equals. -/
def leastBy {α : Type} (f : α → Nat) : List α → Option α
  | [] => none
  | x :: t => match leastBy f t with
    | none => some x
    | some y => if f y < f x then some y else some x

/-- Address of a channel's context in the context save area of a half (Table 5-6a). -/
def contextAt (half h : Nat) : Nat := 0x023F00000000 + half * 0x80000000 + h * 256

/-- Has a channel work: a descriptor not yet fetched, or an outstanding task? -/
def State.hasWork (s : State) (c : Chan) : Bool := c.tail != c.fetched || s.outstanding c.uid != 0

/-- A context is written to the context save areas of the running halves (R183, R409). Its layout is the module's own: the
bytes are free values. -/
def State.saveContext (s : State) (h : Nat) : State :=
  [0, 1].foldl (fun s half => if s.halfRuns half then (s.put (contextAt half h) (s.freeBytes 256)).drawn 256 else s) s

/-- A resident context is swapped out; a channel with work waits to come back (R180). -/
def State.swapOut (s : State) (h : Nat) : State :=
  ((s.saveContext h).modChan h (fun c => { c with
    resident := false, marked := false, waitingSince := if s.hasWork c then some s.now else none })).bump Obj.contextSwaps

/-- A context is read at an address: the tasks of a context that fails its check end with MEMORY_ERROR (R140). -/
def State.readContext (s : State) (uid a : Nat) : State :=
  match s.firstFault a 256 with
  | none => s
  | some (b, k) => (s.chan.tasks.filter (fun t => t.uid == uid)).foldl
      (fun s t => s.abort t Status.memoryError (b * 64) 0) (s.detect b k)

/-- A context is swapped in from the copy of the first half that runs (R183; which one is a DESIGN CHOICE, log entry 92). -/
def State.swapIn (s : State) (h : Nat) : State :=
  match s.chanAt h with
  | none => s
  | some c => (s.modChan h (fun c => { c with
      resident := true, marked := false, waitingSince := none, residentSince := s.now, idleSince := s.now })).readContext c.uid
        (contextAt (if s.halfRuns 0 then 0 else 1) h)

/-- The context that has been idle longest, and the channel that has waited longest (R180). -/
def State.idlest (s : State) : Option Nat :=
  (leastBy (fun (x : Nat × Chan) => x.2.idleSince) (s.chan.chans.filter (fun x => x.2.resident && s.contextIdle x.2))).map (·.1)
def State.oldestWaiting (s : State) : Option Nat :=
  (leastBy (fun (x : Nat × Chan) => x.2.waitingSince.getD 0) (s.chan.chans.filter (fun x => x.2.waitingSince.isSome))).map (·.1)

/-- Room for one more context: a free one, or that of the context idle longest. -/
def State.contextRoom (s : State) : Option State :=
  if s.residentCount < maxResident then some s else s.idlest.map s.swapOut

/-- Give a channel with an accepted doorbell its context, or none yet. -/
def State.wantContext (s : State) (h : Nat) : State :=
  match s.chanAt h with
  | none => s
  | some c =>
    if c.resident then s
    else match s.contextRoom with
      | some t => t.swapIn h
      | none => s.modChan h (fun c => { c with waitingSince := some (c.waitingSince.getD s.now) })

/-! ## Doorbells (R155, R156) -/

/-- A doorbell write that is ignored, counted and logged with code 0x0105. -/
def State.doorbellIgnored (s : State) (h v hcount : Nat) : State :=
  (s.bump Obj.doorbellsIgnored).log { errRec 0x0105 with handle := h, detail0 := v, detail1 := hcount }

/-- TAIL_WRITE (R156). -/
def execTailWrite (h : Nat) (v : BitVec 32) (s : State) : Host.Outcome State Fault Refusal :=
  match s.chanAt h with
  | none => .next (s.doorbellIgnored h v.toNat 0)
  | some c =>
    if c.destroying then .next (s.doorbellIgnored h v.toNat 0)
    else
      let step := (v - c.tail).toNat
      if step == 0 || decide (2 ^ 31 ≤ step) then .next s
      else if (v - c.fetched).toNat > c.ringEntries then .next (s.doorbellIgnored h v.toNat c.fetched.toNat)
      else .next ((s.setChan h { c with tail := v }).wantContext h)

/-- CPL_HEAD_WRITE (R156). -/
def execCplHeadWrite (h : Nat) (v : BitVec 32) (s : State) : Host.Outcome State Fault Refusal :=
  match s.chanAt h with
  | none => .next (s.doorbellIgnored h v.toNat 0)
  | some c =>
    if c.destroying then .next (s.doorbellIgnored h v.toNat 0)
    else
      let step := (v - c.cplHead).toNat
      if step == 0 || decide (2 ^ 31 ≤ step) then .next s
      else if (v - c.cplHead).toNat > (c.written - c.cplHead).toNat then .next (s.doorbellIgnored h v.toNat c.written.toNat)
      else .next ((s.setChan h { c with cplHead := v }).wantContext h)

/-- Is this a write R155 gives an effect: 64 bits at offset 0, or 32 bits at offset 0 or 4? -/
def doorbellLegal (offset width : Nat) : Bool := (width == 64 && offset == 0) || (width == 32 && (offset == 0 || offset == 4))

/-- DOORBELL_ILLEGAL_ACCESS (R155, R156): wrong width or offset, or a handle not open or being destroyed. -/
def execDoorbellIllegalAccess (h offset width : Nat) (s : State) : Host.Outcome State Fault Refusal :=
  let closed := match s.chanAt h with
    | none => true
    | some c => c.destroying
  if closed || !doorbellLegal offset width then .next (s.doorbellIgnored h 0 0) else .next s

/-! ## Admission (R161) -/

/-- The dependencies a descriptor names, as (handle, task). -/
def namedDeps (d : Desc) : List (Nat × BitVec 32) :=
  [(D.dep0Handle d, D.dep0Task d), (D.dep1Handle d, D.dep1Task d)].filter (fun x => x.1 != 0)

/-- Check 1, DESCRIPTOR_INVALID (R161, R188). -/
def State.descriptorBad (s : State) (job slot : Nat) (expected : BitVec 32) (d : Desc) : Bool :=
  let k := D.kind d
  k == 0 || decide (8 < k) || decide (1 < D.rmode d) || D.act d == 7 ||
  (k == kVector && (D.vop d == 0 || decide (0x20 < D.vop d))) || descReserved d || D.taskId d != expected ||
  (namedDeps d).any (fun x => (s.bindDep job x.1 x.2).isNone) ||
  (k == kStepEnd && (D.step d != s.step slot || decide (2 ^ 32 ≤ D.addrA d) || (s.job slot).faulted))

/-- Check 2, OPERAND_FORMAT (R40, R425, R426, Table 3-6). -/
def formatBad (d : Desc) : Bool :=
  (D.kind d == kMatmul && !matmulFormats d) || (D.kind d == kVector && !vectorFormats d)

/-- A dimension of 0 or above 4,096. -/
def dimBad (x : Nat) : Bool := x == 0 || decide (4096 < x)

/-- Check 3, SHAPE (R85, R161, R240). A VECTOR task has no K, so that its K field is not checked (DESIGN CHOICE, log entry 115). -/
def shapeBad (d : Desc) : Bool :=
  let k := D.kind d
  (k == kMatmul && (dimBad (D.m d) || dimBad (D.n d) || dimBad (D.k d))) || (k == kVector && (dimBad (D.m d) || dimBad (D.n d))) ||
  (lengthKind k && (D.length d == 0 || decide ((if k == kFabric then 268431360 else 2 ^ 32) < D.length d)))

/-- Check 4, PASS_LENGTH (R47, R95). Bit 792 belongs to LENGTH in the kinds that have one (DEDUCED, log entry 9). -/
def passBad (d : Desc) : Bool :=
  (!lengthKind (D.kind d) && decide (2 ^ 24 < D.kpass d)) || (D.kind d == kMatmul && D.kpass d != 0 && D.addrSpill d == 0)

/-- The record arrays of a task (R71, R74): (operand code, layout). The pass array counts as used whenever KPASS is not 0, also where
no spill ever falls (DESIGN CHOICE, log entry 74). -/
def recordArrays (d : Desc) : List (Nat × Layout) :=
  let k := D.kind d
  if k == kMatmul then
    if fp64Path d then []
    else (if D.addrC d != 0 && isRec (D.fmtC d) then [(3, Lay.c d)] else []) ++
      (if isRec (D.fmtOut d) then [(4, Lay.out d)] else []) ++
      (if D.addrSpill d != 0 && D.kpass d != 0 then [(5, Lay.spill d)] else [])
  else if k == kVector then
    let v := D.vop d
    (if v == 0x1E || v == 0x1F then [(1, Lay.a d)] else []) ++ (if v == 0x1E then [(2, Lay.b d)] else []) ++
    (if v == 0x1E || v == 0x1D then [(4, Lay.out d)] else [])
  else []

/-- Do two arrays share a byte, row against row? -/
def sharesByte (x y : Layout) : Bool :=
  overlaps x.addr x.span y.addr y.span &&
  (upto x.rows).any (fun i => (upto y.rows).any (fun j => overlaps (x.at i 0) x.rowLen (y.at j 0) y.rowLen))

/-- Do two of the listed arrays overlap? -/
def anyOverlap : List Layout → Bool
  | [] => false
  | l :: t => t.any (sharesByte l) || anyOverlap t

/-- Check 5, SPILL_OVERLAP (R71). -/
def spillBad (d : Desc) : Bool := D.kind d == kMatmul && anyOverlap ((recordArrays d).map (·.2))

/-- The row states a task reads or keeps (R103, R106). -/
def rowStates (d : Desc) : List (Nat × Layout) :=
  if (D.kind d == kMatmul && (D.runs d 3 || D.runs d 5) && D.addrRow d != 0) || (D.kind d == kVector && D.vop d == 0x20) then
    [(8, Lay.row d)] else []

/-- May a spill record lie at an address: scratch or understory memory, aligned to 16 bytes (R74)? -/
def recordPlace (a : Nat) : Bool :=
  a % 16 == 0 && (match placeOf a with
    | .scratch _ _ | .under _ => true
    | _ => false)

/-- Check 6, BAD_ADDRESS (R74, R113 to R115, R182, R240): the first bad operand, as (address, code). A row state holds a
spill record and is held to R74 (DEDUCED, log entry 74). ADDR_OFFSETS and the ADDR_SPILL of an FP64 reduction are not held
to the alignment of R104 and R426, which name no status (DESIGN CHOICE, log entry 74). -/
def State.addressBad (s : State) (job : Nat) (d : Desc) : Option (Nat × Nat) :=
  let records := recordArrays d ++ rowStates d
  let byOperand := (operands d).findSome? (fun o =>
    if records.any (fun x => x.1 == o.code) && !recordPlace o.addr then some (o.addr, o.code)
    else match (if o.rd then s.firstRefused job false o.addr o.len else none) with
      | some a => some (a, o.code)
      | none => (if o.wr then s.firstRefused job true o.addr o.len else none).map (fun a => (a, o.code)))
  match byOperand with
  | some x => some x
  | none =>
    if D.kind d == kFabric && (D.remoteAddr d % 64 != 0 || decide (2 ^ 16 ≤ D.tensor d)) then some (D.remoteAddr d, 10) else none

/-- Is an address that check 6 refused one the task may not touch (R113 to R115, R182), and not only one that R74 or R240
refuses? That access is counted and logged (R114). -/
def State.refusedTouch (s : State) (job : Nat) (d : Desc) (a code : Nat) : Bool :=
  (operands d).any (fun o => o.code == code && ((o.rd && !s.taskMay job false a) || (o.wr && !s.taskMay job true a)))

/-- Check 7, MULTICAST_EXHAUSTED (R144, R145): the group of the task, if it names a stand set. None: exhausted. -/
def State.joinGroup (s : State) (job uid : Nat) (id : BitVec 32) (d : Desc) : Option (Option Nat × State) :=
  let set := if standKind (D.kind d) && D.mcCount d != 0 then s.members d else []
  if set.isEmpty then some (none, s)
  else match s.mem.groups.find? (fun g => g.job == job && g.set == set) with
    | some g => some (some g.id, { s with mem := { s.mem with groups := s.mem.groups.map (fun x =>
        if x.id == g.id then { x with users := x.users ++ [(uid, id)] } else x) } })
    | none =>
      if s.mem.groups.length < 4096 then
        match (upto 4096).find? (fun i => !s.mem.groups.any (fun g => g.id == i)) with
        | some i => some (some i, { s with mem := { s.mem with groups := s.mem.groups ++ [⟨i, job, set, [(uid, id)]⟩] } })
        | none => none
      else none

/-- The first failed check of R161 but the last: (status, address, operand). -/
def State.admissionFault (s : State) (job slot : Nat) (expected : BitVec 32) (d : Desc) : Option (BitVec 8 × Nat × Nat) :=
  if s.descriptorBad job slot expected d then some (Status.descriptorInvalid, 0, 0)
  else if formatBad d then some (Status.operandFormat, 0, 0)
  else if shapeBad d then some (Status.shape, 0, 0)
  else if passBad d then some (Status.passLength, 0, 0)
  else if spillBad d then some (Status.spillOverlap, 0, 0)
  else (s.addressBad job d).map (fun (a, code) => (Status.badAddress, a, code))

/-- A task that ends with MULTICAST_EXHAUSTED: at most 64 such IDs are kept, each for 65,536 later descriptors; a further
one halts the channel (R162). -/
def State.keepExhausted (s : State) (h : Nat) (id : BitVec 32) : State :=
  s.modChan h (fun c =>
    let kept := c.exhausted.filter (fun x => c.fetchTotal - x.2 < 65536)
    if kept.length < 64 then { c with exhausted := kept ++ [(id, c.fetchTotal)] }
    else { c with exhausted := kept, halted := true, haltedOn := c.haltedOn ++ [id] })

/-- The attempt a task admitted now belongs to: that of its step when it is the job's current step, the one in which an earlier
step was decided, and 0 of a later one (R163, R173). -/
def State.attemptFor (s : State) (slot : Nat) (d : Desc) : Nat :=
  if D.step d == s.step slot then s.att slot else ((s.decidedAt slot (D.step d)).map (·.1)).getD 0

/-- What EARLY_B reads before a task's dependencies are met: operand B and the epilogue operands, which are the scale, the bias
and the row state (R167), block by block as (address, length). -/
def earlyParts (d : Desc) : List (Nat × Nat) :=
  ((readPieces d).filter (fun x => ([2, 6, 7].contains x.1 || (x.1 == 8 && D.kind d == kMatmul)) && !isGuest x.2.1)).flatMap
    (fun x => (blocksOf x.2.1 x.2.2).map (blockPart x.2.1 x.2.2))

/-- An admitted task makes these reads at once (that moment is a DESIGN CHOICE, log entry 75). A part that is not served is met as
an error; it waits for the block's repair, or is left to the start, which meets it again. -/
def State.earlyRead (s : State) (t : Task) : State :=
  let bad (x : Nat × Nat) : Option BadKind := s.readBad (x.1 / 64) x.1 x.2
  let parts := earlyParts t.desc
  let good := (parts.filter (fun x => (bad x).isNone)).map (fun x => (⟨x.1, s.bytesAt x.1 x.2⟩ : MemWrite))
  (parts.filter (fun x => (bad x).isSome)).foldl (fun s x =>
    let b := x.1 / 64
    match s.readBad b x.1 x.2 with
    | some k =>
      let s := s.meet b k { errRec 0x0201 with
        job := t.job, step := D.step t.desc, handle := t.handle, task := t.id.toNat, attempt := t.attempt }
      if s.repairable b then s.taskWaits t b else s
    | none => s) (s.modTask t.uid t.id (fun x => { x with early := good }))

/-- A fetched descriptor is admitted, or completes at once with the status of its first failed check (R161). Its
dependencies are resolved against the channels as they are before it is fetched, so that one on itself waits (R162). -/
def State.admitDesc (s : State) (h : Nat) (c : Chan) (d : Desc) : State :=
  let slot := (s.slotOf c.job).getD 16
  let exp := c.expected
  let deps := (namedDeps d).filterMap (fun x => s.bindDep c.job x.1 x.2)
  let s := s.setChan h { c with fetched := c.fetched + 1, fetchTotal := c.fetchTotal + 1, expected := exp + 1, early := [] }
  let t : Task := { uid := c.uid, handle := h, id := exp, job := c.job, desc := d, attempt := s.attemptFor slot d }
  match s.admissionFault c.job slot exp d with
  | some (st, a, detail) =>
    let s := if st == Status.badAddress && s.refusedTouch c.job d a detail then
        s.unmappedAccess a { errRec 0x0205 with job := c.job, handle := h, task := exp.toNat } else s
    s.finishCore { t with faultAddr := a, faultDetail := detail } st
  | none =>
    match s.joinGroup c.job c.uid exp d with
    | none => (s.finishCore t Status.multicastExhausted).keepExhausted h exp
    | some (g, s) =>
      let t := { t with group := g, deps := deps }
      let s := s.setTasks (s.chan.tasks ++ [t])
      if D.earlyB d && s.shed == 0 && deps.any (fun x => x.state != .met) then s.earlyRead t else s

/-- Outstanding tasks and unconsumed records leave room for one more task (R158). -/
def State.ringRoom (s : State) (c : Chan) : Bool :=
  decide (s.outstanding c.uid + (c.written - c.cplHead).toNat + c.held.length + 1 ≤ c.cplEntries - 2)

/-- Address of the next descriptor. -/
def Chan.descAddr (c : Chan) : Nat := c.ringBase + c.fetched.toNat % c.ringEntries * 128

/-- FETCH_DESCRIPTOR (R157, R158, R161, R409, R418). -/
def execFetchDescriptor (h : Nat) (hostAnswer : Option (BitVec 1024)) (s : State) : Host.Outcome State Fault Refusal :=
  match s.chanAt h with
  | none => .next s
  | some c =>
    if c.destroying || !c.resident || c.tail == c.fetched || !s.ringRoom c || (c.ringHost && !s.edge.hostLink) then .next s
    else if c.ringHost then
      match hostAnswer with
      | some d => .next (s.admitDesc h c d)
      | none => .next (s.fetchFailed h c.descAddr)
    else
      let a := c.descAddr
      if (s.firstRefused c.job false a 128).isSome then .next ((s.unmappedAccess a { errRec 0x0205 with job := c.job, handle := h }).fetchFailed h a)
      else if s.touchesLost a 128 then .next (s.fetchFailed h a)
      else match s.unreadFault c.early a 128 with
        | none => .next (s.admitDesc h c (BitVec.ofNat 1024 ((c.early.foldl (fun s w => s.poke w.addr w.data) s).numAt a 128)))
        | some (b, k) =>
          let s := s.meet b k { errRec 0x0201 with job := c.job, handle := h }
          if s.repairable b then
            .next (s.waitRepair b (s.classOf b) (fun r => if r.fetchers.contains c.uid then r else
              { r with fetchers := nins r.fetchers c.uid, accesses := r.accesses ++ [.fetch c.uid] }))
          else .next (s.fetchFailed h a)

/-! ## Time slicing of contexts -/

/-- The waiting channels come in while there is room, oldest first (R180), at most n of them. -/
def State.swapWaiting : Nat → State → State
  | 0, s => s
  | n + 1, s => match s.oldestWaiting, s.contextRoom with
    | some h, some t => State.swapWaiting n (t.swapIn h)
    | _, _ => s

/-- How many channels wait for a context, and how many are marked to give theirs up. -/
def State.waitingCount (s : State) : Nat := (s.chan.chans.filter (fun x => x.2.waitingSince.isSome)).length
def State.markedCount (s : State) : Nat := (s.chan.chans.filter (fun x => x.2.marked)).length

/-- The n unmarked resident channels that have held a context longest are marked. -/
def State.markLongest : Nat → State → State
  | 0, s => s
  | n + 1, s => match leastBy (fun (x : Nat × Chan) => x.2.residentSince)
      (s.chan.chans.filter (fun x => x.2.resident && !x.2.marked)) with
    | some (h, _) => State.markLongest n (s.modChan h (fun c => { c with marked := true }))
    | none => s

/-- QUANTUM_BOUNDARY (R37, R180), every 2 ms: waiting channels come in while contexts are free or idle (that they do so here is a DESIGN CHOICE,
log entry 92); while more than one still waits, one channel for each is marked. -/
def execQuantumBoundary (s : State) : Host.Outcome State Fault Refusal :=
  if !s.due 8 2000000 then .next s else
  let s := s.ticked 8
  let t := s.swapWaiting s.waitingCount
  .next (if 1 < t.waitingCount then t.markLongest (t.waitingCount - t.markedCount) else t)

/-- CONTEXT_EVICT (R180, R183): a marked channel none of whose started tasks is outstanding gives its context to the channel
that has waited longest. -/
def execContextEvict (h : Nat) (s : State) : Host.Outcome State Fault Refusal :=
  match s.chanAt h with
  | none => .next s
  | some c =>
    if c.marked && c.resident && s.contextIdle c then
      let next := s.oldestWaiting
      let s := s.swapOut h
      .next (match next with
        | some v => s.swapIn v
        | none => s)
    else .next s

end Sys2Proof.Machine
end

