-- ==== Sys2Proof/Machine/Packets.lean ====
section
/-! DEFINITION. What every received packet does before its own rule (R230, R262, R283, R238), the answers a destination
sends (Table 7-6), and dictionary messages to peers (R312, R342, R371). -/

namespace Sys2Proof.Machine

/-- A fabric control message (R238, R257). -/
def State.control (s : State) (dest : Nat) (c : Ctl) : State :=
  s.send { dest := dest, src := s.me, vc := 0, kind := 0xC, ctl := c }

/-- A dictionary message written to a peer (R312, R371); what waits for its response, if anything. -/
def State.peerWrite (s : State) (dest job index sub : Nat) (data : List Byte) (ask : Option PeerAsk) : State :=
  let tag := s.fab.nextTag % 65536
  let m : DictMsg := { op := 2, tag := tag, index := index, sub := sub, data := data }
  let s := { s with fab := { s.fab with
    nextTag := (tag + 1) % 65536
    asks := match ask with
      | some a => s.fab.asks ++ [(dest, tag, a)]
      | none => s.fab.asks } }
  let l := msgBytes m 0 0
  s.send { dest := dest, src := s.me, vc := 0, kind := 0xB, job := job, length := l.length, payload := l }

/-- Is an endpoint a grove peer: by the table in force, or, while a drain runs, by the old one (R238, R257)? -/
def State.inGrove (s : State) (ep : Nat) : Bool :=
  EpEntry.route (s.epEntry s.epoch ep) == 2 || (s.fab.oldEpoch.isSome && EpEntry.route (s.epEntry (1 - s.epoch) ep) == 2)

/-- A peer has been heard (R238). A lost peer heard again is no longer lost (DEDUCED, log entry 32). -/
def State.heard (s : State) (ep : Nat) : State :=
  if !s.inGrove ep then s else
  let p := kget s.fab.peers {} ep
  let s := { s with fab := { s.fab with peers := kset s.fab.peers ep { p with heardAt := s.now, lost := false } } }
  if p.lost then s.calm (.peerLost ep) else s

def State.port (s : State) (n : Nat) : Port := kget s.fab.ports {} n
def State.setPort (s : State) (n : Nat) (p : Port) : State := { s with fab := { s.fab with ports := kset s.fab.ports n p } }
def State.modPort (s : State) (n : Nat) (f : Port → Port) : State := s.setPort n (f (s.port n))

/-- Flits the retry buffer holds (R220). -/
def retryFlits : Nat := 2048

/-- The next flit of a port leaves: up to 244 waiting bytes of packets, and up to two credit returns. It is kept until it is accepted
(R219, R220, R232). -/
def State.sendFlit (s : State) (n : Nat) : State :=
  let x := s.port n
  let f := Flit.seal {
    fseq := x.txNext, ackseq := (x.rxNext + 4095) % 4096, type := if x.txRest.isEmpty then 1 else 0, credits := x.owed.take 2
    data := (x.txRest ++ List.replicate 244 0).take 244, crc := 0 }
  (s.setPort n { x with
    txNext := (x.txNext + 1) % 4096, txRest := x.txRest.drop 244, owed := x.owed.drop 2, sent := x.sent ++ [f] }).emit (.flit n f)

/-- The flits that are due on a port leave, at most k of them: those that are full, those that bring credits, and, with `flush`, one
that is not full (R219, R232). -/
def State.pumpFlits (s : State) (n : Nat) (flush : Bool) : Nat → State
  | 0 => s
  | k + 1 =>
    let x := s.port n
    if x.sent.length < retryFlits && (decide (244 ≤ x.txRest.length) || !x.owed.isEmpty || (flush && !x.txRest.isEmpty))
      then (s.sendFlit n).pumpFlits n flush k else s

/-- Flits that may be due on a port. -/
def Port.dueFlits (x : Port) : Nat := x.txRest.length / 244 + x.owed.length + 1

/-- Credits of freed buffer space go back to the sender in a flit (R232). -/
def State.returnCredits (s : State) (n vc k : Nat) : State :=
  if s.ob (Obj.portState n) % 256 != 2 then s
  else
    let s := s.modPort n (fun x => { x with owed := x.owed ++ [(vc, k)] })
    s.pumpFlits n false (s.port n).dueFlits

/-- A packet leaves the receive buffers, if it came through them; its credits go back to the sender: on a grove port in a
flit, on a forest path in the PCRED of the next frame, which falls due (R231, R232, R247). -/
def State.unbuffer (s : State) (p : Packet) : State :=
  match s.fab.rx.find? (fun x => x.2 == p) with
  | some (n, q) =>
    let s := { s with fab := { s.fab with rx := s.fab.rx.erase (n, q) } }
    if n < 7 then (s.modPort n (fun x => { x with free := x.free.modify q.vc (· + q.credits) })).returnCredits n q.vc q.credits
    else if 9 ≤ n then s
    else { s with fab := { s.fab with paths := match kget? s.fab.paths q.src with
        | some x => kset s.fab.paths q.src { x with toReturn := x.toReturn + q.credits, ackDue := some (x.ackDue.getD s.now) }
        | none => s.fab.paths } }
  | none => s

/-- PACE of a packet of a job, kept for 1 ms (R262). -/
def State.seePace (s : State) (p : Packet) : State :=
  match s.slotOf p.job with
  | some slot => s.modJob slot (fun j => { j with paceSeen := (j.paceSeen.filter (fun x => s.now - x.1 < 1000000)) ++ [(s.now, p.pace)] })
  | none => s

/-- TAINT in a packet of the current step holds the unstarted stepped tasks of the attempt (R283); a taint notice, TYPE 0x01,
says so by its own message. -/
def State.seeTaint (s : State) (p : Packet) : State :=
  if p.taint && !(p.kind == 0xA && (Firebreak.ofNat (ofBytes p.payload)).type == 1) then
    match s.slotOf p.job with
    | some slot => if p.stepLo == s.step slot % 65536 then
        (s.modJob slot (fun j => { j with heldByNotice := true })).bump Obj.noticesReceived else s
    | none => s
  else s

/-- Is the packet for this module (R229)? -/
def State.forMe (s : State) (p : Packet) : Bool := p.dest == s.me || p.dest == 0xFFFF

/-- A packet of one of the kinds arrives at its destination: its buffer is freed, its PACE and TAINT are seen, and `f` does
the rest; with a failed HCHECK it is discarded and logged (R230). A packet for another module, or of another kind, is no event
of this row. -/
def State.receive (s : State) (p : Packet) (kinds : List Nat) (f : State → State) : State :=
  if !s.forMe p || !kinds.contains p.kind || s.vcHeld p.vc then s
  else
    let s := s.unbuffer p
    if p.checkOk then f (((s.heard p.src).seePace p).seeTaint p)
    else s.log { errRec 0x0304 with detail0 := p.kind }

end Sys2Proof.Machine
end

