-- ==== Sys2Proof/Machine/Bank.lean ====
section
/-! DEFINITION. The seedbank's shared operations (chapter 9): sets and their bands, live copies (R300), the start of a
generation (R308, R311), its copy (R309), its messages (R306, R312), folding (R304) and the sums of GEN_DONE (R312). -/

namespace Sys2Proof.Machine

/-! ## Sets and bands -/

/-- The set table of a slot. -/
def State.bankSets (s : State) (slot : Nat) : List BankSet := kget s.bank.sets [] slot

/-- Endpoints of the job's modules in this module's grove, ascending, at most eight (R303). -/
def State.groveEps (s : State) (slot : Nat) : List Nat :=
  let mine := s.ob Obj.groveId
  (((s.plots slot).filter (fun e => e == s.me || EpEntry.grove (s.epEntry s.epoch e) == mine)).foldl nins []).take 8

/-- Position of an endpoint in a list. -/
def posOf (l : List Nat) (e : Nat) : Option Nat := l.findIdx? (· == e)

/-- Bytes of a whole set, its regions in entry order (R297). -/
def State.setBytes (s : State) (job set : Nat) : List Byte :=
  (s.setRegions job set).flatMap (fun (r : Region) => s.bytesAt r.base r.size)

/-- The first detected error in a set's data. -/
def State.setFault (s : State) (job set : Nat) : Option (Nat × BadKind) :=
  (s.setRegions job set).findSome? (fun (r : Region) => s.firstFault r.base r.size)

/-- Bands of a set of n members whose parity holder q keeps for position p (R303). -/
def bandsFor (size n p q : Nat) : List Nat := (upto size).filter (fun b => holderOf p n b == q)

/-- Suspended stacks: supply shed levels 3 and 4 (Table 9-7). -/
def State.stacksAsleep (s : State) : Bool := s.shed == 3 || s.shed == 4

/-! ## Live copies (R300 to R302) -/

/-- Packets that write bytes to a peer's address, 4,096 bytes each, as one transfer (R239). -/
def writePackets (me xfer dest job addr vc kind : Nat) (data : List Byte) (f : Packet → Packet) : List Packet :=
  let l := chunks 4096 data.length data
  (l.zip (upto l.length)).map (fun (d, k) => f {
    dest := dest, src := me, vc := vc, kind := kind, xfer := xfer, offset := k, total := l.length, job := job
    length := d.length, addr := addr + 4096 * k, payload := d })

/-- A transfer of the module's own takes an outgoing entry and waits in the send queue. -/
def State.startLaunch (s : State) (l : Launch) : State :=
  let (x, s) := s.allocXfer
  let ps := l.packets.map (fun p => ({ p with xfer := x } : Packet))
  let s := s.track { xfer := x, dest := l.dest, job := l.job, use := l.use, awaiting := [l.dest], packets := ps }
  { s with fab := { s.fab with sendQ := s.fab.sendQ ++ ps } }

/-- Transfers of the module's own that wait take the entries that are free, at most n of them (R244). -/
def State.pumpLaunches : Nat → State → State
  | 0, s => s
  | n + 1, s => match s.fab.launches with
    | [] => s
    | l :: rest => if s.xferRoom true then State.pumpLaunches n ({ s with fab := { s.fab with launches := rest } }.startLaunch l) else s

/-- Packets go to a peer as transfers of the module's own, of at most 65,535 packets each (R239, R300, R305); they wait for free
outgoing entries. -/
def State.launch (s : State) (dest job : Nat) (use : XferUse) (ps : List Packet) : State :=
  let cut := (chunks 65535 ps.length ps).map (fun l => (l.zip (upto l.length)).map (fun (p, k) =>
    ({ p with dest := dest, src := s.me, job := job, offset := k, total := l.length } : Packet)))
  let s := { s with fab := { s.fab with launches := s.fab.launches ++ cut.map (fun l => Launch.mk dest job use l) } }
  s.pumpLaunches s.fab.launches.length

/-- A message to a peer whose answer the generation awaits. -/
def State.askPeer (s : State) (slot dest job sub : Nat) (value : Nat) (ask : PeerAsk) : State :=
  let tag := s.fab.nextTag % 65536
  (s.peerWrite dest job 0x7030 sub (bytesOf value 16) (some ask)).modJob slot
    (fun j => { j with gen := j.gen.map (fun g => { g with awaiting := g.awaiting ++ [(dest, tag)] }) })

/-- Is a live copy of the slot's sets still on its way? -/
def State.liveOut (s : State) (slot : Nat) : Bool :=
  s.fab.outXfers.any (fun o => o.use == .twinCopy slot) || s.fab.launches.any (fun l => l.use == .twinCopy slot)

/-- The TWIN_SLOT messages of the generation go once no live copy is on its way: the twins copy the live copy of S_g (Table 9-5
events 2 and 4). -/
def State.sendSlots (s : State) (slot : Nat) : State :=
  match (s.job slot).gen with
  | none => s
  | some g =>
    if s.liveOut slot || g.abandoned then s
    else g.slots.foldl (fun s (ep, value) => s.askPeer slot ep ((s.jobOf slot).getD 0) 4 value (.twin slot))
      (s.modJob slot (fun j => { j with gen := some { g with slots := [] } }))

/-- Live copies of every twin set to both twins, as of a decided step (R300, R301); the number of stores made marks what they
hold (R302). Regions whose data show a detected error are left out (DESIGN CHOICE, log entry 33). -/
def State.liveCopies (s : State) (slot st : Nat) : State :=
  match s.jobOf slot with
  | none => s
  | some job =>
    let g := s.ob (Obj.lastGen slot)
    let regions := ((s.bankSets slot).filter (fun (e : BankSet) => e.twin)).flatMap (fun (e : BankSet) => s.setRegions job e.set)
    let s := regions.foldl (fun s (r : Region) => s.ownRead r.base r.size) s
    let good := regions.filter (fun (r : Region) => (s.firstFault r.base r.size).isNone)
    let s := if regions.length == good.length && !regions.isEmpty
      then s.modJob slot (fun j => { j with liveSent := some s.bank.stores }) else s
    (good.foldl (fun s (r : Region) =>
      ([r.twin0, r.twin1].filter (· != 0)).foldl (fun s ep =>
        s.launch ep job (.twinCopy slot) (writePackets s.me 0 ep job r.twinBase 3 1 (s.bytesAt r.base r.size)
          (fun p => { p with gen := some g, ofStep := st, stepLo := s.step slot % 65536 }))) s) s).sendSlots slot

/-- A live copy has ended at a twin: once none is out, the bands hold what was sent, if all went well (R302). -/
def State.liveCopyDone (s : State) (slot : Nat) (ok : Bool) : State :=
  let s := if ok then s else s.modJob slot (fun j => { j with liveSent := none })
  if s.liveOut slot then s
  else (s.modJob slot (fun j => { j with liveDone := match j.liveSent with
    | some n => some n
    | none => j.liveDone })).sendSlots slot

/-! ## Start of a generation (R308, R310, R311) -/

/-- Bytes of zeros stored at an address. -/
def State.zero (s : State) (a n : Nat) : State := s.put a (List.replicate n 0)

/-- Generation g starts here for step `st`: the commit words of its slot become 0, each with the rest of its block (DESIGN
CHOICE, log entry 37), and its parity areas are zeroed. A member
whose PARITY_SIZE is too small abandons it (R303). -/
def State.startGen (s : State) (slot st : Nat) : State :=
  let g := s.ob (Obj.lastGen slot) + 1
  let eps := s.groveEps slot
  let n := eps.length
  let sets := s.bankSets slot
  let s := sets.foldl (fun s (e : BankSet) => s.zero (e.copyOf g + 0xFFC0) 64) s
  let parity := sets.filter (fun (e : BankSet) => !e.twin)
  let s := parity.foldl (fun s (e : BankSet) => s.zero (e.parityOf g) (e.paritySize * 65536)) s
  let early := ((s.job slot).earlyChecks.filter (fun x => x.1 == g)).map (·.2)
  let gen : Gen := {
    gen := g, step := st, t0 := s.now, grove := eps, checks := early
    zeroed := parity.flatMap (fun (e : BankSet) => (upto e.paritySize).map (fun b => (e.set, b))) }
  let s := s.modJob slot (fun j => { j with gen := some gen, earlyChecks := [] })
  if parity.any (fun (e : BankSet) => decide (2 ≤ n) && decide (e.paritySize < ceilDiv e.size (n - 1))) then s.abandonGen slot else s

/-- NEXT_GENERATION_STEP, by default START_STEP + INTERVAL_MIN (R308, Table 9-8). -/
def State.nextGen (s : State) (slot : Nat) : Nat :=
  (kget? s.dict.objs (Obj.nextGenStep slot)).getD (s.ob (Obj.startStep slot) + s.ob Obj.intervalMin)

/-- A PASS of a step at or after NEXT_GENERATION_STEP makes it a generation step (R308). The timeout of one that riding packets
began runs from the decision (R313). -/
def State.genDecided (s : State) (slot st dec : Nat) (loss : BitVec 32) : State :=
  let s := s.modJob slot (fun j => { j with gen := j.gen.map (fun g =>
    if g.step + 1 == st && g.verify.isNone then { g with verify := some (loss, dec) }
    else if g.step == st then { g with t0 := s.now } else g) })
  if dec == 0 && (s.job slot).gen.isNone && decide (s.nextGen slot ≤ st) then s.startGen slot st else s

/-! ## The copy of a generation (R309, R310 events 3 and 4) -/

/-- The raw CRC-64 of the bands of a copy that a holder covers, combined (R306). -/
def foldValue (data : List Byte) (bands : List Nat) : Word64 :=
  bands.foldl (fun c b => c ^^^ rawCrc64 ((data.drop (b * 65536)).take 65536)) 0

/-- Header, copy and messages of one set (R305, R306, R309, Table 9-5 events 3 and 4). -/
def State.copySet (s : State) (slot job : Nat) (g : Gen) (e : BankSet) : State :=
  let data := s.setBytes job e.set
  let n := g.grove.length
  let p := (posOf g.grove s.me).getD 0
  let hdr := genHeader g.gen g.step job (s.ob (Obj.lossScaleExp slot)) (s.ob (Obj.cleanSteps slot)) e.set
    (if e.twin then 0xFF else p) n e.size g.grove (crc64 data).toNat
  let s := (s.put (e.copyOf g.gen) (bytesOf hdr 64)).put (e.copyOf g.gen + 65536) data
  if e.twin then
    let l := (s.setRegions job e.set).flatMap (fun (r : Region) => ([r.twin0, r.twin1].filter (· != 0)).map (fun ep =>
      (ep, pack [(96, 32, g.gen), (64, 32, r.twinBase / 65536), (32, 32, r.size / 65536)])))
    s.modJob slot (fun j => { j with gen := j.gen.map (fun g => { g with slots := g.slots ++ l }) })
  else if n < 2 then s
  else ((upto n).filter (fun q => q != p)).foldl (fun s q =>
    let bands := bandsFor e.size n p q
    let ep := g.grove.getD q 0
    let s := if e.rides || bands.isEmpty then s else
      s.launch ep job (.fold slot) ((bands.flatMap (fun b => (upto 16).map (fun k => b * 65536 + k * 4096))).map (fun off => {
        dest := ep, src := s.me, vc := 3, kind := 1, plot := e.set, stepLo := g.step % 65536, sbCopy := true
        length := 4096, addr := 0x7F * 2 ^ 40 + off, payload := (data.drop off).take 4096 }))
    s.askPeer slot ep job 3 (pack [(112, 16, e.set), (64, 32, g.gen), (0, 64, (foldValue data bands).toNat)]) (.fold slot)) s

/-- Event 3 and 4: the copy is taken once S_g is committed; a set whose data show a detected error abandons the generation
(DESIGN CHOICE, log entry 33). -/
def State.copyGen (s : State) (slot st : Nat) : State :=
  match (s.job slot).gen, s.jobOf slot with
  | some g, some job =>
    if g.step != st || g.copied || g.abandoned then s
    else if (s.bankSets slot).any (fun (e : BankSet) => (s.setFault job e.set).isSome) then
      ((s.bankSets slot).foldl (fun s (e : BankSet) => (s.setRegions job e.set).foldl (fun s (r : Region) => s.ownRead r.base r.size) s) s).abandonGen slot
    else
      let s := s.modJob slot (fun j => { j with
        gen := j.gen.map (fun g => { g with copied := true, copiedAt := s.now })
        copySeq := kset j.copySeq g.gen s.bank.stores })
      (s.bankSets slot).foldl (fun s e => s.copySet slot job g e) s
  | _, _ => s

/-! ## Folding (R304, R311) -/

/-- Set and offset within the source's copy of a SEEDBANK_COPY payload (R304); none when it matches no entry. -/
def State.foldOffset (s : State) (slot : Nat) (p : Packet) : Option (Nat × Nat) :=
  if p.addr / 2 ^ 40 == 0x7F then some (p.plot, p.addr % 2 ^ 40)
  else ((kget s.bank.folds [] slot).find? (fun (f : FoldEntry) =>
    f.source == p.src && decide (f.base ≤ p.addr) && decide (p.addr < f.base + f.size))).map
      (fun (f : FoldEntry) => (f.set, p.addr - f.base + 65536 * f.offset))

/-- What folding a payload comes to. -/
inductive Fold where
  /-- its band is not yet zeroed: REFUSE (R311) -/
  | refuse
  /-- it matches no entry, or this module does not hold its band -/
  | unfolded
  /-- folded into the parity of this set at this address -/
  | into (set addr : Nat)
  deriving DecidableEq, Repr

/-- Does a packet start the generation at this holder (R311)? -/
def State.startsGen (s : State) (slot : Nat) (p : Packet) : Bool :=
  (s.job slot).gen.isNone && p.stepLo == s.step slot % 65536 && decide (s.nextGen slot ≤ s.step slot)

/-- Where a SEEDBANK_COPY payload folds. -/
def State.foldOf (s : State) (slot : Nat) (p : Packet) : Fold :=
  if s.startsGen slot p then .refuse
  else match (s.job slot).gen, s.foldOffset slot p with
    | some g, some (set, x) =>
      match s.bankEntry slot set, posOf g.grove p.src with
      | some e, some from_ =>
        let n := g.grove.length
        let b := x / 65536
        let q := holderOf from_ n b
        if g.abandoned || n < 2 || e.size ≤ b || g.grove.getD q 0 != s.me then .unfolded
        else if g.zeroed.contains (set, parityBand n b) then .into set (e.parityOf g.gen + parityBand n b * 65536 + x % 65536)
        else .refuse
      | _, _ => .unfolded
    | _, _ => .unfolded

/-- Bytes combined by XOR. -/
def xorBytes (a b : List Byte) : List Byte := (a.zip b).map (fun (x, y) => x ^^^ y)

/-- Fold a payload into parity, and count its bytes for its source. A block of parity that reads with a detected error is not
written: the error is handled by its class, and the check of the fold will find it (R122, R126; DESIGN CHOICE, log entry 33). -/
def State.foldInto (s : State) (slot set addr : Nat) (p : Packet) : State :=
  let n := p.payload.length
  let s := (blocksOf addr n).foldl (fun s b =>
    let (lo, len) := blockPart addr n b
    if (s.blockFault b lo len).isSome then s
    else s.put lo (xorBytes (s.bytesAt lo len) ((p.payload.drop (lo - addr)).take len))) (s.ownRead addr n)
  s.modJob slot (fun j => { j with gen := j.gen.map (fun g =>
    let old := (g.folded.find? (fun x => x.1 == p.src && x.2.1 == set)).map (·.2.2)
    { g with folded := g.folded.filter (fun x => !(x.1 == p.src && x.2.1 == set)) ++
        [(p.src, set, old.getD 0 + p.payload.length)] }) })

/-! ## Fold checks (R306) -/

/-- Has the holder all it needs to check a set: the expected bytes and a FOLD_CHECK from every other member? -/
def State.foldReady (s : State) (g : Gen) (e : BankSet) : Bool :=
  let n := g.grove.length
  match posOf g.grove s.me with
  | none => false
  | some q => ((upto n).filter (· != q)).all (fun p =>
      let src := g.grove.getD p 0
      let want := (bandsFor e.size n p q).length * 65536
      g.checks.any (fun c => c.1 == src && c.2.1 == e.set) &&
      (want == 0 || g.folded.any (fun f => f.1 == src && f.2.1 == e.set && decide (want ≤ f.2.2))))

/-- Does the parity read well, and agree with the sources' values? -/
def State.foldAgrees (s : State) (g : Gen) (e : BankSet) : Bool :=
  let want := (g.checks.filter (fun c => c.2.1 == e.set)).foldl (fun v c => v ^^^ c.2.2.1) (0 : Word64)
  let got := (upto e.paritySize).foldl (fun v i => v ^^^ rawCrc64 (s.bytesAt (e.parityOf g.gen + i * 65536) 65536)) (0 : Word64)
  (s.firstFault (e.parityOf g.gen) (e.paritySize * 65536)).isNone && want == got

/-! ## GEN_DONE and GEN_COMPLETE (R312 to R314) -/

/-- Failures of the trailing 30 days (R314). -/
def State.failures30 (s : State) : Nat := (s.bank.failures.filter (fun t => s.now - t < 2592000000000000)).length

/-- Mean time of the last decided steps, ns (R314); none until two are decided. -/
def meanStep (l : List Nat) : Option Nat :=
  match l, l.getLast? with
  | newest :: _ :: _, some oldest => some ((newest - oldest) / (l.length - 1))
  | _, _ => none

/-- The interval I of R314 for a combined COST in ms and FAILURES. Without a mean step time it is INTERVAL_MAX (DESIGN
CHOICE, log entry 34). -/
def State.interval (s : State) (slot cost failures : Nat) : Nat :=
  let lo := s.ob Obj.intervalMin
  let hi := s.ob Obj.intervalMax
  let fixed := s.ob Obj.intervalFixed
  if fixed != 0 then fixed
  else match meanStep (s.job slot).decidedAt with
    | none => hi
    | some t => if t = 0 then hi else
        let root2 := isqrt (4 * cost * 5184 * 10 ^ 18 / max failures 1)
        min (max ((root2 + t) / (2 * t)) lo) hi

/-- GEN_COMPLETE to the hosts of the children of every node hosted here (R199, R312). -/
def State.sendGenComplete (s : State) (slot g next interval : Nat) : State :=
  (s.childHosts slot).foldl (fun s e => s.peerWrite e ((s.jobOf slot).getD 0) 0x7030 2
    (bytesOf (pack [(96, 32, g), (48, 48, next), (32, 16, interval)]) 16) none) s

/-- What a GEN_COMPLETE sets at a module (R312, R313). -/
def State.genCompleted (s : State) (slot g next interval : Nat) : State :=
  let mine := match (s.job slot).gen with
    | some x => x.gen == g && !x.abandoned
    | none => false
  let s := if mine then s.bump Obj.gensComplete else s.abandonGen slot
  let s := s.modJob slot (fun j => { j with gen := none })
  ((s.setOb (Obj.lastGen slot) g).setOb (Obj.nextGenStep slot) next).setOb (Obj.intervalInForce slot) interval

/-- The sums at a node hosted here, over its children: plots, failures, largest cost (R312). -/
def nodeSums (a l i : Nat) (sums : List (Nat × Nat × Nat × Nat × Nat)) : Nat × Nat × Nat :=
  (sums.filter (fun x => x.1 + 1 == l && x.2.1 / a ^ l == i)).foldl
    (fun acc x => (acc.1 + x.2.2.1, acc.2.1 + x.2.2.2.1, max acc.2.2 x.2.2.2.2)) (0, 0, 0)

/-- The root has recorded g complete (R314). -/
def State.rootComplete (s : State) (slot : Nat) (g : Gen) (failures cost : Nat) : State :=
  let i := s.interval slot cost failures
  let next := max (g.step + i) (s.step slot + 8)
  (s.genCompleted slot g.gen next i).sendGenComplete slot g.gen next i

/-- A child's GEN_DONE enters its parent, hosted here; a complete node passes its sums on (R312). `n` bounds the climb. -/
def State.addDone (s : State) (slot : Nat) : Nat → Nat → Nat → Nat × Nat × Nat → State
  | 0, _, _, _ => s
  | n + 1, cl, first, (plots, failures, cost) =>
    match (s.job slot).gen with
    | none => s
    | some g =>
      let a := s.arity slot
      let l := cl + 1
      let i := first / a ^ l
      if g.abandoned || g.sums.any (fun x => x.1 == cl && x.2.1 == first) then s
      else
        let g := { g with sums := g.sums ++ [(cl, first, plots, failures, cost)] }
        let s := s.modJob slot (fun j => { j with gen := some g })
        let t := nodeSums a l i g.sums
        if t.1 != coverCount a (s.plotCount slot) l i then s
        else if l == s.rootLv slot then s.rootComplete slot g t.2.1 t.2.2
        else
          let host := s.nodeHost slot (l + 1) (i / a)
          if host == s.me then s.addDone slot n l (firstPlot a l i) t
          else s.peerWrite host ((s.jobOf slot).getD 0) 0x7030 1
            (bytesOf (pack [(96, 32, g.gen), (79, 17, t.1), (32, 32, t.2.1), (0, 32, t.2.2)]) 16) none

/-- This module's plots as the votes it casts: (level-1 node, first plot, number) (R195). -/
def State.ownGroups (s : State) (slot : Nat) : List (Nat × Nat × Nat) :=
  let a := s.arity slot
  let own := s.ownPlots slot
  (dedup (own.map (· / a))).map (fun i =>
    let l := own.filter (fun p => p / a == i)
    (i, l.headD 0, l.length))

/-- This module's GEN_DONE (R312), one for each of its groups; the first carries its FAILURES, which the sums are to count once
(R314; DEDUCED, log entry 38). -/
def State.sendGenDone (s : State) (slot : Nat) (g : Gen) : State :=
  let groups := s.ownGroups slot
  groups.foldl (fun s (i, first, k) =>
    let f := if groups.head?.map (·.1) == some i then s.failures30 else 0
    let host := s.nodeHost slot 1 i
    if host == s.me then s.addDone slot 20 0 first (k, f, g.cost)
    else s.peerWrite host ((s.jobOf slot).getD 0) 0x7030 1
      (bytesOf (pack [(96, 32, g.gen), (79, 17, k), (32, 32, f), (0, 32, g.cost)]) 16) none) s

/-! ## Verification after a restore (R317) -/

/-- The module reads its commit words of a generation (R126, R132). -/
def State.readCommits (s : State) (slot g : Nat) : State :=
  (s.bankSets slot).foldl (fun s (e : BankSet) => s.ownRead (e.copyOf g + 0xFFF0) 16) s

/-- Do the commit words of every set read well, with this loss and decision? -/
def State.commitsAgree (s : State) (slot g dec : Nat) (loss : BitVec 32) : Bool :=
  (s.bankSets slot).all (fun (e : BankSet) =>
    let a := e.copyOf g + 0xFFF0
    (s.firstFault a 16).isNone && fld (s.numAt a 16) 64 32 == loss.toNat && fld (s.numAt a 16) 62 2 == dec)

/-- The first PASS or SKIP after a restore is compared with the commit words (R317). -/
def State.verifyRestore (s : State) (slot dec : Nat) (loss : BitVec 32) : State :=
  match (s.job slot).restored with
  | none => s
  | some g =>
    let s := (s.modJob slot (fun j => { j with restored := none })).readCommits slot g
    if s.commitsAgree slot g dec loss then
      let s := (s.setOb (Obj.restoreState slot) 3).setOb (Obj.lastGen slot) g
      (s.bump Obj.restores).calm (.verifyFailed slot)
    else ((s.setOb (Obj.restoreState slot) 5).bump Obj.restoreFailures |>.raise (.verifyFailed slot)).jobFault slot

/-! ## What a restore fetches (R303, R316) -/

/-- This module's own header of a set, when it reads well and is of the generation. -/
def State.ownHeader (s : State) (e : BankSet) (g : Nat) : Option Nat :=
  let h := s.headerAt (e.copyOf g)
  if (s.firstFault (e.copyOf g) 64).isNone && fld h 480 32 == g then some h else none

/-- The sources whose XOR is the byte range at offset x of the copy at position p (R303, R316). -/
def stripeSources (e : BankSet) (g : Nat) (eps : List Nat) (p x : Nat) : List (Nat × Nat) :=
  let n := eps.length
  if n < 2 then []
  else
    let b := x / 65536
    let q := holderOf p n b
    let i := parityBand n b
    (eps.getD q 0, e.parityOf g + i * 65536 + x % 65536) ::
      ((upto n).filter (fun p' => p' != p && p' != q && decide (stripeBand p' q n i < e.size))).map (fun p' =>
        (eps.getD p' 0, e.copyOf g + 65536 + stripeBand p' q n i * 65536 + x % 65536))

/-- The piece of a region at offset `o` rebuilt from elsewhere: from the stripe of position p, or from the slot copies at the
twins; a piece with no source cannot be rebuilt. The endpoint `lost` is not read. -/
def rebuild (e : BankSet) (g lost : Nat) (eps : List Nat) (p : Option Nat) (r : Region) (off o len : Nat) : Fetch :=
  let fetch (l alt : List (Nat × Nat)) : Fetch :=
    { target := r.base + o, len := len, sources := l, acc := if l.isEmpty then [] else List.replicate len 0, alt := alt }
  if e.twin then
    let at_ := r.twinBase + (if g % 2 == 1 then 1 else 2) * r.size + o
    let l := ([r.twin0, r.twin1].filter (fun x => x != 0 && x != lost)).map (fun x => (x, at_))
    fetch (l.take 1) (l.drop 1)
  else match p with
    | some p => fetch (stripeSources e g eps p (off + o)) []
    | none => fetch [] []

/-- A piece whose source has failed: its next source is tried, block by block, so that the blocks two twins have lost need not be
the same; without one it cannot be rebuilt. -/
def Fetch.failed (f : Fetch) : List Fetch :=
  match f.alt with
  | [] => [{ f with sources := [], acc := [], xfer := none }]
  | a :: more =>
    if 64 < f.len then
      let down (k : Nat) (x : Nat × Nat) : Nat × Nat := (x.1, x.2 + 64 * k)
      (upto (f.len / 64)).map (fun k => { f with
        target := f.target + 64 * k, len := 64, sources := f.sources.map (down k), acc := List.replicate 64 0
        alt := f.alt.map (down k), xfer := none })
    else [{ f with sources := [a], acc := List.replicate f.len 0, alt := more, xfer := none }]

/-- The pieces of a restore of a slot's job change. -/
def State.modTodo (s : State) (slot : Nat) (f : Fetch → List Fetch) : State :=
  s.modJob slot (fun j => { j with restore := j.restore.map (fun r => { r with todo := r.todo.flatMap f }) })

/-- A region with its offset within its set's data. -/
def withOffsets (off : Nat) : List Region → List (Region × Nat)
  | [] => []
  | r :: t => (r, off) :: withOffsets (off + r.size) t

/-- What a restore does to one region: FROM's copy is fetched; of its own copy the blocks it has are copied at once, and the others
are to be fetched; `eps` are the members of the generation. -/
def State.restoreRegion (s : State) (slot from_ g : Nat) (e : BankSet) (r : Region) (off : Nat) (eps : List Nat) : State :=
  let add (s : State) (l : List Fetch) : State := s.modJob slot (fun j => { j with
    restore := j.restore.map (fun x => { x with todo := x.todo ++ l }) })
  if from_ != 0 then
    add s ((upto (r.size / 4096)).map (fun k => rebuild e g from_ eps (posOf eps from_) r off (4096 * k) 4096))
  else
    let copy := e.copyOf g + 65536 + off
    if (s.firstFault copy r.size).isNone then s.put r.base (s.bytesAt copy r.size)
    else (upto (r.size / 64)).foldl (fun s k =>
      let s := s.ownRead (copy + 64 * k) 64
      if (s.firstFault (copy + 64 * k) 64).isNone then s.put (r.base + 64 * k) (s.bytesAt (copy + 64 * k) 64)
      else add s [rebuild e g 0 eps (posOf eps s.me) r off (64 * k) 64]) s

/-- A restore turns to this module's own copy, or to FROM's. -/
def State.restoreStage (s : State) (slot stage : Nat) (r : Restore) : State :=
  let eps := headerEps (r.head.getD 0)
  let s := s.modJob slot (fun j => { j with restore := j.restore.map (fun x => { x with stage := stage }) })
  (s.bankSets slot).foldl (fun s e => (withOffsets 0 (s.setRegions ((s.jobOf slot).getD 0) e.set)).foldl (fun s (x, off) =>
    s.restoreRegion slot (if stage == 2 then r.from_ else 0) r.gen e x off eps) s) s

/-- The generation's header is known: the restore begins with this module's own copy (R316 item 2). -/
def State.restoreHead (s : State) (slot h : Nat) : State :=
  let s := s.modJob slot (fun j => { j with restore := j.restore.map (fun x => { x with head := some h }) })
  match (s.job slot).restore with
  | some r => s.restoreStage slot 1 r
  | none => s

end Sys2Proof.Machine
end

