-- ==== Sys2Proof/Machine/Links.lean ====
section
/-! DEFINITION. Ports and links (R217 to R226, R231 to R234): training, flaps and backoff, flits, retry, credits and their
audit; routing of packets within a grove (R235, R236, R261) and what a packet without a route comes to (R226). -/

namespace Sys2Proof.Machine

/-! ## Port states (Table 7-2) -/

/-- State of a port: 0 DISABLED, 1 TRAINING, 2 UP, 3 BACKOFF, 4 HELD_DOWN. -/
def State.portSt (s : State) (n : Nat) : Nat := s.ob (Obj.portState n) % 256
def State.portUp (s : State) (n : Nat) : Bool := s.portSt n == 2

/-- A port enters a state; its peer is known only while it is UP. -/
def State.enterPort (s : State) (n st cause : Nat) : State :=
  let s := (s.setOb (Obj.portState n) (st + 256 * cause)).modPort n (fun p => { p with since := s.now })
  if st == 2 then s else s.setOb (Obj.portPeer n) 0

/-! ## Restores (R316) -/

/-- Every piece of a restore that can ask its next source does; a source that is this module is read at once. `n` bounds
the pieces and sources looked at. -/
def State.pumpRestore (s : State) (slot : Nat) : Nat → State
  | 0 => s
  | n + 1 => match (s.job slot).restore with
    | none => s
    | some r =>
      match r.todo.find? (fun f => f.xfer.isNone) with
      | none => s
      | some f =>
        let put (s : State) (l : List Fetch) : State := s.modTodo slot (fun x => if x.target == f.target then l else [x])
        match f.sources with
        | [] =>
          if f.acc.isEmpty || (f.header && fld (ofBytes f.acc) 480 32 != r.gen) then
            ((s.setOb (Obj.restoreState slot) 4).bump Obj.restoreFailures).modJob slot (fun j => { j with restore := none })
          else if f.header then (put s []).restoreHead slot (ofBytes f.acc)
          else (put (s.put f.target f.acc) []).pumpRestore slot n
        | (ep, a) :: rest =>
          if ep == s.me then
            if (s.firstFault a f.len).isSome then (put (s.ownRead a f.len) f.failed).pumpRestore slot n
            else (put s [{ f with sources := rest, acc := xorBytes f.acc (s.bytesAt a f.len) }]).pumpRestore slot n
          else if !s.xferRoom true then s
          else
            let (x, s) := s.allocXfer
            let p := { readReq s x ep a ((s.jobOf slot).getD 0) r.gen with length := f.len }
            let s := (s.track { xfer := x, dest := ep, job := p.job, use := .restore slot f.target, awaiting := [ep], packets := [p] }).send p
            (put s [{ f with xfer := some x }]).pumpRestore slot n

/-- Pieces and sources a restore has left to look at, and those that a failure adds. -/
def Restore.fuel (r : Restore) : Nat := (r.todo.map (fun f => (f.sources.length + f.alt.length + 3) * (f.len / 64 + 1))).sum + 1

/-- The fuel of the restore in progress. -/
def State.restoreFuel (s : State) (slot : Nat) : Nat := (((s.job slot).restore).map Restore.fuel).getD 0

/-- A restore sets the job's state when every piece is in place (R316 items 4 and 5). -/
def State.restoreDone (s : State) (slot : Nat) (r : Restore) : State :=
  let h := r.head.getD 0
  let step := fld h 432 48
  let s := s.modJob slot (fun j => { j with
    restore := none, restored := some r.gen, decided := j.decided.filter (fun x => decide (x.1 ≤ step))
    nodes := [], voted := false, tainted := false, earlyVote := false, heldByNotice := false, overflow := []
    failedRuns := [], digestsSent := [], toCommit := [], spoilt := [], gen := none, kept := [] })
  ((((((s.setOb (Obj.currentStep slot) (step + 1)).setOb (Obj.attempt slot) 0).setOb (Obj.lastCommitted slot) step).setOb
    (Obj.lossScaleExp slot) (fld h 414 6)).setOb (Obj.cleanSteps slot) (fld h 396 16)).setOb
    (Obj.nextGenStep slot) (step + s.ob Obj.intervalMin)).setOb (Obj.restoreState slot) 2

/-- A restore goes on as far as it can, through at most n of its stages (R316 items 2 to 5). -/
def State.runStages (s : State) (slot : Nat) : Nat → State
  | 0 => s
  | n + 1 =>
    let was := ((s.job slot).restore.map (·.stage)).getD 0
    let s := s.pumpRestore slot (s.restoreFuel slot)
    match (s.job slot).restore with
    | none => s
    | some r =>
      if r.stage != was then s.runStages slot n
      else if !r.todo.isEmpty || r.stage == 0 then s
      else if r.stage == 1 && r.from_ != 0 then (s.restoreStage slot 2 r).runStages slot n
      else s.restoreDone slot r

/-- A restore goes on as far as it can. -/
def State.runRestore (s : State) (slot : Nat) : State := s.runStages slot 4

/-- Restores go on after an answer. -/
def State.runRestores (s : State) : State := (upto 16).foldl (fun s slot => s.runRestore slot) s

/-- What waits for its transfer's answer is told of a failure or success by one endpoint (R242); `true` for DONE. -/
def State.settleXfer (s : State) (src xfer : Nat) (ok : Bool) : State :=
  match s.fab.outXfers.find? (fun o => o.xfer == xfer && o.awaiting.contains src) with
  | none => s
  | some o =>
    let left := o.awaiting.filter (· != src)
    let failed := o.failed || !ok
    let others := s.fab.outXfers.filter (fun x => x.xfer != xfer)
    if !left.isEmpty then
      { s with fab := { s.fab with outXfers := others ++ [{ o with awaiting := left, failed := failed }] } }
    else
      let s := { s with fab := { s.fab with
        outXfers := others
        sendQ := s.fab.sendQ.filter (fun p => !(p.src == s.me && p.xfer == xfer && (p.kind == 1 || p.kind == 2 || p.kind == 7)))
        resends := s.fab.resends.filter (fun r => r.packet.xfer != xfer) } }
      let s := s.pumpLaunches s.fab.launches.length
      match o.use with
      | .task uid id => match s.taskBy uid id with
        | none => s
        | some t => if t.phase != .running then s
            else if failed then s.abort t Status.fabricError
            else s.modTask uid id (fun t => { t with result := some Status.ok })
      | .repair b => if failed then
          { s with mem := { s.mem with repairs := s.mem.repairs.map (fun r =>
            if r.block == b && r.xfers.contains xfer then { r with failed := true } else r) } } else s
      | .twinCopy slot => s.liveCopyDone slot (!failed)
      | .fold slot => if failed then s.abandonGen slot else s
      | .restore slot target => if failed then s.modTodo slot (fun f =>
          if f.target == target && f.xfer == some xfer then f.failed else [f]) else s

/-- An endpoint's answer to a transfer (R242); restores go on with what it frees. -/
def State.xferAnswer (s : State) (src xfer : Nat) (ok : Bool) : State := (s.settleXfer src xfer ok).runRestores

/-- A packet without a remaining route is discarded; an ERROR with code 0x07 goes to its source (R226, R236). -/
def State.noRoute (s : State) (p : Packet) : State :=
  if p.src == s.me then (if p.kind == 1 || p.kind == 2 || p.kind == 7 then s.xferAnswer p.dest p.xfer false else s)
  else s.answerError p 7

/-- What a port leaves behind as it leaves UP: its unacknowledged packets are routed again; those of others that only its
direct link could take, and the copies of broadcasts, which go on direct ports alone, have no route left (R226, R235, R261). -/
def State.leaveUp (s : State) (n : Nat) : State :=
  let l := (s.port n).retry.map (·.2)
  let ep := s.ob (Obj.portPeer n)
  let s := s.modPort n (fun p => { p with
    retry := [], replays := [], sent := [], txNext := 0, txRest := [], owed := [], rxData := [], uncredited := []
    waitAt := List.replicate 6 none })
  let s := { s with fab := { s.fab with requeue := s.fab.requeue ++ l.filter (fun p => !p.hop && p.dest != 0xFFFF) } }
  (l.filter (fun p => p.hop || p.dest == 0xFFFF)).foldl (fun s p => s.noRoute (if p.dest == 0xFFFF then { p with dest := ep } else p)) s

/-- The wait before the next retrain, which doubles after every failed training or further flap, up to BACKOFF_MAX (R224). -/
def State.lengthen (s : State) (n : Nat) : State :=
  let w := min (max (s.port n).backoff (s.ob Obj.backoffMin)) (s.ob Obj.backoffMax)
  s.modPort n (fun p => { p with wait := w, backoff := min (2 * w) (s.ob Obj.backoffMax) })

/-- The port waits out its backoff. -/
def State.backoff (s : State) (n : Nat) : State := (s.enterPort n 3 0).lengthen n

/-- A flap (R223): counted and logged as the port leaves UP. Ports are numbered in DETAIL0 as in the dictionary's order: P0 to
P6 as 0 to 6, U0 as 7 and U1 as 8 (DESIGN CHOICE, log entry 99). -/
def State.countFlap (s : State) (n : Nat) : State :=
  let window := s.ob Obj.flapWindow * 1000000000
  let times := ((s.port n).flapTimes.filter (fun t => s.now - t < window)) ++ [s.now]
  (((s.bump (Obj.flaps n)).modPort n (fun p => { p with flapTimes := times })).leaveUp n).log { errRec 0x0302 with detail0 := n }

/-- Has a port flapped FLAP_LIMIT times within the window (R225)? -/
def State.flapsOut (s : State) (n : Nat) : Bool := decide (s.ob Obj.flapLimit ≤ (s.port n).flapTimes.length)

/-- A port leaves UP by a flap: it backs off, or is held down at the limit (R223 to R225). -/
def State.flap (s : State) (n : Nat) : State :=
  let s := s.countFlap n
  if s.flapsOut n then (s.enterPort n 4 1).lengthen n else s.backoff n

/-- A port starts training, unless a reset of its half holds it or it is an uplink without the capability (R222, R405, R414). -/
def State.train (s : State) (n : Nat) : State :=
  if (s.port n).heldByReset || (decide (7 ≤ n) && !s.cap 1) then s else s.enterPort n 1 0

/-- A write of PORT_ENABLE (R222). -/
def State.enablePort (s : State) (n v : Nat) : State :=
  let s := s.setOb (Obj.portEnable n) v
  if v == 0 then (if s.portUp n then s.leaveUp n else s).enterPort n 0 0
  else if s.portSt n == 0 then s.train n else s

/-- A write of 1 to PORT_REENABLE (R222). -/
def State.reenablePort (s : State) (n : Nat) : State := if s.portSt n == 4 then s.train n else s

/-- Why a trained grove port may not come up: the hold-down cause (R221, Table 7-13). -/
def State.peerRefused (s : State) (n : Nat) (r : PeerReport) : Option Nat :=
  if r.endpoint == 0 || r.endpoint == 0xFFFF then some 2
  else if r.grove != s.ob Obj.groveId then some 3
  else if (upto 7).any (fun k => k != n && s.portUp k && s.ob (Obj.portPeer k) == r.endpoint) then some 4
  else none

/-- A port that is UP is taken down and trained afresh, which is a flap (R223, R264). -/
def State.retrain (s : State) (n : Nat) : State :=
  let s := s.countFlap n
  if s.flapsOut n then (s.enterPort n 4 1).lengthen n else (s.lengthen n).train n

/-- The credits of an empty receiver (Table 7-7). -/
def fullCredits : List Nat := [128, 128, 256, 1024, 1024, 128]

/-- A port comes UP with the credits its receiver advertises (R226, R231). -/
def State.comeUp (s : State) (n ep : Nat) (advertised : List Nat) : State :=
  let held := (upto 6).map (fun vc => ((s.fab.rx.filter (fun x => x.1 == n && x.2.vc == vc)).map (fun x => x.2.credits)).sum)
  let s := (s.enterPort n 2 0).modPort n (fun p => { p with
    credits := advertised, free := (fullCredits.zip held).map (fun (a, b) => a - b), retry := [], replays := [], sent := []
    txNext := 0, txRest := [], owed := [], rxNext := 0, rxData := [], uncredited := [], waitAt := List.replicate 6 none
    creditAt := List.replicate 6 s.now, lastPacket := s.now })
  let s := s.relock (10 + n)
  if n < 7 then (s.setOb (Obj.portPeer n) ep).heard ep else s

/-- TRAINING_DONE (R218, R221, R222, R224): training that takes more than 100 ms has failed. -/
def execTrainingDone (port : Nat) (peer : Option PeerReport) (s : State) : Host.Outcome State Fault Refusal :=
  if s.portSt port != 1 then .next s
  else match peer with
    | none => .next (s.backoff port)
    | some r =>
      if s.me == 0 || decide ((s.port port).since + 100000000 < s.now) then .next (s.backoff port)
      else if 7 ≤ port then .next (s.comeUp port 0 fullCredits)
      else match s.peerRefused port r with
        | some cause => .next (((s.enterPort port 4 cause).lengthen port).log { errRec 0x0302 with detail0 := port })
        | none => .next (s.comeUp port r.endpoint r.credits)

/-- LINK_LOSS (R223 to R226). -/
def execLinkLoss (port : Nat) (s : State) : Host.Outcome State Fault Refusal :=
  if s.portUp port then .next (s.flap port) else .next s

/-- BACKOFF_EXPIRY (R222, R224). -/
def execBackoffExpiry (port : Nat) (s : State) : Host.Outcome State Fault Refusal :=
  if s.portSt port == 3 && decide ((s.port port).since + (s.port port).wait * 1000000 ≤ s.now) then .next (s.train port) else .next s

/-- BACKOFF_RESET (R224): 60 s UP without a break. -/
def execBackoffReset (port : Nat) (s : State) : Host.Outcome State Fault Refusal :=
  if s.portUp port && decide ((s.port port).since + 60000000000 ≤ s.now) then
    .next (s.modPort port (fun p => { p with backoff := 0 }))
  else .next s

/-! ## Flits (R219, R220, R232) -/

/-- Is flit a at or before flit b, by 12-bit sequence? -/
def flitLe (a b : Nat) : Bool := decide ((b + 4096 - a) % 4096 < 2048)

/-- Flits up to a number are accepted: they and their packets leave the retry buffer (R220). -/
def Port.acked (p : Port) (upTo_ : Nat) : Port := { p with
  sent := p.sent.filter (fun f => !flitLe f.fseq upTo_)
  retry := p.retry.filter (fun x => !flitLe x.1 upTo_), replays := p.replays.filter (fun x => !flitLe x.1 upTo_) }

/-- Credits of a VC come back: the oldest packets of that VC are credited (R231, R256). -/
def credited (vc : Nat) : Nat → List (Nat × Nat × Nat) → List (Nat × Nat × Nat)
  | _, [] => []
  | k, (v, n, e) :: t =>
    if v != vc then (v, n, e) :: credited vc k t
    else if n ≤ k then credited vc (k - n) t
    else (v, n - k, e) :: t

/-- One credit return. -/
def Port.creditBack (p : Port) (now vc k : Nat) : Port :=
  { p with credits := p.credits.modify vc (· + k), creditAt := p.creditAt.set vc now, uncredited := credited vc k p.uncredited
           waitAt := if k = 0 then p.waitAt else p.waitAt.modify vc (·.map (fun _ => now)) }

/-- The sender replays every flit after the last good one; a flit that has been replayed eight times and is still not accepted
is loss of the link (R220, R223). -/
def State.replay (s : State) (n lastGood : Nat) : State :=
  let p := (s.port n).acked lastGood
  let first := (lastGood + 1) % 4096
  let count := p.sent.length
  let s := s.setPort n p
  if 8 ≤ kget p.replays 0 first then s.flap n
  else
    let s := s.setPort n { p with replays := (upto count).map (fun k => ((first + k) % 4096, kget p.replays 0 ((first + k) % 4096) + 1)) }
    (p.sent.foldl (fun s f => s.emit (.flit n f)) (s.emit (.replay n first))).addOb Obj.linkReplays count

/-- A packet is unpacked from a flit into the receive buffer of its VC; one of a reserved kind is discarded and counted
(Table 7-6). -/
def State.unpack (s : State) (n : Nat) (p : Packet) : State :=
  if p.kind == 0 || 0xD ≤ p.kind then
    ({ s with fab := { s.fab with reservedKinds := s.fab.reservedKinds + 1 } }).returnCredits n p.vc p.credits
  else { s with fab := { s.fab with rx := s.fab.rx ++ [(n, p)] } }.modPort n (fun x => { x with
      free := x.free.modify p.vc (· - p.credits), lastPacket := s.now })

/-- The data of a flit: the packets that end in them are unpacked (R219). -/
def State.takeData (s : State) (port : Nat) (f : Flit) : State :=
  if f.type != 0 then s
  else
    let (ps, left) := f.unpack (s.port port).rxData
    ps.foldl (fun s q => s.unpack port q) (s.modPort port (fun p => { p with rxData := left }))

/-- After a flit: its NAK is answered by a replay, else the room it makes in the retry buffer is used. -/
def State.answerFlit (s : State) (port : Nat) (f : Flit) : State :=
  if f.nak then s.replay port f.ackseq else s.pumpFlits port false (s.port port).dueFlits

/-- FLIT_RECEIVE (R219, R220, R231, R232): the flit expected next is taken; one with a failed CRC is answered by NAK; any
other waits for the replay. -/
def execFlitReceive (port : Nat) (f : Flit) (s : State) : Host.Outcome State Fault Refusal :=
  if !s.portUp port then .next s
  else
    let p := s.port port
    if f.crc != f.check then .next (s.emit (.nak port ((p.rxNext + 4095) % 4096)))
    else if f.fseq != p.rxNext then .next s
    else
      let p := f.credits.foldl (fun p (vc, k) => p.creditBack s.now vc k) { p with rxNext := (p.rxNext + 1) % 4096 }
      let s := (s.setPort port (if f.nak then p else p.acked f.ackseq)).heard (s.ob (Obj.portPeer port))
      .next ((s.takeData port f).answerFlit port f)

/-- NAK_RECEIVE (R220, R223). -/
def execNakReceive (port lastGood : Nat) (s : State) : Host.Outcome State Fault Refusal :=
  if s.portUp port then .next (s.replay port lastGood) else .next s

/-! ## Routing (R235, R236, R255) -/

/-- The endpoint table entry a packet is routed by: the version of its EPOCH (R255). -/
def State.routeOf (s : State) (p : Packet) : EpEntry := s.epEntry p.epoch p.dest

/-- Is the direct port of a grove entry UP to this endpoint? -/
def State.directUp (s : State) (e : EpEntry) (dest : Nat) : Bool := e.port < 7 && s.portUp e.port && s.ob (Obj.portPeer e.port) == dest

/-- Packets that have not left yet, with the epoch they are routed by: their own where they are routed again or forwarded, the
injection epoch else (R255). -/
def State.unsent (s : State) : List Packet :=
  s.fab.requeue ++ s.fab.sendQ.map (fun p => ({ p with epoch := s.epoch } : Packet)) ++ s.fab.waitingFwd.map (·.packet)

/-- Bytes of a VC queued for a port: those of unsent packets whose direct route it is (which queue a packet waits in before its
route is chosen is a DESIGN CHOICE, log entry 100). -/
def State.queued (s : State) (n vc : Nat) : Nat :=
  ((s.unsent.filter (fun p => p.vc == vc && s.directUp (s.routeOf p) p.dest && (s.routeOf p).port == n)).map
    (fun p => 32 + p.payload.length)).sum

/-- The port a grove packet leaves by: the direct one or the first hop of a two-hop path, by the shorter queue of its VC,
the direct one on a tie; VC0 takes two hops only when the direct port is down (R235, Table 7-7). `viaUp` are the peers
whose own link to the destination is UP. -/
def State.groveRoute (s : State) (e : EpEntry) (p : Packet) (viaUp : List Nat) : Option Nat :=
  let direct := s.directUp e p.dest
  let hops := if s.shown Obj.twoHop == 0 || (p.vc == 0 && direct) then []
    else (upto 7).filter (fun k => s.portUp k && viaUp.contains (s.ob (Obj.portPeer k)) && s.ob (Obj.portPeer k) != p.dest)
  let cands := (if direct then [e.port] else []) ++ hops
  cands.foldl (fun (best : Option Nat) k => match best with
    | none => some k
    | some b => if s.queued k p.vc < s.queued b p.vc then some k else some b) none

/-- Does a grove port lack the credits a packet takes (R231)? -/
def Port.lacks (x : Port) (p : Packet) : Bool := decide (x.credits.getD p.vc 0 < p.credits)

/-- Does a grove port hold the credits and the retry room a packet takes (R220, R231)? -/
def State.portReady (s : State) (n : Nat) (p : Packet) : Bool :=
  let x := s.port n
  !s.vcHeld p.vc && !x.lacks p && decide (x.sent.length + ceilDiv (x.txRest.length + 32 + p.payload.length) 244 ≤ retryFlits)

/-- A packet found its port without the credits it takes: since when one waits for them is kept (R232). -/
def State.noteWait (s : State) (n : Nat) (p : Packet) : State :=
  if (s.port n).lacks p then s.modPort n (fun x => { x with waitAt := x.waitAt.modify p.vc (fun t => some (t.getD s.now)) }) else s

/-- Something has been sent to a grove peer (R238). -/
def State.sentTo (s : State) (ep : Nat) : State :=
  if s.inGrove ep then
    { s with fab := { s.fab with peers := kmod s.fab.peers {} ep (fun x => { x with sentAt := s.now }) } } else s

/-- Does some waiting packet come next on a port: its direct route, with all it takes? The flit that is not full then waits for it
(R219). -/
def State.moreFor (s : State) (n : Nat) : Bool :=
  s.unsent.any (fun p => (s.routeOf p).port == n && s.directUp (s.routeOf p) p.dest && s.portReady n p)

/-- A sealed packet leaves on a grove port, packed end to end with those before it (R219, R220, R231). -/
def State.onPort (s : State) (n : Nat) (p : Packet) : State :=
  let p := p.seal
  let s := s.modPort n (fun x => { x with
    txRest := x.txRest ++ p.octets
    retry := x.retry ++ [((x.txNext + (x.txRest.length + p.octets.length - 1) / 244) % 4096, p)]
    credits := x.credits.modify p.vc (· - p.credits)
    uncredited := x.uncredited ++ [(p.vc, p.credits, p.epoch)], lastPacket := s.now, waitAt := x.waitAt.set p.vc none })
  let s := ((s.sentTo (s.ob (Obj.portPeer n))).sentTo p.dest).emit (.packet n p)
  s.pumpFlits n (!s.moreFor n) (s.port n).dueFlits

/-! ## Intermediate modules (R233, R235) -/

/-- An intermediate sends a packet on its direct port, with HOP set. -/
def State.hopOn (s : State) (n port : Nat) (p : Packet) (vc : Nat) : State :=
  let s := s.unbuffer p
  { s with fab := { s.fab with waitingFwd := s.fab.waitingFwd.filter (fun w => !(w.port == port && w.packet == p)) } }.onPort n
    { p with hop := true, vc := vc }

/-- PACKET_FORWARD (R235, R255): a packet for another module, once, on the direct port to its destination; it waits for
credits, and is discarded when it has no route. -/
def execPacketForward (port : Nat) (p : Packet) (s : State) : Host.Outcome State Fault Refusal :=
  if s.forMe p || !s.fab.rx.contains (port, p) then .next s
  else
    let e := s.routeOf p
    if p.hop || e.route != 2 || !s.directUp e p.dest then .next ((s.unbuffer p).noRoute p)
    else if s.portReady e.port p then .next (s.hopOn e.port port p p.vc)
    else if s.fab.waitingFwd.any (fun w => w.port == port && w.packet == p) then .next (s.noteWait e.port p)
    else
      let s := s.noteWait e.port p
      .next { s with fab := { s.fab with waitingFwd := s.fab.waitingFwd ++ [⟨port, p, s.now⟩] } }

/-- ESCAPE_WAIT_EXPIRY (R233): the n-th waiting packet moves to VC5. -/
def execEscapeWaitExpiry (n : Nat) (s : State) : Host.Outcome State Fault Refusal :=
  match s.fab.waitingFwd[n]? with
  | none => .next s
  | some w =>
    let e := s.routeOf w.packet
    if decide (w.since + s.ob Obj.escapeWait * 1000 ≤ s.now) && s.directUp e w.packet.dest && s.portReady e.port { w.packet with vc := 5 } then
      .next ((s.hopOn e.port w.port w.packet 5).bump Obj.escapeUses)
    else .next s

/-! ## Credits (R232, R234) -/

/-- Does some packet wait for credits of a VC on a port: on its direct route, on the first hop of a two-hop one, or, a broadcast, on
the direct route to one of its peers (R232, R261)? -/
def State.waitsCredits (s : State) (n vc : Nat) : Bool :=
  s.unsent.any (fun p => p.vc == vc && (s.port n).lacks p && (p.dest == 0xFFFF || (s.routeOf p).route == 2) &&
    ((p.dest == 0xFFFF && s.portUp n) || (s.routeOf p).port == n || (s.shown Obj.twoHop != 0 && !p.hop && p.dest != s.ob (Obj.portPeer n))))

/-- Since when a packet has waited for credits of a VC on a port, none of which has returned meanwhile (R232). -/
def Port.waitFrom (p : Port) (vc : Nat) : Option Nat := (p.waitAt.getD vc none).map (max (p.creditAt.getD vc 0))

/-- CREDIT_RETURN_TIMEOUT (R223, R232): the port is taken down for retraining, as a flap. -/
def execCreditReturnTimeout (port vc : Nat) (s : State) : Host.Outcome State Fault Refusal :=
  if s.portUp port && s.waitsCredits port vc &&
      (((s.port port).waitFrom vc).map (fun t => decide (t + 50000 ≤ s.now))).getD false then .next (s.flap port)
  else .next s

/-- CREDIT_AUDIT_IDLE (R234): 20 µs without packets, at most one audit per millisecond. -/
def execCreditAuditIdle (port : Nat) (s : State) : Host.Outcome State Fault Refusal :=
  let p := s.port port
  let due := match p.lastAudit with
    | some t => decide (t + 1000000 ≤ s.now)
    | none => true
  if s.portUp port && decide (p.lastPacket + 20000 ≤ s.now) && due then
    let s := s.pumpFlits port true p.dueFlits
    .next ((s.modPort port (fun p => { p with lastAudit := some s.now })).emit (.audit port p.credits p.free))
  else .next s

/-- AUDIT_FLIT_RECEIVE (R234): where the sender's count differs it adopts the receiver's, logs and counts. -/
def execAuditFlitReceive (port : Nat) (free : List Nat) (s : State) : Host.Outcome State Fault Refusal :=
  if !s.portUp port then .next s
  else .next ((upto 6).foldl (fun s vc =>
    let mine := (s.port port).credits.getD vc 0
    let theirs := free.getD vc 0
    if mine == theirs then s
    else ((s.modPort port (fun p => { p with credits := p.credits.set vc theirs })).log
      { errRec 0x0301 with detail0 := mine, detail1 := theirs }).bump Obj.auditMismatches) s)

end Sys2Proof.Machine
end

