-- ==== Sys2Proof/Machine/Reply.lean ====
section
/-! DEFINITION. The answers of the dictionary: response statuses (Table 11-4), what a response carries (R374), and the path
it leaves by (R365 to R371). -/

namespace Sys2Proof.Machine

/-- What executing a request comes to (Table 11-4). -/
inductive Reply where
  /-- OK, with the data of the response -/
  | ok (data : List Byte := [])
  /-- INVALID_VALUE; a refused commit names a subindex (R374) -/
  | invalid (sub : Option Nat := none)
  | busy | noObject | denied | bad | retry
  /-- the response comes later (R257, R306) -/
  | later
  deriving DecidableEq, Repr

/-- Status code of Table 11-4. -/
def Reply.code : Reply → Nat
  | .ok _ => 0 | .invalid _ => 1 | .busy => 2 | .noObject => 3 | .denied => 4 | .bad => 5 | .retry => 6 | .later => 0

/-- Data of the response (R374). -/
def Reply.data : Reply → List Byte
  | .ok d => d
  | .invalid (some sub) => [BitVec.ofNat 8 sub]
  | _ => []

/-- A request that writes a value to an object, as a command spells it. -/
def writeMsg (v : Via) (index sub : Nat) (data : List Byte) : DictMsg :=
  { op := 2, tag := v.tag, index := index, sub := sub, length := data.length, data := data }

/-- A commit (R383). -/
def commitMsg (v : Via) (index : Nat) : DictMsg := writeMsg v index 0xFF [1]

/-- The response leaves by the path of its request (R367 to R371, R374); refusals are counted (Table 11-9). -/
def State.respond (s : State) (v : Via) (m : DictMsg) (r : Reply) : State :=
  if r == .later then s else
  let s := if r.code == 0 then s else s.bump Obj.dictRefused
  let m := { m with resp := true, length := r.data.length, data := r.data }
  match v.role with
  | .host =>
    let s := { s with dict := { s.dict with responseBuf := (m, r.code), done := true, go := false } }
    s.msix s.dict.msixVector
  | .bmc => s.answerI3c (.response v.role (mctpHeader v.src s.edge.mctpEid v.msgTag ++
      mctpVendor (s.ob 0x100008) (msgBytes m (roleCode v.role) r.code)))
  | .tray => s.emit (.response v.role (trayFrame v.mac s.mac (s.ob 0x500005) (msgBytes m (roleCode v.role) r.code)))
  | .peer =>
    let l := msgBytes m (roleCode .peer) r.code
    s.send { dest := v.src, src := s.me, vc := 0, kind := 0xB, length := l.length, payload := l }

/-- A received DICT packet with this tag from the requester, if one waits in the receive buffers. -/
def State.dictPacket (s : State) (src tag : Nat) : Option Packet :=
  (s.fab.rx.find? (fun x => x.2.kind == 0xB && x.2.src == src && fld (ofBytes (x.2.payload.take 16)) 96 16 == tag)).map (·.2)

/-- A DICT packet of a source with this tag whose HCHECK fails, if one waits (R230). -/
def State.badDict (s : State) (src tag : Nat) : Option Packet := (s.dictPacket src tag).filter (fun p => !p.checkOk)

/-- It is discarded and logged, and nothing answers it (R230). -/
def State.dropDict (s : State) (p : Packet) : State := (s.unbuffer p).log { errRec 0x0304 with detail0 := p.kind }

/-- A request arrives on its path: it is counted for its role (Table 11-9), and a peer's packet leaves the receive buffers
and shows that the peer is alive (R238). -/
def State.takeRequest (s : State) (v : Via) : State :=
  let s := s.bump (Obj.dictRequests (roleCode v.role))
  if v.role == .peer then
    match s.dictPacket v.src v.tag with
    | some p => ((s.unbuffer p).heard v.src).seePace p
    | none => s.heard v.src
  else s

/-- Requests a path may have outstanding (Table 11-1). -/
def pathLimit : Role → Nat
  | .host => 1 | .bmc => 8 | .tray => 8 | .peer => 64

end Sys2Proof.Machine
end

