-- ==== Sys2Proof/Machine/Epoch.lean ====
section
/-! DEFINITION. Endpoint and plot tables and their change on a live fabric (R251 to R259, R204): commits, the switch at the
coordinator, FLIP, the drain and RETIRE; and a change of the endpoint itself (R21, R251). -/

namespace Sys2Proof.Machine

/-! ## Versions -/

/-- The endpoint table of a version, and its plot tables. -/
def State.ept (s : State) (v : Nat) : KMap EpEntry := if v == 0 then s.fab.ept0 else s.fab.ept1
def State.setEpt (s : State) (v : Nat) (m : KMap EpEntry) : State :=
  { s with fab := if v == 0 then { s.fab with ept0 := m } else { s.fab with ept1 := m } }
def State.setPlots (s : State) (v slot : Nat) (l : List Nat) : State :=
  { s with fab := if v == 0 then { s.fab with plots0 := kset s.fab.plots0 slot l }
      else { s.fab with plots1 := kset s.fab.plots1 slot l } }

/-- Other modules of this module's grove, by the table in force, that are not lost. -/
def State.liveGrove (s : State) : List Nat :=
  ((s.ept s.epoch).filter (fun (x : Nat × EpEntry) => x.2.route == 2 && x.1 != s.me && !(kget s.fab.peers {} x.1).lost)).map (·.1)

/-- The coordinator: the lowest endpoint of the grove that is not lost (R257). -/
def State.coordinator (s : State) : Nat := s.liveGrove.foldl min s.me

/-- Does this module carry on a drain: it is the coordinator, or every lower endpoint has been reset? A coordinator that polls every 10
µs and has been silent for 100 µs counts as reset, and so does each next one after 100 µs more (R258; DEDUCED, log entry 98). -/
def State.drains (s : State) : Bool :=
  decide (s.fab.polledAt + 100000 * (s.liveGrove.filter (· < s.me)).length ≤ s.now)

/-- Whom a drain asks and tells: the live grove, and the modules of the old table's grove that the new one still routes to
(DEDUCED, log entry 98). -/
def State.drainGrove (s : State) : List Nat :=
  let old := ((s.ept (1 - s.epoch)).filter (fun (x : Nat × EpEntry) => x.2.route == 2 && x.1 != s.me &&
    (s.epEntry s.epoch x.1).route != 0 && !(kget s.fab.peers {} x.1).lost)).map (·.1)
  dedup (s.liveGrove ++ old)

/-- Is a switch or a drain under way (R257)? -/
def State.switching (s : State) : Bool := s.ob Obj.drainState != 0 || s.fab.oldEpoch.isSome

/-! ## Commits -/

/-- What R254 checks of an endpoint table, and of plot tables with their PLOT_COUNT. -/
def endpointsOk (me : Nat) (ept : KMap EpEntry) : Bool :=
  EpEntry.route (kget ept 0 me) == 1 &&
  ept.all (fun (x : Nat × EpEntry) =>
    !(x.2.route == 2 && x.2.port == 7) && !(x.2.route == 3 && x.2.uplinks == 0))
def plotsOk (ept : KMap EpEntry) (plots : List (Nat × List Nat)) : Bool :=
  plots.all (fun (count, l) => decide (count ≤ l.length) && l.all (fun e => EpEntry.route (kget ept 0 e) != 0))

/-- A set reserved bit of an endpoint table entry (Table 7-8). -/
def EpEntry.reservedSet (e : EpEntry) : Bool := fld e.toNat 96 13 != 0 || fld e.toNat 0 48 != 0

/-- The commit of `0x5010:FF` (R254): both tables go into the inactive version. Job slots without a job have no plot count
to meet. -/
def State.commitTables (s : State) (ept : List EpEntry) (plots : List (List Nat)) : State × Reply :=
  let m : KMap EpEntry := (upto ept.length).zip ept
  let counted := (upto plots.length).zip plots |>.map (fun (slot, l) =>
    (if (s.jobOf slot).isSome then s.ob (Obj.plotCount slot) else 0, l))
  if ept.any EpEntry.reservedSet || !endpointsOk s.me m then (s, .invalid (some 1))
  else if !plotsOk m counted then (s, .invalid (some 0))
  else if s.switching then (s, .busy)
  else
    let other := 1 - s.epoch
    let s := s.setEpt other m
    let s := ((upto plots.length).zip plots).foldl (fun s (slot, l) => s.setPlots other slot l) s
    ({ s with fab := { s.fab with ready := true } }, .ok)

/-- The commit of `0x5000:FF` (R264): refused while a job slot is in use; a change takes every port whose PORT_ENABLE is 1
down and trains it afresh. -/
def State.commitEndpoint (s : State) (ep grove : Nat) : State × Reply :=
  if (upto 16).any (fun i => (s.jobOf i).isSome) then (s, .busy)
  else if ep == s.me && grove == s.ob Obj.groveId then (s, .ok)
  else
    let s := (s.setOb Obj.endpointId ep).setOb Obj.groveId grove
    ((upto 9).foldl (fun s n => if s.ob (Obj.portEnable n) == 0 then s
      else if s.portUp n then s.retrain n else s.train n) s, .ok)

/-! ## The switch at the coordinator (Table 7-9) -/

/-- A control packet of a source arrives: it leaves the receive buffers, the source is alive (R238), and `k` does the rest; with
a failed HCHECK it is discarded and logged (R230). -/
def State.takeCtl (s : State) (src : Nat) (f : Ctl → Bool) (k : State → State) : State :=
  match s.fab.rx.find? (fun x => x.2.kind == 0xC && x.2.src == src && f x.2.ctl) with
  | some (_, p) => if p.checkOk then k ((s.unbuffer p).heard src)
      else (s.unbuffer p).log { errRec 0x0304 with detail0 := p.kind }
  | none => k (s.heard src)

/-- Packets of the old epoch this module holds (R256). -/
def State.drainCount (s : State) : Nat :=
  match s.fab.oldEpoch with
  | none => 0
  | some e =>
    (s.fab.rx.filter (fun x => x.2.epoch == e)).length + (s.fab.requeue.filter (fun p => p.epoch == e)).length +
    (s.fab.ports.map (fun x => (x.2.uncredited.filter (fun u => u.2.2 == e)).length)).sum +
    (s.waitingPackets.filter (fun p => p.epoch == e)).length +
    (s.fab.paths.map (fun x => (x.2.unacked.filter (fun u => u.2.2.2.epoch == e)).length)).sum

/-- Endpoints the new table brings into the grove are peers from now on (R238). -/
def State.meetPeers (s : State) : State :=
  s.liveGrove.foldl (fun s e => if (kget? s.fab.peers e).isSome then s
    else { s with fab := { s.fab with peers := kset s.fab.peers e { heardAt := s.now, sentAt := s.now } } }) s

/-- The plot table of a job changes: until the decision of an open round the old one stays in use, else it changes at once;
a change abandons a generation in progress (R204, R313). -/
def State.plotsChanged (s : State) (slot : Nat) (old : List Nat) : State :=
  if (s.jobOf slot).isNone then s
  else
    let k := s.ob (Obj.plotCount slot)
    if (s.plotTable s.epoch slot).take k == old.take k then s
    else if s.roundOpen slot then s.modJob slot (fun j => { j with plotsHeld := some (j.plotsHeld.getD old) })
    else s.abandonGen slot

/-- The injection epoch flips (Table 7-9, event 4). -/
def State.flipEpoch (s : State) : State :=
  let old := s.epoch
  let plots := (upto 16).map (fun slot => s.plotTable old slot)
  let s := s.setOb Obj.epochActive (1 - old)
  let s := { s with fab := { s.fab with oldEpoch := some old, ready := false, polledAt := s.now } }
  ((upto 16).zip plots).foldl (fun s (slot, l) => s.plotsChanged slot l) s.meetPeers

/-- The first FLIP to a module is sent before the epoch flips here: it keeps the old one, by whose table the module is in the grove
(R255, R257). -/
def State.sendFlip (s : State) (dest : Nat) : State :=
  let p : Packet := { dest := dest, src := s.me, epoch := s.epoch, vc := 0, kind := 0xC, pace := s.ob Obj.ownPace, ctl := .flip }
  { s with fab := { s.fab with requeue := s.fab.requeue ++ [p] } }

/-- Every module has answered: the write is refused, or FLIP goes to all of them and the drain begins (events 3 and 4). -/
def State.queriesAnswered (s : State) : State :=
  let sw := s.fab.switch
  let m (v : Via) := writeMsg v 0x5012 1 [1]
  if !sw.queries.isEmpty || s.ob Obj.drainState != 1 then s
  else if sw.notReady then
    let s := ({ s with fab := { s.fab with switch := {} } }).setOb Obj.drainState 0
    match sw.via with
    | some v => s.respond v (m v) (.invalid)
    | none => s
  else
    let peers := s.liveGrove
    let s := peers.foldl (fun s e => s.sendFlip e) s
    let s := s.flipEpoch.setOb Obj.drainState 2
    let s := { s with fab := { s.fab with switch := { flips := peers.map (fun e => (e, s.now)), pollAt := s.now } } }
    match sw.via with
    | some v => s.respond v (m v) (.ok)
    | none => s

/-- A write of 1 to EPOCH_SWITCH (events 2 to 4). Away from the coordinator it has no meaning the manual gives, and is refused
as an invalid value (DESIGN CHOICE, log entry 35). -/
def State.startSwitch (s : State) (v : Via) : State × Reply :=
  if s.switching then (s, .busy)
  else if s.coordinator != s.me || s.me == 0 then (s, .invalid)
  else if !s.fab.ready then (s, .invalid)
  else
    let peers := s.liveGrove
    let s := s.setOb Obj.drainState 1
    let s := { s with fab := { s.fab with switch := { via := some v, queries := peers } } }
    ((peers.foldl (fun s e => s.control e .readyQuery) s).queriesAnswered, .later)

/-- EPOCH_READY_QUERY (event 2): the answer goes to the coordinator that asks. -/
def execEpochReadyQuery (src : Nat) (s : State) : Host.Outcome State Fault Refusal :=
  .next (s.takeCtl src (· == .readyQuery) (fun s => s.control src (.readyAnswer (s.fab.ready && s.fab.oldEpoch.isNone))))

/-- EPOCH_READY_ANSWER (events 2 to 4). -/
def execEpochReadyAnswer (src : Nat) (ready : Bool) (s : State) : Host.Outcome State Fault Refusal :=
  .next (s.takeCtl src (· == .readyAnswer ready) (fun s =>
    if s.fab.switch.queries.contains src then
      { s with fab := { s.fab with switch := { s.fab.switch with
        queries := s.fab.switch.queries.filter (· != src), notReady := s.fab.switch.notReady || !ready } } }.queriesAnswered
    else s))

/-- FLIP (event 4): the injection epoch flips on receipt, once; a FLIP repeated because the answer was lost is answered again
(R258). -/
def execFlip (src : Nat) (s : State) : Host.Outcome State Fault Refusal :=
  .next (s.takeCtl src (· == .flip) (fun s => (if s.fab.ready then s.flipEpoch else s).control src .flipAnswer))

/-- FLIP_ANSWER (event 4). -/
def execFlipAnswer (src : Nat) (s : State) : Host.Outcome State Fault Refusal :=
  .next (s.takeCtl src (· == .flipAnswer) (fun s =>
    { s with fab := { s.fab with switch := { s.fab.switch with flips := s.fab.switch.flips.filter (fun (x : Nat × Nat) => x.1 != src) } } }))

/-- FLIP_RETRY (R258): no answer for 100 µs; a lost module is left out. -/
def execFlipRetry (peer : Nat) (s : State) : Host.Outcome State Fault Refusal :=
  match s.fab.switch.flips.find? (fun x => x.1 == peer) with
  | none => .next s
  | some (_, t) =>
    if s.now < t + 100000 then .next s
    else if (kget s.fab.peers {} peer).lost then
      .next { s with fab := { s.fab with switch := { s.fab.switch with flips := s.fab.switch.flips.filter (fun x => x.1 != peer) } } }
    else
      .next ({ s with fab := { s.fab with switch := { s.fab.switch with
        flips := s.fab.switch.flips.map (fun (x : Nat × Nat) => if x.1 == peer then (peer, s.now) else x) } } }.control peer .flip)

/-- The old version is retired: writable again (event 6). -/
def State.retireOld (s : State) : State :=
  ({ s with fab := { s.fab with oldEpoch := none, switch := {}, polledAt := 0 } }).setOb Obj.drainState 0

/-- DRAIN_POLL (events 5 and 6, R258): every 10 µs the coordinator reads the counts of the modules that are not lost; when
every FLIP is answered and the sum is zero it sends RETIRE. A coordinator that takes over carries on from here. -/
def execDrainPoll (s : State) : Host.Outcome State Fault Refusal :=
  if s.fab.oldEpoch.isNone || !s.drains || s.now < s.fab.switch.pollAt + 10000 then .next s
  else
    let peers := s.drainGrove
    let sw := s.fab.switch
    if sw.flips.isEmpty && peers.all (fun e => kget? sw.counts e == some 0) && s.drainCount == 0 then
      .next ((peers.foldl (fun s e => s.control e .retire) s).retireOld)
    else
      let s := { s with fab := { s.fab with switch := { sw with counts := [], pollAt := s.now } } }
      .next ((peers.foldl (fun s e => s.control e .drainPoll) s).setOb Obj.drainState 2)

/-- DRAIN_COUNT_REPORT (event 5): a poll is answered with this module's count; a reported count is kept. -/
def execDrainCountReport (src : Nat) (count : Option Nat) (s : State) : Host.Outcome State Fault Refusal :=
  match count with
  | none =>
    .next (s.takeCtl src (· == .drainPoll) (fun s =>
      { s with fab := { s.fab with polledAt := s.now } }.control src (.drainReport s.drainCount)))
  | some c =>
    .next (s.takeCtl src (· == .drainReport c) (fun s =>
      { s with fab := { s.fab with switch := { s.fab.switch with counts := kset s.fab.switch.counts src c } } }))

/-- RETIRE (event 6). A module that still waits for FLIP answers goes on with its own drain (R258). -/
def execRetire (src : Nat) (s : State) : Host.Outcome State Fault Refusal :=
  .next (s.takeCtl src (· == .retire) (fun s => if s.fab.switch.flips.isEmpty then s.retireOld else s))

end Sys2Proof.Machine
end

