-- ==== Sys2Proof/Machine/Tasks.lean ====
section
/-! DEFINITION. COPY and the tasks that need no stand (R159, R165), the end of a task (R169 to R176), its timeouts (R28, R178, R404, R422),
and the fencing of stands (R90, R93, R278 to R280). -/

namespace Sys2Proof.Machine

/-! ## Tasks without a stand -/

/-- The start of a task that needs no stand. -/
def State.startBare (s : State) (h : Nat) (id : BitVec 32) (kind : Nat) (run : State → Task → Ran) : State :=
  match s.taskAt h id with
  | none => s
  | some t => if D.kind t.desc == kind && s.mayStart t then s.start t [] run else s

/-- COPY (R159, R165): LENGTH bytes from ADDR_A to ADDR_OUT, all read before any is written. The beats it costs its stand are
not stated: a free value (log entry 80). -/
def execCopy (h : Nat) (t : PlacedTask) (s : State) : Host.Outcome State Fault Refusal :=
  .next (s.startOn h t.id t.place (fun d => D.kind d == kCopy) (fun s t =>
    { writes := [⟨D.addrOut t.desc, s.bytesAt (D.addrA t.desc) (D.length t.desc)⟩], busy := Config.copyBeats (D.length t.desc) }))

/-- WAIT (R159): no work; it completes once its dependencies are met. -/
def execWait (h : Nat) (t : BitVec 32) (s : State) : Host.Outcome State Fault Refusal :=
  .next (s.startBare h t kWait (fun _ _ => {}))

/-- HOST_READ (R159, R418): the bytes the host returned; a failed or poisoned completion ends it with MEMORY_ERROR. -/
def execHostRead (h : Nat) (t : BitVec 32) (hostAnswer : Option (List Byte)) (s : State) : Host.Outcome State Fault Refusal :=
  .next (s.startBare h t kHostRead (fun _ t => match hostAnswer with
    | some l => if l.length == D.length t.desc then { writes := [⟨D.addrOut t.desc, l⟩] }
        else { abort := some (Status.memoryError, 0, 0) }
    | none => { abort := some (Status.memoryError, 0, 0) }))

/-- HOST_WRITE (R159): LENGTH bytes from ADDR_A to the host bus address in TARGET. -/
def execHostWrite (h : Nat) (t : BitVec 32) (s : State) : Host.Outcome State Fault Refusal :=
  .next (s.startBare h t kHostWrite (fun s t =>
    { host := some (D.target t.desc, s.bytesAt (D.addrA t.desc) (D.length t.desc)) }))

/-- Status of a STEP_END for a decision: 0 PASS, 1 SKIP, 2 TAINT (R200). -/
def decisionStatus (dec : Nat) : BitVec 8 :=
  if dec == 0 then Status.ok else if dec == 1 then Status.stepSkipped else Status.stepTainted

/-- STEP_END (R188, R192, R201): the task starts; a decision that came before it completes it at once, else the clearing
times it from now (R202). -/
def execStepEnd (h : Nat) (t : BitVec 32) (s : State) : Host.Outcome State Fault Refusal :=
  match s.taskAt h t with
  | none => .next s
  | some t =>
    if D.kind t.desc == kStepEnd && s.mayStart t then
      let slot := s.slotOfTask t
      let s := s.begin t []
      let kept := (s.job slot).kept.find? (fun x => x.1 == D.step t.desc && x.2.1 == t.attempt)
      match kept, s.taskBy t.uid t.id with
      | some (_, _, dec), some t => .next (s.finish t (decisionStatus dec))
      | _, _ => .next (s.modJob slot (fun j => { j with
          stepEnd := some (t.uid, t.id, s.now, BitVec.ofNat 32 (D.addrA t.desc)) }))
    else .next s

/-! ## Completion and retry -/

/-- A stand's table of classes with one more completion: mean power with weight 1/8; the entry unused longest makes room
for a new class among 64 (R332). -/
def learn (now fp power : Nat) (l : List (Nat × Nat × Nat)) : List (Nat × Nat × Nat) :=
  match l.find? (fun x => x.1 == fp) with
  | some (_, mean, _) => l.map (fun x => if x.1 == fp then (fp, (7 * mean + power) / 8, now) else x)
  | none =>
    let l := if l.length < 64 then l else
      let oldest := l.foldl (fun m x => min m x.2.2) now
      match l.find? (fun x => x.2.2 == oldest) with
      | some x => l.erase x
      | none => l
    l ++ [(fp, power, now)]

/-- The stands of a completed task learn its mean power for its class. A task that no interval of 10 µs has measured teaches
nothing (DESIGN CHOICE, log entry 113). -/
def State.learnClass (s : State) (t : Task) : State :=
  t.stands.foldl (fun s n => s.modStand n (fun x =>
    let mine (d : Nat × BitVec 32 × Nat × Nat) : Bool := d.1 == t.uid && d.2.1 == t.id
    match x.drawn.find? mine with
    | some (_, _, sum, count) => { x with
        drawn := x.drawn.filter (fun d => !mine d), classes := learn s.now (classOfTask t.desc) (sum / count) x.classes }
    | none => x)) s

/-- The status an unstarted task completes with, if it is due: a failed dependency (R162), a tainted attempt (R173), an
optimiser task whose step was skipped or tainted (R163). -/
def State.dueUnstarted (s : State) (t : Task) : Option (BitVec 8) :=
  let slot := s.slotOfTask t
  let d := t.desc
  if t.deps.any (fun x => x.state == .failed) then some Status.dependencyFailed
  else if t.started then none
  else if D.stepped d && D.kind d != kStepEnd && s.attemptTainted slot (D.step d) t.attempt then some Status.stepTainted
  else if D.optimiser d && ((s.decidedAt slot (D.step d)).map (·.2) == some 1 || s.attemptTainted slot (D.step d) t.attempt) then
    some Status.stepNotCommitted
  else none

/-- The status a task is due to complete with (R162, R163, R171, R173 to R175); a task whose retry is due is not. -/
def State.dueStatus (s : State) (t : Task) : Option (BitVec 8) :=
  match t.phase with
  | .waiting => s.dueUnstarted t
  | .running => if s.guestOwes t then none else t.result
  | .ended => if retryDue t then none else t.result
  | .held | .preempted => none

/-- A completed task leaves its stands: one without more ready work of its job ends that job's hold (R181), and its pipelines turn
to what else is due there (R28). -/
def State.release (s : State) (t : Task) : State :=
  t.stands.foldl (fun s n => s.modStand n (fun x => { x with
    worksSince := s.now, servesSlot := if s.readyAt n (s.slotOfTask t) then x.servesSlot else none })) s

/-- TASK_COMPLETE (R169 to R172): the completion record is written and everything that hangs on it follows. -/
def execTaskComplete (h : Nat) (t : BitVec 32) (s : State) : Host.Outcome State Fault Refusal :=
  match s.taskAt h t with
  | none => .next s
  | some t =>
    match s.dueStatus t with
    | none => .next s
    | some st => .next (((s.learnClass t).finish t st).release t)

/-- TASK_RETRY (R175): the first failure is logged and counted; the task will start once more from its beginning. -/
def execTaskRetry (h : Nat) (t : BitVec 32) (s : State) : Host.Outcome State Fault Refusal :=
  match s.taskAt h t with
  | none => .next s
  | some t =>
    if t.phase == .ended && retryDue t then
      let r : ErrRec := { errRec 0x0103 with
        job := t.job, step := D.step t.desc, address := t.faultAddr, handle := t.handle, task := t.id.toNat,
        status := ((t.result.map (·.toNat)).getD 0), attempt := t.attempt }
      let s := (match t.stands.head? with
        | some n => s.logStand n r
        | none => s.log r).bump Obj.taskRetries
      .next (s.modTask t.uid t.id (fun t => { t with
        phase := .waiting, retried := true, result := none, stands := [], report := {}, busy := 0
        faultAddr := 0, faultDetail := 0, early := [], guestReady := false, guestWaits := [] }))
    else .next s

/-! ## Timeouts -/

/-- Every stand a task runs on is reset (R404). -/
def State.resetStands (s : State) (l : List Nat) : State := l.foldl (fun s n => s.standReset n) s

/-- TASK_WATCHDOG_EXPIRY (R178, R422): record 0x0102, WATCHDOG, and a reset of the task's stands. -/
def execTaskWatchdogExpiry (h : Nat) (t : BitVec 32) (s : State) : Host.Outcome State Fault Refusal :=
  match s.taskAt h t with
  | none => .next s
  | some t =>
    let k := D.kind t.desc
    if (t.phase == .running || t.phase == .held) && t.pausedAt.isNone && k != kWait && k != kStepEnd &&
        decide (t.startAt + s.ob Obj.taskWatchdog * 1000000 ≤ s.now) then
      let r : ErrRec := { errRec 0x0102 with job := t.job, step := D.step t.desc, handle := t.handle, task := t.id.toNat,
                                             attempt := t.attempt }
      let s := match t.stands.head? with
        | some n => s.logStand n r
        | none => s.log r
      .next ((s.abort t Status.watchdog).resetStands t.stands)
    else .next s

/-- The task on a stand aborts with a status, and the stand is reset. -/
def State.stallStand (s : State) (n : Nat) (t : Task) : State := (s.abort t Status.stall).standReset n

/-- STAND_TIMEOUT (R404, R422): stand reset; its task ends with STALL, the timeout it contains (DEDUCED, log entry 30). -/
def execStandTimeout (stand : Nat) (s : State) : Host.Outcome State Fault Refusal :=
  if !s.halfRuns (stand / 96) || s.fenced stand then .next s
  else match s.runningOn stand with
    | none => .next (s.standReset stand)
    | some t => .next (s.stallStand stand t)

/-! ## Fencing (R90, R93, R278 to R280) -/

/-- Number of bits of a mask set in [lo, lo + n). -/
def bitsIn (m lo n : Nat) : Nat := ((upto n).filter (fun i => m.testBit (lo + i))).length

/-- ARRAY_FENCE once a bypass mask is in force: an array with more than 8 bypassed columns is fenced (R90). -/
def fenceOf (fence bypass : Nat) : Nat :=
  (upto 4).foldl (fun f a => if 8 < bitsIn bypass (64 * a) 64 then f ||| 2 ^ a else f) fence

/-- Presented width W (R91): the fewest good columns of an enabled array; 0 for a fenced stand. -/
def State.width (s : State) (n : Nat) : Nat :=
  if s.fenced n then 0
  else ((upto 4).filter (fun a => !(s.ob (Obj.arrayFence n)).testBit a)).foldl
    (fun w a => min w (64 - bitsIn (s.ob (Obj.bypassed n)) (64 * a) 64)) 64

/-- Open checks that a lost stand was to make are abandoned (R270). -/
def State.abandonChecks (s : State) (n : Nat) : State :=
  let l := s.fire.checks.filter (fun c => c.checker == n)
  let s := { s with fire := { s.fire with checks := s.fire.checks.filter (fun c => c.checker != n) } }
  l.foldl (fun s c => (s.logStand n { errRec 0x070B with
    job := (s.jobOf c.slot).getD 0, step := c.step, attempt := c.attempt, handle := c.handle, task := c.id.toNat
    detail0 := c.block }).bump Obj.checksAbandoned) s

/-- A stand is gone before the self-test suite ran on it for a unit without a majority: the others of the three are left, and
the stand of the first run is fenced when none is (R272). -/
def State.dropTrio (s : State) (n : Nat) : State :=
  let left := s.fire.trios.map (fun x => (x.1, x.2.filter (· != n)))
  let s := { s with fire := { s.fire with trios := left.filter (fun x => !x.2.isEmpty) } }
  (left.filter (fun x => x.2.isEmpty)).foldl (fun s x => if s.fenced x.1 then s else s.fenceDecide x.1 0 0 3) s

/-- Does a stand that runs no task have work all the same: a check, a second or third run, a repeat, the self-test suite, or
ballast (R346)? -/
def State.worksFor (s : State) (n : Nat) : Bool :=
  s.fire.checks.any (fun c => if c.other.isSome then c.third == n else c.checker == n) ||
  s.chan.tasks.any (fun t => t.units.any (fun u => !u.done && !u.dead && (if u.second.isSome then u.third == n else u.checker == n))) ||
  (s.stand n).selfTest.isSome || !(s.stand n).suspects.isEmpty || (s.power.ballastMw != 0 && s.standIdle n)

/-- Since when it has had that work. -/
def State.worksFrom (s : State) (n : Nat) : Nat := max (s.stand n).worksSince (if s.power.ballastMw != 0 then s.power.ballastSince else 0)

/-- Optimiser tasks whose second run is on a stand abort with STALL: the runs go in lockstep (R271; DEDUCED, log entry 91). -/
def State.stallUnits (s : State) (n : Nat) : State :=
  (s.chan.tasks.filter (fun t => t.phase == .running && t.units.any (fun u => u.checker == n && !u.done && u.second.isNone))).foldl
    (fun s t => s.abort t Status.stall) s

/-- HANDSHAKE_STALL (R28, R404, R422): no progress for 10 µs in a stand's pipeline: record 0x0101, STALL, stand reset. A stall in
a check, a second run, a test or ballast resets the stand and gives the check up (DEDUCED, log entry 91). -/
def execHandshakeStall (stand : Nat) (s : State) : Host.Outcome State Fault Refusal :=
  match s.runningOn stand with
  | some t =>
    if s.now < t.startAt + 10000 then .next s
    else
      let r : ErrRec := { errRec 0x0101 with job := t.job, step := D.step t.desc, handle := t.handle, task := t.id.toNat,
                                             attempt := t.attempt }
      .next ((s.logStand stand r).stallStand stand t)
  | none =>
    if s.fenced stand || !s.halfRuns (stand / 96) || !s.worksFor stand || decide (s.now < s.worksFrom stand + 10000) then .next s
    else .next ((((s.logStand stand (errRec 0x0101)).stallUnits stand).standReset stand).abandonChecks stand)

/-- A stand leaves every multicast group (R148). -/
def State.leaveSets (s : State) (n : Nat) : State :=
  { s with mem := { s.mem with groups := s.mem.groups.map (fun g => { g with set := g.set.filter (· != n) }) } }

/-- Tasks in the save slots of a lost stand end with a status (R278, R405). -/
def State.endSaved (s : State) (n : Nat) (status : BitVec 8) : State :=
  (s.stand n).saved.foldl (fun s (_, uid, id) => match s.taskBy uid id with
    | some t => s.abort t status
    | none => s) s

/-- Floor of stands (R280): ALERT_N, and record 0x0705 with severity module. -/
def State.checkFloor (s : State) : State :=
  if s.enabledCount < s.ob Obj.standFloor && !s.fire.floorAlert then
    ({ s with fire := { s.fire with floorAlert := true } }.raise .standFloor).log
      { errRec 0x0705 with severity := 4, detail0 := s.enabledCount }
  else s

/-- A stand is fenced for life, for a reason of STAND_STATE (R277 to R280). -/
def State.fenceStand (s : State) (n reason : Nat) : State :=
  let s := (((s.setOb (Obj.standState n) reason).logStand n { errRec 0x0705 with detail0 := reason }).leaveSets n).abandonChecks n
  let s := s.endSaved n Status.standFenced
  ((s.modStand n (fun x => { x with selfTest := none, suspects := [], saved := [] })).dropTrio n).checkFloor

/-- What is decided on a stand takes effect once the stand holds no running task (R90, R91, R93, R278). -/
def State.applyFence (s : State) (stand : Nat) : State :=
  let x := s.stand stand
  if (s.runningOn stand).isSome || s.fenced stand || (x.pendFence == 0 && x.pendBypass == 0 && x.pendState == 0) then s
  else
    let bypass := s.ob (Obj.bypassed stand) ||| x.pendBypass
    let fence := fenceOf (s.ob (Obj.arrayFence stand) ||| x.pendFence) bypass
    let cols := (upto 256).filter (fun i => bypass.testBit i && !(s.ob (Obj.bypassed stand)).testBit i)
    let arrays := (upto 4).filter (fun a => fence.testBit a && !(s.ob (Obj.arrayFence stand)).testBit a)
    let s := cols.foldl (fun s i => s.logStand stand { errRec 0x0707 with array := i / 64, column := i % 64 }) s
    let s := arrays.foldl (fun s a => s.logStand stand { errRec 0x0706 with array := a }) s
    let s := (s.setOb (Obj.bypassed stand) bypass).setOb (Obj.arrayFence stand) fence
    let s := s.modStand stand (fun x => { x with pendFence := 0, pendBypass := 0, pendState := 0 })
    let reason := if x.pendState != 0 then x.pendState else if 2 ≤ bitsIn fence 0 4 then 6 else 0
    if reason == 0 then s else s.fenceStand stand reason

/-- FENCE_APPLY (R90, R91, R93, R278). -/
def execFenceApply (stand : Nat) (s : State) : Host.Outcome State Fault Refusal := .next (s.applyFence stand)

end Sys2Proof.Machine
end

