-- ==== Sys2Proof/Machine/Clearing.lean ====
section
/-! DEFINITION. The clearing (chapter 6): votes (R190 to R198), the decision and what a module does on it (R199 to R201),
the commit of a step (R189, R286, R300, R310) and the clearing timeout (R202). -/

namespace Sys2Proof.Machine

/-! ## A decision (R200) -/

/-- A held change of the plot table takes effect, and abandons a generation in progress (R204, R313). -/
def State.releasePlots (s : State) (slot : Nat) : State :=
  if (s.job slot).plotsHeld.isSome then (s.modJob slot (fun j => { j with plotsHeld := none })).abandonGen slot else s

/-- Tasks of a job that have not started and for which `f` holds complete with a status. -/
def State.finishUnstarted (s : State) (job : Nat) (status : BitVec 8) (f : Task → Bool) : State :=
  (s.chan.tasks.filter (fun t => t.job == job && !t.started && f t)).foldl (fun s t => match s.taskBy t.uid t.id with
    | some t => s.finishCore t status
    | none => s) s

/-- Step 1 of R200: step, attempt, counts and loss scale (R186, R207). -/
def State.advance (s : State) (slot : Nat) (d : Decision) : State :=
  let st := s.step slot
  let at_ := s.att slot
  let (e, c) := s.scaleAfter slot d.decision
  let s := if d.decision == 2 then (s.setOb (Obj.attempt slot) (at_ + 1)).bump (Obj.stepsTainted slot)
    else ((s.setOb (Obj.currentStep slot) ((st + 1) % 2 ^ 48)).setOb (Obj.attempt slot) 0).bump
      (if d.decision == 0 then Obj.stepsPassed slot else Obj.stepsSkipped slot)
  let s := ((s.setOb (Obj.lossScaleExp slot) e).setOb (Obj.cleanSteps slot) c).setOb (Obj.lastLoss slot) d.loss.toNat
  s.modJob slot (fun j => { j with
    decided := if d.decision == 2 then j.decided else (st, at_, d.decision) :: j.decided
    decidedAt := if d.decision == 2 then j.decidedAt else (s.now :: j.decidedAt).take 101
    nodes := [], voted := false, tainted := false, earlyVote := false, heldByNotice := false
    overflow := j.overflow.filter (· != (st, at_))
    digestsSent := if d.decision == 2 then j.digestsSent else j.digestsSent.filter (fun x => st < x.2 + 1)
    maxPace := s.ob Obj.ownPace
    toCommit := if d.decision == 0 && !j.spoilt.contains st then j.toCommit ++ [st] else j.toCommit
    spoilt := j.spoilt.filter (· != st) })

/-- A step that begins with a stepped task of it failed already is tainted at once (R192). -/
def State.confirmFailed (s : State) (slot : Nat) : State :=
  let here (x : FailedRun) : Bool := x.step == s.step slot && x.attempt == s.att slot
  let due := (s.job slot).failedRuns.find? here
  let s := s.modJob slot (fun j => { j with failedRuns := j.failedRuns.filter (fun x => s.step slot < x.step) })
  match due with
  | some x => s.confirmTaint slot 3 { errRec 0x0708 with stand := x.stand, handle := x.handle, task := x.task, status := x.status }
  | none => s

/-- What a module does on a decision, in the order of R200; a kept decision waits for its STEP_END (R201). On TAINT an unstarted
task with both STEPPED and OPTIMISER set ends with STEP_TAINTED, since step 2 comes before step 4 (DESIGN CHOICE, log entry 108). -/
def State.applyDecision (s : State) (slot : Nat) (d : Decision) : State :=
  let job := (s.jobOf slot).getD 0
  let st := s.step slot
  let at_ := s.att slot
  let ended := (s.job slot).stepEnd
  let s := s.advance slot d
  let s := if s.ob (Obj.lossScaleExp slot) == d.lossScaleExp && s.ob (Obj.cleanSteps slot) == d.cleanSteps then s
    else (s.log { errRec 0x0402 with job := job, step := st, attempt := at_, detail0 := s.ob (Obj.lossScaleExp slot),
                                     detail1 := d.lossScaleExp }).jobFaultIn slot st
  let s := if d.decision == 2 then
      (s.withdraw job st Status.stepTainted).finishUnstarted job Status.stepTainted
        (fun t => D.stepped t.desc && D.kind t.desc != kStepEnd && D.step t.desc == st && t.attempt == at_)
    else (s.jobChans job).foldl (fun s x => s.modChan x.1 (fun c => { c with provisional := c.provisional.filter (· != st) })) s
  let s := match ended with
    | some (uid, id, _, _) => match s.taskBy uid id with
      | some t => s.finish t (decisionStatus d.decision)
      | none => s
    | none => s.modJob slot (fun j => { j with kept := (st, at_, d.decision) :: j.kept })
  let s := if d.decision == 0 then s else
    (s.finishUnstarted job Status.stepNotCommitted
      (fun t => D.optimiser t.desc && D.step t.desc == st && (d.decision == 1 || t.attempt == at_))).modJob slot
        (fun j => { j with spoilt := j.spoilt.filter (· != st) })
  let s := s.setOb (Obj.jobPace slot) d.pace
  let s := s.releasePlots slot
  let s := if d.decision == 2 then s else (s.genDecided slot st d.decision d.loss).verifyRestore slot d.decision d.loss
  (if d.decision == 1 then s.liveCopies slot st else s).confirmFailed slot

/-- A decision is passed on, and acted on where the job has not faulted: a fault has ended its round here (R199, R202;
DEDUCED, log entry 94). -/
def State.takeDecision (s : State) (slot : Nat) (d : Decision) : State :=
  let s := s.passOn slot d
  if (s.job slot).faulted then s else s.applyDecision slot d

/-- The host of the root decides when it can, sends the decision and acts on it (R197, R199). -/
def State.decideRoot (s : State) (slot : Nat) : State :=
  if s.rootHost slot != s.me then s
  else match s.rootDecision slot with
    | none => s
    | some d =>
      let nd := nodeSt (s.job slot) (s.rootLv slot) 0
      (s.setJob slot (setNode (s.job slot) { nd with done := true })).takeDecision slot d

/-! ## Commands -/

/-- Packets on their way from this module: not yet sent, or sent and not acknowledged. -/
def State.underway (s : State) : List Packet :=
  s.fab.sendQ ++ s.fab.requeue ++ s.fab.ports.flatMap (fun x => x.2.retry.map (·.2)) ++
  s.fab.paths.flatMap (fun x => x.2.unacked.map (·.2.2.2))

/-- Is a digest of this module for the comparator of a set still on its way (R287)? -/
def State.digestUnderway (s : State) (slot : Nat) : Bool :=
  s.underway.any (fun p => p.kind == 0xA && p.src == s.me && some p.job == s.jobOf slot &&
    (let m := Firebreak.ofNat (ofBytes p.payload)
     m.type == 2 && m.step + 1 == s.step slot))

/-- Is a comparison whose digest this member has sent still open at its comparator (R287)? It is while the digest is on its way;
after that no message says when it settles: a free value (log entry 95). -/
def State.sentOpen (s : State) (slot : Nat) : Bool :=
  s.digestUnderway slot || (s.job slot).digestsSent.any (fun x => x.2 + 1 == s.step slot &&
    !Config.replicaSettled [(s.jobOf slot).getD 0, x.1, x.2, s.now])

/-- Is some check of the attempt's work open here: a sampled check, or a replica comparison (R193, R269, R287)? -/
def State.checksOpen (s : State) (slot : Nat) : Bool :=
  s.fire.checks.any (fun c => c.slot == slot && c.step == s.step slot && c.attempt == s.att slot) ||
  (s.job slot).comparing.any (fun x => x.2 + 1 == s.step slot) || s.sentOpen slot

/-- May the module's vote go now (R192, R193)? -/
def State.mayVote (s : State) (slot : Nat) : Bool :=
  let j := s.job slot
  (s.jobOf slot).isSome && j.stepEnd.isSome && !j.faulted && !j.voted && !j.tainted && !s.checksOpen slot

/-- The module's vote, over its plots under each level-1 node (R190, R195). -/
def State.castVote (s : State) (slot : Nat) : State :=
  let v := s.ownVote slot
  let s := s.modJob slot (fun j => { j with voted := true })
  (s.ownGroups slot).foldl (fun s (i, first, k) =>
    let v := { v with plots := k }
    let host := s.nodeHost slot 1 i
    if host == s.me then s.addVote slot 20 1 i (0, first) v
    else s.sendRecord 8 host slot 0 first v.toNat) s

/-- VOTE_SEND (R190 to R193, R195, R197). -/
def execVoteSend (slot : Nat) (s : State) : Host.Outcome State Fault Refusal :=
  if s.mayVote slot then .next ((s.castVote slot).decideRoot slot)
  else if (s.job slot).earlyVote && !(s.job slot).faulted then .next (s.decideRoot slot)
  else .next s

/-- A received vote at its node (R195, R198). One for a job in no slot, or for a node this module does not host, is counted in
STALE_VOTES (DESIGN CHOICE, log entry 109). -/
def State.voteArrives (s : State) (p : Packet) : State :=
  let v := Vote.ofNat (ofBytes p.payload)
  match s.slotOf v.job with
  | none => s.bump Obj.staleVotes
  | some slot =>
    let a := s.arity slot
    let host (plot : Nat) : Nat := (s.plotsOf p.epoch slot).getD plot 0
    if v.step != s.step slot || v.attempt != s.att slot then s.bump Obj.staleVotes
    else if v.taint && !v.checksClosed then
      if host 0 != s.me then s.bump Obj.staleVotes
      else
        let nd := nodeSt (s.job slot) (s.rootLv slot) 0
        if nd.inputs.any (fun x => x.1 == (17, p.plot)) then s.bump Obj.duplicateVotes
        else if nd.done then s.bump Obj.staleVotes
        else
          let s := s.holdPlots p.epoch slot
          (s.setJob slot (setNode (s.job slot) { nd with inputs := nd.inputs ++ [((17, p.plot), v)] })).decideRoot slot
    else
      let i := p.plot / a ^ (p.level + 1)
      if s.rootLv slot ≤ p.level || host (firstPlot a (p.level + 1) i) != s.me then s.bump Obj.staleVotes
      else ((s.holdPlots p.epoch slot).addVote slot 20 (p.level + 1) i (p.level, p.plot) v).decideRoot slot

/-- VOTE_RECEIVE (R195 to R198). -/
def execVoteReceive (p : Packet) (s : State) : Host.Outcome State Fault Refusal :=
  .next (s.receive p [8] (fun s => s.voteArrives p))

/-- A received decision is passed on and acted on once (R199, R200); one for another step or attempt has no effect. -/
def State.decisionArrives (s : State) (p : Packet) : State :=
  let d := Decision.ofNat (ofBytes p.payload)
  match s.slotOf d.job with
  | none => s
  | some slot =>
    if d.step != s.step slot || d.attempt != s.att slot || d.decision == 3 then s else s.takeDecision slot d

/-- DECISION_RECEIVE (R163, R172, R173, R186, R199 to R201, R204, R207). -/
def execDecisionReceive (p : Packet) (s : State) : Host.Outcome State Fault Refusal :=
  .next (s.receive p [9] (fun s => s.decisionArrives p))

/-! ## Replica digests (R286, R287) -/

/-- The 128-bit digest of a range (R286). -/
def State.replicaDigest (s : State) (base size : Nat) : BitVec 128 :=
  (upto (size / 64)).foldl (fun acc i =>
    let b := s.bytesAt (base + 64 * i) 64
    let n := bytesOf i 8
    acc + BitVec.ofNat 128 ((crc64 (b ++ n)).toNat + (crc64 (n ++ b)).toNat * 2 ^ 64)) 0

/-- The lowest plot of a replica set: the least PLOT held here when all members are here, else as the set's plots outside
this module say, which no table of this module gives (R287, log entry 4). -/
def State.lowestOf (s : State) (slot : Nat) (e : Replica) : Nat :=
  let own := (kget s.fire.replicas [] slot).filter (fun (x : Replica) => x.set == e.set)
  let least := own.foldl (fun m (x : Replica) => min m x.plot) e.plot
  if own.length == e.members then least else min least (Config.lowestPlot ((s.jobOf slot).getD 0) e.set)

/-- The comparator of a set (R287). -/
def State.comparator (s : State) (slot : Nat) (e : Replica) : Nat := s.hostOf slot (s.lowestOf slot e)

/-- The odd one out of a list of (source, digest), when exactly one differs and all others agree. -/
def oddOne (l : List (Nat × BitVec 128)) : Option Nat :=
  if l.length < 3 then none
  else (l.find? (fun x => (l.erase x).all (fun y => y.2 != x.2 && (l.erase x).all (fun z => z.2 == y.2)))).map (·.1)

/-- The comparison of a set settles once every member's digest is here (R287). -/
def State.compareReplicas (s : State) (slot set st members : Nat) : State :=
  let j := s.job slot
  let l := (j.digests.filter (fun x => x.1 == set && x.2.1 == st)).map (·.2.2)
  if l.length < members then s
  else
    let s := (s.modJob slot (fun j => { j with
      comparing := j.comparing.filter (fun x => x != (set, st))
      digests := j.digests.filter (fun x => !(x.1 == set && x.2.1 == st)) })).bump Obj.replicaComparisons
    let job := (s.jobOf slot).getD 0
    match l with
    | [] => s
    | x :: t =>
      if t.all (fun y => y.2 == x.2) then s
      else match oddOne l with
        | some ep =>
          let r : ErrRec := { errRec 0x070A with job := job, step := st, detail0 := ep }
          let s := (s.log r).bump Obj.expulsions
          let s := s.confirmTaint slot 2 { r with code := 0x0708 }
          let s := (s.jobPeers slot).foldl (fun s e => s.sendFirebreak e
            { type := 3, step := s.step slot, job := job, attempt := s.att slot, source := s.me, set := set, digest := ep }) s
          if ep == s.me then (s.modJob slot (fun j => { j with expelled := true })).failure else s
        | none => (s.log { errRec 0x0709 with job := job, step := st, detail0 := set }).jobFault slot

/-- A member's digest reaches the comparator. -/
def State.digestArrives (s : State) (slot set st src : Nat) (d : BitVec 128) : State :=
  match (kget s.fire.replicas [] slot).find? (fun (e : Replica) => e.set == set) with
  | none => s
  | some e => (s.modJob slot (fun j => { j with digests := j.digests ++ [(set, st, src, d)] })).compareReplicas slot set st e.members

/-- The comparison of a set is open here. -/
def State.openComparison (s : State) (slot set st : Nat) : State :=
  s.modJob slot (fun j => { j with comparing := if j.comparing.contains (set, st) then j.comparing else j.comparing ++ [(set, st)] })

/-- After step S commits, each member forms its digest and sends it to the comparator, where S is a multiple of the interval or a
generation step (R286, R287, R310). Of a range whose read
detects an error none is formed: its comparison stays open (DESIGN CHOICE, log entry 33). -/
def State.replicas (s : State) (slot st : Nat) : State :=
  let every := s.ob (Obj.replicaInterval slot)
  let ofGen := ((s.job slot).gen.map (fun g => g.step == st)).getD false
  if every == 0 || !(st % every == 0 || ofGen) then s
  else
    let l := kget s.fire.replicas [] slot
    let s := l.foldl (fun s (e : Replica) => if s.comparator slot e == s.me then s.openComparison slot e.set st else s) s
    l.foldl (fun s (e : Replica) =>
      let d := s.replicaDigest e.base e.size
      let c := s.comparator slot e
      if (s.firstFault e.base e.size).isSome then (s.openComparison slot e.set st).ownRead e.base e.size
      else if c == s.me then s.digestArrives slot e.set st s.me d
      else (s.modJob slot (fun j => { j with digestsSent := j.digestsSent ++ [(e.set, st)] })).sendFirebreak c
        { type := 2, step := st, job := (s.jobOf slot).getD 0, attempt := s.att slot, source := s.me, set := e.set, digest := d.toNat }) s

/-- Is every OPTIMISER task of the step done (R189)? One that ended otherwise than with OK has left nothing to commit. -/
def State.optimisersDone (s : State) (slot st : Nat) : Bool :=
  !s.chan.tasks.any (fun t => some t.job == s.jobOf slot && D.optimiser t.desc && D.step t.desc == st)

/-- STEP_COMMIT (R189, R286, R300, R310 event 3). -/
def execStepCommit (slot : Nat) (s : State) : Host.Outcome State Fault Refusal :=
  match (s.job slot).toCommit.find? (s.optimisersDone slot) with
  | none => .next s
  | some st =>
    let s := (s.modJob slot (fun j => { j with toCommit := j.toCommit.filter (· != st) })).setOb (Obj.lastCommitted slot) st
    .next (((s.replicas slot st).copyGen slot st).liveCopies slot st)

/-- CLEARING_TIMEOUT (R202): record 0x0403 and job fault. -/
def execClearingTimeout (slot : Nat) (s : State) : Host.Outcome State Fault Refusal :=
  match (s.job slot).stepEnd with
  | none => .next s
  | some (_, _, t0, _) =>
    if t0 + s.ob Obj.clearingTimeout * 1000000000 ≤ s.now then
      .next ((s.log { errRec 0x0403 with job := (s.jobOf slot).getD 0, step := s.step slot, attempt := s.att slot }).jobFault slot)
    else .next s

end Sys2Proof.Machine
end

