-- ==== Sys2Proof/Machine/Forest.lean ====
section
/-! DEFINITION. Forest paths (R227, R228, R247 to R250): grants and path credits, frames numbered by PSEQ, acknowledgement
and retransmission. -/

namespace Sys2Proof.Machine

/-! ## Paths -/

def State.path? (s : State) (ep : Nat) : Option Path := kget? s.fab.paths ep
def State.setPath (s : State) (ep : Nat) (p : Path) : State := { s with fab := { s.fab with paths := kset s.fab.paths ep p } }

/-- Units of 64 bytes of the forest receive pool, and the least and greatest grant (R247). -/
def poolUnits : Nat := 262144
def grantMin : Nat := 128
def grantMax : Nat := 8192

/-- Units granted and not given back. -/
def State.poolUsed (s : State) : Nat := (s.fab.paths.map (fun x => x.2.granted)).sum

/-- PTYPE codes (Table 7-4). -/
def pPacket : Nat := 1
def pAck : Nat := 2
def pRequest : Nat := 3
def pGrant : Nat := 4

/-- Uplinks an endpoint entry allows that are UP (R250). -/
def State.uplinksFor (s : State) (e : EpEntry) : List Nat :=
  (upto 2).filter (fun u => fld e.uplinks u 1 == 1 && s.portUp (7 + u))

/-- Bytes queued on an uplink: it sends 200 bytes in each nanosecond (Table 7-1). -/
def State.uplinkQueue (s : State) (u : Nat) : Nat :=
  let p := s.port (7 + u)
  p.outBytes - 200 * (s.now - p.outAt)

/-- The uplink a frame takes: the one with the shorter queue, U0 on a tie (R250). -/
def State.pickUplink (s : State) (e : EpEntry) : Option Nat :=
  match s.uplinksFor e with
  | [] => none
  | [u] => some u
  | u :: v :: _ => if s.uplinkQueue v < s.uplinkQueue u then some v else some u

/-- VLAN tag of a frame (Table 7-3): none when VLAN is 0xFFFF, else the VLAN ID with PCP equal to the virtual channel. -/
def State.vlanOf (s : State) (vc : Nat) : Option (BitVec 16) :=
  let v := s.ob 0x500006
  if v == 0xFFFF then none else some (BitVec.ofNat 16 (v % 4096 + vc * 2 ^ 13))

/-- The MAC address of an endpoint by the table of an epoch (R228, Table 7-8). -/
def State.macIn (s : State) (epoch ep : Nat) : BitVec 48 := BitVec.ofNat 48 (EpEntry.mac (s.epEntry epoch ep))

/-- The MAC address of an endpoint by the table of the injection epoch. -/
def State.macOf (s : State) (ep : Nat) : BitVec 48 := s.macIn s.epoch ep

/-- The frame for an endpoint that carries a path header, and a packet if any, by whose epoch it is then routed (R228, R255). The PCP
of a frame without a packet is 0 (DESIGN CHOICE, log entry 111). -/
def State.frameFor (s : State) (dest ptype : Nat) (pseq pack : BitVec 32) (pcred : Nat) (p : Option Packet) : Frame :=
  Frame.seal { dst := s.macIn ((p.map (·.epoch)).getD s.epoch) dest, src := s.mac, tag := s.vlanOf ((p.map (·.vc)).getD 0), etherType := BitVec.ofNat 16 (s.ob 0x500005),
               ptype := ptype, pseq := pseq, pack := pack, pcred := pcred, packet := p }

/-- A frame leaves for an endpoint (R228): PACK and the credits to return go with it; in a grant beside the units granted, and not in
a request, whose PCRED gives credits back (log entry 97). -/
def State.frameOut (s : State) (u dest ptype : Nat) (pseq : BitVec 32) (pcred : Option Nat) (p : Option Packet) : State :=
  let x := (s.path? dest).getD {}
  let keeps := ptype == pRequest && x.toReturn != 0
  let cred := pcred.getD 0 + (if keeps then 0 else x.toReturn)
  let s := s.setPath dest { x with
    toReturn := if keeps then x.toReturn else 0, ackDue := if keeps then x.ackDue else none, lastUsed := s.now }
  let f := s.frameFor dest ptype pseq x.expected cred p
  let s := (s.modPort (7 + u) (fun q => { q with outBytes := s.uplinkQueue u + f.size, outAt := s.now })).sentTo dest
  s.emit (.frame u dest f)

/-- Path state for an endpoint: held, made, made by releasing the path idle longest among those with nothing outstanding,
or not to be had (R249). -/
def State.wantPath (s : State) (ep : Nat) : Option State :=
  if (s.path? ep).isSome then some s
  else if s.fab.paths.length < 4096 then some (s.setPath ep { lastUsed := s.now })
  else
    let idle := s.fab.paths.filter (fun x => x.2.unacked.isEmpty)
    match idle.foldl (fun (b : Option (Nat × Path)) x => match b with
      | none => some x
      | some y => if x.2.lastUsed < y.2.lastUsed then some x else some y) none with
    | some (old, _) => some ({ s with fab := { s.fab with paths := kdel s.fab.paths old } }.setPath ep { lastUsed := s.now })
    | none => none

/-- A packet as it was formed, before the stamps of its sending. -/
def unstamped (p : Packet) : Packet := { p with src := 0, epoch := 0, pace := 0, taint := false, hcheck := 0 }

/-- A packet waits for path state; each one is counted once (R249, R263). -/
def State.waitPath (s : State) (p : Packet) : State :=
  let key := unstamped p
  if s.fab.pathWaits.contains key then s
  else { s with fab := { s.fab with pathWaits := s.fab.pathWaits ++ [key] } }.bump Obj.pathsWaiting

/-- A packet goes out on a forest path, or waits: for path state, for credits it requests first, or for an uplink (R247, R249,
R250). True when it has left. -/
def State.forestSend (s : State) (e : EpEntry) (p : Packet) : Bool × State :=
  match s.pickUplink e with
  | none => (false, s)
  | some u =>
    if s.vcHeld p.vc then (false, s) else
    match s.wantPath p.dest with
    | none => (false, s.waitPath p)
    | some s =>
      let x := (s.path? p.dest).getD {}
      if x.credits < p.credits then
        if x.requested then (false, s)
        else (false, (s.setPath p.dest { x with requested := true }).frameOut u p.dest pRequest 0 (some 0) none)
      else
        let p := p.seal
        let seq := x.nextPseq
        let s := s.setPath p.dest { x with
          nextPseq := seq + 1, credits := x.credits - p.credits, lastSent := s.now
          unacked := x.unacked ++ [(seq, s.now, 0, p)] }
        let s := { s with fab := { s.fab with pathWaits := s.fab.pathWaits.filter (· != unstamped p) } }
        (true, s.frameOut u p.dest pPacket seq none (some p))

/-! ## Commands -/

/-- A grant to a source from the pool, shared equally among the sources that hold or request grants: what its share leaves
beside what it already holds, at least 8 KiB, with at most 512 KiB held; none when that is not free (R247). -/
def State.grantTo (s : State) (src : Nat) : Option State :=
  match s.wantPath src with
  | none => none
  | some s =>
    let x := (s.path? src).getD {}
    let holders := (s.fab.paths.filter (fun y => y.1 != src && 0 < y.2.granted)).length + (s.fab.grantWait.filter (· != src)).length + 1
    let share := min (max (poolUnits / holders) grantMin) grantMax
    let g := min (share - x.granted) (poolUnits - s.poolUsed)
    if g < grantMin then none
    else match s.pickUplink (s.epEntry s.epoch src) with
      | none => none
      | some u => some ((s.setPath src { x with granted := x.granted + g }).frameOut u src pGrant 0 (some g) none)

/-- Can the pool make no grant (R247)? -/
def State.poolEmpty (s : State) : Bool := decide (poolUnits - s.poolUsed < grantMin)

/-- Waiting requests are granted in order of arrival while the pool can (R247), at most n of them; a source that has its share already
does not keep those after it. -/
def State.serveGrants : Nat → State → State
  | 0, s => s
  | n + 1, s =>
    match s.fab.grantWait.findSome? (fun src => { s with fab := { s.fab with grantWait := s.fab.grantWait.erase src } }.grantTo src) with
    | some t => State.serveGrants n t
    | none => s

/-- A request takes its place in the queue, and those the pool can grant are granted; one that waits for the pool is counted (R263). -/
def State.requestGrant (s : State) (src : Nat) : State :=
  if s.fab.grantWait.contains src then s.serveGrants s.fab.grantWait.length
  else
    let t := State.serveGrants (s.fab.grantWait.length + 1) { s with fab := { s.fab with grantWait := s.fab.grantWait ++ [src] } }
    if t.fab.grantWait.contains src && t.poolEmpty then t.bump Obj.grantsWaiting else t

/-- A source gives credits back; the pool serves who waits (R247). -/
def State.giveBack (s : State) (src k : Nat) : State :=
  match s.path? src with
  | none => s
  | some x =>
    let s := s.setPath src { x with granted := x.granted - k }
    s.serveGrants s.fab.grantWait.length

/-- The endpoint a frame comes from: the source of its packet, else the one whose MAC address it has (R228, Table 7-8). -/
def State.senderOf (s : State) (f : Frame) : Option Nat :=
  match f.packet with
  | some p => some p.src
  | none => ((if s.epoch == 0 then s.fab.ept0 else s.fab.ept1).find? (fun (x : Nat × EpEntry) => x.1 != s.me && s.macOf x.1 == f.src)).map (·.1)

/-- The acknowledgement a frame of any kind brings in PACK (R248). -/
def Path.takePack (x : Path) (f : Frame) : Path :=
  { x with unacked := x.unacked.filter (fun y => decide ((y.1 - f.pack).toNat < 2 ^ 31)) }

/-- What an accepted frame brings: PACK, and the credits its PCRED returns (R247, R248). -/
def State.frameBrings (s : State) (src : Nat) (f : Frame) : State :=
  match s.path? src with
  | none => s
  | some x => s.setPath src { x.takePack f with
      credits := x.credits + f.pcred, requested := x.requested && f.pcred == 0 }

/-- A frame larger than 9,216 bytes, shorter than 64 or with a failed FCS is discarded (R227); one with another EtherType or
for another MAC is discarded and counted, PAUSE and priority flow control frames among them (R227, R228). -/
def State.foreign (s : State) (f : Frame) : Option State :=
  if decide (9216 < f.size) || decide (f.size < 64) || f.fcs != f.check then some s
  else if f.etherType.toNat != s.ob 0x500005 || f.dst != s.mac then some (s.bump Obj.foreignFrames)
  else none

/-- A frame that is not discarded, with the endpoint it comes from: what each of these commands does with it. -/
def State.withFrame (s : State) (f : Frame) (k : Nat → State → State) : State :=
  match s.foreign f with
  | some t => t
  | none => match s.senderOf f with
    | some src => k src s
    | none => s

/-- GRANT_REQUEST (R247): a grant, or a place in the queue in order of arrival. A request whose PCRED is not 0 gives that many
credits back instead (DESIGN CHOICE, log entry 97). -/
def execGrantRequest (f : Frame) (s : State) : Host.Outcome State Fault Refusal :=
  .next (s.withFrame f (fun src s =>
    let s := match s.path? src with
      | some x => s.setPath src (x.takePack f)
      | none => s
    if f.pcred == 0 then s.requestGrant src else s.giveBack src f.pcred))

/-- GRANT (R247): the source receives path credits, the frame `f` bringing `units` of them. -/
def execGrant (f : Frame) (units : Nat) (s : State) : Host.Outcome State Fault Refusal :=
  let f := f.granting units
  .next (s.withFrame f (fun src s => match s.path? src with
    | none => s
    | some x => s.setPath src { x.takePack f with credits := x.credits + f.pcred, requested := false }))

/-- Frames taken in order from those accepted early. -/
def takeEarly : Nat → BitVec 32 → List (BitVec 32) → BitVec 32 × List (BitVec 32)
  | 0, e, l => (e, l)
  | n + 1, e, l => if l.contains e then takeEarly n (e + 1) (l.filter (· != e)) else (e, l)

/-- A forest packet frame of an endpoint (R248): accepted once, within 256 of the next PSEQ expected; an acknowledgement falls
due. Without path state to be had it is lost, and sent again (R249). -/
def State.packetFrame (s : State) (src : Nat) (f : Frame) : State :=
  match s.wantPath src with
  | none => s
  | some s =>
    let s := s.frameBrings src f
    let x := (s.path? src).getD {}
    let due := some (x.ackDue.getD s.now)
    if decide ((f.pseq - x.expected).toNat < 256) && !x.early.contains f.pseq then
      let (e, early) := takeEarly 257 x.expected (x.early ++ [f.pseq])
      let s := s.setPath src { x with expected := e, early := early, ackDue := due, lastUsed := s.now }
      match f.packet with
      | some p =>
        if p.kind == 0 || 0xD ≤ p.kind then { s with fab := { s.fab with reservedKinds := s.fab.reservedKinds + 1 } }
        else if s.forMe p then { s with fab := { s.fab with rx := s.fab.rx ++ [(7, p)] } }
        else s
      | none => s
    else s.setPath src { x with ackDue := due }

/-- FOREST_PACKET_FRAME (R227, R228, R248). -/
def execForestPacketFrame (f : Frame) (s : State) : Host.Outcome State Fault Refusal :=
  .next (s.withFrame f (fun src s => s.packetFrame src f))

/-- ACKNOWLEDGEMENT_FRAME (R248). -/
def execAcknowledgementFrame (f : Frame) (s : State) : Host.Outcome State Fault Refusal :=
  .next (s.withFrame f (fun src s => s.frameBrings src f))

/-- ACK_TIMER (R248): an acknowledgement frame within 10 µs when no other frame has carried PACK. -/
def execAckTimer (src : Nat) (s : State) : Host.Outcome State Fault Refusal :=
  match s.path? src with
  | none => .next s
  | some x => match x.ackDue, s.pickUplink (s.epEntry s.epoch src) with
    | some _, some u => .next (s.frameOut u src pAck 0 none none)
    | _, _ => .next s

/-- A path has failed: every transfer on it ends at its source, as with ERROR code 0x06 (R248). -/
def State.pathFailed (s : State) (dest : Nat) : State :=
  let l := (s.fab.outXfers.filter (fun o => o.awaiting.contains dest)).map (·.xfer)
  let s := { s with fab := { s.fab with paths := kdel s.fab.paths dest } }
  let s := s.serveGrants s.fab.grantWait.length
  l.foldl (fun s x => s.xferAnswer dest x false) s

/-- A packet takes the injection epoch, the pace and the taint of the moment it is sent (R255, R262, R281). -/
def State.stamp (s : State) (p : Packet) : Packet :=
  { p with
    src := s.me, epoch := s.epoch, pace := s.ob Obj.ownPace
    taint := match s.slotOf p.job with
      | some slot => (s.job slot).tainted
      | none => false }

/-- FOREST_RETRANSMIT (R248, R255, R262): the frame goes out again, stamped for its new sending; after the retries allowed the
path has failed. A retry with no uplink UP counts like any other (DEDUCED, log entry 97). -/
def execForestRetransmit (dest : Nat) (pseq : BitVec 32) (s : State) : Host.Outcome State Fault Refusal :=
  match s.path? dest with
  | none => .next s
  | some x => match x.unacked.find? (fun y => y.1 == pseq) with
    | none => .next s
    | some (_, at_, n, p) =>
      if s.now < at_ + s.ob Obj.forestRetransmit * 1000 then .next s
      else if s.vcHeld p.vc then .next s
      else if s.ob Obj.forestRetries ≤ n then .next (s.pathFailed dest)
      else
        let p := (s.stamp p).seal
        let s := s.setPath dest { x with lastSent := s.now, unacked := x.unacked.map (fun y =>
          if y.1 == pseq then (pseq, s.now, n + 1, p) else y) }
        match s.pickUplink (s.epEntry s.epoch dest) with
        | none => .next s
        | some u => .next (s.frameOut u dest pPacket pseq none (some p))

/-- PATH_CREDIT_GIVE_BACK (R247): a source that has sent nothing for 100 µs gives its credits back in PCRED, in a frame of PTYPE
0x03 (DESIGN CHOICE, log entry 97). -/
def execPathCreditGiveBack (dest : Nat) (s : State) : Host.Outcome State Fault Refusal :=
  match s.path? dest with
  | none => .next s
  | some x => match s.pickUplink (s.epEntry s.epoch dest) with
    | none => .next s
    | some u =>
      if decide (0 < x.credits) && decide (x.lastSent + 100000 ≤ s.now) && decide (s.shed < 3) then
        .next ((s.setPath dest { x with credits := 0 }).frameOut u dest pRequest 0 (some x.credits) none)
      else .next s

end Sys2Proof.Machine
end

