-- ==== Sys2Proof/Machine/Transfers.lean ====
section
/-! DEFINITION. Transfers and completion by count (R239 to R246): the FABRIC task, sending a packet (R229, R235, R236, R255,
R262), what a destination does with each kind of packet, and the liveness of grove peers (R238). -/

namespace Sys2Proof.Machine

/-! ## The FABRIC task (R239, R242, R244, R305) -/

/-- Grove peers of the endpoint table in force. -/
def State.grovePeers (s : State) : List Nat :=
  ((if s.epoch == 0 then s.fab.ept0 else s.fab.ept1).filter (fun (x : Nat × EpEntry) => x.2.route == 2 && x.1 != s.me)).map (·.1)

/-- Does a payload of an OPTIMISER FABRIC task of the generation step ride into parity (R305)? -/
def State.rides (s : State) (slot : Nat) (d : Desc) (a n : Nat) : Bool :=
  match (s.job slot).gen, s.jobOf slot with
  | some g, some job =>
    D.optimiser d && g.step == D.step d && !g.abandoned &&
    (s.bankSets slot).any (fun (e : BankSet) => !e.twin && e.rides &&
      (match offsetIn (s.setRegions job e.set) a, posOf g.grove s.me with
        | some x, some p =>
          offsetIn (s.setRegions job e.set) (a + n - 1) == some (x + n - 1) && x / 65536 == (x + n - 1) / 65536 &&
          decide (2 ≤ g.grove.length) && g.grove.getD (holderOf p g.grove.length (x / 65536)) 0 == D.remoteEp d
        | _, _ => false))
  | _, _ => false

/-- The packets of a FABRIC task (R239). -/
def State.fabricPackets (s : State) (t : Task) (xfer : Nat) : List Packet :=
  let d := t.desc
  let slot := s.slotOfTask t
  let vc := if D.stepped d then 4 else 3
  let kind := if D.stepped d then 7 else 1
  let l := writePackets s.me xfer (D.remoteEp d) t.job (D.remoteAddr d) vc kind (s.bytesAt (D.addrA d) (D.length d)) id
  l.map (fun p => { p with
    plot := D.pass d, level := D.tensor d % 32, arrival := D.tensor d / 32 % 2048, stepLo := D.step d % 65536
    sbCopy := s.rides slot d (D.addrA d + 4096 * p.offset) p.length })

/-- FABRIC (R239, R242, R244): one transfer, once an outgoing entry is free; a broadcast awaits every grove peer. -/
def execFabric (h : Nat) (t : BitVec 32) (s : State) : Host.Outcome State Fault Refusal :=
  match s.taskAt h t with
  | none => .next s
  | some t =>
    if !(D.kind t.desc == kFabric && s.mayStart t) then .next s
    else if !s.xferRoom false then
      if t.xferCounted then .next s
      else .next ((s.modTask t.uid t.id (fun t => { t with xferCounted := true })).bump Obj.transfersWaiting)
    else
      let s := s.start t [] (fun _ _ => { later := true })
      match s.taskBy t.uid t.id with
      | none => .next s
      | some t =>
        if t.phase != .running then .next s
        else
          let dest := D.remoteEp t.desc
          let peers := if dest == 0xFFFF then s.grovePeers else [dest]
          if peers.isEmpty then .next (s.modTask t.uid t.id (fun t => { t with result := some Status.ok }))
          else
            let (x, s) := s.allocXfer
            let ps := s.fabricPackets t x
            let s := s.track { xfer := x, dest := dest, job := t.job, use := .task t.uid t.id, awaiting := peers, packets := ps }
            .next { s with fab := { s.fab with sendQ := s.fab.sendQ ++ ps } }

/-! ## Sending (R229, R235, R236, R255, R262, R281) -/

/-- Transfers suspended at supply shed level 2: fold-only packets and TWIN_SLOT messages (Table 9-7). -/
def State.suspended (s : State) (p : Packet) : Bool :=
  decide (2 ≤ s.shed) && ((p.sbCopy && p.addr / 2 ^ 40 == 0x7F) ||
    (p.kind == 0xB && fld (ofBytes (p.payload.take 16)) 72 24 == 0x703004))

/-- The n-th waiting packet and the state without it: those routed again first. -/
def State.pull (s : State) (n : Nat) : Option (Packet × Bool × State) :=
  if n < s.fab.requeue.length then
    (s.fab.requeue[n]?).map (fun p => (p, true, { s with fab := { s.fab with requeue := s.fab.requeue.eraseIdx n } }))
  else
    (s.fab.sendQ[n - s.fab.requeue.length]?).map (fun p =>
      (p, false, { s with fab := { s.fab with sendQ := s.fab.sendQ.eraseIdx (n - s.fab.requeue.length) } }))

/-- A broadcast: one copy per direct port that is UP; the copies of peers without one have no route (R261). -/
def State.broadcast (s : State) (p : Packet) : State :=
  s.grovePeers.foldl (fun s ep =>
    let e := s.epEntry p.epoch ep
    if s.directUp e ep then s.onPort e.port p else s.xferAnswer ep p.xfer false) s

/-- A packet goes by the forest, `t` being the state it no longer waits in; with no uplink UP that its entry allows it has no
route (R226, R236). -/
def State.byForest (s t : State) (e : EpEntry) (p : Packet) : Host.Outcome State Fault Refusal :=
  if (s.uplinksFor e).isEmpty then .next (t.noRoute p)
  else if (t.forestSend e p).1 then .next (t.forestSend e p).2
  else .next (s.forestSend e p).2

/-- PACKET_SEND: the n-th waiting packet leaves, by the route R235 gives, once its credits are held; `viaUp` are the grove
peers whose own link to its destination is UP. -/
def execPacketSend (n : Nat) (viaUp : List Nat) (s : State) : Host.Outcome State Fault Refusal :=
  match s.pull n with
  | none => .next s
  | some (p, again, t) =>
    let p := if again then p else s.stamp p
    if s.me == 0 || s.suspended p then .next s
    else if p.dest == s.me then .next { t with fab := { t.fab with rx := t.fab.rx ++ [(9, p.seal)] } }
    else if p.dest == 0xFFFF then
      if s.grovePeers.all (fun ep =>
          let e := s.epEntry p.epoch ep
          !s.directUp e ep || s.portReady e.port p) then .next (t.broadcast p)
      else .next (s.grovePeers.foldl (fun s ep =>
        let e := s.epEntry p.epoch ep
        if s.directUp e ep then s.noteWait e.port p else s) s)
    else
      let e := s.routeOf p
      if e.route == 2 then
        match t.groveRoute e p viaUp with
        | some k => if s.portReady k p then .next (t.onPort k p) else .next (s.noteWait k p)
        | none => s.byForest t e p
      else if e.route == 3 then s.byForest t e p
      else .next (t.noRoute p)

/-! ## Incoming writes (R241, R243 to R245, R304) -/

/-- A transfer is tracked from the arrival of its first packet (R241). -/
def State.trackIn (s : State) (p : Packet) : State :=
  if s.fab.inXfers.any (fun x => x.src == p.src && x.xfer == p.xfer) then s
  else { s with fab := { s.fab with inXfers := s.fab.inXfers ++
      [{ src := p.src, xfer := p.xfer, job := p.job, total := p.total, count := 0, arrival := p.arrival, epoch := p.epoch,
         base := p.addr - 4096 * p.offset }] } }

/-- The destination answers with ERROR and the transfer ends (R243). -/
def State.refuseIn (s : State) (p : Packet) (code : Nat) : State := (s.answerError p code).dropIn p.src p.xfer

/-- REFUSE: the packet is discarded, and counted (R244, R311). -/
def State.refusePacket (s : State) (p : Packet) : State := (s.answer p 5 []).bump Obj.refusals

/-- The payload is written at ADDR, and counted once all of it is; the part of a block with a detected error waits for its
repair, or ends the transfer with code 0x03 (R120, R122, R138, R243). -/
def State.writePayload (s : State) (p : Packet) : State :=
  let (s, ok) := s.partsWrite p.addr p.payload (.peer p)
  if !ok then s.refuseIn p 3
  else if s.partWaits p then s
  else (s.noteCopy p).countIn p

/-- How many packets of a packet's transfer wait for repairs, written in part or not at all (R120, R138). -/
def State.parked (s : State) (p : Packet) : Nat :=
  (s.waitingPackets.filter (fun q => q.src == p.src && q.xfer == p.xfer)).length

/-- A WRITE or COLLECTIVE packet of a job held here (R241, R243 to R245, R304, R311). -/
def State.jobWrite (s : State) (slot : Nat) (p : Packet) : State :=
  let foldOnly := p.sbCopy && p.addr / 2 ^ 40 == 0x7F
  let known := s.fab.inXfers.find? (fun x => x.src == p.src && x.xfer == p.xfer)
  if !foldOnly && !s.peerMay p.job p.addr (max p.payload.length 1) then s.refuseIn p 2
  else if !foldOnly && s.touchesLost p.addr p.payload.length then s.refuseIn p 5
  else if p.total == 0 || (known.map (fun x => x.total != p.total || decide (x.total ≤ x.count + s.parked p))).getD false then s.refuseIn p 4
  else if known.isNone && decide (65536 ≤ s.fab.inXfers.length) then s.refusePacket p
  else if !p.sbCopy then (s.trackIn p).writePayload p
  else match s.foldOf slot p with
    | .refuse => (if s.startsGen slot p then s.startGen slot (s.step slot) else s).refusePacket p
    | .unfolded =>
      let s := (s.bump Obj.unfolded).trackIn p
      if foldOnly then s.countIn p else s.writePayload p
    | .into set a =>
      let s := (s.foldInto slot set a p).trackIn p
      if foldOnly then s.countIn p else s.writePayload p

/-- A packet that writes arrives (R243: an unknown job is code 0x01). -/
def State.writeArrives (s : State) (p : Packet) : State :=
  match s.slotOf p.job with
  | none => s.refuseIn p 1
  | some slot => s.jobWrite slot p

/-- WRITE_RECEIVE (R241, R243 to R245). -/
def execWriteReceive (p : Packet) (s : State) : Host.Outcome State Fault Refusal :=
  .next (s.receive p [1] (fun s => s.writeArrives p))

/-- COLLECTIVE_RECEIVE (R241, R243 to R245, R304, R311). -/
def execCollectiveReceive (p : Packet) (s : State) : Host.Outcome State Fault Refusal :=
  .next (s.receive p [7] (fun s => s.writeArrives p))

/-- The arrival counter of a transfer, when its array exists and lies in the job's regions (R246). -/
def State.counterOf (s : State) (x : InXfer) : Option Nat :=
  match s.slotOf x.job with
  | none => none
  | some slot =>
    let base := s.ob (Obj.arrivalBase slot)
    let a := base + 8 * x.arrival
    if base == 0 || x.arrival == 0x7FF || !s.peerMay x.job a 8 then none else some a

/-- A complete transfer adds 1 to its arrival counter at an address, and then is answered with DONE: at once, or after the repair of
the counter's block; where that block cannot be repaired the transfer ends with code 0x03, as a partial write does (R122, R138, R241,
R243, R246). -/
def State.countArrival (s : State) (x : InXfer) (a : Nat) : State :=
  match s.firstFault a 8 with
  | none => (s.ownWrite a (bytesOf ((s.numAt a 8 + 1) % 2 ^ 64) 8)).sendDone x.src x.xfer
  | some (b, k) =>
    let s := s.meet b k
    if s.repairable b then
      { s with fab := { s.fab with inXfers := s.fab.inXfers.map (fun y => if y == x then { y with closing := true } else y) } }.waitRepair
        b (s.classOf b) (fun r => { r with accesses := r.accesses ++ [BlockAccess.arrival a x.src x.xfer] })
    else s.endIn x 3

/-- TRANSFER_COMPLETE (R241, R246): the arrival counter first, then DONE. -/
def execTransferComplete (src xfer : Nat) (s : State) : Host.Outcome State Fault Refusal :=
  match s.fab.inXfers.find? (fun x => x.src == src && x.xfer == xfer) with
  | none => .next s
  | some x =>
    if x.count != x.total || x.closing then .next s
    else match s.counterOf x with
      | some a => .next (s.countArrival x a)
      | none => .next (s.sendDone src xfer)

/-! ## Reads (R135, R136, R243) -/

/-- The commit word of the copy or parity area of this module that an address lies in (R309). -/
def State.genWord (s : State) (slot a : Nat) : Option Nat :=
  (s.bankSets slot).findSome? (fun (e : BankSet) => [0, 1].findSome? (fun g =>
    let copy := e.copyOf g
    let par := e.parityOf g
    if (decide (copy ≤ a) && decide (a < copy + (e.size + 1) * 65536)) || (decide (par ≤ a) && decide (a < par + e.paritySize * 65536))
      then some (copy + 0xFFF0) else none))

/-- The seedbank generation of what lies at an address here: a twin's copy, or this module's copy and parity areas, as their
commit word says when it reads well; none elsewhere (R135, R136, R301, R309). -/
def State.genAt (s : State) (slot a : Nat) : Option Nat :=
  match s.bank.copies.find? (fun c => decide (c.base ≤ a) && decide (a < c.base + c.size)) with
  | some c => if c.left == 0 then some c.gen else none
  | none => (s.genWord slot a).bind (fun w => if (s.firstFault w 16).isSome then none else some (fld (s.numAt w 16) 96 32))

/-- READ_RESP with data, or with 8 bytes of error code (Table 7-6). -/
def State.readResp (s : State) (p : Packet) (data : List Byte) (gen : Option Nat) : State :=
  s.send { dest := p.src, src := s.me, vc := 2, kind := 3, xfer := p.xfer, offset := p.offset, total := p.total, job := p.job,
           length := data.length, addr := p.addr, payload := data, gen := gen }

/-- A read request of a job held here. -/
def State.jobRead (s : State) (slot : Nat) (p : Packet) : State :=
  let n := max p.length 1
  if !s.peerMay p.job p.addr n then s.answerError p 2
  else if s.touchesLost p.addr n then s.answerError p 5
  else
    let s := match s.genWord slot p.addr with
      | some w => s.ownRead w 16
      | none => s
    let here := s.genAt slot p.addr
    if p.gen.isSome && here != p.gen then s.readResp p (bytesOf 3 8) here
    else if (s.firstFault p.addr p.length).isSome then (s.ownRead p.addr p.length).readResp p (bytesOf 3 8) here
    else s.readResp p (s.bytesAt p.addr p.length) here

/-- READ_REQ_RECEIVE (R135, R136, R243). -/
def execReadReqReceive (p : Packet) (s : State) : Host.Outcome State Fault Refusal :=
  .next (s.receive p [2] (fun s => match s.slotOf p.job with
    | none => s.answerError p 1
    | some slot => s.jobRead slot p))

/-! ## Data that came (R135, R136, R316) -/

/-- Data that came for a repair: the twin's copy, or one more block of the stripe (R135, R136). -/
def State.repairData (s : State) (block xfer : Nat) (p : Packet) : State :=
  { s with mem := { s.mem with repairs := s.mem.repairs.map (fun r =>
      if r.block == block && r.xfers.contains xfer then
        if p.length == 8 || p.gen != some r.gen then { r with failed := true }
        else { r with
          xfers := r.xfers.filter (· != xfer), missing := r.missing - 1
          data := match r.data with
            | some d => some (xorBytes d p.payload)
            | none => some p.payload }
      else r) } }

/-- Data that came for a restore. -/
def State.restoreData (s : State) (slot target xfer : Nat) (p : Packet) : State :=
  let gen := ((s.job slot).restore.map (·.gen)).getD 0
  s.modTodo slot (fun f =>
    if f.target == target && f.xfer == some xfer then
      if p.length == 8 || p.gen != some gen then f.failed
      else [{ f with sources := f.sources.drop 1, acc := xorBytes f.acc p.payload, xfer := none }]
    else [f])

/-- READ_RESP_RECEIVE (R135, R136, R307). -/
def execReadRespReceive (p : Packet) (s : State) : Host.Outcome State Fault Refusal :=
  .next (s.receive p [3] (fun s => match s.fab.outXfers.find? (fun o => o.xfer == p.xfer && o.awaiting.contains p.src) with
    | none => s
    | some o =>
      let s := { s with fab := { s.fab with outXfers := s.fab.outXfers.filter (fun x => x.xfer != p.xfer) } }
      let s := s.pumpLaunches s.fab.launches.length
      (match o.use with
      | .repair b => s.repairData b p.xfer p
      | .restore slot target => s.restoreData slot target p.xfer p
      | _ => s).runRestores))

/-! ## Answers (R242, R244) -/

/-- DONE_RECEIVE (R242). -/
def execDoneReceive (p : Packet) (s : State) : Host.Outcome State Fault Refusal :=
  .next (s.receive p [4] (fun s => s.xferAnswer p.src p.xfer true))

/-- The endpoint an ERROR answers for: its source, but the transfer's destination where an intermediate says there is no route
to it (R226, R242). -/
def State.answeredBy (s : State) (p : Packet) : Nat :=
  match s.fab.outXfers.find? (fun o => o.xfer == p.xfer) with
  | some o => if ofBytes (p.payload.take 1) == 7 && !o.awaiting.contains p.src then o.dest else p.src
  | none => p.src

/-- ERROR_RECEIVE (R242). -/
def execErrorReceive (p : Packet) (s : State) : Host.Outcome State Fault Refusal :=
  .next (s.receive p [6] (fun s => s.xferAnswer (s.answeredBy p) p.xfer false))

/-- A refused packet goes again after 10 µs, then twice as long each time, up to 1 ms; a broadcast's to its refuser alone
(R244). -/
def State.schedule (s : State) (p : Packet) : State :=
  match s.fab.outXfers.find? (fun o => o.xfer == p.xfer && o.awaiting.contains p.src) with
  | none => s
  | some o => match o.packets.find? (fun q => q.offset == p.offset) with
    | none => s
    | some q =>
      let same (r : Resend) : Bool := r.dest == p.src && r.packet.xfer == p.xfer && r.packet.offset == p.offset
      let wait := match s.fab.resends.find? same with
        | some r => min (2 * r.wait) 1000
        | none => 10
      { s with fab := { s.fab with resends := s.fab.resends.filter (fun r => !same r) ++
          [{ dest := p.src, packet := { q with dest := p.src }, wait := wait, due := some (s.now + wait * 1000) }] } }

/-- REFUSE_RECEIVE (R244). -/
def execRefuseReceive (p : Packet) (s : State) : Host.Outcome State Fault Refusal :=
  .next (s.receive p [5] (fun s => s.schedule p))

/-- REFUSE_RESEND_EXPIRY (R244, R255, R311): the packet waits to be sent again. -/
def execRefuseResendExpiry (xfer offset dest : Nat) (s : State) : Host.Outcome State Fault Refusal :=
  match s.fab.resends.find? (fun r => r.dest == dest && r.packet.xfer == xfer && r.packet.offset == offset) with
  | none => .next s
  | some r => match r.due with
    | none => .next s
    | some t =>
      if t ≤ s.now then
        .next ({ s with fab := { s.fab with resends := s.fab.resends.map (fun x =>
          if x == r then { x with due := none } else x) } }.send r.packet)
      else .next s

/-! ## Liveness of grove peers (R238) -/

/-- HEARTBEAT_TIMER (R238): nothing sent to a grove peer for 100 ms. -/
def execHeartbeatTimer (peer : Nat) (s : State) : Host.Outcome State Fault Refusal :=
  let p := kget s.fab.peers {} peer
  if s.grovePeers.contains peer && decide (p.sentAt + 100000000 ≤ s.now) then
    .next ({ s with fab := { s.fab with peers := kset s.fab.peers peer { p with sentAt := s.now } } }.control peer .heartbeat)
  else .next s

/-- HEARTBEAT_RECEIVE (R238): its arrival renews the peer's liveness. -/
def execHeartbeatReceive (p : Packet) (s : State) : Host.Outcome State Fault Refusal :=
  .next (if p.ctl == .heartbeat then s.receive p [0xC] (fun s => s) else s)

/-- Generations of jobs that have a lost module as grove member or twin are abandoned (R313). -/
def State.abandonFor (s : State) (peer : Nat) : State :=
  (upto 16).foldl (fun s slot =>
    let twin := match s.jobOf slot with
      | some job => s.mem.regions.any (fun (r : Region) => r.valid && r.job == job && r.cls == 2 && (r.twin0 == peer || r.twin1 == peer))
      | none => false
    match (s.job slot).gen with
    | some g => if g.grove.contains peer || twin then s.abandonGen slot else s
    | none => s) s

/-- A lost peer's transfers that still wait for an entry end too (R238). -/
def State.loseLaunches (s : State) (peer : Nat) : State :=
  let l := s.fab.launches.filter (fun l => l.dest == peer)
  l.foldl (fun s l => match l.use with
    | .twinCopy slot => s.liveCopyDone slot false
    | .fold slot => s.abandonGen slot
    | _ => s) { s with fab := { s.fab with launches := s.fab.launches.filter (fun l => l.dest != peer) } }

/-- A grove peer is lost (R238): record 0x0303, ALERT_N, the end of its transfers, and a switch goes on without it (R257, R258). -/
def State.losePeer (s : State) (peer : Nat) (p : Peer) : State :=
  let s := { s with fab := { s.fab with
    peers := kset s.fab.peers peer { p with lost := true }
    inXfers := s.fab.inXfers.filter (fun x => x.src != peer)
    switch := { s.fab.switch with
      notReady := s.fab.switch.notReady || s.fab.switch.queries.contains peer
      queries := s.fab.switch.queries.filter (· != peer), flips := s.fab.switch.flips.filter (fun x => x.1 != peer) } } }
  let s := (s.log { errRec 0x0303 with detail0 := peer }).raise (.peerLost peer)
  let l := (s.fab.outXfers.filter (fun o => o.awaiting.contains peer)).map (·.xfer)
  (l.foldl (fun s x => s.xferAnswer peer x false) s).loseLaunches peer

end Sys2Proof.Machine
end

