-- ==== Sys2Proof/Machine/Memory.lean ====
section
/-! DEFINITION. Memory as the host and the module itself use it: the region table (R127 to R130), reads and writes through
BAR2 (R114, R138, R139, R407, R417), the end of a repair (R132, R135, R136) and the stacks' own counters (R121). -/

namespace Sys2Proof.Machine

/-! ## The region table -/

/-- Does an entry cross a range boundary of Table 4-1, or lie in an unmapped or control range, or in a guest window the module
does not have (R128)? -/
def regionRange (guests : Bool) (r : Region) : Bool :=
  let last := r.base + r.size - 1
  (match placeOf r.base, placeOf last with
    | .stack, .stack => true
    | .under a, .under b => a == b
    | .scratch _ _, .scratch _ _ => true
    | .guest a, .guest b => guests && a == b
    | _, _ => false)

/-- Does [a, a + n) touch a reserved area of Table 4-2? -/
def touchesReserved (a n : Nat) : Bool :=
  overlaps a n 0x023F00000000 0x100000000 || overlaps a n 0x400032000000 0x2000000 || overlaps a n 0x400066000000 0x2000000

/-- What R128 checks of one valid entry. -/
def regionOk (guests : Bool) (r : Region) : Bool :=
  r.size != 0 && regionRange guests r && !touchesReserved r.base r.size &&
  !(r.halfLocal && (!isStack r.base || r.size / 65536 % 2 == 1)) &&
  !(r.cls == 2 && (r.twin0 == 0 || r.twin0 == 0xFFFF)) && !(r.cls == 3 && r.bankSet == 0xFFFF) && r.reserved == 0

/-- No two of the entries overlap. -/
def disjoint : List Region → Bool
  | [] => true
  | r :: t => t.all (fun (x : Region) => !overlaps r.base r.size x.base x.size) && disjoint t

/-- R128. -/
def regionTableOk (guests : Bool) (l : List Region) : Bool :=
  let v := l.filter (fun (r : Region) => r.valid)
  v.all (regionOk guests) && disjoint v

/-- Does the commit change BASE, SIZE, MODE or JOB of an entry, or remove it (R129)? -/
def regionChanged (old new : Region) : Bool :=
  !new.valid || old.base != new.base || old.size != new.size || old.halfLocal != new.halfLocal || old.job != new.job

/-- Some entry whose range an admitted task names changes (R129). -/
def State.regionBusy (s : State) (l : List Region) : Bool :=
  (s.mem.regions.zip (upto s.mem.regions.length)).any (fun ((r : Region), i) =>
    r.valid && regionChanged r (l.getD i 0) && s.chan.tasks.any (fun t => names t.desc r.base r.size))

/-- Half-local ranges of a table. -/
def halfLocalRanges (l : List Region) : List (Nat × Nat) :=
  (l.filter (fun (r : Region) => r.valid && r.halfLocal)).map (fun (r : Region) => (r.base, r.size))

/-- Ranges whose interleave the commit changes: their contents are unspecified until written (R130). -/
def remapped (old new : List Region) : List (Nat × Nat) :=
  let a := halfLocalRanges old
  let b := halfLocalRanges new
  a.filter (fun x => !b.contains x) ++ b.filter (fun x => !a.contains x)

/-- The blocks of the remapped ranges that read without an error take unspecified contents. Whether a block's check passes is
kept by its device address, since R130 speaks of contents alone (DESIGN CHOICE, log entry 87). -/
def State.remap (s : State) (l : List (Nat × Nat)) : State :=
  s.spoil ((s.mem.okBlocks.filter (fun b => l.any (fun (a, n) => overlaps (b * 64) 64 a n))).map (fun b => (b * 64, 64)))

/-- The commit of `0x6100:FF` (R128 to R130). -/
def State.commitRegions (s : State) (l : List Region) : State × Reply :=
  if !regionTableOk (s.cap 4) l then (s, .invalid (some 1))
  else if s.regionBusy l then (s, .busy)
  else
    let moved := remapped s.mem.regions l
    ({ s with mem := { s.mem with regions := l } }.remap moved, .ok)

/-! ## BAR2 -/

/-- The device address of a BAR2 offset: the base ignores the bits below the size of BAR2 (R417, Table 12-9). -/
def State.bar2Addr (s : State) (offset : Nat) : Nat :=
  s.edge.window.toNat / 2 ^ s.edge.bar2Bits * 2 ^ s.edge.bar2Bits + offset

/-- Does an access lie in BAR2? One beyond it is no access to this function. -/
def State.inBar2 (s : State) (offset len : Nat) : Bool := decide (offset + len ≤ 2 ^ s.edge.bar2Bits)

/-- Every address of [a, a + n) is mapped for the host. -/
def State.hostMay (s : State) (a n : Nat) : Bool := (bandsOf a n).all (fun b => s.hostMapped (max a (b * 65536)))

/-- A host read waits for its blocks under repair (R120, R138, R139). -/
def State.hostWaits (s : State) (a n : Nat) (bad : List (Nat × BadKind)) : State :=
  let id := s.mem.reads.foldl (fun m r => max m (r.id + 1)) 0
  let s := { s with mem := { s.mem with reads := s.mem.reads ++ [⟨id, a, s.bytesAt a n, bad.map (·.1)⟩] } }
  bad.foldl (fun s (b, k) => (s.meet b k).waitRepair b (s.classOf b) (fun r => { r with accesses := r.accesses ++ [.hostRead id] })) s

/-- BAR2_READ (R114, R139, R407, R417): all ones where unmapped; otherwise the bytes, after the repair of a block of class
Twin or Seedbank, poisoned where a detected error stays. -/
def execBar2Read (offset len : Nat) (s : State) : Host.Outcome State Fault Refusal :=
  let a := s.bar2Addr offset
  if !s.edge.hostLink || len == 0 || !s.inBar2 offset len then .next s
  else if !s.hostMay a len then .next ((s.unmappedAccess a).emit (.readData (List.replicate len 0xFF) false))
  else
    let bad := s.badBlocksOf a len
    if bad.isEmpty then .next (s.emit (.readData (s.bytesAt a len) false))
    else if bad.all (fun x => s.repairable x.1) then .next (s.hostWaits a len bad)
    else .next ((bad.foldl (fun s (b, k) => s.ownError b k) s).emit (.readData (s.bytesAt a len) true))

/-- BAR2_WRITE (R114, R122, R138, R407, R417): discarded where unmapped. -/
def execBar2Write (offset : Nat) (data : List Byte) (s : State) : Host.Outcome State Fault Refusal :=
  let a := s.bar2Addr offset
  if !s.edge.hostLink || data.isEmpty || !s.inBar2 offset data.length then .next s
  else if !s.hostMay a data.length then .next (s.unmappedAccess a)
  else .next (s.partsWrite a data .hostWrite).1

/-! ## The end of a repair -/

/-- The requests a repair has out are no longer awaited. -/
def State.dropRepairXfers (s : State) (b : Nat) : State :=
  { s with fab := { s.fab with outXfers := s.fab.outXfers.filter (fun o => o.use != .repair b) } }

/-- TWIN_FETCH_RETRY (R135, Table 4-7 event 4): the second twin is asked when the first has failed or has not answered in
400 µs. -/
def execTwinFetchRetry (block : Nat) (s : State) : Host.Outcome State Fault Refusal :=
  match s.mem.repairs.find? (fun r => r.block == block) with
  | some r =>
    if r.cls == 2 && r.asked == 0 && r.second != 0 && (r.failed || decide (r.t0 + 400000 ≤ s.now)) &&
        !(r.missing == 0 && !r.failed) then
      let s := s.dropRepairXfers block
      let (xs, s) := s.ask r.second r.copyAt r.job r.gen block
      .next { s with mem := { s.mem with repairs := s.mem.repairs.map (fun y => if y.block == block then
        { y with asked := 1, failed := false, missing := 1, xfers := xs, data := none } else y) } }
    else .next s
  | none => .next s

/-- Time a repair is allowed: 1 ms for Twin, 5 ms for Seedbank (Table 4-6). -/
def Repair.bound (r : Repair) : Nat := if r.cls == 2 then 1000000 else 5000000

/-- REPAIR_DONE (R132, R135, R136, R138, Table 4-7 events 5 and 6): within its bound the block is written with a new check, and
everything that waited for it goes on. -/
def execRepairDone (block : Nat) (s : State) : Host.Outcome State Fault Refusal :=
  match s.mem.repairs.find? (fun r => r.block == block) with
  | none => .next s
  | some r =>
    match r.data with
    | none => .next s
    | some d =>
      if r.failed || r.missing != 0 || d.length != 64 || decide (r.t0 + r.bound < s.now) then .next s
      else .next ((((s.dropRepairXfers block).poke (block * 64) d).mended block false).bump
        (if r.cls == 2 then Obj.repairsTwin else Obj.repairsSeedbank))

/-- Has a repair run out of sources, or of time (Table 4-6)? -/
def State.repairOver (s : State) (r : Repair) : Bool :=
  (r.failed && (r.cls != 2 || r.asked == 1 || r.second == 0)) || decide (r.t0 + r.bound ≤ s.now)

/-- REPAIR_TIMEOUT (R132, R136): the repair fails; its readers end with MEMORY_ERROR. -/
def execRepairTimeout (block : Nat) (s : State) : Host.Outcome State Fault Refusal :=
  match s.mem.repairs.find? (fun r => r.block == block) with
  | none => .next s
  | some r => if s.repairOver r then .next ((s.dropRepairXfers block).repairFailed r) else .next s

/-! ## Errors scrub and self-tests find, and the stacks' own counters -/

/-- An error scrub finds outside the reserved areas (R142): repaired with no reader waiting, or listed and reported. -/
def State.scrubFound (s : State) (b : Nat) (k : BadKind) : State :=
  if s.pendingRepair b then s
  else
    let s := s.ownError b k
    if s.classOf b == 2 || s.classOf b == 3 then s else s.listBad b

/-- STACK_ECS_POLL (R121): the counters of the stacks' own error correction. -/
def execStackEcsPoll (events : List (Nat × Nat)) (s : State) : Host.Outcome State Fault Refusal :=
  if !s.due 7 100000000 then .next s else
  .next (events.foldl (fun s (stack, n) => s.setOb (Obj.stackOndie stack) n) (s.ticked 7))

end Sys2Proof.Machine
end

