-- ==== Sys2Proof/Machine/Activation.lean ====
section
/-! DEFINITION. The real values that GELU, SIGMOID, SILU and TANH approximate (R98), to some 2^-500, and the bound of two
units in the last place that their fixed sequences keep. -/

namespace Sys2Proof.Machine

/-- Bits of the fixed-point fractions below. -/
def fixBits : Nat := 600

/-- 1 as a fixed-point fraction. -/
def fixOne : Nat := 2 ^ fixBits

/-- Product and quotient of fixed-point fractions. -/
def fixMul (x y : Nat) : Nat := x * y / fixOne
def fixDiv (x y : Nat) : Nat := x * fixOne / y

/-- A non-negative finite magnitude m × 2^e as a fixed-point fraction, at most `cap`. -/
def fixOf (cap m : Nat) (e : Int) : Nat :=
  let x := e + fixBits
  if m = 0 then 0
  else if (Nat.log2 m : Int) + e ≥ 20 then cap * fixOne
  else min (cap * fixOne) (if x ≥ 0 then m * 2 ^ x.toNat else m / 2 ^ (-x).toNat)

/-- e^−y for a fixed-point y: e^(y / 2^16) by its series, its reciprocal, squared sixteen times. -/
def expNeg (y : Nat) : Nat :=
  let z := y / 65536
  let series := (upto 80).foldl (fun (acc : Nat × Nat) i =>
    let t := fixMul acc.2 z / (i + 1)
    (acc.1 + t, t)) (fixOne, fixOne)
  (upto 16).foldl (fun r _ => fixMul r r) (fixDiv fixOne series.1)

/-- The arctangent of 1 / n. -/
def atanInv (n : Nat) : Nat :=
  let r := (upto 140).foldl (fun (acc : Int × Nat) i =>
    let t : Int := ((acc.2 / (2 * i + 1) : Nat) : Int)
    (if i % 2 = 0 then acc.1 + t else acc.1 - t, acc.2 / (n * n))) (0, fixOne / n)
  r.1.toNat

/-- π, by Machin's formula. -/
def fixPi : Nat := 16 * atanInv 5 - 4 * atanInv 239

/-- 1 / (1 + e^−y) for y ≥ 0, or its complement for −y. -/
def fixSigmoid (neg : Bool) (y : Nat) : Nat :=
  let u := expNeg y
  fixDiv (if neg then u else fixOne) (fixOne + u)

/-- tanh y for y ≥ 0. -/
def fixTanh (y : Nat) : Nat :=
  let u := expNeg (2 * y)
  fixDiv (fixOne - u) (fixOne + u)

/-- The normal distribution function at y, or at −y: one half with the density times Σ y^(2n + 1) / (1 · 3 ⋯ (2n + 1)). -/
def fixNormal (neg : Bool) (y : Nat) : Nat :=
  let sq := fixMul y y
  let r := (upto 1200).foldl (fun (acc : Nat × Nat) i => (acc.1 + acc.2, fixMul acc.2 sq / (2 * i + 3))) (0, y)
  let density := fixDiv (expNeg (sq / 2)) (isqrt (2 * fixPi * fixOne))
  let half := min (fixOne / 2) (fixMul density r.1)
  if neg then fixOne / 2 - half else fixOne / 2 + half

/-- Magnitude of activation `act` (2 GELU, 3 SIGMOID, 4 SILU, 5 TANH) at a finite (−1)^s × m × 2^e, as x × 2^−600. GELU is
x times the normal distribution function (PRESUMED, log entry 71). -/
def actMag (act : Nat) (s : Bool) (m : Nat) (e : Int) : Nat :=
  if act == 3 then fixSigmoid s (fixOf 256 m e)
  else if act == 5 then fixTanh (fixOf 256 m e)
  else
    -- the factor beside the operand; a large negative operand is cut off, where the product is far below every subnormal
    let x := fixOf (if s then (if act == 2 then 16 else 256) else 2 ^ 129) m e
    if act == 2 then fixMul x (fixNormal s (fixOf 16 m e)) else fixMul x (fixSigmoid s (fixOf 256 m e))

/-- Sign of that value. -/
def actNeg (act : Nat) (s : Bool) : Bool := s && act != 3

/-- Does a finite FP32 value lie within two units in the last place of (−1)^s × x × 2^−600 (R98)? -/
def within2 (v : FVal) (s : Bool) (x : Nat) : Bool :=
  match v with
  | .fin t m e =>
    let q := (lastPlace fp32 x (-(fixBits : Int)) + fixBits).toNat
    decide ((atScale t m e (-(fixBits : Int)) - atScale s x (-(fixBits : Int)) (-(fixBits : Int))).natAbs ≤ 2 * 2 ^ q)
  | _ => false

/-- The limit of an activation at an infinity: the exact infinity, 0, 1 or −1; none for GELU and SILU at −Inf. -/
def actLimit (act : Nat) (s : Bool) : Option Nat :=
  if act == 3 then some (if s then 0 else 0x3F800000)
  else if act == 5 then some (if s then 0xBF800000 else 0x3F800000)
  else if s then none else some fp32.inf

/-- The result of an activation at a number, of the bits `raw` its sequence would give: those bits where they keep R98's
bound, else the value rounded to nearest. Under FTZ a magnitude below the smallest normal gives a zero of its sign (R432). -/
def actFinite (act : Nat) (c : RSet) (s : Bool) (m : Nat) (e : Int) (raw : Nat) : Nat × Flags :=
  let x := actMag act s m e
  let neg := actNeg act s
  if x == 0 then
    let z := signed fp32 neg 0
    if within2 (decodeF fp32 raw) neg 0 && !(c.ftz && raw % fp32.signBit != 0) then (raw, 0) else (z, 0)
  else
    let r := finishMag fp32 { mode := .rne, ftz := c.ftz } neg x (-(fixBits : Int)) true
    if r.2 &&& fFZ != 0 then r
    else if within2 (decodeF fp32 raw) neg x then (raw, 0) else (r.1, 0)

end Sys2Proof.Machine
end

