-- ==== Sys2Proof/Machine/Lanes.lean ====
section
/-! DEFINITION. The lane operations of the vector unit (R98 to R101, R427 to R432), shared by VECTOR tasks and by the fused
epilogue: each takes the bits of its operands and gives the bits of its result with the sticky flags it raises. -/

namespace Sys2Proof.Machine

/-- The settings of a task's final roundings for one element: its mode with the element's 16 bits, SAT and FTZ. -/
def rsetOf (d : Desc) (bits : Nat) : RSet :=
  { mode := if D.rmode d == 1 then .sr bits else .rne, sat := D.sat d, ftz := D.ftz d }

/-- The 16 random bits of element `e` of a task (R57, R58, R101); `seed` is the job's. -/
def srBits (d : Desc) (seed e : Nat) : Nat :=
  if D.rmode d == 1 then
    philox seed (pack [(104, 24, D.tensor d), (64, 40, e), (16, 48, D.step d), (0, 16, D.pass d)]) % 2 ^ 16
  else 0

/-- Under RNE, with the task's SAT and FTZ. -/
def RSet.nearest (c : RSet) : RSet := { c with mode := .rne }

/-- An operand of a lane: its value after flushing, with FZ (R54, R432). FP16 is widened exactly. -/
def laneIn (c : RSet) (fmt bits : Nat) : FVal × Flags := decodeIn (fmtOf fmt) c.ftz bits

/-- A rounded lane result. -/
def laneOut (c : RSet) (fmt : Nat) (x : Exact) : Nat × Flags := finish (fmtOf fmt) c x

/-- A lane result that is exact, with the flags its operands raise. -/
def laneExact (v : FVal) (fl : Flags) : Nat × Flags := ((finish fp32 {} (exOf v)).1, fl)

/-- One-operand operations with a rounded FP32 result. -/
def lane1 (c : RSet) (fa : Nat) (f : FVal → Exact) (a : Nat) : Nat × Flags :=
  let (x, fx) := laneIn c fa a
  let (r, fl) := laneOut c 1 (f x)
  (r, fl ||| fx)

/-- Two-operand operations with a rounded FP32 result. -/
def lane2 (c : RSet) (fa fb : Nat) (f : FVal → FVal → Exact) (a b : Nat) : Nat × Flags :=
  let (x, fx) := laneIn c fa a
  let (y, fy) := laneIn c fb b
  let (r, fl) := laneOut c 1 (f x y)
  (r, fl ||| fx ||| fy)

/-- Difference of two values. -/
def exSub (a b : FVal) : Exact := exAdd a (fneg b)

/-- FMA (R98, R100). -/
def laneFma (c : RSet) (fa fb fc a b x : Nat) : Nat × Flags :=
  let (va, f0) := laneIn c fa a
  let (vb, f1) := laneIn c fb b
  let (vc, f2) := laneIn c fc x
  let (r, fl) := laneOut c 1 (exFma va vb vc)
  (r, fl ||| f0 ||| f1 ||| f2)

/-- FMAX and FMIN (R99). -/
def laneSel (c : RSet) (fa fb : Nat) (f : FVal → FVal → FVal) (a b : Nat) : Nat × Flags :=
  let (x, fx) := laneIn c fa a
  let (y, fy) := laneIn c fb b
  laneExact (f x y) (nanFlags [x, y] ||| fx ||| fy)

/-- RELU (R431). -/
def laneRelu (c : RSet) (a : Nat) : Nat × Flags :=
  let (x, fx) := laneIn c 1 a
  laneExact (fmaxV x (.fin false 0 0)) (nanFlags [x] ||| fx)

/-- A number for the settings, by which the free activation functions may differ. -/
def RSet.code (c : RSet) : Nat :=
  (match c.mode with
    | .rne => 0
    | .sr r => 1 + r) + bit c.sat * 2 ^ 17 + bit c.ftz * 2 ^ 18

/-- Free result bits as R39 and R432 let them stand: a NaN as the canonical one, a subnormal under FTZ as a zero. -/
def settle (f : FFmt) (c : RSet) (bits : Nat) : Nat × Flags :=
  match decodeF f bits with
  | .nan _ => (f.qnan, 0)
  | .fin s m _ =>
    if c.ftz && m != 0 && decide (m < 2 ^ (f.p - 1)) then (signed f s 0, fUF ||| fIX ||| fFZ) else (bits, 0)
  | .inf _ => (bits, 0)

/-- Free flags: NI never, SA and FZ only under the setting that raises them (Table 2-11, R100, R432). -/
def RSet.freeFlags (c : RSet) (f : Flags) : Flags := f &&& (0x0F ||| flagIf c.sat fSA ||| flagIf c.ftz fFZ)

/-- GELU, SIGMOID, SILU and TANH (R98, R100, R432): the canonical NaN for a NaN, the limit at an infinity, else a free value
within two units in the last place of the exact one (log entries 4 and 71). -/
def laneAct (c : RSet) (act a : Nat) : Nat × Flags :=
  let (x, fx) := laneIn c 1 a
  let bits := BitVec.ofNat 32 (laneExact x 0).1
  let raw := (Config.activation act c.code bits).toNat
  let free := c.freeFlags (Config.activationFlags act c.code bits) ||| fx
  match x with
  | .nan _ => (fp32.qnan, nanFlags [x])
  | .inf s => match actLimit act s with
    | some r => (r, free)
    | none => let (r, fl) := settle fp32 c raw; (r, fl ||| free)
  | .fin s m e => let (r, fl) := actFinite act c s m e raw; (r, fl ||| free)

/-- FCMP (R429): 0x07 equal, 0x08 less than, 0x09 less or equal. -/
def laneCmp (c : RSet) (v fa fb a b : Nat) : Nat × Flags :=
  let (x, fx) := laneIn c fa a
  let (y, fy) := laneIn c fb b
  let nan := x.isNan || y.isNan
  let r := if nan then false else if v == 0x07 then feq x y else if v == 0x08 then fless x y else fless x y || feq x y
  (bit r, nanFlags [x, y] ||| flagIf (nan && v != 0x07) fIV ||| fx ||| fy)

/-- CVT (R98, R430, R432), its direction by the formats. -/
def laneCvt (c : RSet) (fa fo a : Nat) : Nat × Flags :=
  if fa == 3 then finish fp32 { c with mode := .rne } (exactInt (toInt32 a) 0 false)
  else
    let (x, fx) := laneIn c fa a
    if fo == 3 then let (r, fl) := cvtToI32 x; (r, fl ||| fx)
    else if fo == 1 then laneExact x (nanFlags [x] ||| fx)
    else let (r, fl) := laneOut c fo (exOf x); (r, fl ||| fx)

/-- Integer operations (R98, R427): 0x0B IADD, 0x0C IAND, 0x0D IOR, 0x0E IXOR, 0x0F ISHL, 0x10 ISHR. -/
def laneInt (v a b : Nat) : Nat :=
  if v == 0x0B then (a + b) % 2 ^ 32
  else if v == 0x0C then a &&& b
  else if v == 0x0D then a ||| b
  else if v == 0x0E then a ^^^ b
  else if v == 0x0F then a * 2 ^ (b % 32) % 2 ^ 32
  else ofInt32 (toInt32 a / (2 : Int) ^ (b % 32))

/-- floor of a finite value. -/
def floorOf (s : Bool) (m : Nat) (e : Int) : Int :=
  if e ≥ 0 then atScale s m e 0 else (if s then -(m : Int) else m) / (2 : Int) ^ (-e).toNat

/-- A value times a power of two; beyond 2^±10000 every exponent rounds alike (R56). -/
def scaled (v : FVal) (n : Int) : FVal :=
  match v with
  | .fin s m e => .fin s m (e + max (-10000) (min n 10000))
  | v => v

/-- The exact result of `scaled`. -/
def exScaled (x : Exact) (n : Int) : Exact :=
  match x with
  | .mag s m e st => .mag s m (e + n) st
  | x => x

/-- SUM × 2^(−O), rounded to FP32 under RNE (R52, R106). -/
def Heart.roundScaled (h : Heart) (c : RSet) (n : Int) : Nat × Flags :=
  if h.nan || h.inv || h.pinf || h.ninf then h.round fp32 c else finish fp32 c (exScaled h.exact n)

/-- SOFTNORM (R106) on element p of format `fa`, its tile offset o, and the row state's SUM and MAX. A MAX that is no
finite number has no floor, and R106 states no result: a free value (log entry 4). The conversion to the output format
follows CVT, in the task's mode (DEDUCED, log entry 40). -/
def laneSoftnorm (c : RSet) (fa fo p o : Nat) (sum : Heart) (mx : Nat) : Nat × Flags :=
  let (x, fx) := laneIn c fa p
  match laneIn c 1 mx with
  | (.fin s m e, fm) =>
    let big := floorOf s m e
    let (den, fs) := sum.roundScaled c.nearest (-big)
    let (num, fn) := laneOut c.nearest 1 (exOf (scaled x (toInt32 o - big)))
    let (q, fq) := lane2 c.nearest 1 1 exDiv num den
    let (r, fr) := if fo == 1 then (q, (0 : Flags)) else laneCvt c 1 fo q
    (r, fx ||| fm ||| fs ||| fn ||| fq ||| fr)
  | (v, fm) =>
    let key := [c.code, fa, fo, p, o, sum.toRecord .h592, mx]
    let (r, fl) := settle (fmtOf fo) c ((Config.softnormOpen key).toNat % 2 ^ (8 * fmtBytes fo))
    (r, fl ||| c.freeFlags (Config.softnormOpenFlags key) ||| fx ||| fm ||| nanFlags [x, v])

end Sys2Proof.Machine
end

