-- ==== Sys2Proof/Machine/Matrix.lean ====
section
/-! DEFINITION. MATMUL (R81 to R96, R433): the reduction of an output element in its heartwood or on the FP64 path, spills
by count (R71, R87, R95), the fused epilogue (R102 to R105), the fold over stands (R86, R88, R92, R166), the digests of its
blocks (R268) and the beats it costs (R82, R83, R96). -/

namespace Sys2Proof.Machine

/-! ## One output element -/

/-- A reduction under way: the heartwood since the last spill, the running record once spilled, k of its invalid events,
its flags, whether a spill would leave its VALUE field, and the last record that a spill before that one wrote (R73). -/
structure HRun where
  h : Heart := {}
  pass : Option Heart := none
  kept : Option Heart := none
  events : List Nat := []
  flags : Flags := 0
  outside : Bool := false
  deriving DecidableEq, Repr

/-- Terms between spills by count; 0 for none (R95). -/
def kPass (d : Desc) : Nat := 64 * D.kpass d

/-- Is a term an invalid event (R61)? -/
def invalidTerm (x y : FVal) : Bool := x.isSnan || y.isSnan || zeroTimesInf x y

/-- The term k of a heartwood reduction, and the spill that follows it when its count is reached (R50, R71, R87). -/
def heartTerm (d : Desc) (input : Heart) (a b : Nat → Nat) (r : HRun) (k : Nat) : HRun :=
  let (x, fx) := decodeIn (fmtOf (D.fmtA d)) (D.ftz d) (a k)
  let (y, fy) := decodeIn (fmtOf (D.fmtB d)) (D.ftz d) (b k)
  let r := { r with
    h := r.h.addProduct x y
    flags := r.flags ||| fx ||| fy
    events := if invalidTerm x y then r.events ++ [k] else r.events }
  if kPass d != 0 && (k + 1) % kPass d == 0 then
    let run := (r.pass.getD input).merge r.h
    let outside := r.outside || !run.fits (formOf (recForm d))
    { r with h := {}, pass := some run, kept := if outside then r.kept else some run, outside := outside }
  else r

/-- An output element before its epilogue: its exact sum or its FP64 value, the contents of its place in the pass array, k
of its invalid events, its flags, the status and address it aborts the task with, and what its place in the pass array holds
then of an earlier spill (R73). -/
structure Elem where
  sum : Heart := {}
  bits : Nat := 0
  pass : Option Nat := none
  kept : Option Nat := none
  events : List Nat := []
  flags : Flags := 0
  bad : Option (BitVec 8 × Nat) := none
  deriving DecidableEq, Repr

/-- The heartwood reduction of an element (R45 to R51, R71 to R73). The addend is the term k = K, one past the last product
(R63; that it follows the last spill by count is DEDUCED, log entry 42). An input record in which both infinities have been
seen makes the element's event again (DESIGN CHOICE, log entry 77). `c` holds the bits and address of the addend or
input record; `terms` is how far the reduction has come. -/
def heartElem (d : Desc) (terms : Nat) (a b : Nat → Nat) (c : Option (Nat × Nat)) (spillAt : Nat) : Elem :=
  let input : Option Heart := match c with
    | some (x, _) => if isRec (D.fmtC d) then Heart.ofRecord (formOf (recForm d)) x else some {}
    | none => some {}
  match input with
  | none => { bad := some (Status.malformedSpillRecord, (c.map (·.2)).getD 0) }
  | some input =>
    let r := (upto terms).foldl (heartTerm d input a b) {}
    let r := match c with
      | some (x, _) =>
        if isRec (D.fmtC d) then r
        else
          let (v, fv) := decodeIn (fmtOf (D.fmtC d)) (D.ftz d) x
          { r with
            h := r.h.addAddend v
            flags := r.flags ||| fv
            events := if v.isSnan then r.events ++ [D.k d] else r.events }
      | none => r
    let sum := (r.pass.getD input).merge r.h
    let record := fun (h : Heart) => h.toRecord (formOf (recForm d))
    { sum := sum, pass := r.pass.map record, kept := r.kept.map record, flags := r.flags
      events := if sum.opposite then r.events ++ [0xFFFFFFFF] else r.events
      bad := if r.outside then some (Status.accumulatorRange, spillAt) else none }

/-- One fma of the FP64 path, with the spill that follows it (R65 to R68, R426). -/
def fp64Term (d : Desc) (a b : Nat → Nat) (r : Elem) (k : Nat) : Elem :=
  let (acc, fl, ev) := fma64 (a k) (b k) r.bits
  { r with
    bits := acc
    flags := r.flags ||| clearNi fl ||| flagIf ((decodeF fp64 (a k)).isNan || (decodeF fp64 (b k)).isNan) fNI
    events := if ev then r.events ++ [k] else r.events
    pass := if kPass d != 0 && (k + 1) % kPass d == 0 then some acc else r.pass }

/-- The FP64 reduction of an element: acc starts as the addend, or −0. -/
def fp64Elem (d : Desc) (terms : Nat) (a b : Nat → Nat) (c : Option (Nat × Nat)) : Elem :=
  let c0 := (c.map (·.1)).getD fp64.signBit
  (upto terms).foldl (fp64Term d a b)
    { bits := c0, flags := flagIf (decodeF fp64 c0).isNan fNI }

/-- Element (i, j) of a task after `terms` terms (R433): the multiplicands of term k are read in the state `at_ k`, the
addend or input record in `last` (R109). -/
def State.element (last : State) (d : Desc) (at_ : Nat → State) (terms i j : Nat) : Elem :=
  let a := fun k => (at_ k).elem (Lay.a d) (fmtBytes (D.fmtA d)) i k
  let b := fun k => (at_ k).elem (Lay.b d) (fmtBytes (D.fmtB d)) k j
  let sz := fmtBytes (D.fmtC d)
  let c := if D.addrC d == 0 then none else some (last.elem (Lay.c d) sz i j, (Lay.c d).at i (j * sz))
  if fp64Path d then fp64Elem d terms a b c else heartElem d terms a b c ((Lay.spill d).at i (j * spillBytes d))

/-! ## The epilogue -/

/-- A row's running state (Table 3-8). -/
structure RowSt where
  sum : Heart := {}
  max : Nat := 0xFF800000
  deriving DecidableEq, Repr

/-- The 96 bytes of a row state. -/
def RowSt.bytes (r : RowSt) : List Byte := bytesOf (r.sum.toRecord .h592 * 2 ^ 128 + r.max * 2 ^ 96) 96

/-- A row state read from memory; none when its SUM is malformed (R72). -/
def RowSt.ofNat (n : Nat) : Option RowSt := (Heart.ofRecord .h592 (n / 2 ^ 128)).map (fun h => ⟨h, fld n 96 32⟩)

/-- Does some stage from 2 to 5 run (R102)? -/
def midStages (d : Desc) : Bool := D.runs d 2 || D.runs d 3 || D.runs d 4 || D.runs d 5

/-- Is the row state kept (stages 3 and 5)? -/
def keepsRows (d : Desc) : Bool := D.runs d 3 || D.runs d 5

/-- What the epilogue makes of one row of a block: the bits of its elements, the row state, the tile offset, the flags. -/
structure RowOut where
  vals : List Nat
  st : RowSt
  off : Nat := 0x80000000
  flags : Flags := 0
  deriving DecidableEq, Repr

/-- Stages 1 and 2: the FP32 value y of an element with its flags. -/
def stage12 (d : Desc) (c : RSet) (sc bi : Nat) (e : Elem) : Nat × Flags :=
  let (y, f) := e.sum.round fp32 c
  if D.runs d 2 then let (y, f2) := laneFma c 1 1 1 y sc bi; (y, f ||| f2) else (y, f)

/-- Stage 4, but for the split exponential. -/
def stage4 (d : Desc) (c : RSet) (y : Nat) : Nat × Flags :=
  if !D.runs d 4 || D.act d == 0 then (y, 0)
  else if D.act d == 1 then laneRelu c y
  else laneAct c (D.act d) y

/-- Stage 6: conversion to the output format. -/
def stage6 (d : Desc) (c : RSet) (y : Nat) : Nat × Flags := if D.fmtOut d == 1 then (y, 0) else laneCvt c 1 (D.fmtOut d) y

/-- Is it a finite t below 293 (R104)? -/
def splitFinite (t : FVal) : Bool :=
  match t with
  | .fin s m e => fless (.fin s m e) (.fin false 293 0)
  | _ => false

/-- n = floor(t) of R104. -/
def splitN (t : FVal) : Int :=
  match t with
  | .fin s m e => floorOf s m e
  | _ => 0

/-- g = EXP2(t − n), with its flags (R104). t − n is exact, so g may round to 2 (DEDUCED, log entry 43). -/
def splitG (c : RSet) (t : FVal) : FVal × Flags :=
  match t with
  | .fin s m e =>
    let e0 := min e 0
    let (g, fl) := finish fp32 c.nearest (exExp2 (.fin false (atScale s m e e0 - splitN t * (2 : Int) ^ (-e0).toNat).toNat e0))
    (decodeF fp32 g, fl)
  | v => (v, 0)

/-- The tile offset of a row of an offset block (R104): floor of the largest finite t below 293. -/
def splitOffset (ts : List FVal) : Option Int :=
  (ts.filter splitFinite).foldl (fun o t => match o with
    | none => some (splitN t)
    | some x => some (max x (splitN t))) none

/-- One element of the split exponential (R104, R105): the written value, its flags, and SUM with its term. -/
def splitElem (d : Desc) (c : RSet) (off : Option Int) (t : FVal) (sum : Heart) : Nat × Flags × Heart :=
  let fo := fmtOf (D.fmtOut d)
  let add (v : FVal) : Heart := if D.runs d 5 then sum.addAddend v else sum
  match t with
  | .nan q => (fo.qnan, nanFlags [.nan q], add (.nan false))
  | .inf true => (0, 0, add (.fin false 0 0))
  | .inf false => (fo.inf, fOF, add (.inf false))
  | .fin s m e =>
    let t := FVal.fin s m e
    if !splitFinite t then (fo.inf, fOF, add (.inf false))
    else
      let n := splitN t
      let (g, fg) := splitG c t
      let (p, fp) := finish fo c (exOf (scaled g (n - off.getD 0)))
      if n < -275 then (p, fg ||| fp ||| fIX, add (.fin false 0 0))
      else (p, fg ||| fp, add (scaled g n))

/-- The epilogue of one row of a block whose first column is `c0` (R102 to R105). `cs` gives each column's settings. -/
def epilogueRow (d : Desc) (cs : Nat → RSet) (sc bi : Nat → Nat) (c0 : Nat) (es : List Elem) (st : RowSt) : RowOut :=
  let cols := (upto es.length).zip es
  if isRec (D.fmtOut d) then
    { vals := es.map (fun e => e.sum.toRecord (formOf (recForm d))), st := st, flags := es.foldl (fun (f : Flags) e => f ||| e.flags) 0 }
  else if fp64Path d then { vals := es.map (·.bits), st := st, flags := es.foldl (fun (f : Flags) e => f ||| e.flags) 0 }
  else if !midStages d then
    let l := cols.map (fun (x, e) => (e.sum.round (fmtOf (D.fmtOut d)) (cs (c0 + x)), e.flags))
    { vals := l.map (·.1.1), st := st, flags := l.foldl (fun (f : Flags) v => f ||| v.1.2 ||| v.2) 0 }
  else
    let ys := cols.map (fun (x, e) =>
      let (y, f) := stage12 d (cs (c0 + x)) (sc (c0 + x)) (bi (c0 + x)) e
      (x, y, f ||| e.flags))
    let fl := ys.foldl (fun (f : Flags) v => f ||| v.2.2) 0
    let (mx, fl) := if D.runs d 3 then
        ys.foldl (fun (acc : Nat × Flags) v =>
          let (m, f) := laneSel (cs (c0 + v.1)) 1 1 fmaxV acc.1 v.2.1
          (m, acc.2 ||| f)) (st.max, fl)
      else (st.max, fl)
    if splitExp d then
      let off := splitOffset (ys.map (fun v => (laneIn (cs (c0 + v.1)) 1 v.2.1).1))
      let r := ys.foldl (fun (acc : List Nat × Flags × Heart) v =>
        let c := cs (c0 + v.1)
        let (t, ft) := laneIn c 1 v.2.1
        let (p, f, h) := splitElem d c off t acc.2.2
        (acc.1 ++ [p], acc.2.1 ||| ft ||| f, h)) ([], fl, st.sum)
      { vals := r.1, st := ⟨r.2.2, mx⟩, off := ofInt32 (off.getD (-0x80000000)), flags := r.2.1 }
    else
      let r := ys.foldl (fun (acc : List Nat × Flags × Heart) v =>
        let c := cs (c0 + v.1)
        let (z, fz) := stage4 d c v.2.1
        let (t, ft) := laneIn c 1 z
        let h := if D.runs d 5 then acc.2.2.addAddend t else acc.2.2
        let f5 := if D.runs d 5 then ft ||| nanFlags [t] else 0
        let (o, fo) := stage6 d c z
        (acc.1 ++ [o], acc.2.1 ||| fz ||| f5 ||| fo, h)) ([], fl, st.sum)
      { vals := r.1, st := ⟨r.2.2, mx⟩, flags := r.2.1 }

/-! ## Blocks -/

/-- A block of the fold: its index over the whole task, its stand, rows and columns (R86, R266). -/
structure Blk where
  index : Nat
  stand : Nat
  r0 : Nat
  rows : Nat
  c0 : Nat
  cols : Nat
  deriving DecidableEq, Repr

/-- The shape of a native instruction (R81, R88). -/
def native (d : Desc) : Bool := decide (D.m d ≤ 256) && decide (D.n d ≤ 64) && decide (D.k d ≤ 64)

/-- Rows each member of a stand set gets (R166): (stand, first row, rows). -/
def dealRows (m : Nat) (members : List Nat) : List (Nat × Nat × Nat) :=
  let q := ceilDiv m members.length
  (((upto members.length).zip members).map (fun (i, g) => (g, i * q, min m ((i + 1) * q) - i * q))).filter (fun x => x.2.2 != 0)

/-- Width of the column blocks on a stand (R86, R88, R104). -/
def State.blockWidth (s : State) (d : Desc) (g : Nat) : Nat := if native d || splitExp d then 64 else s.width g

/-- The blocks of a task, in fold order over its members. -/
def State.blocks (s : State) (d : Desc) (members : List Nat) : List Blk :=
  let l := (dealRows (D.m d) members).flatMap (fun (g, r0, rows) =>
    let w := s.blockWidth d g
    (upto (ceilDiv (D.n d) w)).flatMap (fun n =>
      (upto (ceilDiv rows 256)).map (fun m =>
        ({ index := 0, stand := g, r0 := r0 + 256 * m, rows := min 256 (rows - 256 * m), c0 := n * w,
           cols := min w (D.n d - n * w) } : Blk))))
  ((upto l.length).zip l).map (fun (i, b) => { b with index := i })

/-- What a block makes. `left` lists the records that R73 leaves unwritten: address, length, and the bytes an earlier spill of
the task has put there, if one has. -/
structure BlkOut where
  blk : Blk
  out : List MemWrite := []
  pass : List MemWrite := []
  row : List MemWrite := []
  off : List MemWrite := []
  events : List (Nat × Nat × Nat) := []
  flags : Flags := 0
  inp : List Byte := []
  rows : KMap RowSt := []
  bad : Option (BitVec 8 × Nat) := none
  left : List (Nat × Nat × List Byte) := []
  deriving DecidableEq, Repr

/-- A block's rows of the pass array, from its elements. -/
def passWrites (d : Desc) (b : Blk) (e : Nat → Nat → Elem) : List MemWrite :=
  ((upto b.rows).map (· + b.r0)).filterMap (fun i =>
    let l := ((upto b.cols).filterMap (fun x => (e i (b.c0 + x)).pass)).flatMap (fun v => bytesOf v (spillBytes d))
    if l.isEmpty then none else some ⟨(Lay.spill d).at i (b.c0 * spillBytes d), l⟩)

/-- The state after a number of a block's spills by count, and those before it (R109): what the block's later instructions
read of the pass array is what they find there. -/
def State.views (s : State) (d : Desc) (b : Blk) : Nat → List State
  | 0 => [s]
  | n + 1 =>
    let vs := s.views d b n
    let last := vs.getLastD s
    let ws := passWrites d b (last.element d (fun k => vs.getD (k / kPass d) last) ((n + 1) * kPass d))
    vs ++ [ws.foldl (fun s w => s.poke w.addr w.data) last]

/-- Spills by count in one reduction. -/
def spillCount (d : Desc) : Nat := if kPass d = 0 then 0 else D.k d / kPass d

/-- Those views, where the pass array lies over an operand the task reads; else the one state. -/
def State.blockViews (s : State) (d : Desc) (b : Blk) : List State :=
  if (operands d).any (fun o => o.code == 5 && (inputsOf d).any (fun i => overlaps o.addr o.len i.addr i.len)) then
    s.views d b (spillCount d) else [s]

/-- The bytes a block reads, in the order of its input digest, but for the row state (R268). -/
def State.blockReads (s : State) (d : Desc) (b : Blk) : List Byte :=
  let (sa, sb, sc) := (fmtBytes (D.fmtA d), fmtBytes (D.fmtB d), fmtBytes (D.fmtC d))
  let rows := (upto b.rows).map (· + b.r0)
  let perCol (l : Layout) : List Byte := if D.perCol d then s.bytesAt (l.addr + 4 * b.c0) (4 * b.cols) else s.bytesAt l.addr 4
  ((upto (ceilDiv (D.k d) 64)).flatMap (fun x =>
    rows.flatMap (fun i => s.bytesAt ((Lay.a d).at i (64 * x * sa)) (min 64 (D.k d - 64 * x) * sa)))) ++
  ((upto (D.k d)).flatMap (fun k => s.bytesAt ((Lay.b d).at k (b.c0 * sb)) (b.cols * sb))) ++
  (if D.addrC d == 0 then [] else rows.flatMap (fun i => s.bytesAt ((Lay.c d).at i (b.c0 * sc)) (b.cols * sc))) ++
  (if D.runs d 2 && D.addrScale d != 0 then perCol (Lay.scale d) else []) ++
  (if D.runs d 2 && D.addrBias d != 0 then perCol (Lay.bias d) else [])

/-- The row state a block finds for a row: as an earlier block of the task left it, else from memory, else fresh (R103). -/
def State.rowState (s : State) (d : Desc) (rows : KMap RowSt) (i : Nat) : Option RowSt :=
  match kget? rows i with
  | some r => some r
  | none => if !keepsRows d || D.addrRow d == 0 then some {} else RowSt.ofNat (s.numAt ((Lay.row d).at i 0) 96)

/-- A scale or bias for column j, `dflt` where absent (R433). -/
def State.perColumn (s : State) (d : Desc) (l : Layout) (dflt j : Nat) : Nat :=
  if l.addr == 0 then dflt else s.numAt (l.addr + (if D.perCol d then 4 * j else 0)) 4

/-- The records of a row that would leave their range: of the pass array, of the output, and the SUM of its row state, which an
earlier block of the task may have written (R73). -/
def leftRecords (d : Desc) (i c0 outAt : Nat) (es : List Elem) (found : RowSt) (r : RowOut) : List (Nat × Nat × List Byte) :=
  let cols := (upto es.length).zip es
  let (so, sp) := (fmtBytes (D.fmtOut d), spillBytes d)
  (cols.filter (fun x => (x.2.bad.map (·.1)) == some Status.accumulatorRange)).map (fun x =>
    ((Lay.spill d).at i ((c0 + x.1) * sp), sp, match x.2.kept with
      | some v => bytesOf v sp
      | none => [])) ++
  (if isRec (D.fmtOut d) then (cols.filter (fun x => !x.2.sum.fits (formOf (recForm d)))).map (fun x => (outAt + x.1 * so, so, []))
   else []) ++
  (if D.runs d 5 && D.addrRow d != 0 && !r.st.sum.fits .h592 then [((Lay.row d).at i 16, 80, found.bytes.drop 16)] else [])

/-- One row of a block, added to what its earlier rows made: its multiplicands of term k are read in `at_ k`. -/
def State.runRow (s : State) (d : Desc) (seed : Nat) (b : Blk) (at_ : Nat → State) (o : BlkOut) (i : Nat) : BlkOut :=
  match s.rowState d o.rows i with
  | none => { o with bad := o.bad.orElse (fun _ => some (Status.malformedSpillRecord, (Lay.row d).at i 0)) }
  | some st =>
    let es := (upto b.cols).map (fun x => s.element d at_ (D.k d) i (b.c0 + x))
    let so := fmtBytes (D.fmtOut d)
    let r := epilogueRow d (fun j => rsetOf d (srBits d seed (i * D.n d + j)))
      (s.perColumn d (Lay.scale d) 0x3F800000) (s.perColumn d (Lay.bias d) 0) b.c0 es st
    let outAt := (Lay.out d).at i (b.c0 * so)
    let bad := (es.findSome? (·.bad)).orElse (fun _ =>
      if isRec (D.fmtOut d) then
        (((upto b.cols).zip es).find? (fun x => !x.2.sum.fits (formOf (recForm d)))).map (fun x =>
          (Status.accumulatorRange, outAt + x.1 * so))
      else if D.runs d 5 && !r.st.sum.fits .h592 then some (Status.accumulatorRange, (Lay.row d).at i 0)
      else none)
    let pass := (es.filterMap (·.pass)).flatMap (fun v => bytesOf v (spillBytes d))
    { o with
      out := o.out ++ [⟨outAt, r.vals.flatMap (fun v => bytesOf v so)⟩]
      pass := if pass.isEmpty then o.pass else o.pass ++ [⟨(Lay.spill d).at i (b.c0 * spillBytes d), pass⟩]
      row := if keepsRows d && D.addrRow d != 0 then o.row ++ [⟨(Lay.row d).at i 0, r.st.bytes⟩] else o.row
      off := if splitExp d && D.addrOff d != 0 then o.off ++ [⟨(Lay.off d).at i (4 * (b.c0 / 64)), bytesOf r.off 4⟩] else o.off
      events := o.events ++ ((upto b.cols).zip es).flatMap (fun (x, e) => e.events.map (fun k => (i, b.c0 + x, k)))
      flags := o.flags ||| r.flags
      inp := if keepsRows d && D.addrRow d != 0 then o.inp ++ st.bytes else o.inp
      rows := kset o.rows i r.st
      bad := o.bad.orElse (fun _ => bad)
      left := o.left ++ leftRecords d i b.c0 outAt es st r }

/-- A block, given the row states as its predecessors left them. -/
def State.runBlock (s : State) (d : Desc) (seed : Nat) (rows : KMap RowSt) (b : Blk) : BlkOut :=
  let vs := s.blockViews d b
  let last := vs.getLastD s
  ((upto b.rows).map (· + b.r0)).foldl (last.runRow d seed b (fun k => vs.getD (k / kPass d) last))
    { blk := b, rows := rows, inp := s.blockReads d b }

/-- The digests of a block (R268). -/
def BlkOut.digests (o : BlkOut) : Digests :=
  { inp := crc64 o.inp
    out := crc64 ((o.out ++ o.pass ++ o.row ++ o.off).flatMap (·.data) ++ bytesOf o.flags.toNat 1 ++ bytesOf o.events.length 4) }

/-- The writes of a block. -/
def BlkOut.writes (o : BlkOut) : List MemWrite := o.out ++ o.pass ++ o.row ++ o.off

/-- The parts of a write outside another. -/
def cutWrite (w v : MemWrite) : List MemWrite :=
  let before : MemWrite := ⟨v.addr, v.data.take (w.addr - v.addr)⟩
  let after : MemWrite := ⟨max v.addr (w.addr + w.data.length), v.data.drop (w.addr + w.data.length - v.addr)⟩
  [before, after].filter (fun x => !x.data.isEmpty)

/-- A write among writes sorted by address. -/
def insWrite (w : MemWrite) : List MemWrite → List MemWrite
  | [] => [w]
  | v :: t => if w.addr ≤ v.addr then w :: v :: t else v :: insWrite w t

/-- Writes made one after another, as writes that do not overlap, sorted by address: a later one stands (R109). -/
def sortWrites (l : List MemWrite) : List MemWrite :=
  l.foldl (fun acc w => insWrite w (acc.flatMap (cutWrite w))) []

/-! ## Beats (R82, R83, R86, R87, R92, R96) -/

/-- Enabled arrays of a stand. -/
def State.arrays (s : State) (g : Nat) : Nat := 4 - bitsIn (s.ob (Obj.arrayFence g)) 0 4

/-- Beats per row of the mode (R79). FP16 multiplicands with an FP32 addend run in FP32 mode, as they accumulate in
Heartwood-592 (DEDUCED, log entry 78). -/
def modeBeats (d : Desc) : Nat := if fp64Path d then 32 else if ownForm d == 8 then 1 else 4

/-- Load time of a tile of K rows (R76). -/
def loadBeats (d : Desc) (k : Nat) : Nat := ceilDiv k (if D.fmtB d == 0 then 4 else if D.fmtB d == 1 then 2 else 1)

/-- Bytes per beat of a spill to an address (Table 3-5). -/
def spillRate (a : Nat) : Nat := match placeOf a with
  | .scratch _ _ => 1024
  | _ => 512

/-- One native instruction: beats of its rows, load beats of its tile, beats of address generation, its tile, whether it
carries a new one whatever is active (R86), and the bank it accumulates in: instructions of one run in one bank have the
same number, and the run's last spills for so many beats. -/
structure Native where
  row : Nat
  load : Nat
  gen : Nat
  tile : Tile
  fresh : Bool
  run : Nat
  spill : Nat := 0
  deriving DecidableEq, Repr

/-- The weight tile of a k-slice and of columns from `c0` on (R76, R78): the same tile is the same place, format, shape and
weights, so that one whose bytes have changed since is another (DESIGN CHOICE, log entry 107). -/
def State.tileOf (s : State) (d : Desc) (k0 k c0 cols : Nat) : Tile :=
  let sb := fmtBytes (D.fmtB d)
  { addr := (Lay.b d).at k0 (c0 * sb), pitch := (Lay.b d).pitch, fmt := D.fmtB d, k := k, n := cols
    data := (upto k).flatMap (fun i => s.bytesAt ((Lay.b d).at (k0 + i) (c0 * sb)) (cols * sb)) }

/-- The native instructions of one block on a stand (R86, R92, R95): `run0` is the number of its first run in a bank; each
column pass runs in a bank of its own (R104), and a spill by count begins another run. -/
def State.blockInstrs (s : State) (d : Desc) (g run0 : Nat) (b : Blk) : List Native :=
  let w := max 1 (s.width g)
  let passes := max 1 (ceilDiv b.cols w)
  let slices := ceilDiv (D.k d) 64
  let row := ceilDiv b.rows (s.arrays g) * modeBeats d
  (upto slices).flatMap (fun x =>
    let k1 := min (D.k d) (64 * x + 64)
    let count := kPass d != 0 && k1 % kPass d == 0
    let last := x + 1 == slices && isRec (D.fmtOut d)
    let spill := fun cols => (if count then ceilDiv (b.rows * cols * spillBytes d) (spillRate (D.addrSpill d)) else 0) +
      (if last then ceilDiv (b.rows * cols * fmtBytes (D.fmtOut d)) (spillRate (D.addrOut d)) else 0)
    (upto passes).map (fun p =>
      { row := row, load := loadBeats d (k1 - 64 * x), gen := if native d || p != 0 then 0 else 2
        tile := s.tileOf d (64 * x) (k1 - 64 * x) (b.c0 + p * w) (min w (b.cols - p * w))
        fresh := !native d
        run := run0 + (if kPass d = 0 then 0 else 64 * x / kPass d) * passes + p
        spill := spill (min w (b.cols - p * w)) }))

/-- The native instructions of blocks in turn. -/
def State.instrsOf (s : State) (d : Desc) (g : Nat) (bs : List Blk) : List Native :=
  ((upto bs.length).zip bs).flatMap (fun (i, b) => s.blockInstrs d g (i * 64 * (spillCount d + 1)) b)

/-- Is an instruction's tile the active one (R78)? -/
def Native.keeps (x : Native) (active : Option Tile) : Bool := !x.fresh && active == some x.tile

/-- Beats an instruction occupies its stand for (R82, R86). -/
def Native.beats (x : Native) (active : Option Tile) : Nat := (if x.keeps active then x.row else max x.row x.load) + x.gen

/-- The two banks of an array as instructions run (R80, R96): when the arrays are free, when the bank in use and the other
one have drained their spills, the active tile, the run in the bank in use, the beats for which the next tile could load so
far, and the beats the arrays have waited for tiles (R77). -/
structure Banks where
  free : Nat := 0
  drained : Nat := 0
  other : Nat := 0
  tile : Option Tile := none
  run : Option Nat := none
  hidden : Nat := 0
  waits : Nat := 0
  deriving DecidableEq, Repr

/-- One instruction: one that turns to the other bank waits until that bank has drained; a spill drains once the one before
it has, while the other bank is in use. A tile loads while the instructions of the tile before it run and while the arrays
wait for a bank; the first waits for its whole load. The epilogue drains a bank as its rows come and holds nothing back
(DEDUCED from Table 3-3, log entry 41). -/
def Banks.run1 (b : Banks) (x : Native) : Banks :=
  let turn := b.run != some x.run
  let stall := if turn then b.other - b.free else 0
  let t := b.free + stall + x.beats b.tile
  let keeps := x.keeps b.tile
  { free := t
    drained := if x.spill != 0 then max t (max b.drained b.other) + x.spill else if turn then 0 else b.drained
    other := if turn then b.drained else b.other
    tile := some x.tile
    run := some x.run
    hidden := (if keeps then b.hidden + stall else 0) + x.row + x.gen
    waits := b.waits + (if keeps then 0 else x.load - (b.hidden + stall)) }

/-- Beats of a list of instructions, with the last spill (R82, R96). -/
def beatsOf (active : Option Tile) (l : List Native) : Nat :=
  let b := l.foldl Banks.run1 { tile := active }
  max b.free (max b.drained b.other)

/-- Beats the arrays wait for tiles (R77). -/
def waitsOf (active : Option Tile) (l : List Native) : Nat := (l.foldl Banks.run1 { tile := active }).waits

/-- Column passes of a block of `cols` columns on a stand of width `w`: none when they fit it (R92). -/
def passesOf (w cols slices : Nat) : Nat := if cols ≤ w then 0 else ceilDiv cols (max 1 w) * slices

/-- What a list of instructions costs a stand and leaves it with: beats with the first load, fill and drain of R83, its
counters, and its active tile. -/
structure Cost where
  beats : Nat
  counts : List (Nat × Nat)
  tiles : List (Nat × Tile)
  deriving DecidableEq, Repr

/-- The cost of blocks on a stand (R76 to R83, R86, R92, R96). -/
def State.costOn (s : State) (d : Desc) (g : Nat) (bs : List Blk) : Cost :=
  let l := s.instrsOf d g bs
  let active := (s.stand g).tile
  let k := min (D.k d) 64
  let first := match l with
    | [] => 0
    | x :: _ => if x.keeps active then 0 else x.load
  let passes := (bs.map (fun b => passesOf (s.width g) b.cols (ceilDiv (D.k d) 64))).sum
  { beats := first + beatsOf active l + k * modeBeats d + 32
    counts := [(Obj.weightWait g, waitsOf active l), (Obj.columnPasses g, passes)]
    tiles := (l.getLast?.map (fun x => (g, x.tile))).toList }

/-! ## The task -/

/-- Is a block sampled (R265, R266)? -/
def State.sampled (s : State) (t : Task) (i : Nat) : Bool :=
  D.stepped t.desc && !D.optimiser t.desc && s.ob Obj.checkEnable != 0 &&
  decide (philox (s.ob Obj.checkSeed) (pack [(112, 16, t.handle), (80, 32, t.id.toNat), (56, 24, i), (8, 48, D.step t.desc),
    (4, 4, t.attempt)]) % 4096 < 4096 / s.ob Obj.checkRate)

/-- What a failure signature says of a block (Table 8-8). -/
def sigOf (d : Desc) (hash : Word64) : SigInfo :=
  { mode := if fp64Path d then 2 else if ownForm d == 8 then 0 else 1, m := D.m d, n := D.n d, k := D.k d,
    folded := !native d, hash := hash.toNat }

/-- Seed of the task's job (R57). -/
def State.seedOf (s : State) (t : Task) : Nat := s.ob (Obj.seed (s.slotOfTask t))

/-- The blocks of a task, each run after its predecessors: a block finds the row states and the writes of those before it
(R103, R109; that this holds in every memory and between members is a DESIGN CHOICE, log entry 79). -/
def State.runBlocks (s : State) (t : Task) : List BlkOut :=
  ((s.blocks t.desc t.stands).foldl (fun (acc : List BlkOut × KMap RowSt × State) b =>
    let o := acc.2.2.runBlock t.desc (s.seedOf t) acc.2.1 b
    (acc.1 ++ [o], o.rows, o.writes.foldl (fun s w => s.poke w.addr w.data) acc.2.2)) ([], [], s)).1

/-- The counters of a run: the cost of each member's blocks, the invalid events of every block, and both again for the
blocks that a second stand runs (R64, R77, R92). `second` gives that stand. -/
def State.matmulCounts (s : State) (d : Desc) (os : List BlkOut) (costs : List Cost) (second : BlkOut → Option Nat) :
    List (Nat × Nat) × List (Nat × Tile) :=
  let again := os.flatMap (fun o => ((second o).map (fun n => (n, o))).toList)
  let extra := again.map (fun x => s.costOn d x.1 [x.2.blk])
  (costs.flatMap (·.counts) ++ os.map (fun o => (Obj.invalidEvents o.blk.stand, o.events.length)) ++
    extra.flatMap (·.counts) ++ again.map (fun x => (Obj.invalidEvents x.1, x.2.events.length)),
   costs.flatMap (·.tiles) ++ extra.flatMap (·.tiles))

/-- What a block makes every stand that runs it count. -/
def workOf (d : Desc) (o : BlkOut) : BlkWork :=
  { events := o.events.length, desc := d, r0 := o.blk.r0, rows := o.blk.rows, c0 := o.blk.c0, cols := o.blk.cols }

/-- The block that such work is, on a stand. -/
def BlkWork.blk (w : BlkWork) (n : Nat) : Blk := { index := 0, stand := n, r0 := w.r0, rows := w.rows, c0 := w.c0, cols := w.cols }

/-- The check a sampled block opens (R266, R269). -/
def State.openCheck (s : State) (t : Task) (o : BlkOut) (n : Nat) : Check :=
  { handle := t.handle, uid := t.uid, id := t.id, slot := s.slotOfTask t, step := D.step t.desc, attempt := t.attempt,
    block := o.blk.index, orig := o.blk.stand, checker := n, digests := o.digests, sig := sigOf t.desc o.digests.inp
    work := workOf t.desc o }

/-- The unit of an optimiser task that a block makes (R271). -/
def unitOf (t : Task) (o : BlkOut) (n : Nat) : OptUnit :=
  { index := o.blk.index, writes := o.writes, digests := o.digests, orig := o.blk.stand, checker := n,
    sig := sigOf t.desc o.digests.inp, work := workOf t.desc o }

/-- The result of a MATMUL on the stands it runs on (R86, R166, R265, R271). An abort is taken once every block has run
(DESIGN CHOICE, log entry 79). -/
def State.runMatmul (s : State) (p : Placement) (t : Task) : Ran :=
  let d := t.desc
  let os := s.runBlocks t
  let rep := os.foldl (fun (r : Report) o =>
    (o.events.foldl (fun (r : Report) (e : Nat × Nat × Nat) => r.addEvent e.1 e.2.1 e.2.2) r).addFlags o.flags) {}
  let costs := (dealRows (D.m d) t.stands).map (fun (x : Nat × Nat × Nat) =>
    s.costOn d x.1 ((os.map (·.blk)).filter (fun b => b.stand == x.1)))
  let check := fun (o : BlkOut) => s.checkerFor o.blk.stand p.checker
  let drawn := fun (o : BlkOut) => D.optimiser d || s.sampled t o.blk.index
  let (counts, tiles) := s.matmulCounts d os costs (fun o => if drawn o then check o else none)
  let unchecked := if D.optimiser d then [] else
    (os.filter (fun o => drawn o && (check o).isNone)).map (fun o => (o.blk.stand, o.blk.index))
  let r : Ran := { report := rep, busy := (costs.map (·.beats)).sum, counts := counts, tiles := tiles, unchecked := unchecked
                   left := os.flatMap (·.left) }
  match os.findSome? (·.bad) with
  | some (st, a) => { r with abort := some (st, a, 0) }
  | none =>
    if D.optimiser d then
      if os.any (fun o => (check o).isNone) then { r with abort := some (Status.standFenced, 0, 0) }
      else { r with units := os.map (fun o => unitOf t o ((check o).getD 0xFF)) }
    else
      { r with
        writes := sortWrites (os.flatMap (·.writes))
        checks := os.filterMap (fun o => if drawn o then (check o).map (s.openCheck t o) else none) }

/-- MATMUL (R86, R433): the task starts, folds its tile onto native instructions and makes its results. -/
def execMatmul (h : Nat) (t : BitVec 32) (p : Placement) (s : State) : Host.Outcome State Fault Refusal :=
  .next (s.startOn h t p (fun d => D.kind d == kMatmul) (fun s t => s.runMatmul p t))

end Sys2Proof.Machine
end

