-- ==== Sys2Proof/Machine/Slicing.lean ====
section
/-! DEFINITION. Time slicing of stands (R97, R140, R181, R183, R184): a preempted task's heartwood banks and state go to the
context save area, and it resumes on the same stands. -/

namespace Sys2Proof.Machine

/-! ## Where a save slot lies (Table 5-6a) -/

/-- First address of the context save area of a stand's half. -/
def saveArea (n : Nat) : Nat := 0x023F00000000 + n / 96 * 0x80000000

/-- First address of slot j of a stand, and of array a, bank b in it. -/
def slotBase (n j : Nat) : Nat := saveArea n + 0x08000000 + (8 * (n % 96) + j) * 0x280000
def bankBase (n j a b : Nat) : Nat := slotBase n j + (2 * a + b) * 0x50000

/-- Address of the 256 bytes of task state of slot j. -/
def taskStateAt (n j : Nat) : Nat := saveArea n + 0x01000000 + (8 * (n % 96) + j) * 256

/-- What slot j of a stand takes up: (address, length). -/
def slotRanges (n j : Nat) : List (Nat × Nat) := [(slotBase n j, 0x280000), (taskStateAt n j, 256)]

/-- The first free save slot of a stand; 8 when none is (R184). -/
def State.freeSlot (s : State) (n : Nat) : Nat := ((upto 8).find? (fun j => (kget? (s.stand n).saved j).isNone)).getD 8

/-- Have the stands of a task a free save slot each (R184)? -/
def State.slotsFree (s : State) (t : Task) : Bool := t.stands.all (fun n => decide (s.freeSlot n < 8))

/-! ## What the banks hold -/

/-- Physical columns of an array that a stand uses, in the order of logical columns: logical column j is the jth good one, and
only the first W are used (R89, R91). -/
def State.physCols (s : State) (g a : Nat) : List Nat :=
  ((upto 64).filter (fun c => !(s.ob (Obj.bypassed g)).testBit (64 * a + c))).take (s.width g)

/-- Enabled arrays of a stand. -/
def State.arrayList (s : State) (g : Nat) : List Nat := (upto 4).filter (fun a => !(s.ob (Obj.arrayFence g)).testBit a)

/-- How far a task has come on a stand: a block, the width of its column passes, the terms its columns have added by the count
of its finished instructions, and the bank each pass accumulates in. -/
structure Progress where
  blk : Blk
  width : Nat
  terms : Nat → Nat
  bank : Nat → Nat

/-- Where a task stands after `n` finished instructions (R86, R92, R97): Table 3-2 begins with bank 0, each run in a bank turns
to the other (R80), and a block of two column passes is in both (R104). -/
def State.progressOf (s : State) (d : Desc) (g : Nat) (bs : List Blk) (n : Nat) : Option Progress :=
  let w := max 1 (s.width g)
  let places := bs.flatMap (fun b => (upto (ceilDiv (D.k d) 64)).flatMap (fun x =>
    (upto (max 1 (ceilDiv b.cols w))).map (fun p => (b, x, p))))
  match (places.take n).getLast? with
  | none => none
  | some (b, x, p) =>
    let l := s.instrsOf d g bs
    let runs := dedup (l.map (·.run))
    some {
      blk := b
      width := w
      terms := fun j => if j / w ≤ p then min (D.k d) (64 * x + 64) else 64 * x
      bank := fun q => runs.idxOf (((l[n - 1 + q - p]?).map (·.run)).getD 0) % 2 }

/-- The register of an element after some terms, its multiplicands of term k read in `at_ k`: what it has added since its last
spill by count (R87, R95). -/
def heartAt (d : Desc) (at_ : Nat → State) (terms i j : Nat) : Heart :=
  ((upto terms).foldl (heartTerm d {} (fun k => (at_ k).elem (Lay.a d) (fmtBytes (D.fmtA d)) i k)
    (fun k => (at_ k).elem (Lay.b d) (fmtBytes (D.fmtB d)) k j)) {}).h

/-- A record at its 80-byte stride; the bytes beyond its form are 0 (DESIGN CHOICE, log entry 83). -/
def recordAt (form : HForm) (h : Heart) : List Byte := bytesOf (h.toRecord form) 80

/-- Column of a block that physical column c of array `a` holds in bank `b`: that of the column pass which accumulates there
(R89, R92, R104). -/
def State.blockCol (s : State) (g a b c : Nat) (p : Progress) : Option Nat :=
  let j := (s.physCols g a).idxOf c
  if p.width ≤ j then none
  else (((upto (max 1 (ceilDiv p.blk.cols p.width))).find? (fun q => p.bank q == b)).map (fun q => q * p.width + j)).filter
    (fun x => decide (x < p.blk.cols))

/-- The 64 records of one row of registers of array `a` of bank `b` that holds the block's row i; none: a row not in use, whose
registers are fresh. -/
def State.bankRow (s : State) (d : Desc) (g a b : Nat) (at_ : Nat → State) (p : Progress) (i : Option Nat) : List Byte :=
  (upto 64).flatMap (fun c => recordAt (formOf (recForm d)) (match i, s.blockCol g a b c p with
    | some i, some x => heartAt d at_ (p.terms x) i (p.blk.c0 + x)
    | _, _ => {}))

/-- The bytes of a bank: row r of the kth of A enabled arrays holds row r × A + k of the block. A bank holds 64 rows: those of
a stand with fewer arrays that go beyond it are not saved (DESIGN CHOICE, log entry 83). -/
def State.bankBytes (s : State) (d : Desc) (g a b : Nat) (at_ : Nat → State) (p : Option Progress) : List Byte :=
  let arrays := s.arrayList g
  (upto 64).flatMap (fun r => match p with
    | some p =>
      let i := r * arrays.length + arrays.idxOf a
      s.bankRow d g a b at_ p (if arrays.contains a && decide (i < p.blk.rows) then some (p.blk.r0 + i) else none)
    | none => (upto 64).flatMap (fun _ => recordAt (formOf (recForm d)) {}))

/-- Are the contents of a task's banks known: a heartwood reduction? Those of an FP64 reduction have no record form (log entry
83). -/
def banksKnown (d : Desc) : Bool := D.kind d == kMatmul && !fp64Path d

/-- The state in which a block of a task reads term k: its operands as the task found them, with what the blocks before it and
its own spills have written over them (R97, R109). -/
def State.blockView (s : State) (t : Task) (b : Blk) : Nat → State :=
  let d := t.desc
  let s0 := t.read.foldl (fun s w => s.poke w.addr w.data) s
  let s1 := if !inPlace d then s0 else
    (((s.blocks d t.stands).filter (fun x => decide (x.index < b.index))).foldl (fun (acc : State × KMap RowSt) x =>
      let o := acc.1.runBlock d (s.seedOf t) acc.2 x
      (o.writes.foldl (fun s w => s.poke w.addr w.data) acc.1, o.rows)) (s0, [])).1
  let vs := s1.blockViews d b
  fun k => vs.getD (k / kPass d) (vs.getLastD s1)

/-! ## Preemption and resumption -/

/-- A stand's banks and the task's state go to a save slot (R97, R183). How many instructions the task has finished is a free
value, at least the one that it finishes at the boundary. -/
def State.saveOn (s : State) (t : Task) (g : Nat) : State :=
  let j := s.freeSlot g
  let d := t.desc
  let bs := if D.kind d == kMatmul then (s.blocks d t.stands).filter (fun b => b.stand == g) else []
  let n := Config.progress s.free % (s.instrsOf d g bs).length + 1
  let p := if banksKnown d then s.progressOf d g bs n else none
  let at_ := match p with
    | some p => s.blockView t p.blk
    | none => fun _ => s
  let view := s
  let s := (s.drawn 1).modTask t.uid t.id (fun x => { x with finished := kset x.finished g n })
  let s := if D.kind d == kMatmul && !banksKnown d then (s.put (slotBase g j) (s.freeBytes 0x280000)).drawn 0x280000
    else (upto 4).foldl (fun s a => (upto 2).foldl (fun s b => s.put (bankBase g j a b) (view.bankBytes d g a b at_ p)) s) s
  let s := (s.put (taskStateAt g j) (s.freeBytes 256)).drawn 256
  s.modStand g (fun x => { x with saved := kset x.saved j (t.uid, t.id), tile := none })

/-- A running task is preempted on its stands (R97, R184). -/
def State.preempt (s : State) (t : Task) : State :=
  let s := s.modTask t.uid t.id (fun x => { x with
    phase := .preempted, pausedAt := some s.now, savedAt := t.stands.flatMap (fun n => slotRanges n (s.freeSlot n)) })
  t.stands.foldl (fun s n => s.saveOn t n) s

/-- JOB_WEIGHT_EXPIRY (R181, R184): the share of the job a stand serves is over and another job has work ready for it. -/
def execJobWeightExpiry (stand : Nat) (s : State) : Host.Outcome State Fault Refusal :=
  match s.runningOn stand with
  | none => .next s
  | some t =>
    if t.phase == .running && s.slotsFree t && (s.turn stand).isSome && s.turn stand != some (s.slotOfTask t) then .next (s.preempt t)
    else .next s

/-- A stand reloads its weight registers on resume: the arrays wait for the tile of the instruction that comes next (R77, R97). -/
def State.reload (s : State) (t : Task) (g : Nat) : State :=
  let d := t.desc
  let l := if D.kind d == kMatmul then s.instrsOf d g ((s.blocks d t.stands).filter (fun b => b.stand == g)) else []
  match (l.drop (kget t.finished 0 g)).head?, l.getLast? with
  | some x, some last => ((s.addOb (Obj.weightWait g) x.load).modTask t.uid t.id (fun t => { t with busy := t.busy + x.load })).leaveTile
      (g, last.tile)
  | _, _ => s

/-- The first block of what a task's preemption saved whose check fails, and how. -/
def State.saveFault (s : State) (t : Task) : Option (Nat × BadKind) := t.savedAt.findSome? (fun (a, n) => s.firstFault a n)

/-- TASK_RESUME (R97, R140, R181): on the same stands, once they are idle and it is its job's turn; a detected error in what
was saved ends it with MEMORY_ERROR. -/
def execTaskResume (h : Nat) (t : BitVec 32) (s : State) : Host.Outcome State Fault Refusal :=
  match s.taskAt h t with
  | none => .next s
  | some t =>
    let slot := s.slotOfTask t
    if t.phase == .preempted && t.stands.all (fun n => s.standIdle n) && s.turn (t.stands.headD 0) == some slot && decide (s.shed < 3) then
      match s.saveFault t with
      | some (b, k) => .next ((s.detect b k).abort t Status.memoryError (b * 64) 0)
      | none =>
        let s := (s.unsave t).modTask t.uid t.id (fun t => { t with
          phase := .running, startAt := t.startAt + t.pausedFor s.now, pausedAt := none, savedAt := [] })
        .next (t.stands.foldl (fun s n => (s.reload t n).serve slot n) s)
    else .next s

end Sys2Proof.Machine
end

