-- ==== Sys2Proof/Machine/Firebreak.lean ====
section
/-! DEFINITION. Silent errors (chapter 8): checkers and the comparison of digests (R267 to R274), suspects and the self-test
suite (R275, R276), fencing on request (R277), firebreak messages (R282 to R288), and the handling of error records and
failure signatures (R292 to R296). -/

namespace Sys2Proof.Machine

/-! ## Checkers and self-tests -/

/-- A stand is due for the self-test suite; from then on STAND_STATE shows 1 and tasks go to other stands (R165, R276). That it
is a suspect counts before any other reason, since the suite's outcome is then recorded (Table 8-2). -/
def State.needTest (s : State) (n : Nat) (why : TestReason) : State :=
  if !decide (n < 192) || s.fenced n then s
  else (s.modStand n (fun x => { x with worksSince := s.now, selfTest := some (if why == .suspect then why else (x.selfTest).getD why) })).setOb (Obj.standState n) 1

/-- A suspect's repeat is due (R275). -/
def State.suspectStand (s : State) (n : Nat) (x : Suspect) : State :=
  if s.fenced n then s else s.modStand n (fun y => { y with worksSince := s.now, suspects := y.suspects ++ [x] })

/-- The stand at a task boundary: idle, or with a task that has run longer than 1 ms preempted to make room (R275, R276). -/
def State.boundary (s : State) (n : Nat) : Option State :=
  if s.fenced n || !s.halfRuns (n / 96) then none
  else match s.runningOn n with
    | none => some s
    | some t => if t.phase == .running && decide (t.startAt + 1000000 < s.now) && s.slotsFree t then some (s.preempt t) else none

/-! ## Sampled checks (R269, R273, R274) -/

/-- A check of a block, by its task's handle. -/
def State.checkAt (s : State) (h : Nat) (t : BitVec 32) (block : Nat) : Option Check :=
  s.fire.checks.find? (fun c => c.handle == h && c.id == t && c.block == block)

/-- A check is settled. -/
def State.settle (s : State) (c : Check) : State := { s with fire := { s.fire with checks := s.fire.checks.filter (· != c) } }

/-- The record of a check. -/
def State.checkRec (s : State) (code : Nat) (c : Check) (d0 d1 : Nat) : ErrRec :=
  { errRec code with
    job := (s.jobOf c.slot).getD 0, step := c.step, handle := c.handle, task := c.id.toNat, attempt := c.attempt
    detail0 := d0, detail1 := d1 }

/-- The record of a task's unit. -/
def unitRec (code : Nat) (t : Task) (d0 d1 : Nat) : ErrRec :=
  { errRec code with
    job := t.job, step := D.step t.desc, handle := t.handle, task := t.id.toNat, attempt := t.attempt, detail0 := d0, detail1 := d1 }

/-- A signature with the digest of the run in question, and of the majority, 0 while there is none (Table 8-8). -/
def SigInfo.digests (i : SigInfo) (suspect majority : Nat) : SigInfo := { i with suspect := suspect, majority := majority }

/-- The stand of a third run: the first enabled one other than both (R273; which one is the module's choice, log entry 53). -/
def State.thirdStand (s : State) (orig checker : Nat) : Nat :=
  ((upto 192).find? (fun n => n != checker && s.canCheck orig n)).getD 0xFF

/-- A stand has run a block once more: it counts the block's invalid events, its column passes and the beats its arrays waited,
and is left with the block's tile (R64, R77, R78, R92). -/
def State.countRun (s : State) (n : Nat) (w : BlkWork) : State :=
  let s := s.addOb (Obj.invalidEvents n) w.events
  if D.kind w.desc != kMatmul then s
  else
    let c := s.costOn w.desc n [w.blk n]
    s.counted { counts := c.counts, tiles := c.tiles }

/-- CHECK_COMPARE (R269, R273). -/
def execCheckCompare (h : Nat) (t : BitVec 32) (block : Nat) (second : Digests) (s : State) : Host.Outcome State Fault Refusal :=
  match s.checkAt h t block with
  | none => .next s
  | some c =>
    if c.other.isSome then .next s
    else
      let s := s.bump Obj.checksRun
      if second.out == c.digests.out then .next (s.settle c)
      else
        let s := (s.bump Obj.checkDisagreements).logStand c.orig
          (s.checkRec 0x0701 c c.digests.out.toNat second.out.toNat) (c.sig.digests c.digests.out.toNat 0)
        let third := s.thirdStand c.orig c.checker
        .next ({ s with fire := { s.fire with checks := s.fire.checks.map (fun x =>
          if x == c then { x with other := some (second.out, s.now), third := third } else x) } }.engage third)

/-- Taint of a check's attempt, when that is still the current one (R281); its signature describes the block (R295). -/
def State.checkTaint (s : State) (c : Check) (reason majority : Nat) : State :=
  if c.step == s.step c.slot && c.attempt == s.att c.slot then
    s.confirmTaint c.slot reason { s.checkRec 0x0708 c 0 0 with stand := c.orig } (c.sig.digests c.digests.out.toNat majority) else s

/-- A check that stays unresolved: record 0x0704, self-tests on its three stands, taint (R273, R274). -/
def State.unresolved (s : State) (c : Check) : State :=
  let s := (s.settle c).logStand c.orig
    (s.checkRec 0x0704 c c.digests.out.toNat ((c.other.map (·.1.toNat)).getD 0)) (c.sig.digests c.digests.out.toNat 0)
  let s := [c.orig, c.checker, c.third].foldl (fun s n => s.needTest n .unresolved) s
  s.checkTaint c 2 0

/-- The suspect a check names: its digest, and that of the majority. -/
def State.suspectOf (s : State) (c : Check) (wrong majority : Word64) : Suspect :=
  { uid := c.uid, id := c.id, block := c.block, inp := c.digests.inp, majority := majority, handle := c.handle
    job := (s.jobOf c.slot).getD 0, step := c.step, attempt := c.attempt, work := c.work
    sig := c.sig.digests wrong.toNat majority.toNat }

/-- A third run decides a sampled check (Table 8-1). -/
def State.thirdCheck (s : State) (c : Check) (other : Word64) (third : Digests) : State :=
  let s := s.countRun c.third c.work
  if third.inp == c.digests.inp && third.out == c.digests.out then
    (s.settle c).suspectStand c.checker (s.suspectOf c other third.out)
  else if third.inp == c.digests.inp && third.out == other then
    ((s.settle c).suspectStand c.orig (s.suspectOf c c.digests.out third.out)).checkTaint c 1 third.out.toNat
  else s.unresolved c

/-! ## Optimiser units (R271, R272) -/

/-- Replace one unit of a task. -/
def State.modUnit (s : State) (t : Task) (i : Nat) (f : OptUnit → OptUnit) : State :=
  s.modTask t.uid t.id (fun t => { t with units := t.units.map (fun u => if u.index == i then f u else u) })

/-- Write a settled unit; the task's result is OK once every unit is written. -/
def State.writeUnit (s : State) (t : Task) (u : OptUnit) (ws : List MemWrite) : State :=
  match s.writeFault (joinWrites ws) with
  | some (b, k) => s.taskFault t b k
  | none =>
    let s := s.modUnit t u.index (fun u => { u with done := true, second := none })
    let s := s.modTask t.uid t.id (fun t => { t with
      result := if t.units.all (·.done) then some Status.ok else t.result })
    s.deliver t ws

/-- OPTIMISER_UNIT_COMPARE (R271, R272). -/
def execOptimiserUnitCompare (h : Nat) (t : BitVec 32) (unit : Nat) (second : Digests) (s : State) :
    Host.Outcome State Fault Refusal :=
  match s.taskAt h t with
  | none => .next s
  | some t => match t.units.find? (fun u => u.index == unit && !u.done && !u.dead && u.second.isNone) with
    | none => .next s
    | some u =>
      if t.phase != .running then .next s
      else
        let s := s.bump Obj.checksRun
        if second.out == u.digests.out then .next (s.writeUnit t u u.writes)
        else
          let s := (s.bump Obj.checkDisagreements).logStand u.orig
            (unitRec 0x0701 t u.digests.out.toNat second.out.toNat) (u.sig.digests u.digests.out.toNat 0)
          let third := s.thirdStand u.orig u.checker
          .next ((s.modUnit t unit (fun u => { u with second := some second.out, at_ := s.now, third := third })).engage third)

/-- A unit without a majority: record 0x0704, the self-tests of the three stands, and the task aborts with STAND_FENCED
(R272). -/
def State.deadUnit (s : State) (t : Task) (u : OptUnit) : State :=
  let s := (s.logStand u.orig (unitRec 0x0704 t u.digests.out.toNat ((u.second.map (·.toNat)).getD 0))
    (u.sig.digests u.digests.out.toNat 0)).modUnit t u.index (fun u => { u with dead := true })
  let l := [u.orig, u.checker, u.third].filter (fun n => decide (n < 192) && !s.fenced n)
  let s := { s with fire := { s.fire with trios := s.fire.trios ++ [(u.orig, l)] } }
  let s := s.abort t Status.standFenced
  l.foldl (fun s n => s.needTest n .unitWithoutMajority) s

/-- The suspect a unit names. -/
def unitSuspect (t : Task) (u : OptUnit) (wrong majority : Word64) : Suspect :=
  { uid := t.uid, id := t.id, block := u.index, inp := u.digests.inp, majority := majority, handle := t.handle, job := t.job
    step := D.step t.desc, attempt := t.attempt, work := u.work, sig := u.sig.digests wrong.toNat majority.toNat }

/-- Bytes laid over writes in turn. -/
def overWrites : List MemWrite → List Byte → List MemWrite
  | [], _ => []
  | w :: t, l => ⟨w.addr, l.take w.data.length⟩ :: overWrites t (l.drop w.data.length)

/-- A third run decides a unit; the majority's output is written, which is the third run's `out` where the first run is the
minority (R213, R272). -/
def State.thirdUnit (s : State) (t : Task) (u : OptUnit) (other : Word64) (third : Digests) (out : List Byte) : State :=
  let s := s.countRun u.third u.work
  if third.inp == u.digests.inp && third.out == u.digests.out then
    (s.suspectStand u.checker (unitSuspect t u other third.out)).writeUnit t u u.writes
  else if third.inp == u.digests.inp && third.out == other then
    (s.suspectStand u.orig (unitSuspect t u u.digests.out third.out)).writeUnit t u (overWrites u.writes out)
  else s.deadUnit t u

/-- THIRD_RUN_DONE (R272 to R274, Table 8-1): `third` is what the third run brings. -/
def execThirdRunDone (h : Nat) (t : BitVec 32) (block stand : Nat) (third : ThirdRun) (s : State) :
    Host.Outcome State Fault Refusal :=
  match s.checkAt h t block with
  | some c => (match c.other with
    | some (other, t0) =>
      if stand != c.third || !s.standEnabled stand || decide (t0 + 10000000 < s.now) then .next s
      else .next (s.thirdCheck c other third.digests)
    | none => .next s)
  | none => match s.taskAt h t with
    | none => .next s
    | some t => match t.units.find? (fun u => u.index == block && u.second.isSome && !u.dead) with
      | none => .next s
      | some u =>
        if t.phase != .running || stand != u.third || !s.standEnabled stand || decide (u.at_ + 10000000 < s.now) ||
            third.out.length != (u.writes.map (fun w => w.data.length)).sum then .next s
        else .next (s.thirdUnit t u (u.second.getD 0) third.digests third.out)

/-- THIRD_RUN_TIMEOUT (R272, R273): not finished within 10 ms of the disagreement. -/
def execThirdRunTimeout (h : Nat) (t : BitVec 32) (block : Nat) (s : State) : Host.Outcome State Fault Refusal :=
  match s.checkAt h t block with
  | some c => (match c.other with
    | some (_, t0) => if t0 + 10000000 ≤ s.now then .next (s.unresolved c) else .next s
    | none => .next s)
  | none => match s.taskAt h t with
    | none => .next s
    | some t => match t.units.find? (fun u => u.index == block && u.second.isSome && !u.dead) with
      | none => .next s
      | some u => if t.phase == .running && decide (u.at_ + 10000000 ≤ s.now) then .next (s.deadUnit t u) else .next s

/-! ## Suspects and the self-test suite -/

/-- A suspect is due for the self-test suite: what its record will say of the block is kept (R276, R290, R295). -/
def State.testSuspect (s : State) (n : Nat) (x : Suspect) : State :=
  (s.modStand n (fun y => { y with tested := some x })).needTest n .suspect

/-- The record of a permanent fault that the suite has not localised (Table 8-2). -/
def State.notLocalised (s : State) (n : Nat) : State :=
  match (s.stand n).tested with
  | some x => s.logStand n { errRec 0x0703 with
      severity := 2, job := x.job, step := x.step, handle := x.handle, task := x.id.toNat, attempt := x.attempt
      detail1 := x.majority.toNat } x.sig
  | none => s.logStand n { errRec 0x0703 with severity := 2 }

/-- A transient or permanent fault (R275). -/
def State.judge (s : State) (n : Nat) (x : Suspect) (again : Digests) : State :=
  let s := s.countRun n x.work
  let r : ErrRec := { errRec 0x0702 with
    job := x.job, step := x.step, handle := x.handle, task := x.id.toNat, attempt := x.attempt
    detail0 := again.out.toNat, detail1 := x.majority.toNat }
  let recent := (s.stand n).transients.filter (fun t => s.now - t < 86400000000000)
  if again.inp != x.inp then s.testSuspect n x
  else if again.out == x.majority && recent.length < s.ob Obj.transientLimit then
    ((s.logStand n r x.sig).modStand n (fun y => { y with transients := recent ++ [s.now] })).bump (Obj.transientFaults n)
  else (s.logStand n { r with code := 0x0703, severity := 2 } x.sig).testSuspect n x

/-- SUSPECT_REPEAT_DONE (R275). -/
def execSuspectRepeatDone (stand : Nat) (again : Digests) (s : State) : Host.Outcome State Fault Refusal :=
  match (s.stand stand).suspects with
  | [] => .next s
  | x :: more => match s.boundary stand with
    | none => .next s
    | some s => .next ((s.modStand stand (fun y => { y with suspects := more })).judge stand x again)

/-- What a finding decides on a stand (Table 8-2). -/
def State.finding (s : State) (n : Nat) : Finding → State
  | .column a c => s.decideStand n 0 (2 ^ (64 * a + c)) 0
  | .array a => s.decideStand n (2 ^ a) 0 0
  | .stand => s.decideStand n 0 0 3
  | .scratch line =>
    let b := scratchBase n / 64 + line
    { s with mem := s.mem.bad b [] }.scrubFound b .line

/-- SELF_TEST_DONE (R89, R90, R276, R277, Table 8-2). -/
def execSelfTestDone (stand : Nat) (findings : List Finding) (s : State) : Host.Outcome State Fault Refusal :=
  match (s.stand stand).selfTest with
  | none => .next s
  | some why => match s.boundary stand with
    | none => .next s
    | some s =>
      let s := (s.modStand stand (fun x => { x with selfTest := none })).setOb (Obj.standState stand) 0
      let s := findings.foldl (fun s f => s.finding stand f) s
      let s := if findings.isEmpty && why == .suspect then s.notLocalised stand else s
      let s := s.modStand stand (fun x => { x with tested := none })
      -- the three stands of a unit without a majority: one that the suite fences ends the matter (R272)
      let mine := s.fire.trios.filter (fun x => x.2.contains stand)
      let s := { s with fire := { s.fire with trios := s.fire.trios.filter (fun x => !x.2.contains stand) } }
      let s := s.applyFence stand
      .next (if s.fenced stand then s
        else { s with fire := { s.fire with trios := s.fire.trios ++ mine } }.dropTrio stand)

/-- A write of STAND_FENCE (R277, R438). -/
def State.requestFence (s : State) (n v : Nat) : State × Reply :=
  if v == 0 || s.fenced n then (s, .ok) else (s.fenceDecide n 0 0 8, .ok)

/-- A write of SELF_TEST_NOW (R392, R438). -/
def State.requestTest (s : State) (n v : Nat) : State × Reply := if v == 0 then (s, .ok) else (s.needTest n .request, .ok)

/-! ## Firebreak messages (R282) -/

/-- A received firebreak message of one of the types. -/
def State.firebreak (s : State) (p : Packet) (types : List Nat) (f : State → Firebreak → State) : State :=
  let m := Firebreak.ofNat (ofBytes p.payload)
  if types.contains m.type then s.receive p [0xA] (fun s => f s m) else s

/-- TAINT_NOTICE (R283, R284). -/
def execTaintNotice (p : Packet) (s : State) : Host.Outcome State Fault Refusal :=
  .next (s.firebreak p [1] (fun s m => match s.slotOf m.job with
    | none => s.bump Obj.staleNotices
    | some slot =>
      if m.step == s.step slot && m.attempt == s.att slot then
        (s.modJob slot (fun j => { j with heldByNotice := true })).bump Obj.noticesReceived
      else s.bump Obj.staleNotices))

/-- REPLICA_DIGEST (R286, R287). -/
def execReplicaDigest (p : Packet) (s : State) : Host.Outcome State Fault Refusal :=
  .next (s.firebreak p [2] (fun s m => match s.slotOf m.job with
    | none => s
    | some slot => s.digestArrives slot m.set m.step m.source (BitVec.ofNat 128 m.digest)))

/-- EXPULSION (R288): this module, or another, is expelled for the job. -/
def execExpulsion (p : Packet) (s : State) : Host.Outcome State Fault Refusal :=
  .next (s.firebreak p [3] (fun s m => match s.slotOf m.job with
    | none => s
    | some slot =>
      let ep := m.digest % 65536
      if ep == s.me then ((s.modJob slot (fun j => { j with expelled := true })).bump Obj.expulsions).failure
      else (s.modJob slot (fun j => { j with expelledEps := nins j.expelledEps ep })).bump Obj.expulsions))

/-! ## Error records and signatures -/

/-- The record a handler takes: the highest severity, then the oldest, which comes first in its queue (R292, R293). -/
def nextHandled : List ErrRec → Option ErrRec
  | [] => none
  | r :: t => match nextHandled t with
    | none => some r
    | some x => if r.severity < x.severity then some x else some r

/-- The queue of the next level up. -/
def aboveUnit (unit : Nat) : Nat := if unit < 192 then halfUnit (unit / 96) else moduleUnit

/-- ERROR_RECORD_HANDLE (R292 to R294): the handler of a stand's or a half's queue passes one record on; the module queue
keeps its records until they are acknowledged. -/
def execErrorRecordHandle (level unit : Nat) (s : State) : Host.Outcome State Fault Refusal :=
  let u := if level == 0 then unit else halfUnit unit
  if decide (2 ≤ level) || (level == 1 && decide (2 ≤ unit)) then .next s
  else
    let q := kget s.fire.queues {} u
    match nextHandled q.records with
    | none => .next s
    | some r =>
      let q' : ErrQueue := { q with records := q.records.erase r }
      .next ({ s with fire := { s.fire with queues := kset s.fire.queues u q' } }.enqueue (aboveUnit u) r)

/-- A write of ERROR_ACK (R292). -/
def State.ackRecord (s : State) (r : Nat) : State × Reply :=
  let q := kget s.fire.queues {} moduleUnit
  let q' : ErrQueue := { q with records := q.records.filter (fun x => x.id != r) }
  ({ s with fire := { s.fire with queues := kset s.fire.queues moduleUnit q' } }, .ok)

/-- A write of CPER_ACK (R295). -/
def State.ackCper (s : State) (r : Nat) : State × Reply :=
  ({ s with fire := { s.fire with cpers := s.fire.cpers.filter (fun x => x.id != r) } }, .ok)

/-- A write of ERROR_OVERFLOW (Table 8-9). -/
def State.clearOverflow (s : State) (v : Nat) : State × Reply :=
  if v == 0 then ((s.setOb Obj.errorOverflow 0).calm .queueOverflow, .ok) else (s, .invalid)

/-- What R285 checks of a replica table entry: no reserved bit, a range within the job's regions, two members or more, and a
set number of 1 or above (Table 8-5). -/
def State.replicaOk (s : State) (slot : Nat) (e : Replica) : Bool :=
  match s.jobOf slot with
  | none => false
  | some job =>
    !e.reserved && decide (2 ≤ e.members) && e.set != 0 &&
    (bandsOf e.base e.size).all (fun b => ((s.regionAt (b * 65536)).map (fun (r : Region) => r.job == job)).getD false)

/-- The commit of `0x6041:FF` (R285). -/
def State.commitReplicas (s : State) (tables : List (List Replica)) : State × Reply :=
  match ((upto tables.length).zip tables).find? (fun (slot, l) => !l.all (s.replicaOk slot)) with
  | some (slot, _) => (s, .invalid (some (slot + 1)))
  | none => (((upto tables.length).zip tables).foldl (fun (s : State) (slot, l) =>
      { s with fire := { s.fire with replicas := kset s.fire.replicas slot l } }) s, .ok)

end Sys2Proof.Machine
end

