-- ==== Sys2Proof/Machine/Seedbank.lean ====
section
/-! DEFINITION. The seedbank's commands (chapter 9): the set tables (R297 to R299), fold checks (R306), slot copies at twins
(R301, R310), the commit of a generation and its messages (R310 to R314), and restores (R315, R316). -/

namespace Sys2Proof.Machine

/-! ## Set tables -/

/-- Does [a, a + n) lie wholly within one region of the job with class None and no set (R299)? -/
def State.areaOk (s : State) (job a n : Nat) : Bool :=
  s.mem.regions.any (fun (r : Region) => r.valid && r.job == job && r.cls == 0 && r.bankSet == 0xFFFF &&
    decide (r.base ≤ a) && decide (a + n ≤ r.base + r.size))

/-- Areas of an entry: two copies of SIZE + 1 bands, and for a parity set two of PARITY_SIZE bands (R299). -/
def areasOf (e : BankSet) : List (Nat × Nat) :=
  [(e.copyA, (e.size + 1) * 65536), (e.copyB, (e.size + 1) * 65536)] ++
  (if e.twin then [] else [(e.parityA, e.paritySize * 65536), (e.parityB, e.paritySize * 65536)])

/-- What R299 checks of one entry. -/
def State.bankEntryOk (s : State) (job : Nat) (e : BankSet) : Bool :=
  let regions := s.setRegions job e.set
  !e.reserved && e.set != 0 && e.set != 0xFFFF &&
  (regions.map (fun (r : Region) => r.size)).sum == e.size * 65536 &&
  regions.all (fun (r : Region) => r.cls == (if e.twin then 2 else 3)) &&
  !(e.twin && (e.parityA != 0 || e.parityB != 0 || e.paritySize != 0)) &&
  (areasOf e).all (fun (a, n) => s.areaOk job a n)

/-- No range of the list meets another. -/
def apart : List (Nat × Nat) → Bool
  | [] => true
  | (a, n) :: t => t.all (fun (b, m) => !overlaps a n b m) && apart t

/-- R299, for a job's whole table. -/
def State.bankTableOk (s : State) (slot : Nat) (l : List BankSet) : Bool :=
  if l.isEmpty then true
  else match s.jobOf slot with
    | none => false
    | some job =>
      let areas := l.flatMap areasOf
      let data := l.flatMap (fun (e : BankSet) => (s.setRegions job e.set).map (fun (r : Region) => (r.base, r.size)))
      l.all (s.bankEntryOk job) && apart areas &&
      areas.all (fun (a, n) => data.all (fun (b, m) => !overlaps a n b m))

/-- A generation of the slot's job is in progress. -/
def State.genRuns (s : State) (slot : Nat) : Bool := ((s.job slot).gen.map (fun g => !g.abandoned)).getD false

/-- The commit of `0x7010:FF`, with the fold maps (R299, R304): it covers the tables of every slot, so that a generation in
progress in any of them makes it busy (DEDUCED, log entry 101). -/
def State.commitSets (s : State) (sets : List (List BankSet)) (folds : List (List FoldEntry)) : State × Reply :=
  let indexed := (upto sets.length).zip sets
  let indexedF := (upto folds.length).zip folds
  match indexed.find? (fun (slot, l) => !s.bankTableOk slot l) with
  | some (slot, _) => (s, .invalid (some (slot + 1)))
  | none =>
    if (upto 16).any s.genRuns then (s, .busy)
    else
      let s := indexed.foldl (fun (s : State) (slot, l) => { s with bank := { s.bank with sets := kset s.bank.sets slot l } }) s
      (indexedF.foldl (fun (s : State) (slot, l) => { s with bank := { s.bank with folds := kset s.bank.folds slot l } }) s, .ok)

/-! ## Fold checks (R306) -/

/-- The slot of a seedbank message: that of its packet's job, else the one whose table has the set. -/
def State.messageSlot (s : State) (v : Via) (set : Nat) : Option Nat :=
  match s.dictPacket v.src v.tag with
  | some p => s.slotOf p.job
  | none => (upto 16).find? (fun slot => (s.jobOf slot).isSome && (s.bankEntry slot set).isSome)

/-- A FOLD_CHECK: kept until the holder can compare; one for a generation that has not started here waits for it, any other
is a failure (R306). -/
def State.foldCheckArrives (s : State) (slot : Option Nat) (v : Via) (set gen : Nat) (value : Word64) : State × Reply :=
  match slot with
  | none => (s, .invalid)
  | some slot =>
    match (s.job slot).gen with
    | some g =>
      if g.gen == gen && !g.abandoned && g.grove.contains v.src && (s.bankEntry slot set).isSome &&
          !g.checks.any (fun c => c.1 == v.src && c.2.1 == set) then
        (s.modJob slot (fun j => { j with gen := some { g with checks := g.checks ++ [(v.src, set, value, v.tag)] } }), .later)
      else (s, .invalid)
    | none =>
      if gen == s.ob (Obj.lastGen slot) + 1 && (s.bankEntry slot set).isSome then
        (s.modJob slot (fun j => { j with earlyChecks := j.earlyChecks ++ [(gen, v.src, set, value, v.tag)] }), .later)
      else (s, .invalid)

/-- The holder's answer to a FOLD_CHECK. -/
def State.answerFold (s : State) (g : Gen) (c : Nat × Nat × Word64 × Nat) (good : Bool) : State :=
  let v : Via := { role := .peer, src := c.1, tag := c.2.2.2 }
  let data := bytesOf (pack [(112, 16, c.2.1), (64, 32, g.gen), (0, 64, c.2.2.1.toNat)]) 16
  s.respond v (writeMsg v 0x7030 3 data) (if good then .ok else .invalid)

/-- FOLD_CHECK_COMPARE (R306, R313): once every byte and every FOLD_CHECK of a set is here the holder compares, answers every
source, and on a mismatch abandons the generation; the checks of an abandoned generation are answered as failures. -/
def execFoldCheckCompare (slot set : Nat) (s : State) : Host.Outcome State Fault Refusal :=
  match (s.job slot).gen, s.bankEntry slot set with
  | some g, some e =>
    let mine := g.checks.filter (fun c => c.2.1 == set)
    if mine.isEmpty || !(g.abandoned || s.foldReady g e) then .next s
    else
      let s := if g.abandoned then s else s.ownRead (e.parityOf g.gen) (e.paritySize * 65536)
      let good := !g.abandoned && s.foldAgrees g e
      let s := s.modJob slot (fun j => { j with gen := some { g with checks := g.checks.filter (fun c => c.2.1 != set) } })
      let s := mine.foldl (fun s c => s.answerFold g c good) s
      .next (if good then s else s.abandonGen slot)
  | _, _ => .next s

/-! ## Twins (R301, Table 9-5 event 4) -/

/-- Does a live copy of a step hold the data as they are after S_g: it is of S_g, or only skipped steps lie between? -/
def State.copyOfStep (s : State) (slot sg st : Nat) : Bool :=
  decide (sg ≤ st) && (upto (st - sg)).all (fun k => (s.decidedAt slot (sg + 1 + k)).map (·.2) == some 1)

/-- The step of the live copy at [a, a + n), if all of it is here (R301). -/
def State.liveWhole (s : State) (a n : Nat) : Option Nat :=
  match s.bank.copies.filter (fun c => c.slot == 0 && overlaps c.base c.size a n) with
  | [] => none
  | c :: t => if (c :: t).all (fun x => x.left == 0 && x.step == c.step) && decide (n ≤ ((c :: t).map (·.size)).sum) then some c.step else none

/-- A TWIN_SLOT message: the live copy of S_g becomes the slot copy of its generation. Without one that is whole and reads well,
within memory its job may write, it is a failure. -/
def State.twinSlotArrives (s : State) (slot job gen base size : Nat) : State × Reply :=
  let a := base * 65536
  let n := size * 65536
  let k := if gen % 2 == 1 then 1 else 2
  match s.liveWhole a n with
  | none => (s, .invalid)
  | some st =>
    if n == 0 || !s.peerMay job a (3 * n) then (s, .invalid)
    else if !(((s.job slot).gen.map (fun g => g.gen == gen && s.copyOfStep slot g.step st)).getD true) then (s, .invalid)
    else if (s.firstFault a n).isSome then (s.ownRead a n, .invalid)
    else
      let s := s.put (a + k * n) (s.bytesAt a n)
      ({ s with bank := { s.bank with copies := s.bank.copies.filter (fun x => x.base != a + k * n) ++
          [{ base := a + k * n, size := n, slot := k, gen := gen, step := st }] } }, .ok)

/-! ## Commit and completion (R309, R310, R312 to R314) -/

/-- The commit words of a generation (Table 9-4). -/
def State.commitWrites (s : State) (slot : Nat) (g : Gen) (loss : BitVec 32) (dec : Nat) : List MemWrite :=
  (s.bankSets slot).map (fun (e : BankSet) =>
    let copy := e.copyOf g.gen
    ⟨copy + 0xFFF0, bytesOf (commitWord g.gen loss.toNat dec (crc32c (s.bytesAt copy 64))) 16⟩)

/-- GENERATION_COMMIT (Table 9-5 event 6, Table 9-7): the commit words are written and GEN_DONE is sent; while the stacks are
in self-refresh the Glade holds the words. A header that reads with a detected error abandons the generation (DESIGN CHOICE, log
entry 33). -/
def execGenerationCommit (slot : Nat) (s : State) : Host.Outcome State Fault Refusal :=
  match (s.job slot).gen with
  | none => .next s
  | some g => match g.verify with
    | none => .next s
    | some (loss, dec) =>
      if !g.copied || !g.slots.isEmpty || !g.awaiting.isEmpty || g.committed || g.abandoned then .next s
      else if (s.bankSets slot).any (fun (e : BankSet) => (s.firstFault (e.copyOf g.gen) 64).isSome) then
        .next (((s.bankSets slot).foldl (fun s (e : BankSet) => s.ownRead (e.copyOf g.gen) 64) s).abandonGen slot)
      else
        let ws := s.commitWrites slot g loss dec
        if s.stacksAsleep then
          .next (if ws.all (fun w => s.bank.heldCommits.contains w) then s
            else { s with bank := { s.bank with heldCommits := s.bank.heldCommits ++ ws } })
        else
          let s := ws.foldl (fun s w => s.ownWrite w.addr w.data) s
          let g := { g with committed := true }
          let s := s.setOb Obj.generationCost g.cost
          .next ((s.modJob slot (fun j => { j with gen := some g })).sendGenDone slot g)

/-- The children a module's GEN_DONE may stand for at nodes hosted here: (level, first plot, plots) (R195, R312). -/
def State.doneChildren (s : State) (slot src : Nat) : List (Nat × Nat × Nat) :=
  let a := s.arity slot
  let p := s.plotCount slot
  let groups := ((nodesAt a p 1).filter (fun i => s.nodeHost slot 1 i == s.me)).filterMap (fun i =>
    let l := (upto (coverCount a p 1 i)).map (· + firstPlot a 1 i) |>.filter (fun x => s.hostOf slot x == src)
    if l.isEmpty then none else some (0, l.headD 0, l.length))
  let nodes := (upto (s.rootLv slot)).flatMap (fun l => if l == 0 then [] else
    ((nodesAt a p l).filter (fun j => s.nodeHost slot l j == src && s.nodeHost slot (l + 1) (j / a) == s.me)).map
      (fun j => (l, firstPlot a l j, coverCount a p l j)))
  groups ++ nodes

/-- A GEN_DONE enters its node (R312); the message names no node, so it stands for the first child of its source that covers
as many plots and has not come yet (DEDUCED, log entry 38). -/
def State.genDoneArrives (s : State) (slot : Nat) (v : Via) (gen plots failures cost : Nat) : State × Reply :=
  match (s.job slot).gen with
  | none => (s, .invalid)
  | some g =>
    if g.gen != gen then (s, .invalid)
    else match (s.doneChildren slot v.src).find? (fun (l, first, k) =>
        k == plots && !g.sums.any (fun x => x.1 == l && x.2.1 == first)) with
      | none => (s, .invalid)
      | some (l, first, _) => (s.addDone slot 20 l first (plots, failures, cost), .ok)

/-- A GEN_COMPLETE (R312, R313): passed on and acted on once. -/
def State.genCompleteArrives (s : State) (slot g next interval : Nat) : State × Reply :=
  if (s.job slot).gen.isNone && s.ob (Obj.lastGen slot) == g && s.nextGen slot == next then (s, .ok)
  else ((s.genCompleted slot g next interval).sendGenComplete slot g next interval, .ok)

/-- GENERATION_TIMEOUT (R313): at the host of the root, g is given up and GEN_COMPLETE names g − 1. -/
def execGenerationTimeout (slot : Nat) (s : State) : Host.Outcome State Fault Refusal :=
  match (s.job slot).gen with
  | none => .next s
  | some g =>
    if s.rootHost slot != s.me || decide (s.now < g.t0 + s.ob Obj.generationTimeout * 1000000000) then .next s
    else
      let next := s.step slot + 8
      let i := s.ob (Obj.intervalInForce slot)
      .next ((s.genCompleted slot (g.gen - 1) next i).sendGenComplete slot (g.gen - 1) next i)

/-! ## Restore (R315, R316) -/

/-- The commit words of a generation are present at this module, as it has read them (R309). -/
def State.intact (s : State) (slot g : Nat) : Bool :=
  !(s.bankSets slot).isEmpty && (s.bankSets slot).all (fun (e : BankSet) =>
    (s.firstFault (e.copyOf g + 0xFFF0) 16).isNone && fld (s.numAt (e.copyOf g + 0xFFF0) 16) 96 32 == g)

/-- A restore begins (R316). The members and the step's state are in every set's header. A module that can read none of its own
takes them from the header of another member of its grove, since one that has lost its slots is rebuilt too (DEDUCED, log entry
39); where there is none it cannot restore. -/
def State.beginRestore (s : State) (slot g from_ : Nat) : State :=
  let s := s.abandonGen slot
  let sets := s.bankSets slot
  let s := sets.foldl (fun s (e : BankSet) => s.ownRead (e.copyOf g) 64) s
  let s := (s.setOb (Obj.restoreState slot) 1).modJob slot (fun j => { j with restore := some { gen := g, from_ := from_ } })
  let others := (sets.take 1).flatMap (fun (e : BankSet) =>
    ((s.groveEps slot).filter (fun x => x != s.me && x != from_)).map (fun x => (x, e.copyOf g)))
  match sets.findSome? (fun e => s.ownHeader e g) with
  | some h => (s.restoreHead slot h).runRestore slot
  | none => (s.modJob slot (fun j => { j with restore := j.restore.map (fun r => { r with todo := [
      { target := 2 ^ 48, len := 64, sources := others.take 1, acc := List.replicate (64 * min others.length 1) 0
        alt := others.drop 1, header := true }] }) })).runRestore slot

/-- A write of RESTORE (R315). -/
def State.requestRestore (s : State) (slot value : Nat) : State × Reply :=
  let g := fld value 0 32
  let from_ := fld value 32 16
  match s.jobOf slot with
  | none => (s, .invalid)
  | some job =>
    let last := s.ob (Obj.lastGen slot)
    if fld value 48 16 != 0 then (s, .invalid)
    else if s.chan.tasks.any (fun t => t.job == job) then (s, .busy)
    else
      let s := if g + 1 == last then s.readCommits slot g else s
      if g == 0 || !(g == last || (g + 1 == last && s.intact slot g)) then (s, .invalid)
      else (s.beginRestore slot g from_, .ok)

end Sys2Proof.Machine
end

