-- ==== Sys2Proof/Machine/Reset.lean ====
section
/-! DEFINITION. Resets as shared operations: the module reset (R403), the loss of a half (R405, R406, R410), the start of a
half (R402, R413), the host-link domain (R416), Glade failover (R381, R422) and the orderly off (R357). -/

namespace Sys2Proof.Machine

/-- Ports of a half: P0 to P3 and U0, or P4 to P6 and U1 (R394). -/
def portsOf (h : Nat) : List Nat := if h == 0 then [0, 1, 2, 3, 7] else [4, 5, 6, 8]

/-- Stands of a half. -/
def standsOf (h : Nat) : List Nat := (upto 96).map (· + 96 * h)

/-- Does a block lie in the SRAM of a half? -/
def inSram (h b : Nat) : Bool :=
  match placeOf (b * 64) with
  | .under k => k == h
  | .scratch n _ => n / 96 == h
  | _ => false

/-- Every SRAM line of a half holds data whose check fails, and every word of it failing parity (R125). -/
def State.failSram (s : State) (h : Nat) : State :=
  { s with mem := { s.mem with
    okBlocks := s.mem.okBlocks.filter (fun b => !inSram h b)
    okWords := s.mem.okWords.filter (fun w => !inSram h (w / 16))
    badWords := s.mem.badWords.filter (fun w => !inSram h (w / 16)) } }

/-- Every stack block of a half is written with a failing check, after power-on only (R125, Table 12-4). -/
def State.failStacks (s : State) (h : Nat) : State :=
  { s with mem := { s.mem with
    okBlocks := s.mem.okBlocks.filter (fun b => !(isStack (b * 64) && (s.stackLoc (b * 64)).1 / 16 == h)) } }

/-! ## The host-link domain (R404, R416, Table 12-2) -/

/-- The PCIe controller and the BAR0 logic are reset: the mailbox, the window register and the interrupts waiting there;
PCIE_LINK reads down. -/
def State.resetHostLink (s : State) : State :=
  let s := s.setOb Obj.pcieLink 0
  { s with
    edge := { s.edge with hostLink := false, window := 0, msixPending := [], msixTable := [], bar2Bits := 36, completionTimeout := 0 }
    dict := { s.dict with
      msixVector := 0xFFFF, done := false, go := false, request := ({} : DictSt).request, responseBuf := ({} : DictSt).responseBuf
      held := s.dict.held.filter (fun x => x.1.role != .host) } }

/-- The host link is up again: interrupts and completion records held back go out (R416). -/
def State.hostLinkUp (s : State) : State :=
  let s := { s with edge := { s.edge with hostLink := true } }
  let l := s.edge.msixPending
  let s := l.foldl (fun s v => s.msix v) { s with edge := { s.edge with msixPending := [] } }
  s.flushAll

/-! ## Glades -/

/-- A Glade runs. -/
def State.gladeRuns (s : State) (h : Nat) : Bool := if h == 0 then s.edge.glade0 else s.edge.glade1

/-- A Glade starts or stops. -/
def State.setGlade (s : State) (h : Nat) (v : Bool) : State :=
  { s with edge := if h == 0 then { s.edge with glade0 := v } else { s.edge with glade1 := v } }

/-- The standby takes over every path (R381): staged values are lost, record 0x0603, and the failover counts as a failure
(R314). With no Glade left, FAULT_N is asserted (R396). -/
def State.failover (s : State) (h : Nat) : State :=
  if s.ob Obj.gladeActive != h then s
  else if !s.gladeRuns (1 - h) then s.faultN .glades
  else
    let s := { s with dict := { s.dict with staged := [] } }
    ((s.setOb Obj.gladeActive (1 - h)).log { errRec 0x0603 with detail0 := h }).failure

/-! ## The module reset (R403) -/

/-- Restores in progress fail with the reset: the memory they read and write is interrupted. -/
def State.failRestore (s : State) (slot : Nat) : State :=
  if (s.job slot).restore.isNone then s
  else ((s.modJob slot (fun j => { j with restore := none })).setOb (Obj.restoreState slot) 4).bump Obj.restoreFailures

/-- Every port is held in DISABLED; the fabric's queues, transfers and paths are gone. The tables of both epochs are
dictionary values and stay. -/
def State.resetFabric (s : State) : State :=
  let s := (upto 9).foldl (fun s n => (s.enterPort n 0 0).setPort n { heldByReset := true, since := s.now }) s
  let s := s.setOb Obj.drainState 0
  { s with fab := { s.fab with
    sendQ := [], requeue := [], rx := [], waitingFwd := [], outXfers := [], inXfers := [], resends := []
    paths := [], grantWait := [], oldEpoch := none, switch := {}, asks := [], polledAt := 0, pathWaits := [], launches := [] } }

/-- A stand after a reset of its half: nothing runs or waits on it; what is decided, due or measured stays. -/
def StandSt.afterReset (x : StandSt) : StandSt :=
  { x with saved := [], tile := none, servesSlot := none, w := 0, wSum := 0, wCount := 0, power := 0, budget := 0, classes := [], drawn := [], suspects := [] }

/-- Must the halves stay off: after a trip (R352), or at shed level 4 (Table 10-7)? -/
def State.staysOff (s : State) : Bool := s.edge.tripped || decide (4 ≤ s.shed)

/-- A module reset (R403): tasks aborted and channels destroyed without records, every job faulted, halves, memory lines,
ports and the host link reset, and with the understory reserve the error queues of stands and halves and the twins' copy records
(Table 4-2); the stacks, the dictionary and flash stay, and a failed Glade restarts, its clock locked again (DEDUCED, log
entry 116), but where no image has passed (R423). Halves that must stay off, after a trip (R352) or at shed level 4 (Table 10-7), do not start. -/
def State.moduleReset (s : State) : State :=
  let s := s.spoil (s.chan.tasks.flatMap writtenRanges)
  let s := { s with chan := { s.chan with
    chans := [], tasks := [], freed := s.chan.freed ++ s.chan.chans.map (fun (x : Nat × Chan) => x.1) } }
  let s := (upto 16).foldl (fun s slot => if (s.jobOf slot).isSome then (s.failRestore slot).jobFault slot else s) s
  let s := { s with
    mem := { s.mem with repairs := [], reads := [], groups := [] }
    fire := { s.fire with checks := [], queues := s.fire.queues.filter (fun (x : Nat × ErrQueue) => x.1 == moduleUnit) }
    bank := { s.bank with copies := [] }
    stands := s.stands.map (fun (x : Nat × StandSt) => (x.1, x.2.afterReset)) }
  let s := (((s.failSram 0).failSram 1).resetFabric).resetHostLink
  let s := (s.setOb (Obj.guestLink 0) 0).setOb (Obj.guestLink 1) 0
  let s := { s with edge := { s.edge with
    ready := false, deadHalves := [], retriedHalf := [], lostAt := [], guestReqs := [], guestQueue := []
    faults := s.edge.faults.filter (fun (c : FaultCause) =>
      c != FaultCause.startUp 0 && c != FaultCause.startUp 1 && c != FaultCause.glades && c != FaultCause.pairing && c != FaultCause.mgmtClock)
    unlocked := s.edge.unlocked.filter (fun c => c != 2 && c != 3)
    glade0 := !s.edge.faults.contains .noImage
    glade1 := !s.edge.faults.contains .noImage } }
  let start := if s.staysOff then 0 else 1
  (s.setOb (Obj.halfState 0) start).setOb (Obj.halfState 1) start

/-! ## The loss of a half (R405 to R411) -/

/-- Does a task run on a stand of a half, or touch its memory? Stack memory in whole-module interleave lies on both. -/
def State.taskOnHalf (s : State) (h : Nat) (t : Task) : Bool :=
  t.stands.any (fun n => n / 96 == h) ||
  ((readPieces t.desc).map (·.2) ++ (outputsOf t.desc).map (fun o => (o.addr, o.len))).any (fun (a, n) =>
    (blocksOf a n).any (fun b => s.homeOf (b * 64) == some h))

/-- A host read one of whose blocks is lost with its half returns all ones (R407). -/
def State.hostReadLost (s : State) (id : Nat) : State :=
  match s.mem.reads.find? (fun r => r.id == id) with
  | none => s
  | some r => ({ s with mem := { s.mem with reads := s.mem.reads.filter (fun x => x.id != id) } }.unmappedAccess r.addr).emit
      (.readData (List.replicate r.data.length 0xFF) false)

/-- The repair of a block on a lost half is over: its readers end with it (R405, R407, R409). -/
def State.loseRepair (s : State) (r : Repair) : State :=
  let s := { s with mem := { s.mem with repairs := s.mem.repairs.filter (fun x => x.block != r.block) } }
  let s := r.fetchers.foldl (fun s uid => match s.handleOf uid with
    | some h => s.fetchFailed h (r.block * 64)
    | none => s) s
  let s := r.accesses.foldl (fun s x => match x with
    | .peer p _ _ => (s.answerError p 5).dropIn p.src p.xfer
    | .hostRead id => s.hostReadLost id
    | .task _ _ | .fetch _ => s
    | .hostWrite a _ => s.unmappedAccess a
    | .arrival _ src xfer => s.endXfer src xfer 5
    | .ownWrite _ _ => s) s
  { s with fab := { s.fab with outXfers := s.fab.outXfers.filter (fun o => o.use != .repair r.block) } }

/-- A guest site is down; requests out to it are answered as not up (R419, R421). -/
def State.guestDown (s : State) (site : Nat) : State :=
  let s := s.setOb (Obj.guestLink site) 0
  let lost (r : GuestReq) : Bool := r.site == site
  let l := s.edge.guestReqs.filter lost ++ (s.edge.guestQueue.map (·.1)).filter lost
  let s := { s with edge := { s.edge with
    guestReqs := s.edge.guestReqs.filter (fun r => !lost r), guestQueue := s.edge.guestQueue.filter (fun x => !lost x.1) } }
  l.foldl (fun s (r : GuestReq) => match s.taskBy r.uid r.id with
    | some t => if t.phase == .running || t.phase == .held then s.abort t Status.memoryError r.addr 0 else s
    | none => s.answerGuest r 5 1 []) s

/-- Is an error queue in half h: that of one of its stands, or its own, in its understory reserve (Table 4-2)? -/
def unitOn (h unit : Nat) : Bool := if unit < 192 then unit / 96 == h else unit == 192 + h

/-- What the loss of half h takes with it while the other half runs (Table 12-6, Table 12-5). -/
def State.dropHalf (s : State) (h : Nat) : State :=
  let s := (s.setOb (Obj.halfState h) 3).logHalf (1 - h) { errRec 0x0601 with detail0 := h }
  let s := { s.failure with edge := { s.edge with lostAt := kset s.edge.lostAt h s.now } }
  let s := (portsOf h).foldl (fun s n =>
    ((if s.portUp n then s.leaveUp n else s).enterPort n 0 0).modPort n (fun p => { p with heldByReset := true })) s
  let s := (s.chan.tasks.filter (fun t => s.taskOnHalf h t && (t.phase == .running || t.phase == .held || t.phase == .preempted))).foldl
    (fun s t => s.abort t Status.halfReset) s
  let s := (standsOf h).foldl (fun s n => (s.abandonChecks n).leaveSets n) s
  let s := { s with
    stands := s.stands.map (fun (x : Nat × StandSt) => if x.1 / 96 == h then (x.1, x.2.afterReset) else x)
    fire := { s.fire with queues := s.fire.queues.filter (fun (x : Nat × ErrQueue) => !unitOn h x.1) } }
  let s := (s.mem.repairs.filter (fun r => s.homeOf (r.block * 64) == some h)).foldl (fun (s : State) r => s.loseRepair r) s
  let s := (s.fab.inXfers.filter (fun x => s.touchesLost x.base (x.total * 4096))).foldl (fun s x => s.endIn x 5) s
  let s := (s.failSram h).guestDown h
  let s := (upto 16).foldl (fun s slot => s.abandonGen slot) s
  (s.setGlade h false).failover h

/-- A half is lost (R405); with the other not running, the module is reset (R410). -/
def State.loseHalf (s : State) (h : Nat) : State :=
  if decide (2 ≤ h) || !s.halfRuns h then s
  else if s.halfRuns (1 - h) then s.dropHalf h
  else s.moduleReset

/-! ## The start of a half (Table 12-4, events 4 to 6) -/

/-- The pair of steppings is refused (R413). -/
def State.pairRefused (s : State) : Bool :=
  decide (s.edge.fuses0.stepping < s.edge.fuses1.lowest) || decide (s.edge.fuses1.stepping < s.edge.fuses0.lowest)

/-- Row repairs of a half's stacks are applied with what resources each stack has left (R137). What a repaired block holds and
whether its check passes stay as they were (DESIGN CHOICE, log entry 89). -/
def State.applyRowRepairs (s : State) (h : Nat) (left : List (Nat × Nat)) : State :=
  let s := left.foldl (fun s (st, n) => if st / 16 == h then s.setOb (Obj.rowRepairsLeft st) n else s) s
  s.mem.rowRepairs.foldl (fun s b =>
    let st := stackOfPhys b
    if st / 16 != h then s
    else if s.ob (Obj.rowRepairsLeft st) == 0 then
      (s.setOb (Obj.stackDegraded st) 1).logHalf h { errRec 0x0206 with stack := st, address := ((s.mem.badBlocks.find? (fun x => x.key == b)).map (·.addr)).getD 0 }
    else
      let s := s.setOb (Obj.rowRepairsLeft st) (s.ob (Obj.rowRepairsLeft st) - 1)
      { s with mem := { s.mem with
        rowRepairs := s.mem.rowRepairs.filter (· != b), badBlocks := s.mem.badBlocks.filter (fun x => x.key != b) } }) s

/-- Rails of a half's stands: 0.72 V plus each stand's offset (Table 12-4, event 6). -/
def State.startRails (s : State) (h : Nat) : State :=
  (standsOf h).foldl (fun s n =>
    let off := s.ob (Obj.voltageOffset n)
    if (s.stand n).rail == 720 + off && (s.stand n).offset == off then s
    else s.modStand n (fun x => { x with rail := 720 + off, offset := off })) s

/-- Ports of a half with PORT_ENABLE 1 enter TRAINING once the module has an endpoint (Table 12-4, R408). -/
def State.startPorts (s : State) (h : Nat) : State :=
  (portsOf h).foldl (fun s n =>
    let s := s.modPort n (fun p => { p with heldByReset := false })
    if s.ob (Obj.portEnable n) == 1 && s.me != 0 && s.portSt n == 0 then s.train n else s) s

/-- Commit words the Glade has held are written once the stacks have left self-refresh (Table 9-7). -/
def State.flushCommits (s : State) : State :=
  if s.stacksAsleep || !s.halfRuns 0 || !s.halfRuns 1 then s
  else
    let l := s.bank.heldCommits
    l.foldl (fun s w => s.ownWrite w.addr w.data) { s with bank := { s.bank with heldCommits := [] } }

/-- May a half start now? -/
def State.mayStartHalf (s : State) (h : Nat) : Bool :=
  decide (h < 2) && s.edge.powered && (s.edge.glade0 || s.edge.glade1) && !s.edge.tripped && decide (s.shed < 4) &&
  !s.halfRuns h && !s.halfDead h

/-- A half starts: SRAM lines failing, steppings exchanged, stacks trained and row repairs applied, stands and ports started;
its Glade joins as standby (R402, R405, R408, R413). The clocks of the half, the bridge and its stacks have locked (DEDUCED, log
entry 116). -/
def State.halfStart (s : State) (h : Nat) (left : List (Nat × Nat)) : State :=
  if !s.mayStartHalf h then s
  else if s.pairRefused then (s.setOb (Obj.halfState h) 1).faultN .pairing
  else
    let s := s.failSram h
    let s := if s.edge.coldHalves.contains h then s.failStacks h else s
    let s := ((s.applyRowRepairs h left).startRails h).setOb (Obj.halfState h) 2
    let s := { s with edge := { s.edge with
      coldHalves := s.edge.coldHalves.filter (· != h), retriedHalf := s.edge.retriedHalf.filter (· != h)
      lostAt := kdel s.edge.lostAt h } }
    let s := { s with edge := { s.edge with
      unlocked := s.edge.unlocked.filter (fun c => !(c == 1 || c == 2 + h || (decide (32 ≤ c) && (c - 32) / 16 == h))) } }.setGlade h true
    let s := if s.cap 4 then s.setOb (Obj.guestLink h) 1 else s
    ((s.startPorts h).flushAll).flushCommits

/-! ## Off (R352, R357) -/

/-- Halves are off: whatever a module reset takes is gone, and nothing runs until a start. -/
def State.halvesOff (s : State) : State :=
  let s := s.moduleReset
  (s.setOb (Obj.halfState 0) 0).setOb (Obj.halfState 1) 0

/-- The orderly off (R357): the mark in flash, every rail off, every output released; held commit words are lost. -/
def State.orderlyOff (s : State) : State :=
  let s := (s.halvesOff).setOb Obj.operatingHours s.hours
  { s with
    bank := { s.bank with heldCommits := [], copies := [] }
    dict := { s.dict with staged := [] }
    edge := { s.edge with orderlyOff := true, powered := false, glade0 := false, glade1 := false,
                          alerts := [], faults := [] } }

end Sys2Proof.Machine
end

