-- ==== Sys2Proof/Machine/Power.lean ====
section
/-! DEFINITION. Power, heat, supply and ageing (chapter 10): the cruise counters and the controller (R322 to R337), budget
lending (R338 to R344), steady load (R345 to R348), the limiters (R350, R351), shed levels (R353 to R358) and the margin
re-plan (R359 to R363). Powers are in mW, energies of an interval in fJ: 1 mW over 10 µs is 10^7 fJ. -/

namespace Sys2Proof.Machine

/-- Change the power state. -/
def State.modPower (s : State) (f : PowerSt → PowerSt) : State := { s with power := f s.power }

/-! ## The cap in force (R325, R326) -/

def State.lentSum (s : State) : Nat := (s.power.lent.map (fun (l : Loan) => l.watts)).sum
def State.borrowedSum (s : State) : Nat := (s.power.borrowed.map (fun (l : Loan) => l.watts)).sum

/-- User cap, W. -/
def State.userCap (s : State) : Nat := min (s.ob Obj.powerCap) 3400 + s.borrowedSum - s.lentSum

/-- Is PWRBRK_N asserted? -/
def State.pwrbrk (s : State) : Bool := s.edge.pwrbrk.level == 0

/-- The cap in force, W, without its steady-load line (R345). -/
def State.capNoSteady (s : State) : Nat :=
  let user := s.userCap
  let user := if s.shed == 1 then user * 3 / 4 else user
  let user := if 2 ≤ s.shed then user / 2 else user
  max 1100 (if s.pwrbrk then 1100 else user)

/-- Is steady-load mode on (R345, R414)? -/
def State.steady (s : State) : Bool := s.shown Obj.steadyEnable == 1

/-- CAP_IN_FORCE, W (R326). -/
def State.capInForce (s : State) : Nat :=
  if s.steady then max 1100 (min s.capNoSteady (s.ob Obj.steadySetpoint * 103 / 100)) else s.capNoSteady

/-- The mean power of the millisecond 100 ms ago, mW, once there is one. The 100 ms mean changes by at most RAMP_LIMIT per second
just when no power differs from that of 100 ms before by more than RAMP_LIMIT × 100 ms (R347). -/
def State.before100 (s : State) : Option Nat := s.power.means[99]?

/-- The power the ramp admits at most, mW: 1.03 of its target, and no more than RAMP_LIMIT × 100 ms above that of 100 ms ago. -/
def State.rampTop (s : State) : Nat :=
  let band := s.power.rampUw * 103 / 100000
  match s.before100 with
  | some x => min band (x + s.ob Obj.rampLimit * 100)
  | none => band

/-- The power the ramp asks for at least, mW. -/
def State.rampFloor (s : State) : Nat :=
  let band := min s.rampTop (s.power.rampUw * 97 / 100000)
  match s.before100 with
  | some x => max band (x - s.ob Obj.rampLimit * 100)
  | none => band

/-- The budget B, mW: the lowest of the cap in force and the limiters (R329), and of the ramp's upper edge (R347). -/
def State.budget (s : State) : Nat :=
  let b := s.capInForce * 1000
  let b := match s.power.thermal with
    | some x => min b x
    | none => b
  let b := match s.power.outlet with
    | some x => min b x
    | none => b
  if s.steady then max 1100000 (min b s.rampTop) else b

/-! ## The cruise counters (R322 to R324) -/

/-- A coefficient of Table 10-2, fJ. -/
def State.coeff (s : State) (i : Nat) : Nat := s.power.coeff.getD i 0

/-- A power the coefficients give, under their correction k (R323). -/
def State.corrected (s : State) (mw : Nat) : Nat := mw * s.power.k / 4096

/-- Power of a stand's events, mW, at its rail. -/
def State.dynPower (s : State) (a : StandActivity) : Nat :=
  let e := a.fp16 * s.coeff 0 + a.fp32 * s.coeff 1 + a.fp64 * s.coeff 2 + a.vec * s.coeff 3 + a.scratch * s.coeff 4 +
    a.canopy * s.coeff 5
  let v := (s.stand a.stand).rail
  e * v * v / (720 * 720) / 10000000

/-- Leakage of a stand, mW. -/
def State.leak (s : State) (n : Nat) : Nat := Config.leakage n (s.stand n).rail (toInt32 (s.ob Obj.tjMax))

/-- Leakage of every stand with power. -/
def State.leakAll (s : State) : Nat := ((upto 192).filter s.standEnabled).foldl (fun x n => x + s.leak n) 0

/-- Ports UP. -/
def State.portsUp (s : State) : Nat := ((upto 9).filter s.portUp).length

/-- What the coefficients give for an interval before the correction, mW: the understory's accesses at its rail, each stand's
events at its own. -/
def State.counted10 (s : State) (a : PowerSample) : Nat :=
  let v := s.power.understoryMv
  (a.stands.map s.dynPower).sum +
  (a.understory * s.coeff 6 * v * v / (720 * 720) + a.stackBlocks * s.coeff 7 + a.bridge64 * s.coeff 8 + s.portsUp * s.coeff 9) / 10000000

/-- Modelled power of the consumers of an interval before losses, mW, from what the coefficients give: the fixed terms and the
leakage are no coefficients, and no correction scales them. -/
def State.consumers (s : State) (counted : Nat) : Nat := counted + s.leakAll + s.power.fixedMw

/-- Conversion losses are 12.0 % of the consumers (R324). -/
def withLosses (mw : Nat) : Nat := mw * 112 / 100

/-! ## Division of the budget (R332, R333) -/

/-- What a running stand's controller knows of an interval: stand, modelled power, modelled power with w = 0, request. -/
structure Load where
  stand : Nat
  power : Nat
  peak : Nat
  request : Nat
  deriving DecidableEq, Repr

/-- The learned power of the class of the task on a stand, if its table holds it (R332). -/
def State.learned (s : State) (n : Nat) : Option Nat :=
  match s.runningOn n with
  | some t => ((s.stand n).classes.find? (fun x => x.1 == classOfTask t.desc)).map (fun x => x.2.1)
  | none => none

/-- Loads of the stands that run a task. The power with w = 0 is that of the events scaled up by the tokens withheld. -/
def State.loads (s : State) (a : PowerSample) : List Load :=
  ((upto 192).filter (fun n => s.standEnabled n && (s.runningOn n).isSome)).map (fun n =>
    let dyn := (a.stands.filter (fun x => x.stand == n)).foldl (fun e x => e + s.dynPower x) 0
    let leak := s.leak n
    let peak := s.corrected (dyn * 256 / (256 - (s.stand n).w)) + leak
    { stand := n, power := s.corrected dyn + leak, peak := peak, request := (s.learned n).getD peak })

/-- R333: the reserve first, then the lesser of request and equal share, then the rest in proportion to unmet requests. -/
def divide (budget reserve : Nat) (l : List Load) : List (Load × Nat) :=
  let rest := budget - reserve
  let share := rest / max 1 l.length
  let left := rest - (l.map (fun x => min x.request share)).sum
  let unmet := (l.map (fun x => x.request - min x.request share)).sum
  l.map (fun x =>
    let got := min x.request share
    (x, if unmet = 0 then got else got + left * (x.request - got) / unmet))

/-- R330: w moves by 128 × (P − B_s) / P_max within 0 to 224. -/
def nextW (w power budget peak : Nat) : Nat :=
  if peak = 0 then w
  else (max 0 (min 224 ((w : Int) + Int.fdiv (128 * ((power : Int) - budget)) peak))).toNat

/-- Lowest rail of a stand, mV, by the offset in effect (R331, R361). -/
def State.minRail (s : State) (n : Nat) : Nat := 550 + (s.stand n).offset

/-- PEER_PACE of a slot: the largest PACE of the last millisecond (R262). -/
def State.peerPace (s : State) (slot : Nat) : Nat :=
  (((s.job slot).paceSeen.filter (fun x => s.now - x.1 < 1000000)).map (·.2)).foldl max 0

/-- The share a stand withholds at least for its job's pace (R336). -/
def State.matched (s : State) (n : Nat) : Nat :=
  if s.shown Obj.paceMatch == 0 then 0
  else match s.runningOn n with
    | some t => let slot := s.slotOfTask t
        if slot < 16 then max (s.ob (Obj.jobPace slot)) (s.peerPace slot) else 0
    | none => 0

/-! ## The 10 µs interval -/

/-- Every stand stands at its deepest (R334 step 1). -/
def State.computeDone (s : State) : Bool :=
  (upto 192).all (fun n => !s.standEnabled n || ((s.stand n).w == 224 && decide ((s.stand n).rail ≤ s.minRail n)))

/-- R334: stack issue and packet injection yield once compute has, and come back in the reverse order. -/
def State.yieldSteps (s : State) (power budget : Nat) : State :=
  s.modPower (fun p =>
    if budget < power then
      if !s.computeDone then p
      else if 4 < p.stackLimit then { p with stackLimit := p.stackLimit - 1 }
      else if 4 < p.linkLimit then { p with linkLimit := p.linkLimit - 1 }
      else p
    else if p.linkLimit < 16 then { p with linkLimit := p.linkLimit + 1 }
    else if p.stackLimit < 16 then { p with stackLimit := p.stackLimit + 1 }
    else p)

/-- Beats of a stand in 10 µs at its rail (R25). -/
def State.beats10 (s : State) (n : Nat) : Nat := beatRate (s.stand n).rail (toInt32 (s.ob Obj.tjMax)) * 10

/-- While a limit of stacks or links is not lifted, compute is not lifted either (R334). -/
def State.laterHeld (s : State) : Bool := decide (s.power.stackLimit < 16) || decide (s.power.linkLimit < 16)

/-- One stand's w of an interval and its place in the millisecond's means (R330). -/
def StandSt.withhold (y : StandSt) (held : Bool) (power budget peak : Nat) : StandSt :=
  let w := if held then max (nextW y.w power budget peak) y.w else nextW y.w power budget peak
  { y with w := w, wSum := y.wSum + w, wCount := y.wCount + 1, power := power, budget := budget }

/-- What a task on a stand has drawn, with one more interval (R332). -/
def drew (t : Task) (mw : Nat) (l : List (Nat × BitVec 32 × Nat × Nat)) : List (Nat × BitVec 32 × Nat × Nat) :=
  if l.any (fun d => d.1 == t.uid && d.2.1 == t.id) then
    l.map (fun d => if d.1 == t.uid && d.2.1 == t.id then (t.uid, t.id, d.2.2.1 + mw, d.2.2.2 + 1) else d)
  else l ++ [(t.uid, t.id, mw, 1)]

/-- Each running stand's w, what its task has drawn, and its beats withheld (R330, R332, R335, R336). -/
def State.throttle (s : State) (l : List (Load × Nat)) : State :=
  l.foldl (fun s (x, b) =>
    let beats := s.beats10 x.stand
    let run := s.runningOn x.stand
    let s := s.modStand x.stand (fun y =>
      let y := y.withhold s.laterHeld x.power b x.peak
      match run with
      | some t => { y with drawn := drew t x.power y.drawn }
      | none => y)
    let w := (s.stand x.stand).w
    let s := s.modPower (fun p => { p with paceSum := p.paceSum + beats * w, paceCount := p.paceCount + beats })
    s.addOb Obj.bubbleBeats (beats * max w (s.matched x.stand) / 256)) s

/-- The stands that run nothing. R333 divides B among running stands only: what it leaves above the modelled power is the budget
of each of the others, so that their w rises and their rails fall where B binds (R330, R331, R334; DESIGN CHOICE, log entry
114). -/
def State.throttleIdle (s : State) (run : List Nat) (spare : Nat) : State :=
  ((upto 192).filter (fun n => s.standEnabled n && !run.contains n)).foldl (fun s n =>
    s.modStand n (fun y => y.withhold s.laterHeld (s.leak n) spare (s.leak n))) s

/-- Does ballast run? Not under shed levels, nor with both halves reset or tripped (R348). -/
def State.ballastRuns (s : State) : Bool := s.shed == 0 && (s.halfRuns 0 || s.halfRuns 1) && !s.edge.tripped

/-- Power that ballast can add at most, mW, with losses: FP16 instructions on every array beat of the interval that is neither
spent nor withheld under R330 (R346). -/
def State.ballastRoom (s : State) (a : PowerSample) : Nat :=
  let mw := ((upto 192).filter (fun n => s.standEnabled n && s.halfRuns (n / 96))).map (fun n =>
    let all := s.beats10 n * (4 - bitsIn (s.ob (Obj.arrayFence n)) 0 4)
    let spent := ((a.stands.filter (fun x => x.stand == n)).map (fun x => x.fp16 + x.fp32 + x.fp64)).sum
    s.dynPower { stand := n, fp16 := all * (256 - (s.stand n).w) / 256 - spent })
  withLosses (s.corrected mw.sum)

/-- The ramp's target moves toward the set point; ballast fills up to the ramp's lower edge, within B and what it can draw, or the
fall is counted once (R346 to R348). -/
def State.steadyLoad (s : State) (a : PowerSample) (power : Nat) : State :=
  if !s.steady then s.modPower (fun p => { p with ballastMw := 0 })
  else
    let goal := s.ob Obj.steadySetpoint * 1000000
    let d := s.ob Obj.rampLimit * 10
    let target := if s.power.rampUw < goal then min goal (s.power.rampUw + d) else max goal (s.power.rampUw - d)
    let s := s.modPower (fun p => { p with rampUw := target })
    let want := s.rampFloor - power
    let fill := if s.ballastRuns then min want (min (s.budget - power) (s.ballastRoom a)) else 0
    let missed := decide (fill < want)
    let s := if missed && !s.power.rampMissed then s.bump Obj.rampViolations else s
    let e := s.power.ballastRest + fill
    let s := s.modPower (fun p => { p with
      ballastMw := fill, ballastRest := e % 100000, rampMissed := missed
      ballastSince := if p.ballastMw = 0 then s.now else p.ballastSince })
    (s.addOb Obj.ballastEnergy (e / 100000)).setBit Obj.powerStatus 6 missed

/-- The module's power of the interval enters its means and its energy (R324, Table 10-10); ballast is modelled too, and its
energy before the correction is that of its instructions (R323, R346). -/
def State.meter (s : State) (raw power : Nat) : State :=
  let total := power + s.power.ballastMw
  let e := s.power.energyRest + total
  let s := s.modPower (fun p =>
    let h := (total :: p.history).take 100
    let p := { p with
      powerMw := total, history := h, energyRest := e % 100000, rawMw := p.rawMw + raw + p.ballastMw * 4096 / p.k, tick := (p.tick + 1) % 100 }
    if p.tick = 0 then { p with means := ((h.sum / max 1 h.length) :: p.means).take 100 } else p)
  (s.addOb Obj.energy (e / 100000)).setOb Obj.modulePower (s.power.history.sum / max 1 s.power.history.length / 1000)

/-- Mean power over 100 ms, W. -/
def State.mean100 (s : State) : Nat :=
  if s.power.means.isEmpty then s.power.powerMw / 1000 else s.power.means.sum / s.power.means.length / 1000

/-- POWER_MODEL_TICK (R322, R324, R326, R330, R333, R334, R336, R346 to R348). -/
def execPowerModelTick (a : PowerSample) (s : State) : Host.Outcome State Fault Refusal :=
  if !s.edge.powered || !s.due 0 10000 then .next s
  else
    let s := s.ticked 0
    let raw := withLosses (s.consumers (s.counted10 a))
    let power := withLosses (s.consumers (s.corrected (s.counted10 a)))
    let b := s.budget
    let l := s.loads a
    let stands := (l.map (·.power)).sum
    let s := (s.throttle (divide b (power - stands) l)).throttleIdle (l.map (·.stand)) (b - power)
    let s := (s.yieldSteps power b).steadyLoad a power
    let binds := decide (b < power) || l.any (fun x => (s.stand x.stand).w != 0) || decide (s.power.stackLimit < 16) ||
      decide (s.power.linkLimit < 16)
    let matching := l.any (fun x => decide ((s.stand x.stand).w < s.matched x.stand))
    .next (((s.setBit Obj.powerStatus 1 binds).setBit Obj.powerStatus 9 matching).meter raw power)

/-- MODEL_CORRECTION_TICK (R323): k is the measured energy over the uncorrected modelled energy, within 0.90 to 1.10. -/
def execModelCorrectionTick (measuredMj : Nat) (s : State) : Host.Outcome State Fault Refusal :=
  if !s.edge.powered || !s.due 1 100000000 then .next s
  else
    let s := (s.ticked 1).setOb Obj.inputPower (measuredMj / 100)
    let raw := s.power.rawMw
    if raw = 0 then .next s
    else
      let m := measuredMj * 100000
      let out := decide (m * 10 < raw * 9) || decide (raw * 11 < m * 10)
      let k := if m * 10 < raw * 9 then 3686 else if raw * 11 < m * 10 then 4506 else (m * 4096 + raw / 2) / raw
      .next (((s.modPower (fun p => { p with k := k, rawMw := 0 })).setOb Obj.modelCorrection k).setBit Obj.powerStatus 11 out)

/-! ## The millisecond (R331, R335, R337) -/

/-- A stand's modelled power one step higher, mW: its events' power by the square of the rail, its leakage by the table (R322). -/
def State.powerUp (s : State) (n : Nat) : Nat :=
  let x := s.stand n
  let up := x.rail + 5
  (x.power - s.leak n) * up * up / (x.rail * x.rail) + Config.leakage n up (toInt32 (s.ob Obj.tjMax))

/-- One stand's rail after a millisecond (R331). -/
def State.adjustRail (s : State) (n : Nat) : State :=
  let x := s.stand n
  let lo := s.minRail n
  let rail :=
    if x.wCount = 0 then x.rail
    else if 16 * x.wCount < x.wSum ∧ lo < x.rail then max lo (x.rail - 5)
    else if x.wSum = 0 ∧ x.rail + 5 ≤ 850 ∧ s.powerUp n ≤ x.budget then x.rail + 5
    else x.rail
  s.modStand n (fun y => { y with rail := rail, wSum := 0, wCount := 0 })

/-- RAIL_ADJUST_TICK (R331, R335, R337). -/
def execRailAdjustTick (s : State) : Host.Outcome State Fault Refusal :=
  if !s.edge.powered || !s.due 2 1000000 then .next s
  else
    let s := s.ticked 2
    let pace := if s.power.paceCount = 0 then 0 else min 224 (s.power.paceSum / s.power.paceCount)
    let s := ((upto 192).filter s.standEnabled).foldl (fun s n => s.adjustRail n) s
    let s := (s.setOb Obj.ownPace pace).modPower (fun p => { p with
      paceSum := 0, paceCount := 0
      paceSince := if pace = 0 then none else some (p.paceSince.getD s.now)
      idleSince := if pace = 0 then some (p.idleSince.getD s.now) else none })
    .next ((upto 16).foldl (fun s slot => if (s.jobOf slot).isSome then
      s.modJob slot (fun j => { j with maxPace := max j.maxPace pace }) else s) s)

/-! ## Lending (R338 to R344) -/

/-- May the module lend or borrow (R341)? -/
def State.mayLend (s : State) : Bool := s.shed == 0 && !s.pwrbrk && !s.steady && decide (1100 ≤ s.ob Obj.powerCap)

/-- May it borrow (R339)? -/
def State.mayBorrow (s : State) : Bool := s.ob Obj.lendEnable == 1 && s.mayLend

/-- Bytes of a loan message (Table 10-3). -/
def loanBytes (type : Nat) (m : LoanMsg) : List Byte :=
  bytesOf (pack [(120, 8, type), (104, 16, m.lender), (88, 16, m.borrower), (32, 32, m.seq), (0, 32, m.watts)]) 16

/-- A loan message goes to a peer, numbered for its lender and borrower. -/
def State.sendLoan (s : State) (peer type lender borrower watts : Nat) : State :=
  let pair := lender * 65536 + borrower
  let seq := kget s.power.seqs 0 pair
  let s := s.modPower (fun p => { p with seqs := kset p.seqs pair ((seq + 1) % 2 ^ 32) })
  let m : LoanMsg := { lender := lender, borrower := borrower, seq := seq, watts := watts }
  s.peerWrite peer 0 0x2050 1 (loanBytes type m) (some (.loan type m))

/-- Tokens of one loan change, newest last; a loan of 0 W is over. -/
def changeLoan (l : List Loan) (peer : Nat) (seq : Nat) (f : Nat → Nat) : List Loan :=
  (if l.any (fun x => x.peer == peer) then l.map (fun x => if x.peer == peer then { x with watts := f x.watts, seq := seq } else x)
   else l ++ [⟨peer, f 0, seq⟩]).filter (fun x => x.watts != 0)

/-- More tokens lent to or borrowed from a peer: its loan is the newest (R340; DEDUCED, log entry 19). -/
def renewLoan (l : List Loan) (peer seq watts : Nat) : List Loan :=
  l.filter (fun x => x.peer != peer) ++ [⟨peer, ((l.filter (fun x => x.peer == peer)).map (·.watts)).sum + watts, seq⟩]

/-- Every borrowed token goes back at once (R341). -/
def State.returnAll (s : State) : State :=
  let l := s.power.borrowed
  let s := s.modPower (fun p => { p with borrowed := [], shortfall := 0, asked := [] })
  l.foldl (fun s (x : Loan) => s.sendLoan x.peer 4 x.peer s.me x.watts) s

/-- The next peer in ascending order is asked for what is still short; with none left, or LEND_ENABLE 0, the round is over
(R339). -/
def State.askLoan (s : State) : State :=
  let peers := s.liveGrove.filter (fun e => e != s.me && !s.power.asked.contains e)
  if s.power.shortfall = 0 || !s.mayBorrow then s.modPower (fun p => { p with shortfall := 0, asked := [] })
  else match peers with
    | [] => s.modPower (fun p => { p with shortfall := 0, asked := [] })
    | e :: t =>
      let peer := t.foldl min e
      (s.modPower (fun p => { p with asked := p.asked ++ [peer] })).sendLoan peer 1 peer s.me s.power.shortfall

/-- Modelled shortfall, W, rounded up to 50 W: the power the stands would draw with w = 0 beyond the budget (R339). -/
def State.shortfall (s : State) : Nat :=
  let run := (upto 192).filter (fun n => s.standEnabled n && (s.runningOn n).isSome)
  let more := run.foldl (fun x n => x + (s.stand n).power * (s.stand n).w / (256 - (s.stand n).w)) 0
  ceilDiv (ceilDiv (s.power.powerMw + more - s.budget) 1000) 50 * 50

/-- BORROW_TRIGGER (R339, R341). -/
def execBorrowTrigger (s : State) : Host.Outcome State Fault Refusal :=
  let due := match s.power.paceSince with
    | some t => decide (t + 10000000 ≤ s.now)
    | none => false
  if due && s.mayBorrow && s.budget == s.capInForce * 1000 && s.power.shortfall == 0 then
    let w := s.shortfall
    .next ((s.modPower (fun p => { p with shortfall := w, asked := [] })).askLoan)
  else .next s

/-- LOAN_RETURN_TRIGGER (R340): 50 W of the newest loan go back. -/
def execLoanReturnTrigger (s : State) : Host.Outcome State Fault Refusal :=
  let idle := match s.power.idleSince with
    | some t => decide (t + 1000000000 ≤ s.now)
    | none => false
  match s.power.borrowed.getLast? with
  | none => .next s
  | some l =>
    if idle && decide (s.mean100 + 100 ≤ s.capInForce) then
      let w := min 50 l.watts
      .next ((s.modPower (fun p => { p with borrowed := changeLoan p.borrowed l.peer l.seq (· - w) })).sendLoan l.peer 4 l.peer s.me w)
    else .next s

/-- LOAN_RECALL_TRIGGER (R340): the newest loan is recalled. -/
def execLoanRecallTrigger (s : State) : Host.Outcome State Fault Refusal :=
  match s.power.lent.getLast? with
  | none => .next s
  | some l => if s.capInForce ≤ s.mean100 + 50 then .next (s.sendLoan l.peer 5 s.me l.peer l.watts) else .next s

/-- LOAN_AUDIT_TIMER (R343), each second while a loan stands. -/
def execLoanAuditTimer (s : State) : Host.Outcome State Fault Refusal :=
  if s.power.lent.isEmpty || !s.due 6 1000000000 then .next s
  else .next (s.power.lent.foldl (fun s (l : Loan) => s.sendLoan l.peer 6 s.me l.peer l.watts) (s.ticked 6))

/-- Loans with a lost peer settle: tokens lent return, tokens borrowed are dropped (R344); one that was asked for tokens will not
answer, and the next is asked (R339). -/
def State.settleLoans (s : State) (peer : Nat) : State :=
  let s := s.modPower (fun p => { p with
    lent := p.lent.filter (fun l => l.peer != peer), borrowed := p.borrowed.filter (fun l => l.peer != peer) })
  if s.power.asked.getLast? == some peer then s.askLoan else s

/-- PEER_LOST (R238, R258, R313, R339, R344): nothing has arrived from a grove peer for 1 s. One that had not said it was ready
for a switch is not (R257; DEDUCED, log entry 98). -/
def execPeerLost (peer : Nat) (s : State) : Host.Outcome State Fault Refusal :=
  match kget? s.fab.peers peer with
  | none => .next s
  | some p =>
    if p.lost || peer == s.me || !s.inGrove peer || decide (s.now < p.heardAt + 1000000000) then .next s
    else .next (((((s.losePeer peer p).settleLoans peer).abandonFor peer).runRestores).queriesAnswered)

/-- A loan message arrives from a peer (R339 to R343); one that does not name this module and its sender is refused. -/
def State.loanArrives (s : State) (src type : Nat) (m : LoanMsg) : State × Reply :=
  let asLender := m.lender == s.me && m.borrower == src
  let asBorrower := m.borrower == s.me && m.lender == src
  if type == 1 && asLender then
    let lent := ((s.power.lent.filter (fun (l : Loan) => l.peer == src)).map (fun (l : Loan) => l.watts)).sum
    let give := if s.mayLend then
        min (min m.watts (s.capInForce - s.mean100 - 200)) (min (s.ob Obj.lendMax - lent) (s.userCap - 1100)) / 50 * 50
      else 0
    if give = 0 then (s.sendLoan src 3 s.me src 0, .ok)
    else
      let s := if s.power.lent.isEmpty then s.ticked 6 else s
      ((s.modPower (fun p => { p with lent := renewLoan p.lent src m.seq give })).sendLoan src 2 s.me src give, .ok)
  else if type == 2 && asBorrower then
    let s := s.modPower (fun p => { p with
      borrowed := renewLoan p.borrowed src m.seq m.watts, shortfall := p.shortfall - m.watts })
    (if s.mayLend then s.askLoan else s.returnAll, .ok)
  else if type == 3 && asBorrower then (s.askLoan, .ok)
  else if type == 4 && asLender then
    (s.modPower (fun p => { p with lent := if p.lent.any (fun (l : Loan) => l.peer == src) then changeLoan p.lent src m.seq (· - m.watts) else p.lent }), .ok)
  else if type == 5 && asBorrower then
    let held := ((s.power.borrowed.filter (fun (l : Loan) => l.peer == src)).map (fun (l : Loan) => l.watts)).sum
    let w := min held m.watts
    if w = 0 then (s, .ok)
    else ((s.modPower (fun p => { p with borrowed := changeLoan p.borrowed src m.seq (· - w) })).sendLoan src 4 src s.me w, .ok)
  else if type == 6 && asBorrower then
    let held := ((s.power.borrowed.filter (fun (l : Loan) => l.peer == src)).map (fun (l : Loan) => l.watts)).sum
    if held == m.watts then (s, .ok)
    else
      let s := s.modPower (fun p => { p with borrowed := changeLoan p.borrowed src m.seq (fun _ => m.watts) })
      ((s.setBit Obj.powerStatus 8 true).bump Obj.loanMismatches, .ok)
  else (s, .invalid)

/-- A write of the 16 bytes of `0x2050:01 LOAN`. -/
def State.loanWritten (s : State) (src value : Nat) : State × Reply :=
  if fld value 64 24 != 0 then (s, .invalid)
  else s.loanArrives src (fld value 120 8) { lender := fld value 104 16, borrower := fld value 88 16, seq := fld value 32 32, watts := fld value 0 32 }

/-- PEER_DICTIONARY_RESPONSE (R306, R312, R313, R342): the answer to a fold check, a twin slot or a loan message of this
module. -/
def execPeerDictionaryResponse (src tag status : Nat) (s : State) : Host.Outcome State Fault Refusal :=
  match s.badDict src tag, s.fab.asks.find? (fun x => x.1 == src && x.2.1 == tag) with
  | some p, _ => .next (s.dropDict p)
  | none, none => .next s
  | none, some (_, _, what) =>
    let s := match s.dictPacket src tag with
      | some p => ((s.unbuffer p).heard src).seePace p
      | none => s.heard src
    let s := { s with fab := { s.fab with asks := s.fab.asks.filter (fun x => !(x.1 == src && x.2.1 == tag)) } }
    let answered (slot : Nat) : State :=
      match (s.job slot).gen with
      | none => s
      | some g =>
        if g.abandoned || !g.awaiting.contains (src, tag) then s
        else if status != 0 then s.abandonGen slot
        else
          let left := g.awaiting.filter (· != (src, tag))
          let cost := if left.isEmpty && g.slots.isEmpty then (s.now - g.copiedAt) / 1000000 else g.cost
          s.modJob slot (fun j => { j with gen := some { g with awaiting := left, cost := cost } })
    match what with
    | .fold slot => .next (answered slot)
    | .twin slot => .next (answered slot)
    | .loan type _ => .next (if status != 0 && type == 1 then s.askLoan else s)

/-! ## Writes that move the cap -/

/-- A write of POWER_CAP (R325, R328, R341). -/
def State.setPowerCap (s : State) (watts : Nat) : State × Reply :=
  if 3400 < watts then (s, .invalid)
  else
    let s := s.setOb Obj.powerCap watts
    if watts < 1100 then
      ((((s.setBit Obj.powerStatus 0 true).raise .capUnattainable).log { errRec 0x0502 with detail0 := watts }).returnAll, .ok)
    else ((s.setBit Obj.powerStatus 0 false).calm .capUnattainable, .ok)

/-- The commit of `0x2004:FF` (R341, R345, R347, R414). -/
def State.commitSteady (s : State) (on setpoint ramp : Nat) : State × Reply :=
  if on == 1 && !s.cap 2 then (s, .invalid (some 1))
  else if setpoint < 1100 || decide (s.capNoSteady < setpoint) then (s, .invalid (some 2))
  else if ramp < 50 || 1000 < ramp then (s, .invalid (some 3))
  else
    let fresh := !s.steady
    let s := ((s.setOb Obj.steadyEnable on).setOb Obj.steadySetpoint setpoint).setOb Obj.rampLimit ramp
    if on == 1 then
      let s := if fresh then s.modPower (fun p => { p with rampUw := p.powerMw * 1000 }) else s
      (s.returnAll, .ok)
    else ((s.modPower (fun p => { p with ballastMw := 0, rampMissed := false })).setBit Obj.powerStatus 6 false, .ok)

/-! ## Heat (R350 to R352) -/

/-- A limiter's next limit, mW: down while at or above its threshold, up while below it by the margin, gone once it no
longer binds. -/
def limiter (now : Option Nat) (cap : Nat) (hot cool : Bool) (down up : Nat) : Option Nat :=
  if hot then some (max 1100000 (now.getD cap - down))
  else match now with
    | none => none
    | some x => if cool then (if cap ≤ x + up then none else some (x + up)) else some x

/-- A Tj reading and ALERT_N (R350). -/
def State.readTj (s : State) (tj : Int) : State :=
  let s := s.setOb Obj.tjMax (ofInt32 tj)
  if 1100 ≤ tj then s.raise .tj else s.calm .tj

/-- THERMAL_LIMITER_TICK (R329, R350, R351), each millisecond. -/
def execThermalLimiterTick (tj : Int) (s : State) : Host.Outcome State Fault Refusal :=
  if !s.edge.powered || !s.due 3 1000000 then .next s
  else
    let s := (s.ticked 3).readTj tj
    let at_ := toInt32 (s.ob Obj.throttleTj)
    let x := limiter s.power.thermal (s.capInForce * 1000) (decide (at_ ≤ tj)) (decide (tj < at_ - 20)) 50000 10000
    let s := if s.power.thermal.isNone && x.isSome then s.log (errRec 0x0503) else s
    let s := if x.isSome then s.bump Obj.thermalTime else s
    .next ((s.modPower (fun p => { p with thermal := x })).setBit Obj.powerStatus 2 x.isSome)

/-- FLOW_ESTIMATE: reported above 1,500 W only (R352). -/
def State.estimateFlow (s : State) : State :=
  s.setOb 0x201005 (if s.ob Obj.modulePower ≤ 1500 then 0 else
    Config.flowEstimate (s.ob Obj.modulePower) (toInt32 (s.ob Obj.inletTemp)) (toInt32 (s.ob Obj.outletTemp)) (s.ob 0x201004) % 65536)

/-- OUTLET_LIMITER_TICK (R329, R350, R351), every 100 ms. -/
def execOutletLimiterTick (outlet : Int) (s : State) : Host.Outcome State Fault Refusal :=
  if !s.edge.powered || !s.due 4 100000000 then .next s
  else
    let s := ((s.ticked 4).setOb Obj.outletTemp (ofInt32 outlet)).estimateFlow
    let at_ := toInt32 (s.ob Obj.outletLimit)
    let x := limiter s.power.outlet (s.capInForce * 1000) (decide (at_ ≤ outlet)) (decide (outlet < at_ - 20)) 20000 5000
    .next ((s.modPower (fun p => { p with outlet := x })).setBit Obj.powerStatus 5 x.isSome)

/-- TJ_ALERT (R350): 110 °C. -/
def execTjAlert (tj : Int) (s : State) : Host.Outcome State Fault Refusal :=
  if s.edge.powered then .next (s.readTj tj) else .next s

/-- INLET_OUT_OF_RANGE (R350): POWER_STATUS bit 7 and ALERT_N below 20 °C or above 65 °C. -/
def execInletOutOfRange (inlet : Int) (s : State) : Host.Outcome State Fault Refusal :=
  if !s.edge.powered then .next s
  else
    let s := (s.setOb Obj.inletTemp (ofInt32 inlet)).estimateFlow
    let out := decide (inlet < 200) || decide (650 < inlet)
    let s := s.setBit Obj.powerStatus 7 out
    .next (if out then s.raise .inlet else s.calm .inlet)

/-- STACK_TEMPERATURE_LIMIT (R350): one more 1/16 step from 95.0 °C on, none below 93.0 °C. -/
def execStackTemperatureLimit (stack : Nat) (temp : Int) (s : State) : Host.Outcome State Fault Refusal :=
  if !s.edge.powered || decide (32 ≤ stack) then .next s
  else if 950 ≤ temp then .next (s.modPower (fun p => { p with stackTemp := kset p.stackTemp stack (kget p.stackTemp 16 stack - 1) }))
  else if temp < 930 then .next (s.modPower (fun p => { p with stackTemp := kdel p.stackTemp stack }))
  else .next s

/-- THERMTRIP (R350, R352): at 125 °C the compute, understory logic and stack rails go off, and the module stays off. -/
def execThermtrip (tj : Int) (s : State) : Host.Outcome State Fault Refusal :=
  if !s.edge.powered || decide (tj < 1250) then .next s
  else
    let s := (s.readTj tj).halvesOff
    .next { s with
      mem := { s.mem with okBlocks := [], okWords := [], badWords := [] }
      edge := { s.edge with tripped := true, coldHalves := [0, 1] } }

/-! ## Supply (R353 to R358) -/

/-- Exit value of shed levels 1 to 4, mV (Table 10-7). -/
def shedExit (level : Nat) : Nat := 47000 - 2000 * level

/-- What entering one level does (Table 10-7, R341, R354). -/
def State.enterShed (s : State) (level : Nat) : State :=
  let s := (s.setOb Obj.shedLevel level).log { errRec 0x0501 with detail0 := level }
  let s := (s.bump (Obj.shedEntries (level - 1))).setBit Obj.powerStatus 4 true
  if level == 1 then s.returnAll
  else if level == 3 then
    (s.chan.tasks.filter (fun t => t.phase == .running || t.phase == .held || t.phase == .preempted)).foldl
      (fun s t => s.abort t Status.supplyShed) s
  else if level == 4 then
    let s := (upto 9).foldl (fun s n =>
      ((if s.portUp n then s.leaveUp n else s).enterPort n 0 0).modPort n (fun p => { p with heldByReset := true })) s
    (s.setOb (Obj.halfState 0) 0).setOb (Obj.halfState 1) 0
  else if level == 5 then s.orderlyOff
  else s

/-- The shed level a voltage calls for. -/
def shedTarget (mv holdUp : Nat) : Nat :=
  if mv < 36000 ∨ holdUp < 30000 then 5
  else if mv < 38000 then 4 else if mv < 40000 then 3 else if mv < 42000 then 2 else if mv < 44000 then 1 else 0

/-- SUPPLY_SAMPLE (R352 to R354, R357, R358). -/
def execSupplySample (mv holdUpMv : Nat) (s : State) : Host.Outcome State Fault Refusal :=
  if !s.due 5 10000 then .next s else
  let s := s.ticked 5
  let samples := (mv :: s.power.samples).take 5
  let avg := samples.sum / samples.length
  let s := s.modPower (fun p => { p with
    samples := samples
    onSince := if 44000 ≤ avg then some (p.onSince.getD s.now) else none
    exitSince := (List.range' 1 4).foldl (fun m l => if shedExit l ≤ avg then kset m l (kget m s.now l) else kdel m l) p.exitSince })
  let s := if avg < 36000 then { s with edge := { s.edge with tripped := false } } else s
  if !s.edge.powered then .next s
  else
    let s := s.setOb Obj.inputVoltage avg
    let s := if 60000 < avg then (s.setBit Obj.powerStatus 10 true).raise .overVoltage
      else (s.setBit Obj.powerStatus 10 false).calm .overVoltage
    if 63000 < avg then .next s.orderlyOff
    else
      let now := s.shed
      .next (((List.range' 1 5).filter (fun l => decide (now < l) && decide (l ≤ shedTarget avg holdUpMv))).foldl
        (fun s l => s.enterShed l) s)

/-- SHED_LEVEL_EXIT (R354, R356): the present level is left after 100 ms at or above its exit value. -/
def execShedLevelExit (s : State) : Host.Outcome State Fault Refusal :=
  let level := s.shed
  let due := match kget? s.power.exitSince level with
    | some t => decide (t + 100000000 ≤ s.now)
    | none => false
  if !s.edge.powered || level == 0 || !due then .next s
  else
    let s := s.setOb Obj.shedLevel (level - 1)
    let s := if level == 4 then s.moduleReset else if level == 3 then s.flushCommits else s
    .next (if level == 1 then s.setBit Obj.powerStatus 4 false else s)

/-! ## Ageing (R359 to R363) -/

/-- Insert into an ascending list. -/
def insertAsc (x : Nat) : List Nat → List Nat
  | [] => [x]
  | y :: t => if x ≤ y then x :: y :: t else y :: insertAsc x t

/-- Median; of an even count, the mean of the middle two. -/
def median (l : List Nat) : Nat :=
  let a := l.foldr insertAsc []
  if a.length % 2 = 1 then a.getD (a.length / 2) 0 else (a.getD (a.length / 2 - 1) 0 + a.getD (a.length / 2) 0) / 2

/-- The factory counts of a stand's eight sentinels at its rail and a Tj (R359). -/
def State.factoryCounts (s : State) (n : Nat) (tj : Int) : List Nat := (upto 8).map (fun i => Config.sentinelGrid n i (s.stand n).rail tj)

/-- Slowdown of the slowest sentinel, 0.01 % (R359). -/
def slowest (counts factory : List Nat) : Nat :=
  ((counts.zip factory).map (fun (c, f) => if f = 0 then 0 else (f - c) * 10000 / f)).foldl max 0

/-- SENTINEL_MEASURE (R359): on an idle stand, or in a gap that is due. -/
def execSentinelMeasure (stand : Nat) (counts : List Nat) (tj : Int) (s : State) : Host.Outcome State Fault Refusal :=
  if !s.edge.powered || !s.standEnabled stand || !(s.standIdle stand || (s.stand stand).gapDue) then .next s
  else
    let m := slowest counts (s.factoryCounts stand tj)
    let s := s.modStand stand (fun x => { x with
      samples := (m :: x.samples).take 16, fitData := x.fitData ++ [(s.hours, m)], measuredAt := s.now, gapDue := false })
    .next (s.setOb (Obj.slowdown stand) (min 65535 (median (s.stand stand).samples)))

/-- SENTINEL_GAP (R360): a stand not measured for an hour gets a gap at its next instruction boundary. -/
def execSentinelGap (stand : Nat) (s : State) : Host.Outcome State Fault Refusal :=
  if s.edge.powered && s.standEnabled stand && decide ((s.stand stand).measuredAt + 3600000000000 ≤ s.now) then
    .next (s.modStand stand (fun x => { x with gapDue := true }))
  else .next s

/-- The offset a slowdown requires, mV (R361). -/
def offsetFor (slow : Nat) : Nat := if slow ≤ 300 then 0 else ceilDiv (slow - 300) 125 * 5

/-- The fourth root of n, rounded down. -/
def root4 (n : Nat) : Nat := isqrt (isqrt n)

/-- The a of s = a × h^0.25 through one measurement, in 10⁻¹⁰ %, rounded down. -/
def fitThrough (x : Nat × Nat) : Nat := root4 ((x.2 * 10 ^ 8) ^ 4 / x.1)

/-- The fitted a in 10⁻¹⁰ % (R362): between the least and the greatest that single measurements give; which of these is a free
value, log entry 105. -/
def fitA (data : List (Nat × Nat)) : Nat :=
  match (data.filter (fun x => x.1 != 0)).map fitThrough with
  | [] => 0
  | x :: t => max (t.foldl min x) (min (t.foldl max x) (Config.ageFit data))

/-- Hours until the fit reaches the slowdown of the offset limit (R362); all ones without enough measurements. -/
def lifeHours (data : List (Nat × Nat)) (limit hours : Nat) : Nat :=
  let a := fitA data
  if data.length < Config.fitMin ∨ a = 0 then 0xFFFFFFFF
  else min 0xFFFFFFFE (((300 + limit / 5 * 125) * 10 ^ 8) ^ 4 / a ^ 4 - hours)

/-- One stand's re-plan (R361, R362): its offset never falls; beyond the limit it is fenced. -/
def State.replanStand (s : State) (n : Nat) : State :=
  if s.fenced n then s
  else
    let old := s.ob (Obj.voltageOffset n)
    let need := max old (offsetFor (s.ob (Obj.slowdown n)))
    let s := s.setOb (Obj.lifeRemaining n) (lifeHours (s.stand n).fitData (s.ob Obj.offsetLimit) s.hours)
    if s.ob Obj.offsetLimit < need then s.fenceDecide n 0 0 5
    else if need == old then s
    else (s.setOb (Obj.voltageOffset n) need).logStand n { errRec 0x0504 with detail0 := need }

/-- A stand's ageing record (Table 10-8). -/
def AgeRec.toNat (r : AgeRec) : Nat :=
  pack [(112, 16, r.slowdown), (108, 4, r.offsetSteps), (72, 32, r.lifeHours), (48, 24, r.fitA), (16, 32, r.replanHours)]

/-- The area to be written next: the older one, or one that is absent. -/
def olderIsA {α : Type} (a b : FlashArea α) : Bool :=
  match a.seq, b.seq with
  | none, _ => true
  | some _, none => false
  | some x, some y => decide (x < y)

/-- SEQUENCE of the next write. -/
def nextSeq {α : Type} (a b : FlashArea α) : Nat := max ((a.seq.map (· + 1)).getD 0) ((b.seq.map (· + 1)).getD 0)

/-- Bytes of the 192 ageing records. -/
def ageBytes (m : KMap AgeRec) : List Byte := (upto 192).flatMap (fun n => bytesOf (kget m {} n).toNat 16)

/-- The ageing area is written (R363). -/
def State.writeAges (s : State) : State :=
  let recs : KMap AgeRec := (upto 192).map (fun n => (n, {
    slowdown := s.ob (Obj.slowdown n), offsetSteps := s.ob (Obj.voltageOffset n) / 5, lifeHours := s.ob (Obj.lifeRemaining n)
    fitA := (fitA (s.stand n).fitData + 500000) / 1000000 % 2 ^ 24, replanHours := s.power.replanAt }))
  let area : FlashArea (KMap AgeRec) := {
    seq := some (nextSeq s.power.ageA s.power.ageB), hours := s.hours, check := crc32c (ageBytes recs), rest := 0, data := recs }
  s.modPower (fun p => if olderIsA p.ageA p.ageB then { p with ages := recs, ageA := area } else { p with ages := recs, ageB := area })

/-- The margin re-plan (R361 to R363). -/
def State.replan (s : State) : State :=
  let s := (upto 192).foldl (fun s n => s.replanStand n) s
  (s.modPower (fun p => { p with replanAt := s.hours })).writeAges

/-- MARGIN_REPLAN (R361): every REPLAN_INTERVAL operating hours. -/
def execMarginReplan (s : State) : Host.Outcome State Fault Refusal :=
  if s.edge.powered && decide (s.power.replanAt + s.ob Obj.replanInterval ≤ s.hours) then .next s.replan else .next s

end Sys2Proof.Machine
end

