-- ==== Sys2Proof/Machine/Dict.lean ====
section
/-! DEFINITION. The Glade dictionary (chapter 11): checks of a request (R373), the values READ shows, the writes of each
object, staging and commits (R382 to R386), persistence (R387 to R389), and the one function that executes a request. -/

namespace Sys2Proof.Machine

/-! ## Objects and checks (R373 to R378, R437) -/

/-- The object at an index and subindex of this module, subindices 0x00 and 0xFF included (R376, R392, R414). -/
def State.target (s : State) (index sub : Nat) : Option ObjRow :=
  let rows := if (index == 0x9020 || index == 0x9021) && !s.cap 4 then [] else rowsAt index
  if rows.isEmpty then none
  else if sub = 0 then some { index := index, lo := 0, hi := 0, type := .u8, acc := .ro }
  else if sub = 0xFF then
    if rows.any (fun r => r.acc == .rwc) then some { index := index, lo := 0xFF, hi := 0xFF, type := .u8, acc := .rw } else none
  else rows.find? (fun r => decide (r.lo ≤ sub) && decide (sub ≤ r.hi))

/-- Check 1 of R373 that needs no object. -/
def badHeader (m : DictMsg) : Bool :=
  m.version != 1 || m.op == 0 || decide (4 < m.op) || m.resp || m.reserved || decide (1024 < m.length) ||
  (if m.op == 2 then m.data.length != m.length else !m.data.isEmpty || m.final) ||
  (m.op == 4 && (m.length != 0 || m.offset != 0))

/-- Check 1 of R373 against the object's type (R377, R437). -/
def fits (r : ObjRow) (m : DictMsg) : Bool :=
  match r.type with
  | .table entry _ =>
    if m.op == 2 then m.offset % entry == 0 && m.length % entry == 0
    else m.op == 4 || (decide (entry ≤ m.length) && m.length % entry == 0)
  | t =>
    !m.final && m.offset == 0 && (m.op == 4 || m.length == t.size || (m.op != 2 && m.length == 0))

/-- Rights in force for a role at an index under Table 11-6 and the masks (R378, R379). -/
def rightRead (r : Role) (row : ObjRow) : Bool := tableRead r row.index
def State.rightWrite (s : State) (r : Role) (row : ObjRow) : Bool := mayWrite s r { row with acc := .rw }

/-- Is the request forbidden (R373 check 3, R375, R392)? -/
def State.denied (s : State) (role : Role) (row : ObjRow) (op : Nat) : Bool :=
  (row.index == 0xF001 && s.ob Obj.diagEnable == 0) ||
  (if op == 2 then !mayWrite s role row
   else if op == 4 then !(rightRead role row || s.rightWrite role row)
   else !mayRead role row)

/-! ## Values -/

/-- Are THERMTRIP_N, FAULT_N and ALERT_N asserted (R352, R396)? -/
def State.alertN (s : State) : Bool := !s.edge.alerts.isEmpty
def State.faultNow (s : State) : Bool := !s.edge.faults.isEmpty || s.edge.tripped

/-- TIMEOUTS, µs (Table 12-11). -/
def State.timeouts (s : State) : List Nat :=
  [10, 16, 50, s.ob Obj.taskWatchdog * 1000, 250000, 500000, 1000000, 2000000, s.ob Obj.clearingTimeout * 1000000]

/-- The effective value of an object of fixed size; those the module computes are computed here. -/
def State.value (s : State) (index sub : Nat) : Nat :=
  match index with
  | 0x1000 => if sub == 3 then strNat (if s.edge.variantU then "SGN-IB9-2304-U" else "SGN-IB9-2304")
      else if sub == 6 then (if s.edge.variantU then 2 else 0) else s.ob (okey index sub)
  | 0x1001 => if sub == 1 then s.edge.fuses0.stepping else if sub == 2 then s.edge.fuses1.stepping
      else if sub == 3 then s.enabledCount else if sub == 4 then s.caps else s.ob (okey index sub)
  | 0x1F00 => if sub == 3 then bit s.dict.pendingSince.isSome else s.ob (okey index sub)
  | 0x1F20 => if sub == 1 then s.ob 0x900001 + 1 else s.ob (okey index sub)
  | 0x2001 => if sub == 2 then s.capInForce else s.ob (okey index sub)
  | 0x2003 => if sub == 3 then s.lentSum else if sub == 4 then s.borrowedSum else s.ob (okey index sub)
  | 0x4011 => if sub == 2 then s.chan.chans.length else if sub == 3 then s.residentCount else s.ob (okey index sub)
  | 0x5012 => if sub == 4 then s.drainCount else s.ob (okey index sub)
  | 0x6010 => s.width (sub - 1)
  | 0x7002 => s.nextGen (sub - 1)
  | 0x7005 => if sub == 1 then s.failures30 else s.ob (okey index sub)
  | 0x8004 => if sub == 3 then s.hours else s.ob (okey index sub)
  | 0x9000 => if sub == 2 then
        bit (s.edge.perst.level == 0) + 2 * bit s.pwrbrk + 4 * bit s.alertN + 8 * bit s.edge.tripped + 16 * bit s.faultNow +
        32 * bit s.edge.ready
      else s.ob (okey index sub)
  | 0x9004 => bit (!s.edge.unlocked.any (fun c =>
      if sub == 1 then c == 0 else if sub == 3 then c == 2 || c == 3 else c == 1 || decide (10 ≤ c)))
  | 0x9010 => s.timeouts.getD (sub - 1) 0
  | 0xA134 => s.mem.groups.length
  | 0xA161 => s.peerPace (sub - 1)
  | _ => s.shown (okey index sub)

/-- Entries of a table as bytes. -/
def tableBytes (entry : Nat) (l : List Nat) : List Byte := l.flatMap (fun e => bytesOf e entry)

/-- The version of the endpoint and plot tables last committed (R254, R257). -/
def State.tableVersion (s : State) : Nat := if s.fab.ready then 1 - s.epoch else s.epoch

/-- The effective value of a TABLE object. -/
def State.tableOf (s : State) (index sub : Nat) : List Byte :=
  match index with
  | 0x5010 => tableBytes 16 ((s.ept s.tableVersion).map (fun (x : Nat × EpEntry) => x.2.toNat))
  | 0x5011 => tableBytes 2 (s.plotTable s.tableVersion (sub - 1))
  | 0x6041 => tableBytes 16 ((kget s.fire.replicas [] (sub - 1)).map (fun (e : Replica) => e.toNat))
  | 0x6050 => tableBytes 64 ((kget s.fire.queues {} moduleUnit).records.map (·.toNat))
  | 0x6060 => s.fire.cpers.flatMap Cper.bytes
  | 0x6100 => tableBytes 32 (s.mem.regions.map (·.toNat))
  | 0x6120 => tableBytes 32 (s.mem.badBlocks.map (·.toNat))
  | 0x7010 => tableBytes 32 ((s.bankSets (sub - 1)).map (fun (e : BankSet) => e.toNat))
  | 0x7011 => tableBytes 16 ((kget s.bank.folds [] (sub - 1)).map (fun (e : FoldEntry) => e.toNat))
  | _ => []

/-! ## Staging (R382 to R386) -/

/-- What a role has staged at an index. -/
def State.stagedAt (s : State) (role : Role) (index : Nat) : Option Staged :=
  s.dict.staged.find? (fun x => x.role == role && x.index == index)

/-- The staged values of a role at an index are discarded. -/
def State.discard (s : State) (role : Role) (index : Nat) : State :=
  { s with dict := { s.dict with staged := s.dict.staged.filter (fun x => !(x.role == role && x.index == index)) } }

/-- A staged table's bytes: those below its length, never-written ones 0 (R386); while no length is fixed, up to the last
byte written. -/
def stagedTable (t : KMap Byte × Option Nat) : List Byte :=
  let n := t.2.getD ((t.1.map (fun x => x.1 + 1)).foldl max 0)
  (upto n).map (fun i => kget t.1 0 i)

/-- The staged value of a role, or the effective one (R382). -/
def State.stagedValue (s : State) (role : Role) (index sub : Nat) : Nat :=
  (((s.stagedAt role index).bind (fun x => kget? x.values sub))).getD (s.value index sub)

/-- The table a commit takes; none while it is staged without a FINAL write (R386). -/
def State.stagedEntries (s : State) (role : Role) (index sub entry : Nat) : Option (List Nat) :=
  match (s.stagedAt role index).bind (fun x => kget? x.tables sub) with
  | some t => if t.2.isNone then none else some ((chunks entry (stagedTable t).length (stagedTable t)).map ofBytes)
  | none => let b := s.tableOf index sub
      some ((chunks entry b.length b).map ofBytes)

/-- Change what a role has staged at an index. -/
def State.modStaged (s : State) (role : Role) (index : Nat) (f : Staged → Staged) : State :=
  let x := f ((s.stagedAt role index).getD { role := role, index := index })
  let s := s.discard role index
  { s with dict := { s.dict with staged := s.dict.staged ++ [{ x with at_ := s.now }] } }

/-- A role has written to an index: what it has staged there is kept for another STAGE_TIMEOUT (R385). -/
def State.touchStaged (s : State) (role : Role) (index : Nat) : State :=
  if !(rowsAt index).any (fun r => r.acc == .rwc) then s
  else { s with dict := { s.dict with staged := s.dict.staged.map (fun x =>
    if x.role == role && x.index == index then { x with at_ := s.now } else x) } }

/-- A fault of encoding (Table 11-5). -/
def encodingFault (r : ObjRow) (v : Nat) : Bool :=
  match r.type with
  | .bool => decide (1 < v)
  | .enum8 => decide (v < r.min) || decide (r.max < v)
  | .bits32 => v &&& (r.max ^^^ (2 ^ 64 - 1)) != 0
  | _ => false

/-- A value outside its range. -/
def rangeFault (r : ObjRow) (v : Nat) : Bool :=
  match r.type with
  | .bits32 | .octets _ | .string _ => false
  | _ => decide (v < r.min) || decide (r.max < v)

/-- A WRITE to an RWC object stages it (R382, R386). -/
def State.stage (s : State) (role : Role) (r : ObjRow) (m : DictMsg) : State × Reply :=
  match r.type with
  | .table entry count =>
    if entry * count < m.offset + m.length then (s, .invalid)
    else
      (s.modStaged role m.index (fun x =>
        let t := (kget? x.tables m.sub).getD ([], none)
        let bytes := ((upto m.data.length).zip m.data).foldl (fun b (i, v) => kset b (m.offset + i) v) t.1
        { x with tables := kset x.tables m.sub (bytes, if m.final then some (m.offset + m.length) else t.2) }), .ok)
  | _ =>
    let v := ofBytes m.data
    if encodingFault r v then (s, .invalid)
    else (s.modStaged role m.index (fun x => { x with values := kset x.values m.sub v }), .ok)

/-! ## Commits (R383, R384) -/

/-- Scalar RWC rows of an index. -/
def rwcRows (index : Nat) : List (ObjRow × Nat) :=
  ((rowsAt index).filter (fun r => r.acc == .rwc && r.type.size != 0)).flatMap (fun r => (List.range' r.lo (r.hi + 1 - r.lo)).map (fun k => (r, k)))

/-- The lowest subindex whose value a commit would take is out of range. -/
def State.rangeFailure (s : State) (role : Role) (index : Nat) : Option Nat :=
  ((rwcRows index).find? (fun x => rangeFault x.1 (s.stagedValue role index x.2))).map (·.2)

/-- The values of a commit become effective together. -/
def State.takeValues (s : State) (role : Role) (index : Nat) : State :=
  (rwcRows index).foldl (fun t x => t.setOb (okey index x.2) (s.stagedValue role index x.2)) s

/-- Is a ring in stack or understory regions of a job (R151)? -/
def State.ringInJob (s : State) (job a n : Nat) : Bool :=
  (bandsOf a n).all (fun b =>
    let x := max a (b * 65536)
    (match placeOf x with
      | .stack | .under _ => true
      | _ => false) && ((s.regionAt x).map (fun r => r.job == job)).getD false)

/-- A power of two from 64 to 65,536. -/
def ringSize (n : Nat) : Bool := (List.range' 6 11).any (fun k => n == 2 ^ k)

/-- The lowest subindex of `0x4010` that fails a check of R151. -/
def State.channelFailure (s : State) (v : Nat → Nat) : Option Nat :=
  let inJob (loc base n : Nat) : Bool := v loc == 1 || s.ringInJob (v 1) (v base) n
  if (s.slotOf (v 1)).isNone then some 1
  else if v 2 % 128 != 0 || !inJob 3 2 (v 4 * 128) then some 2
  else if !ringSize (v 4) then some 4
  else if v 5 % 64 != 0 || !inJob 6 5 (v 7 * 64) then some 5
  else if !ringSize (v 7) then some 7
  else if 2047 < v 8 ∧ v 8 ≠ 0xFFFF then some 8
  else none

/-- The handle that has been free longest (R153): one never used, else the one freed first. Those never used go out in
ascending order from 1 (DESIGN CHOICE, log entry 93). -/
def State.takeHandle (s : State) : Option (Nat × State) :=
  if s.chan.nextFresh ≤ 65535 then
    some (s.chan.nextFresh, { s with chan := { s.chan with nextFresh := s.chan.nextFresh + 1 } })
  else match s.chan.freed with
    | [] => none
    | h :: t => some (h, { s with chan := { s.chan with freed := t } })

/-- CHANNEL_CREATE: the commit of `0x4010:FF` (R150, R151, R153, R180). -/
def State.commitChannel (s : State) (role : Role) : State × Reply :=
  let v (k : Nat) : Nat := s.stagedValue role 0x4010 k
  match s.channelFailure v with
  | some k => (s, .invalid (some k))
  | none => match s.takeHandle with
    | none => (s, .busy)
    | some (h, t) =>
      let c : Chan := {
        uid := t.chan.nextUid, job := v 1, ringBase := v 2, ringHost := v 3 == 1, ringEntries := v 4
        cplBase := v 5, cplHost := v 6 == 1, cplEntries := v 7, msix := v 8
        resident := decide (t.residentCount < maxResident), residentSince := t.now, idleSince := t.now }
      let t := { t with chan := { t.chan with nextUid := t.chan.nextUid + 1 } }
      let t := ((t.setChan h c).setOb Obj.lastHandle h)
      let t := (rwcRows 0x4010).foldl (fun u x => u.setOb (okey 0x4010 x.2) (v x.2)) t
      let t := if c.resident then t else t.saveContext h
      (t, .ok (bytesOf h 2))

/-- The commit of `0x4015:FF` (R182). -/
def State.commitScratch (s : State) (role : Role) : State × Reply :=
  let v (k : Nat) : Nat := s.stagedValue role 0x4015 (k + 1)
  let tooWide := (upto 16).find? (fun k => decide (0xFFFF < v k) || decide (32 < fld (v k) 8 8 + fld (v k) 0 8))
  let clash := (upto 16).any (fun a => (upto a).any (fun b =>
    overlaps (fld (v a) 8 8) (fld (v a) 0 8) (fld (v b) 8 8) (fld (v b) 0 8) && fld (v a) 0 8 != 0 && fld (v b) 0 8 != 0))
  match tooWide with
  | some k => (s, .invalid (some (k + 1)))
  | none =>
    if clash then (s, .invalid (some 0))
    else if (upto 16).any (fun k => v k != s.ob (Obj.jobScratch k) &&
        s.chan.tasks.any (fun t => some t.job == s.jobOf k)) then (s, .busy)
    else (s.takeValues role 0x4015, .ok)

/-- PROFILE_COMMIT: the commit of `0x3100 + s:FF` (R202, R205): the slot's state objects take their defaults, and the first
generation step is again that of R308 (R319; DEDUCED, log entry 103). LAST_COMPLETE_GENERATION stays (DESIGN CHOICE, log entry 110). -/
def State.commitProfile (s : State) (role : Role) (slot : Nat) : State × Reply :=
  let index := 0x3100 + slot
  let v (k : Nat) : Nat := s.stagedValue role index k
  match s.rangeFailure role index with
  | some k => (s, .invalid (some k))
  | none =>
    if v 7 < v 9 ∨ v 10 < v 7 then (s, .invalid (some 0))
    else if (match s.jobOf slot with
      | some job => !(s.jobChans job).isEmpty
      | none => false) then (s, .busy)
    else
      let s := ((s.takeValues role index).abandonGen slot).clearOb (Obj.nextGenStep slot)
      let s := (List.range' 1 10).foldl (fun s k => s.setOb (okey (0x3200 + slot) k)
        (if k == 1 then v 5 else if k == 3 then 2 ^ 64 - 1 else if k == 4 then v 7 else 0)) s
      (s.modJob slot (fun j => { expelled := j.expelled, expelledEps := j.expelledEps, gen := j.gen, copySeq := j.copySeq, liveSent := j.liveSent,
                                 liveDone := j.liveDone, earlyChecks := j.earlyChecks }), .ok)

/-- The commit of `0x9020:FF` (R420). -/
def State.commitGuest (s : State) (role : Role) : State × Reply :=
  if s.chan.tasks.any (fun t => names t.desc 0x500000000000 0x2000000000) then (s, .busy)
  else (s.takeValues role 0x9020, .ok)

/-- The tables of the subindices of an index as a commit takes them; the lowest subindex that has no length. -/
def State.stagedTables (s : State) (role : Role) (index entry : Nat) : Except Nat (List (List Nat)) :=
  (upto 16).foldl (fun acc k => match acc, s.stagedEntries role index (k + 1) entry with
    | .error e, _ => .error e
    | .ok _, none => .error (k + 1)
    | .ok l, some t => .ok (l ++ [t])) (.ok [])

/-- The lowest of the sixteen tables of an index, by subindex, that has no length or whose contents fail (R374, R382). -/
def State.badTable (s : State) (role : Role) (index entry : Nat) (ok : Nat → List Nat → Bool) : Option Nat :=
  ((upto 16).find? (fun k => match s.stagedEntries role index (k + 1) entry with
    | none => true
    | some l => !ok k l)).map (· + 1)

/-- The commit of an index for a role (R383); the owner's checks and effects. `0x5011:FF` and `0x7011:FF` alone commit
nothing and are refused (their chapters name `0x5010:FF` and `0x7010:FF`). -/
def State.commitIndex (s : State) (v : Via) (index : Nat) : State × Reply :=
  let role := v.role
  if index == 0x2004 then s.commitSteady (s.stagedValue role index 1) (s.stagedValue role index 2) (s.stagedValue role index 3)
  else if index == 0x4010 then s.commitChannel role
  else if index == 0x4015 then s.commitScratch role
  else if 0x3100 ≤ index ∧ index ≤ 0x310F then s.commitProfile role (index - 0x3100)
  else if index == 0x5000 then
    match s.rangeFailure role index with
    | some k => (s, .invalid (some k))
    | none => s.commitEndpoint (s.stagedValue role index 1) (s.stagedValue role index 2)
  else if index == 0x5010 then
    match s.stagedEntries role 0x5010 1 16, s.stagedTables role 0x5011 2 with
    | none, _ => (s, .invalid (some 1))
    | _, .error _ => (s, .invalid (some 0))
    | some e, .ok p => s.commitTables (e.map (BitVec.ofNat 128)) p
  else if index == 0x6041 then
    match s.badTable role index 16 (fun slot l => (l.map (BitVec.ofNat 128)).all (s.replicaOk slot)), s.stagedTables role index 16 with
    | some k, _ => (s, .invalid (some k))
    | none, .error k => (s, .invalid (some k))
    | none, .ok t => s.commitReplicas (t.map (fun l => l.map (BitVec.ofNat 128)))
  else if index == 0x6100 then
    match s.stagedEntries role index 1 32 with
    | none => (s, .invalid (some 1))
    | some e => s.commitRegions (e.map (BitVec.ofNat 256))
  else if index == 0x7010 then
    match s.badTable role index 32 (fun slot l => s.bankTableOk slot (l.map (BitVec.ofNat 256))), s.stagedTables role index 32,
        s.stagedTables role 0x7011 16 with
    | some k, _, _ => (s, .invalid (some k))
    | none, .error k, _ => (s, .invalid (some k))
    | none, _, .error _ => (s, .invalid (some 0))
    | none, .ok a, .ok b => s.commitSets (a.map (fun l => l.map (BitVec.ofNat 256))) (b.map (fun l => l.map (BitVec.ofNat 128)))
  else if index == 0x9020 then s.commitGuest role
  else (s, .invalid (some 0))

/-- Further indices a commit covers (R254, R304). -/
def alsoCommits (index : Nat) : List Nat := if index == 0x5010 then [0x5011] else if index == 0x7010 then [0x7011] else []

/-- Persistent objects (Table 11-7). -/
def persistentKeys : List Nat :=
  [0x1F0001, 0x1F1001, 0x1F1002, 0x1F2002, 0x200101, 0x200201, 0x200301, 0x200302, 0x201004, 0x201006, 0x201007,
   0x500001, 0x500002, 0x500005, 0x500006] ++ (List.range' 0x500101 9) ++ (List.range' 0x500501 4) ++
  [0x502001, 0x502002, 0x503001, 0x503002, 0x600101, 0x600102, 0x600103] ++ (List.range' 0x600201 4) ++
  [0x603001, 0x603002] ++ (List.range' 0x611001 4) ++ (List.range' 0x700401 4) ++ [0x800401, 0x800405]

/-- A change of a persistent value waits to be written to flash (R388). -/
def State.persist (s old : State) : State :=
  if persistentKeys.any (fun k => s.ob k != old.ob k) then
    { s with dict := { s.dict with pendingSince := some (s.dict.pendingSince.getD s.now) } }
  else s

/-- A WRITE to subindex 0xFF (R383, R384). -/
def State.commit (s : State) (v : Via) (index value : Nat) : State × Reply :=
  if value = 0 then (s.discard v.role index, .ok)
  else if value ≠ 1 then (s, .invalid)
  else
    let (t, r) := s.commitIndex v index
    if r.code = 0 then ((index :: alsoCommits index).foldl (fun t i => t.discard v.role i) t, r) else (t.touchStaged v.role index, r)

/-! ## Writes of RW and WO objects -/

/-- JOB_SLOT_ID_WRITE (R149, R392): a slot that takes another job starts afresh. -/
def State.writeJobSlot (s : State) (slot id : Nat) : State × Reply :=
  if 0xFFF < id ∧ id ≠ 0xFFFF then (s, .invalid)
  else if id ≠ 0xFFFF ∧ (upto 16).any (fun k => k != slot && s.ob (Obj.jobSlotId k) == id) then (s, .invalid)
  else if s.ob Obj.diagEnable == 1 then (s, .busy)
  else if (match s.jobOf slot with
    | some job => !(s.jobChans job).isEmpty
    | none => false) then (s, .busy)
  else if id = s.ob (Obj.jobSlotId slot) then (s, .ok)
  else (((((s.abandonGen slot).setOb (Obj.jobSlotId slot) id).setOb (Obj.lastGen slot) 0).clearOb (Obj.nextGenStep slot)).setJob slot {}, .ok)

/-- CHANNEL_DESTROY (R154). -/
def State.destroyChannel (s : State) (h : Nat) : State × Reply :=
  match s.chanAt h with
  | none => (s, .invalid)
  | some c =>
    if c.destroying then (s, .ok)
    else
      let s := s.setChan h { c with destroying := true }
      let s := (s.chan.tasks.filter (fun t => t.uid == c.uid && !t.started)).foldl (fun s t => match s.taskBy t.uid t.id with
        | some t => s.finishCore t Status.cancelled
        | none => s) s
      (s.freeChan h, .ok)

/-- CHANNEL_RESUME (R176): dependencies on the failed tasks are met from now on. -/
def State.resumeChannel (s : State) (h : Nat) : State × Reply :=
  match s.chanAt h with
  | none => (s, .invalid)
  | some c => (s.setChan h { c with halted := false, haltedOn := [] }, .ok)

/-- A write of ARRIVAL_BASE (R246): 0, or 16 KiB aligned to 64 bytes in the job's regions. -/
def State.writeArrivalBase (s : State) (slot a : Nat) : State × Reply :=
  let ok := a == 0 || (a % 64 == 0 && (match s.jobOf slot with
    | some job => (bandsOf a 16384).all (fun b => ((s.regionAt (max a (b * 65536))).map (fun r => r.job == job)).getD false)
    | none => false))
  if ok then (s.setOb (Obj.arrivalBase slot) a, .ok) else (s, .invalid)

/-- RESTORE_DEFAULTS (R389, R438): every persistent object takes its default. -/
def State.restoreDefaults (s : State) (v : Nat) : State × Reply :=
  if v == 0 then (s, .ok)
  else if (upto 16).any (fun i => (s.jobOf i).isSome) then (s, .busy)
  else
    let off := (upto 9).filter (fun n => s.ob (Obj.portEnable n) == 0)
    let s := (s.commitEndpoint (objDefault Obj.endpointId) (objDefault Obj.groveId)).1
    let s := persistentKeys.foldl (fun s k => s.setOb k (objDefault k)) s
    let s := off.foldl (fun s n => s.enablePort n 1) s
    let s := (s.setPowerCap (objDefault Obj.powerCap)).1
    ({ s with dict := { s.dict with pendingSince := some (s.dict.pendingSince.getD s.now) } }, .ok)

/-- DIAG_ENABLE (R392). -/
def State.writeDiag (s : State) (v : Nat) : State × Reply :=
  if v == 1 && (upto 16).any (fun i => (s.jobOf i).isSome) then (s, .busy) else (s.setOb Obj.diagEnable v, .ok)

/-- A peer's write to `0x7030` (R306, R312, Table 9-6). -/
def State.bankMessage (s : State) (v : Via) (sub value : Nat) (hint : Option Nat) : State × Reply :=
  let gen := fld value 96 32
  let inProgress := (upto 16).find? (fun slot => ((s.job slot).gen.map (fun g => g.gen == gen)).getD false)
  if sub == 1 then
    match hint.orElse (fun _ => inProgress) with
    | some slot => if fld value 64 15 != 0 then (s, .invalid)
        else s.genDoneArrives slot v gen (fld value 79 17) (fld value 32 32) (fld value 0 32)
    | none => (s, .invalid)
  else if sub == 2 then
    match hint.orElse (fun _ => inProgress) with
    | some slot => if fld value 0 32 != 0 then (s, .invalid) else s.genCompleteArrives slot gen (fld value 48 48) (fld value 32 16)
    | none => (s, .invalid)
  else if sub == 3 then
    if fld value 96 16 != 0 then (s, .invalid)
    else s.foldCheckArrives hint v (fld value 112 16) (fld value 64 32) (BitVec.ofNat 64 value)
  else if fld value 0 32 != 0 then (s, .invalid)
  else
    let base := fld value 64 32
    match (hint.bind s.jobOf).orElse (fun _ => (s.regionAt (base * 65536)).map (·.job)) with
    | some job => s.twinSlotArrives ((s.slotOf job).getD 16) job gen base (fld value 32 32)
    | none => (s, .invalid)

/-- A write of 1 to a "Write 1" object acts; 0 is answered OK without effect, another value is refused (R438). -/
def writeOne (s : State) (v : Nat) (f : State → State × Reply) : State × Reply :=
  if v = 0 then (s, .ok) else if v = 1 then f s else (s, .invalid)

/-- Ranges that depend on other objects, and on/off values of absent capabilities (R414, Tables 7-13, 8-9, 9-8, 10-10). -/
def State.refusedValue (s : State) (index sub v : Nat) : Bool :=
  match index with
  | 0x2002 => v == 1 && !s.cap 3
  | 0x5020 => sub == 1 && v == 1 && !s.cap 0
  | 0x5000 => sub == 6 && decide (4094 < v) && v != 0xFFFF
  | 0x5005 => sub == 4 && decide (v < s.ob Obj.backoffMin)
  | 0x6001 => sub == 1 && !(upto 13).any (fun k => v == 2 ^ k)
  | 0x7004 =>
    if sub == 2 then decide (v < s.ob Obj.intervalMin)
    else if sub == 3 then v != 0 && (decide (v < s.ob Obj.intervalMin) || decide (s.ob Obj.intervalMax < v))
    else false
  | 0x8004 => sub == 5 && v % 5 != 0
  | _ => false

/-- A WRITE to an RW or WO object: its encoding, its range and its own checks and effects. -/
def State.writeObject (s : State) (v : Via) (hint : Option Nat) (r : ObjRow) (m : DictMsg) : State × Reply :=
  let x := ofBytes m.data
  let n := m.sub - 1
  if encodingFault r x || rangeFault r x || s.refusedValue m.index m.sub x then (s, .invalid)
  else if m.index == 0x1F00 && m.sub == 2 then s.restoreDefaults x
  else if m.index == 0x2001 then s.setPowerCap x
  else if m.index == 0x2050 then s.loanWritten v.src x
  else if m.index == 0x4012 then (if m.sub == 1 then s.destroyChannel x else s.resumeChannel x)
  else if m.index == 0x4020 then s.writeJobSlot n x
  else if m.index == 0x5001 then (s.enablePort n x, .ok)
  else if m.index == 0x5004 then writeOne s x (fun s => (s.reenablePort n, .ok))
  else if m.index == 0x5012 then writeOne s x (fun s => s.startSwitch v)
  else if m.index == 0x5050 then s.writeArrivalBase n x
  else if m.index == 0x6003 then s.requestFence n x
  else if m.index == 0x6050 then (if m.sub == 2 then s.ackRecord x else s.clearOverflow x)
  else if m.index == 0x6060 then s.ackCper x
  else if m.index == 0x7020 then s.requestRestore n x
  else if m.index == 0x7030 then s.bankMessage v m.sub x hint
  else if m.index == 0x8004 && m.sub == 2 then writeOne s x (fun s => (s.replan, .ok))
  else if m.index == 0xF000 then s.writeDiag x
  else if m.index == 0xF001 then s.requestTest n x
  else (s.setOb (okey m.index m.sub) x, .ok)

/-! ## Execution of a request -/

/-- Data of a READ or READ_STAGED (R376, R382, R383, R386, R437). -/
def State.readData (s : State) (role : Role) (r : ObjRow) (m : DictMsg) : List Byte :=
  if m.sub = 0 then bytesOf (((rowsAt m.index).map (·.hi)).foldl max 0) 1
  else if m.sub = 0xFF then bytesOf (bit (s.stagedAt role m.index).isSome) 1
  else match r.type with
    | .table _ _ =>
      let t := match (if m.op == 3 then (s.stagedAt role m.index).bind (fun x => kget? x.tables m.sub) else none) with
        | some t => stagedTable t
        | none => s.tableOf m.index m.sub
      (t.drop m.offset).take m.length
    | t => bytesOf (if m.op == 3 then s.stagedValue role m.index m.sub else s.value m.index m.sub) t.size

/-- The module's place on the tray field network (R370): PLCA node ID, node count, transmit opportunity timer. -/
def State.plca (s : State) : Nat × Nat × Nat := (s.value 0x1F20 1, 9, s.value 0x1F20 2)

/-- Data of a DESCRIBE (R375). -/
def State.describe (s : State) (r : ObjRow) : List Byte :=
  let rights := ([Role.host, .bmc, .tray, .peer].map (fun role =>
    (bit (mayRead role r) + 2 * bit (mayWrite s role r)) * 4 ^ roleCode role)).sum
  let size := match r.type with
    | .table entry count => entry % 65536 + count % 65536 * 65536
    | t => t.size
  bytesOf r.type.code 1 ++ bytesOf r.acc.code 1 ++ bytesOf rights 1 ++ [0] ++ bytesOf size 4

/-- One request is executed (R373, R374, R382, R383). -/
def State.execute (s : State) (v : Via) (hint : Option Nat) (m : DictMsg) : State × Reply :=
  if badHeader m then (s, .bad)
  else match s.target m.index m.sub with
    | none => (s, if m.final then .bad else .noObject)
    | some r =>
      if !fits r m then (s, .bad)
      else if s.denied v.role r m.op then (s, .denied)
      else if m.op == 4 then (s, .ok (s.describe r))
      else if m.op != 2 then (s, .ok (s.readData v.role r m))
      else if m.sub = 0xFF then s.commit v m.index (ofBytes m.data)
      else if r.acc == .rwc then s.stage v.role r m
      else (s.touchStaged v.role m.index).writeObject v hint r m

/-- The slot of a peer's message by its packet's job, else by the set a FOLD_CHECK names (R306, R312). -/
def State.hintOf (s : State) (v : Via) (m : DictMsg) : Option Nat :=
  match s.dictPacket v.src v.tag with
  | some p => s.slotOf p.job
  | none => if m.index == 0x7030 && m.sub == 3 then s.messageSlot v (fld (ofBytes m.data) 112 16) else none

/-- Is the path of a request in service: the host's with BAR0, the others with a Glade (R365, R402, R416)? -/
def State.pathServes (s : State) (role : Role) : Bool :=
  s.edge.powered && s.gladeRuns (s.ob Obj.gladeActive) && (role != .host || (s.edge.ready && s.edge.hostLink))

/-- Has the active Glade stopped, and is the failover to the standby still to come? Requests then wait (R381). -/
def State.failoverDue (s : State) (role : Role) : Bool :=
  s.edge.powered && !s.gladeRuns (s.ob Obj.gladeActive) && s.gladeRuns (1 - s.ob Obj.gladeActive) &&
  (role != .host || (s.edge.ready && s.edge.hostLink))

/-- Is a message no dictionary request of this module: of another class or enterprise number on the I3C path (R369), of another
class or EtherType, or to another MAC address, on the tray network (R370)? -/
def State.foreignMsg (s : State) (v : Via) : Bool :=
  match v.role with
  | .bmc => v.cls != 1 || v.enterprise != s.ob 0x100008
  | .tray => v.cls != 1 || v.etherType != s.ob 0x500005 || v.dest != s.mac
  | .host | .peer => false

/-- A request arrives on its path and is executed and answered (R365, R366, R369 to R371, R381). `hint` overrides the slot a
peer's message is for. -/
def State.requestFor (s : State) (v : Via) (hint : Option Nat) (m : DictMsg) : State :=
  if s.failoverDue v.role then { s with dict := { s.dict with held := s.dict.held ++ [(v, hint, m)] } }
  else if !s.pathServes v.role then s
  else if s.foreignMsg v then s.bump Obj.dictDiscarded
  else match (if v.role == .peer then s.badDict v.src v.tag else none) with
  | some p => s.dropDict p
  | none =>
    let hint := hint.orElse (fun _ => s.hintOf v m)
    let s := s.takeRequest v
    let (t, r) :=
      if pathLimit v.role ≤ v.ahead then (s, Reply.busy)
      else if v.role == .host && decide (4 ≤ s.shed) then (s, .busy)
      else if v.role == .peer && EpEntry.route (s.epEntry s.epoch v.src) != 2 && EpEntry.route (s.epEntry s.epoch v.src) != 3 then (s, .denied)
      else s.execute { v with tag := m.tag } hint m
    (t.persist s).respond v m r

/-- Requests that have waited for a Glade are taken up, oldest first (R381). -/
def State.serveHeld (s : State) : State :=
  if !s.gladeRuns (s.ob Obj.gladeActive) then s
  else s.dict.held.foldl (fun s (v, hint, m) => s.requestFor v hint m) { s with dict := { s.dict with held := [] } }

/-- A request as it stands. -/
def State.request (s : State) (v : Via) (m : DictMsg) : State := s.requestFor v none m

end Sys2Proof.Machine
end

