-- ==== Sys2Proof/Machine/Requests.lean ====
section
/-! DEFINITION. The commands that are dictionary requests, each a direct use of `State.requestFor` (chapter 11), and the
events of the mailbox, of staging and of persistence (R367, R368, R385, R388). -/

namespace Sys2Proof.Machine

/-- A WRITE of a value of `n` bytes. -/
def State.writeReq (s : State) (v : Via) (index sub x n : Nat) : State := s.request v (writeMsg v index sub (bytesOf x n))

/-- A commit. -/
def State.commitReq (s : State) (v : Via) (index : Nat) : State := s.request v (commitMsg v index)

/-! ## Channels and jobs (chapters 5, 6) -/

/-- CHANNEL_CREATE (R150, R151, R153). -/
def execChannelCreate (v : Via) (s : State) : Host.Outcome State Fault Refusal := .next (s.commitReq v 0x4010)
/-- CHANNEL_DESTROY (R154). -/
def execChannelDestroy (v : Via) (h : Nat) (s : State) : Host.Outcome State Fault Refusal := .next (s.writeReq v 0x4012 1 h 2)
/-- CHANNEL_RESUME (R176). -/
def execChannelResume (v : Via) (h : Nat) (s : State) : Host.Outcome State Fault Refusal := .next (s.writeReq v 0x4012 2 h 2)
/-- JOB_SLOT_ID_WRITE (R149, R392). -/
def execJobSlotIdWrite (v : Via) (slot id : Nat) (s : State) : Host.Outcome State Fault Refusal :=
  .next (s.writeReq v 0x4020 (slot + 1) id 2)
/-- JOB_SCRATCH_COMMIT (R182). -/
def execJobScratchCommit (v : Via) (s : State) : Host.Outcome State Fault Refusal := .next (s.commitReq v 0x4015)
/-- PROFILE_COMMIT (R205). -/
def execProfileCommit (v : Via) (slot : Nat) (s : State) : Host.Outcome State Fault Refusal := .next (s.commitReq v (0x3100 + slot))
/-- REGION_TABLE_COMMIT (R128 to R130). -/
def execRegionTableCommit (v : Via) (s : State) : Host.Outcome State Fault Refusal := .next (s.commitReq v 0x6100)

/-! ## The fabric (chapter 7) -/

/-- PORT_ENABLE_WRITE (R222). -/
def execPortEnableWrite (v : Via) (port value : Nat) (s : State) : Host.Outcome State Fault Refusal :=
  .next (s.writeReq v 0x5001 (port + 1) value 1)
/-- PORT_REENABLE (R222, R438). -/
def execPortReenable (v : Via) (port value : Nat) (s : State) : Host.Outcome State Fault Refusal :=
  .next (s.writeReq v 0x5004 (port + 1) value 1)
/-- EPOCH_SWITCH (R257, R438). -/
def execEpochSwitch (v : Via) (value : Nat) (s : State) : Host.Outcome State Fault Refusal := .next (s.writeReq v 0x5012 1 value 1)
/-- ENDPOINT_TABLE_COMMIT (R254). -/
def execEndpointTableCommit (v : Via) (s : State) : Host.Outcome State Fault Refusal := .next (s.commitReq v 0x5010)
/-- ENDPOINT_ID_COMMIT (R251, R264). -/
def execEndpointIdCommit (v : Via) (s : State) : Host.Outcome State Fault Refusal := .next (s.commitReq v 0x5000)

/-! ## Firebreaks (chapter 8) -/

/-- STAND_FENCE (R277, R438). -/
def execStandFence (v : Via) (stand value : Nat) (s : State) : Host.Outcome State Fault Refusal :=
  .next (s.writeReq v 0x6003 (stand + 1) value 1)
/-- SELF_TEST_NOW (R276, R392, R438). -/
def execSelfTestNow (v : Via) (stand value : Nat) (s : State) : Host.Outcome State Fault Refusal :=
  .next (s.writeReq v 0xF001 (stand + 1) value 1)
/-- ERROR_ACK (R292). -/
def execErrorAck (v : Via) (record : Nat) (s : State) : Host.Outcome State Fault Refusal := .next (s.writeReq v 0x6050 2 record 4)
/-- CPER_ACK (R295). -/
def execCperAck (v : Via) (record : Nat) (s : State) : Host.Outcome State Fault Refusal := .next (s.writeReq v 0x6060 2 record 4)
/-- ERROR_OVERFLOW_CLEAR (R296). -/
def execErrorOverflowClear (v : Via) (value : Nat) (s : State) : Host.Outcome State Fault Refusal :=
  .next (s.writeReq v 0x6050 3 value 1)
/-- REPLICA_SETS_COMMIT (R285). -/
def execReplicaSetsCommit (v : Via) (s : State) : Host.Outcome State Fault Refusal := .next (s.commitReq v 0x6041)

/-! ## The seedbank (chapter 9) -/

/-- SEEDBANK_SETS_COMMIT (R297, R299). -/
def execSeedbankSetsCommit (v : Via) (s : State) : Host.Outcome State Fault Refusal := .next (s.commitReq v 0x7010)
/-- FOLD_CHECK (R306, Table 9-6). -/
def execFoldCheck (v : Via) (set gen : Nat) (value : Word64) (s : State) : Host.Outcome State Fault Refusal :=
  .next (s.writeReq v 0x7030 3 (pack [(112, 16, set), (64, 32, gen), (0, 64, value.toNat)]) 16)
/-- TWIN_SLOT (R301, Table 9-6). -/
def execTwinSlot (v : Via) (gen twinBase size : Nat) (s : State) : Host.Outcome State Fault Refusal :=
  .next (s.writeReq v 0x7030 4 (pack [(96, 32, gen), (64, 32, twinBase), (32, 32, size)]) 16)
/-- GEN_DONE (R312, Table 9-6). -/
def execGenDone (v : Via) (slot gen plots failures cost : Nat) (s : State) : Host.Outcome State Fault Refusal :=
  .next (s.requestFor v (some slot) (writeMsg v 0x7030 1
    (bytesOf (pack [(96, 32, gen), (79, 17, plots), (32, 32, failures), (0, 32, cost)]) 16)))
/-- GEN_COMPLETE (R312, R313, Table 9-6). -/
def execGenComplete (v : Via) (slot gen nextStep interval : Nat) (s : State) : Host.Outcome State Fault Refusal :=
  .next (s.requestFor v (some slot) (writeMsg v 0x7030 2
    (bytesOf (pack [(96, 32, gen), (48, 48, nextStep), (32, 16, interval)]) 16)))
/-- RESTORE (R315, R316): GENERATION in [31:0], the source endpoint in [47:32]. -/
def execRestore (v : Via) (slot gen fromEp : Nat) (s : State) : Host.Outcome State Fault Refusal :=
  .next (s.writeReq v 0x7020 (slot + 1) (pack [(0, 32, gen), (32, 16, fromEp)]) 8)

/-! ## Power and ageing (chapter 10) -/

/-- POWER_CAP_WRITE (R325, R328). -/
def execPowerCapWrite (v : Via) (watts : Nat) (s : State) : Host.Outcome State Fault Refusal := .next (s.writeReq v 0x2001 1 watts 4)
/-- STEADY_LOAD_COMMIT (R345). -/
def execSteadyLoadCommit (v : Via) (s : State) : Host.Outcome State Fault Refusal := .next (s.commitReq v 0x2004)
/-- A loan message by its TYPE (R342). -/
def State.loanReq (s : State) (v : Via) (type : Nat) (m : LoanMsg) : State := s.request v (writeMsg v 0x2050 1 (loanBytes type m))
/-- LOAN_REQUEST (R339). -/
def execLoanRequest (v : Via) (m : LoanMsg) (s : State) : Host.Outcome State Fault Refusal := .next (s.loanReq v 1 m)
/-- LOAN_GRANT (R339). -/
def execLoanGrant (v : Via) (m : LoanMsg) (s : State) : Host.Outcome State Fault Refusal := .next (s.loanReq v 2 m)
/-- LOAN_REFUSE (R339). -/
def execLoanRefuse (v : Via) (m : LoanMsg) (s : State) : Host.Outcome State Fault Refusal := .next (s.loanReq v 3 m)
/-- LOAN_RETURN (R340). -/
def execLoanReturn (v : Via) (m : LoanMsg) (s : State) : Host.Outcome State Fault Refusal := .next (s.loanReq v 4 m)
/-- LOAN_RECALL (R340). -/
def execLoanRecall (v : Via) (m : LoanMsg) (s : State) : Host.Outcome State Fault Refusal := .next (s.loanReq v 5 m)
/-- LOAN_AUDIT (R343). -/
def execLoanAudit (v : Via) (m : LoanMsg) (s : State) : Host.Outcome State Fault Refusal := .next (s.loanReq v 6 m)
/-- REPLAN_NOW (R361, R438). -/
def execReplanNow (v : Via) (value : Nat) (s : State) : Host.Outcome State Fault Refusal := .next (s.writeReq v 0x8004 2 value 1)
/-- RESTORE_DEFAULTS (R389, R438). -/
def execRestoreDefaults (v : Via) (value : Nat) (s : State) : Host.Outcome State Fault Refusal := .next (s.writeReq v 0x1F00 2 value 1)

/-! ## The dictionary itself (chapter 11) -/

/-- Does a message have the operation of its row, or none another row has? -/
def opIs (m : DictMsg) (op : Nat) : Bool := m.op == op || !(decide (1 ≤ m.op) && decide (m.op ≤ 4))

/-- READ (R373, R437). -/
def execRead (v : Via) (m : DictMsg) (s : State) : Host.Outcome State Fault Refusal :=
  .next (if opIs m 1 then s.request v m else s)
/-- WRITE (R373, R377). -/
def execWrite (v : Via) (m : DictMsg) (s : State) : Host.Outcome State Fault Refusal :=
  .next (if opIs m 2 then s.request v m else s)
/-- STAGE_WRITE (R382, R386). -/
def execStageWrite (v : Via) (m : DictMsg) (s : State) : Host.Outcome State Fault Refusal :=
  .next (if opIs m 2 then s.request v m else s)
/-- READ_STAGED (R382, R437). -/
def execReadStaged (v : Via) (m : DictMsg) (s : State) : Host.Outcome State Fault Refusal :=
  .next (if opIs m 3 then s.request v m else s)
/-- DESCRIBE (R375). -/
def execDescribe (v : Via) (m : DictMsg) (s : State) : Host.Outcome State Fault Refusal :=
  .next (if opIs m 4 then s.request v m else s)
/-- STAGE_DISCARD (R383). -/
def execStageDiscard (v : Via) (index : Nat) (s : State) : Host.Outcome State Fault Refusal :=
  .next (s.request v (writeMsg v index 0xFF [0]))
/-- DIAG_ENABLE_WRITE (R392). -/
def execDiagEnableWrite (v : Via) (value : Nat) (s : State) : Host.Outcome State Fault Refusal := .next (s.writeReq v 0xF000 1 value 1)
/-- GUEST_RIGHTS_COMMIT (R420). -/
def execGuestRightsCommit (v : Via) (s : State) : Host.Outcome State Fault Refusal := .next (s.commitReq v 0x9020)

/-- A write of the mailbox control register takes MSIX_VECTOR, and a 1 to DONE clears it (Table 11-2). -/
def DictSt.control (d : DictSt) (w : BitVec 32) : DictSt :=
  { d with msixVector := fld w.toNat 16 16, done := d.done && !w.getLsbD 1 }

/-- MAILBOX_GO (R367, R368): a write of the control register with GO 1. While GO is 1 the write of GO and those of the request
buffer are ignored; otherwise the request buffer is submitted. -/
def execMailboxGo (vector : BitVec 32) (m : DictMsg) (s : State) : Host.Outcome State Fault Refusal :=
  if !s.edge.ready || !s.edge.hostLink then .next s
  else if s.dict.go then .next { s with dict := s.dict.control vector }
  else .next ({ s with dict := { s.dict.control vector with go := true, request := m } }.request { role := .host, tag := m.tag } m)

/-- MAILBOX_DONE_CLEAR (R367): a write of the control register with GO 0. -/
def execMailboxDoneClear (vector : BitVec 32) (s : State) : Host.Outcome State Fault Refusal :=
  if !s.edge.ready || !s.edge.hostLink then .next s else .next { s with dict := s.dict.control vector }

/-- STAGE_TIMEOUT (R385). -/
def execStageTimeout (role : Role) (index : Nat) (s : State) : Host.Outcome State Fault Refusal :=
  match s.stagedAt role index with
  | none => .next s
  | some x => if x.at_ + s.ob Obj.stageTimeout * 1000000000 ≤ s.now then .next (s.discard role index) else .next s

/-- Bytes of the settings an area holds: key and value of each. -/
def settingsBytes (m : KMap Nat) : List Byte := m.flatMap (fun (x : Nat × Nat) => bytesOf x.1 4 ++ bytesOf x.2 8)

/-- PERSIST_WRITE (R388): the settings go to the older area. -/
def execPersistWrite (s : State) : Host.Outcome State Fault Refusal :=
  if !s.edge.powered || s.dict.pendingSince.isNone then .next s
  else
    let data : KMap Nat := persistentKeys.foldl (fun m k => kset m k (s.ob k)) []
    let area : FlashArea (KMap Nat) := {
      seq := some (nextSeq s.dict.flashA s.dict.flashB), hours := s.hours, check := crc32c (settingsBytes data), rest := 0, data := data }
    .next { s with dict := if olderIsA s.dict.flashA s.dict.flashB then { s.dict with pendingSince := none, flashA := area }
      else { s.dict with pendingSince := none, flashB := area } }

/-- WINDOW_REGISTER_WRITE (R417, Table 12-9): WINDOW_BASE is taken, reserved bits read 0. -/
def execWindowRegisterWrite (v : BitVec 64) (s : State) : Host.Outcome State Fault Refusal :=
  if !s.edge.ready || !s.edge.hostLink then .next s
  else .next { s with edge := { s.edge with window := v &&& 0x0000FFFFC0000000 } }

end Sys2Proof.Machine
end

