-- ==== Sys2Proof/Machine/Boundary.lean ====
section
/-! DEFINITION. The boundary (chapter 12): sideband inputs (R399 to R401), power-on (R402, R423), the start and loss of halves
(R405, R406, R410, R411), the host link (R416), clocked islands (R412) and the Glade watchdog (R422). An event whose
condition does not hold does not occur: the state is unchanged (log entry 1). -/

namespace Sys2Proof.Machine

/-! ## Sideband inputs -/

def pinNo : Pin → Nat
  | .perst => 0 | .pwrbrk => 1 | .slotId => 2

def State.pin (s : State) (p : Pin) : PinSt :=
  match p with
  | .perst => s.edge.perst | .pwrbrk => s.edge.pwrbrk | .slotId => s.edge.slot

def State.setPin (s : State) (p : Pin) (x : PinSt) : State :=
  { s with edge := match p with
    | .perst => { s.edge with perst := x }
    | .pwrbrk => { s.edge with pwrbrk := x }
    | .slotId => { s.edge with slot := x } }

/-- Levels a pin has: SLOT_ID is three bits. -/
def pinLevels : Pin → Nat
  | .slotId => 8 | _ => 2

/-- A rejected toggle (R399, R400): counted, and more than 100 within 1 s are logged and assert ALERT_N. -/
def State.rejectToggle (s : State) (p : Pin) : State :=
  let times := ((s.pin p).toggles.filter (fun t => s.now - t < 1000000000)) ++ [s.now]
  let s := (s.setPin p { s.pin p with pending := none, toggles := times, lastToggle := s.now }).bump (Obj.sidebandToggles (pinNo p))
  if decide (times.length ≤ 100) || s.edge.alerts.contains (.toggles (pinNo p)) then s
  else (s.log { errRec 0x0604 with detail0 := pinNo p }).raise (.toggles (pinNo p))

/-- SIDEBAND_INPUT_CHANGE (R399, R401): a new level is pending, a return to the accepted one is a rejected toggle; SLOT_ID is
latched at power-on. An unpowered module samples nothing: the pin has its level at power-on. -/
def execSidebandInputChange (pin : Pin) (level : Nat) (s : State) : Host.Outcome State Fault Refusal :=
  let x := s.pin pin
  let level := level % pinLevels pin
  if !s.edge.powered then .next (s.setPin pin { x with level := level })
  else if pin == .slotId then .next (if level == x.level then s else s.rejectToggle pin)
  else if level == x.level then .next (if x.pending.isSome then s.rejectToggle pin else s)
  else .next (if x.pending.isSome then s else s.setPin pin { x with pending := some (level, s.now) })

/-- May a pending change to this level be accepted (R399)? -/
def State.mayAccept (s : State) (p : Pin) (level : Nat) : Bool :=
  match (s.pin p).pending with
  | some (l, t) => l == level && decide (max (t + 20000) ((s.pin p).lastEdge + 100000) ≤ s.now)
  | none => false

/-- The change is accepted. -/
def State.acceptLevel (s : State) (p : Pin) (level : Nat) : State :=
  s.setPin p { s.pin p with level := level, pending := none, lastEdge := s.now }

/-- TOGGLE_ALERT_CLEAR (R400): 10 s without a rejected toggle. -/
def execToggleAlertClear (pin : Pin) (s : State) : Host.Outcome State Fault Refusal :=
  if s.edge.alerts.contains (.toggles (pinNo pin)) && decide ((s.pin pin).lastToggle + 10000000000 ≤ s.now) then
    .next (s.calm (.toggles (pinNo pin)))
  else .next s

/-- PERST_N_FALL (R401, R403). -/
def execPerstNFall (s : State) : Host.Outcome State Fault Refusal :=
  if !s.mayAccept .perst 0 then .next s
  else
    let s := s.acceptLevel .perst 0
    let s := { s with edge := { s.edge with perstHighAt := none } }
    .next (if s.edge.powered then s.moduleReset else s)

/-- PERST_N_RISE (R402): the host deasserts PERST_N only while REFCLK_PCIE is stable (Table 12-4, event 7; log entry 15). -/
def execPerstNRise (s : State) : Host.Outcome State Fault Refusal :=
  if !s.mayAccept .perst 1 then .next s
  else
    let s := s.acceptLevel .perst 1
    .next { s with edge := { s.edge with perstHighAt := some s.now, unlocked := s.edge.unlocked.filter (· != 0) } }

/-- PWRBRK_N_FALL (R401, R340): the cap in force is 1,100 W, and loans are returned. -/
def execPwrbrkNFall (s : State) : Host.Outcome State Fault Refusal :=
  if !s.mayAccept .pwrbrk 0 then .next s
  else .next ((s.acceptLevel .pwrbrk 0).setBit Obj.powerStatus 3 true).returnAll

/-- PWRBRK_N_RISE (R401): the cap returns by R326. -/
def execPwrbrkNRise (s : State) : Host.Outcome State Fault Refusal :=
  if !s.mayAccept .pwrbrk 1 then .next s
  else .next ((s.acceptLevel .pwrbrk 1).setBit Obj.powerStatus 3 false)

/-! ## Sideband outputs (R396 to R398) -/

/-- The open-drain outputs. -/
inductive OutLine
  | alertN | thermtripN | faultN | ready
  deriving DecidableEq, Repr

/-- What the board fits on an output: a pull-up to its always-on rail, a pull-up to the rail of the slot's feed, a pull-down. -/
inductive Resistor
  | puA | puS | pd
  deriving DecidableEq, Repr

/-- Does the running module pull an output low (R352, R396)? -/
def State.pulls (s : State) : OutLine → Bool
  | .alertN => s.alertN
  | .thermtripN => s.edge.tripped
  | .faultN => s.faultNow
  | .ready => !s.edge.ready

/-- Is an output high (Table 12-3)? Absent and the slot's feed are the board's; the module drives while its management rail
is on, in reset and running alike. -/
def State.outputHigh (s : State) (o : OutLine) (r : Resistor) (absent feed : Bool) : Bool :=
  match r with
  | .pd => false
  | .puA => absent || !s.edge.powered || !s.pulls o
  | .puS => if absent then feed else s.edge.powered && !s.pulls o

/-! ## Power-on (Table 12-4, events 1 to 3) -/

/-- The image the security blocks take: the first, by version, whose signature verifies and whose version is at least the
fused minimum (R423). -/
def takeImage (minVersion : Nat) (l : List Image) : Option Image :=
  (l.filter (fun i => i.signed && decide (minVersion ≤ i.version))).foldl
    (fun acc i => match acc with
      | none => some i
      | some best => if best.version < i.version then some i else some best) none

/-- Is an area valid: its commit word is present and its check matches (R363, R388)? -/
def areaValid {α : Type} (bytes : α → List Byte) (a : FlashArea α) : Bool := a.seq.isSome && a.check == crc32c (bytes a.data)

/-- The data in force at start-up: of the valid area of higher SEQUENCE (R363, R388). -/
def areaInForce {α : Type} (bytes : α → List Byte) (a b : FlashArea α) : Option α :=
  if areaValid bytes a && (!areaValid bytes b || decide (b.seq.getD 0 ≤ a.seq.getD 0)) then some a.data
  else if areaValid bytes b then some b.data else none

/-- Does flash or the factory keep an object over a power-on: identity, MAC address, fencing and bypass, the power-on count,
operating hours (R388, R389)? -/
def keptKey (key v : Nat) : Bool :=
  key / 256 == 0x1000 || key / 256 == 0x1001 || key == 0x500004 || key / 256 == 0x6011 || key / 256 == 0x6012 ||
  key == Obj.powerOnCount || key == Obj.operatingHours || (key / 256 == 0x6004 && decide (2 ≤ v))

/-- The dictionary at power-on: what is kept, the settings of flash, and the ageing data of flash; all else at its default. -/
def startObjects (kept settings : KMap Nat) (ages : KMap AgeRec) : KMap Nat :=
  let m := kept.filter (fun (x : Nat × Nat) => keptKey x.1 x.2)
  let m := settings.foldl (fun m (x : Nat × Nat) => kset m x.1 x.2) m
  ages.foldl (fun m (x : Nat × AgeRec) =>
    kset (kset (kset m (Obj.slowdown x.1) x.2.slowdown) (Obj.voltageOffset x.1) (x.2.offsetSteps * 5))
      (Obj.lifeRemaining x.1) x.2.lifeHours) m

/-- The module with nothing but what survives a power-on; ports wait for their halves. -/
def State.bare (s : State) : State :=
  let settings := areaInForce settingsBytes s.dict.flashA s.dict.flashB
  let ages := (areaInForce ageBytes s.power.ageA s.power.ageB).getD []
  { now := s.now, free := s.free, out := s.out, pending := s.pending
    mem := { cells := s.mem.cells, rowRepairs := s.mem.rowRepairs
             badBlocks := s.mem.badBlocks.filter (fun x => s.mem.rowRepairs.contains x.key) }
    stands := s.stands.map (fun (x : Nat × StandSt) => (x.1, { ({} : StandSt) with
      pendFence := x.2.pendFence, pendBypass := x.2.pendBypass, pendState := x.2.pendState
      samples := x.2.samples, fitData := x.2.fitData }))
    fab := { ports := (upto 9).map (fun n => (n, { ({} : Port) with heldByReset := true, since := s.now })) }
    bank := { failures := s.bank.failures }
    power := { coeff := s.power.coeff, fixedMw := s.power.fixedMw, ageA := s.power.ageA, ageB := s.power.ageB, ages := ages
               samples := s.power.samples, onSince := s.power.onSince, exitSince := s.power.exitSince
               replanAt := (ages.map (fun (x : Nat × AgeRec) => x.2.replanHours)).foldl max 0 }
    dict := { objs := startObjects s.dict.objs (settings.getD []) ages, flashA := s.dict.flashA, flashB := s.dict.flashB }
    edge := { variantU := s.edge.variantU, perst := { level := s.edge.perst.level }, pwrbrk := { level := s.edge.pwrbrk.level }
              slot := { level := s.edge.slot.level }, fuses0 := s.edge.fuses0, fuses1 := s.edge.fuses1
              images := s.edge.images, image := none, minVersion := s.edge.minVersion, orderlyOff := s.edge.orderlyOff
              bootAt := s.now, powered := true, perstHighAt := if s.edge.perst.level == 1 then some s.now else none } }

/-- With neither settings area valid the defaults are in force and an error record is logged (R388). Table 8-7 has no code for
it, so code and severity are free values (log entry 4). -/
def State.logSettingsLost (s : State) : State :=
  let r : ErrRec := { errRec (Config.freeNat s.free % 65536) with
    severity := Config.freeNat (s.free + 1) % 5, id := s.fire.nextRecord, time := s.now - s.edge.bootAt }
  ({ s with free := s.free + 2, fire := { s.fire with nextRecord := (s.fire.nextRecord + 1) % 2 ^ 32 } }).enqueue moduleUnit r

/-- May the module start: off, no trip held, and the input at or above 44.0 V for 100 ms (R352, R357)? -/
def State.mayPowerOn (s : State) : Bool :=
  !s.edge.powered && !s.edge.tripped && (match s.power.onSince with
    | some t => decide (t + 100000000 ≤ s.now)
    | none => false)

/-- POWER_ON (R402 events 1 to 3, R423): the settings come from flash and the Glades start, or, without a good image, FAULT_N
is asserted and no Glade starts. -/
def execPowerOn (s : State) : Host.Outcome State Fault Refusal :=
  if !s.mayPowerOn then .next s
  else
    let lost := (areaInForce settingsBytes s.dict.flashA s.dict.flashB).isNone
    let mark := s.edge.orderlyOff
    let s := s.bare
    let s := ((s.bump Obj.powerOnCount).setOb 0x900001 s.edge.slot.level)
    let s := if mark then { s with edge := { s.edge with orderlyOff := false } } else s.failure
    match takeImage s.edge.minVersion s.edge.images with
    | none => .next (s.faultN .noImage)
    | some i =>
      let s := s.setOb 0x100005 i.version
      let s := { s with edge := { s.edge with image := some i, glade0 := true, glade1 := true } }
      let s := if lost then s.logSettingsLost else s
      let s := if s.pwrbrk then s.setBit Obj.powerStatus 3 true else s
      .next (if s.ob Obj.powerCap < 1100 then
        ((s.setBit Obj.powerStatus 0 true).raise .capUnattainable).log (errRec 0x0502) else s)

/-! ## Halves -/

/-- HALF_START (R402 events 4 to 6, R137, R405, R408, R413): `repairsLeft` is what each stack reports. -/
def execHalfStart (half : Nat) (repairsLeft : List (Nat × Nat)) (s : State) : Host.Outcome State Fault Refusal :=
  .next (s.halfStart half repairsLeft)

/-- A request in progress at a failover is answered with RETRY: of those taken up, the writer of a table switch and the senders of
fold checks still await their answers (R257, R306, R381). -/
def State.retryLater (s : State) : State :=
  let s := match s.fab.switch.via with
    | some v => { s with fab := { s.fab with switch := { s.fab.switch with via := none } } }.respond v (writeMsg v 0x5012 1 [1]) .retry
    | none => s
  (upto 16).foldl (fun s slot => match (s.job slot).gen with
    | some g => g.checks.foldl (fun s c =>
        let v : Via := { role := .peer, src := c.1, tag := c.2.2.2 }
        s.respond v (writeMsg v 0x7030 3 []) .retry) (s.modJob slot (fun j => { j with gen := some { g with checks := [] } }))
    | none => s) s

/-- After a failover the standby answers what was in progress, and then what has waited (R381). -/
def State.takenOver (s t : State) : State := if t.ob Obj.gladeActive == s.ob Obj.gladeActive then t else t.retryLater.serveHeld

/-- A half is lost, and with it perhaps the active Glade. -/
def State.halfLost (s : State) (h : Nat) : State := s.takenOver (s.loseHalf h)

/-- HALF_TIMEOUT (R422): the active Glade's probe expired. -/
def execHalfTimeout (half : Nat) (s : State) : Host.Outcome State Fault Refusal := .next (s.halfLost half)

/-- HALF_RESET (R405, R410). -/
def execHalfReset (half : Nat) (s : State) : Host.Outcome State Fault Refusal := .next (s.halfLost half)

/-- HALF_REJOIN_TIMEOUT (R406): 2 s without rejoining; reset once more, then left in reset. -/
def execHalfRejoinTimeout (half : Nat) (s : State) : Host.Outcome State Fault Refusal :=
  match kget? s.edge.lostAt half with
  | none => .next s
  | some t =>
    if s.halfRuns half || decide (s.now < t + 2000000000) then .next s
    else if s.edge.retriedHalf.contains half then
      let s := { s with edge := { s.edge with
        deadHalves := s.edge.deadHalves ++ [half], lostAt := kdel s.edge.lostAt half } }
      .next ((s.setOb (Obj.halfState half) 3).faultN (.startUp half))
    else .next { s with edge := { s.edge with
        retriedHalf := s.edge.retriedHalf ++ [half], lostAt := kset s.edge.lostAt half s.now } }

/-- BRIDGE_HEARTBEAT_MISS (R411): eight mainband beats missed at a half. With the sideband beats missed too, the other half is
lost; else the bridge has failed and the half without the active Glade resets itself. -/
def execBridgeHeartbeatMiss (half mainMissed sideMissed : Nat) (s : State) : Host.Outcome State Fault Refusal :=
  if decide (2 ≤ half) || decide (mainMissed < 8) || !s.halfRuns 0 || !s.halfRuns 1 then .next s
  else if 8 ≤ sideMissed then .next (s.halfLost (1 - half))
  else .next (s.halfLost (1 - s.ob Obj.gladeActive))

/-! ## The host link -/

/-- The function the host finds (R416, R417, Table 0-4): its identity, where the vendor ID is Sargicen's, which no rule gives, and
the capabilities it advertises. -/
structure PciFunction where
  vendorId : BitVec 16
  deviceId : Nat
  classCode : Nat
  subsystemId : Nat
  msixVectors : Nat
  /-- sizes BAR2 can take, as powers of two -/
  bar2Sizes : List Nat
  functionLevelReset : Bool
  virtualFunctions : Nat

/-- The module's function. -/
def State.pciIdentity (s : State) : PciFunction :=
  { vendorId := Config.vendorId, deviceId := 0x2304, classCode := 0x120000, subsystemId := bit s.edge.variantU
    msixVectors := 2048, bar2Sizes := List.range' 30 7, functionLevelReset := true, virtualFunctions := 0 }

/-- The completion timeout the host has set, as the least and greatest of its range, ns (R418; the codes are those of the PCI Express
standard, PRESUMED, log entry 102). -/
def State.completionRange (s : State) : Nat × Nat :=
  match s.edge.completionTimeout.toNat with
  | 1 => (50000, 100000) | 2 => (1000000, 10000000) | 5 => (16000000, 55000000) | 6 => (65000000, 210000000)
  | 9 => (260000000, 900000000) | 10 => (1000000000, 3500000000) | 13 => (4000000000, 13000000000) | 14 => (17000000000, 64000000000)
  | _ => (50000, 50000000)

/-! ## BAR0 (R417, Table 12-8) -/

/-- A 32-bit word of a byte string, bytes beyond its end 0. -/
def wordAt (l : List Byte) (o : Nat) : BitVec 32 := BitVec.ofNat 32 (ofBytes ((l.drop o).take 4))

/-- The word a host read of BAR0 returns at a multiple of 4: mailbox, window register, doorbells, MSI-X table and pending bits; reserved
offsets read 0. No command carries such a read. -/
def State.bar0Word (s : State) (o : Nat) : BitVec 32 :=
  let d := s.dict
  if o == 0 then BitVec.ofNat 32 (pack [(16, 16, d.msixVector), (1, 1, bit d.done), (0, 1, bit d.go)])
  else if 0x1000 ≤ o ∧ o < 0x2000 then wordAt (msgBytes d.request 0 0) (o - 0x1000)
  else if 0x2000 ≤ o ∧ o < 0x3000 then wordAt (msgBytes d.responseBuf.1 0 d.responseBuf.2) (o - 0x2000)
  else if o == 0x3000 then s.edge.window.setWidth 32
  else if o == 0x3004 then (s.edge.window >>> 32).setWidth 32
  else if 0x100000 ≤ o ∧ o < 0x180000 then
    match s.chanAt ((o - 0x100000) / 8) with
    | some c => if o % 8 == 0 then c.tail else c.cplHead
    | none => 0
  else if 0x200000 ≤ o ∧ o < 0x208000 then (s.msixEntry ((o - 0x200000) / 16) >>> (32 * ((o - 0x200000) / 4 % 4))).setWidth 32
  else if 0x208000 ≤ o ∧ o < 0x208100 then
    BitVec.ofNat 32 ((upto 32).map (fun i => if s.edge.msixPending.contains (8 * (o - 0x208000) + i) then 2 ^ i else 0)).sum
  else 0

/-- A host write of a word of BAR0 outside the mailbox, the window register and the doorbells, which have commands of their own: it sets
a word of the MSI-X table, and a pending vector no longer masked is sent; anywhere else it is discarded. No command carries such
a write. -/
def State.bar0Write (s : State) (o : Nat) (v : BitVec 32) : State :=
  if 0x200000 ≤ o ∧ o < 0x208000 then
    let n := (o - 0x200000) / 16
    let sh := 32 * ((o - 0x200000) / 4 % 4)
    let e := (s.msixEntry n &&& ~~~(0xFFFFFFFF#128 <<< sh)) ||| (v.setWidth 128 <<< sh)
    let s := { s with edge := { s.edge with msixTable := kset s.edge.msixTable n e } }
    if s.edge.msixPending.contains n && !s.msixMasked n && s.edge.hostLink then
      { s with edge := { s.edge with msixPending := s.edge.msixPending.filter (· != n) } }.msix n
    else s
  else s

/-- PCIE_LINK once the host link has trained (Table 11-10, Table 0-4): ×16 at generation 6 in FLIT mode, or at generation 5 or 4.
What the two ends agree on is a free value. -/
def State.trainedLink (s : State) : Nat :=
  let g := 4 + Config.pcieGen s.free % 3
  pack [(0, 4, g), (4, 5, 16), (9, 1, if g == 6 then 1 else Config.pcieFlit s.free % 2)]

/-- PCIE_READY (Table 12-4, event 8): both halves are done, PERST_N has been high for 100 ms, READY is released. -/
def execPcieReady (s : State) : Host.Outcome State Fault Refusal :=
  let halves := [0, 1].all (fun h => s.halfRuns h || s.halfDead h) && (s.halfRuns 0 || s.halfRuns 1)
  let high := match s.edge.perstHighAt with
    | some t => decide (t + 100000000 ≤ s.now)
    | none => false
  if s.edge.powered && !s.edge.ready && halves && high then
    let s := { s with edge := { s.edge with ready := true, unlocked := s.edge.unlocked.filter (· != 0) } }
    .next ((s.setOb Obj.pcieLink s.trainedLink).drawn 1).hostLinkUp
  else .next s

/-- PCIE_HOT_RESET (R404, R416): handled as an accepted fall of PERST_N. -/
def execPcieHotReset (s : State) : Host.Outcome State Fault Refusal := .next (if s.edge.powered then s.moduleReset else s)

/-- HOST_LINK_DOWN (R416). -/
def execHostLinkDown (s : State) : Host.Outcome State Fault Refusal := .next (if s.edge.hostLink then s.resetHostLink else s)

/-- HOST_LINK_UP (R416): the link returns. -/
def execHostLinkUp (s : State) : Host.Outcome State Fault Refusal :=
  if s.edge.powered && s.edge.ready && !s.edge.hostLink && s.edge.perst.level == 1 then
    let s := { s with edge := { s.edge with unlocked := s.edge.unlocked.filter (· != 0) } }
    .next ((s.setOb Obj.pcieLink s.trainedLink).drawn 1).hostLinkUp
  else .next s

/-! ## Clocked islands and Glades -/

/-- The clock numbered `c` has lost lock. -/
def State.unlock (s : State) (c : Nat) : State := { s with edge := { s.edge with unlocked := nins s.edge.unlocked c } }

/-- ISLAND_LOCK_LOSS (R412). REFCLK_LINK reads as locked when every island it feeds has lock (DEDUCED, log entry 116). -/
def execIslandLockLoss (i : Island) (s : State) : Host.Outcome State Fault Refusal :=
  if !s.edge.powered then .next s
  else match i with
    | .stackPhy st => .next (((s.log { errRec 0x0602 with stack := st % 64 }).unlock (32 + st)).halfLost (st / 16))
    | .bridgePhy => .next ((s.log (errRec 0x0602)).unlock 1)
    | .portSerdes n =>
      let s := (s.log { errRec 0x0602 with detail0 := n }).unlock (10 + n)
      .next (if s.portUp n then s.flap n else s)
    | .pcie => .next ((s.log (errRec 0x0602)).unlock 0).resetHostLink
    | .guestPhy site => .next (((s.log { errRec 0x0602 with detail0 := site }).unlock (20 + site % 2)).guestDown (site % 2))
    | .mgmtClock h =>
      let s := ((s.log { errRec 0x0602 with detail0 := h }).unlock (2 + h % 2)).setGlade (h % 2) false
      .next (if s.edge.unlocked.contains 2 && s.edge.unlocked.contains 3 then s.faultN .mgmtClock else s)

/-- The request a failover finds in progress is answered with RETRY (R381); a table switch goes on without its writer. -/
def State.answerRetry (s : State) (r : Option (Via × DictMsg)) : State :=
  match r with
  | none => s
  | some (v, m) =>
    let sw := s.fab.switch
    let mine := match sw.via with
      | some x => x.role == v.role && x.src == v.src && x.tag == v.tag
      | none => false
    let s := if mine then { s with fab := { s.fab with switch := { sw with via := none } } } else s
    s.respond v m .retry

/-- GLADE_TIMEOUT (R381, R396, R422): the standby takes over from a failed active Glade, which restarts as standby while its
clock has lock; with no standby both have failed. -/
def execGladeTimeout (half : Nat) (inProgress : Option (Via × DictMsg)) (s : State) : Host.Outcome State Fault Refusal :=
  if !s.edge.powered || decide (2 ≤ half) || s.edge.faults.contains .noImage then .next s
  else if s.ob Obj.gladeActive != half then .next s
  else if !s.gladeRuns (1 - half) then .next ((s.setGlade half false).faultN .glades)
  else
    let s := (s.failover half).setGlade half (!s.edge.unlocked.contains (2 + half))
    .next ((s.answerRetry inProgress).retryLater).serveHeld

end Sys2Proof.Machine
end

