-- ==== Sys2Proof/Machine/Guest.lean ====
section
/-! DEFINITION. The UCIe guest sites (R419 to R421): requests of a guest, and a guest's answers to the module's own requests. -/

namespace Sys2Proof.Machine

/-- GUEST_LINK_TRAINING_DONE (R419): the link comes up at the rate both dies support, or goes down. -/
def execGuestLinkTrainingDone (site : Nat) (rate32 : Option Bool) (s : State) : Host.Outcome State Fault Refusal :=
  if decide (2 ≤ site) || !s.cap 4 || !s.halfRuns site then .next s
  else match rate32 with
    | some r => .next (if s.guestUp site then s else (s.setOb (Obj.guestLink site) (2 + 4 * bit r)).relock (20 + site))
    | none => .next (s.guestDown site)

/-! ## Requests of a guest -/

/-- Does [a, a + n) lie in the guest's own window? -/
def ownWindow (site a n : Nat) : Bool := placeOf a == .guest site && placeOf (a + n - 1) == .guest site

/-- May the guest at a site touch [a, a + n) (R420, R421)? ADDR and LENGTH have the forms of Table 12-10. -/
def State.guestMay (s : State) (site bitNo a n : Nat) : Bool :=
  a % 64 == 0 && n % 64 == 0 && decide (64 ≤ n) && decide (n ≤ 4096) &&
  (ownWindow site a n || (s.guestRight site bitNo && (bandsOf a n).all (fun b =>
    let x := max a (b * 65536)
    s.taskMapped x && ((s.regionAt x).map (fun r => r.job == s.guestJob site)).getD false)))

/-- A request refused for want of a right (R421). -/
def State.guestRefuse (s : State) (site tag a n : Nat) : State :=
  (s.log { errRec 0x0205 with address := a % 2 ^ 48 }).toGuest site 5 tag a n 2 []

/-- Blocks of bytes with their checks (R421). -/
def guestBlocks (a : Nat) (data : List Byte) : List GuestBlock :=
  (upto (data.length / 64)).map (fun i =>
    let d := (data.drop (64 * i)).take 64
    { data := d, check := guestCheck d (a + 64 * i) })

/-- Is a block whole, and does its check pass? -/
def guestBlockOk (b : GuestBlock) (a : Nat) : Bool := b.data.length == 64 && b.check == guestCheck b.data a

/-- The address of the first block whose check fails. -/
def badGuestBlock (a : Nat) : List GuestBlock → Option Nat
  | [] => none
  | b :: t => if guestBlockOk b a then badGuestBlock (a + 64) t else some a

/-- Is the site up and its half running, so that a message of its guest arrives? -/
def State.guestHears (s : State) (site : Nat) : Bool :=
  decide (site < 2) && s.cap 4 && s.guestUp site && s.halfRuns site && s.edge.powered

/-- A request of a guest for the other guest's window goes on to that guest, whose answer it awaits. -/
def State.forwardGuest (s : State) (site tag op addr len : Nat) (blocks : List GuestBlock) : State :=
  s.sendGuest { site := siteOf addr, tag := 0, op := op, addr := addr, len := len, at_ := s.now, uid := 0, id := 0, answer := some (site, tag) } blocks

/-- GUEST_READ (R421). A guest's own window is its own memory, so what it reads there is a free value; the other guest is asked
for its window. -/
def execGuestRead (site tag addr len : Nat) (s : State) : Host.Outcome State Fault Refusal :=
  if !s.guestHears site then .next s
  else if !s.guestMay site 2 addr len then .next (s.guestRefuse site tag addr len)
  else if ownWindow site addr len then
    .next ((s.toGuest site 3 tag addr len 0 (guestBlocks addr (s.freeBytes len))).drawn len)
  else if isGuest addr then .next (s.forwardGuest site tag 1 addr len [])
  else if s.touchesLost addr len then .next (s.toGuest site 5 tag addr len 1 [])
  else match s.badBlocksOf addr len with
    | [] => .next (s.toGuest site 3 tag addr len 0 (guestBlocks addr (s.bytesAt addr len)))
    | l =>
      let s := l.foldl (fun s (b, k) => s.ownError b k) s
      .next (s.toGuest site 5 tag addr len 3 [])

/-- GUEST_WRITE (R421): written whole blocks, then acknowledged; with a failed block check nothing is written. A write to the other
guest's window is acknowledged when that guest does so. -/
def execGuestWrite (site tag addr : Nat) (blocks : List GuestBlock) (s : State) : Host.Outcome State Fault Refusal :=
  let len := 64 * blocks.length
  if !s.guestHears site then .next s
  else if !s.guestMay site 3 addr len then .next (s.guestRefuse site tag addr len)
  else match badGuestBlock addr blocks with
    | some a => .next ((s.log { errRec 0x0201 with address := a % 2 ^ 48 }).toGuest site 5 tag addr len 3 [])
    | none =>
      if ownWindow site addr len then .next (s.toGuest site 4 tag addr len 0 [])
      else if s.touchesLost addr len then .next (s.toGuest site 5 tag addr len 1 [])
      else if isGuest addr then .next (s.forwardGuest site tag 2 addr len blocks)
      else .next ((s.put addr (blocks.flatMap (fun b => b.data))).toGuest site 4 tag addr len 0 [])

/-! ## Answers of a guest -/

/-- The module's outstanding request a message of a guest answers. -/
def State.guestReq (s : State) (site tag : Nat) : Option GuestReq :=
  s.edge.guestReqs.find? (fun r => r.site == site && r.tag == tag)

/-- A request is answered: its tag is free, the next waiting one leaves, and a task owed nothing more may go on (R421). -/
def State.guestAnswered (s : State) (r : GuestReq) : State :=
  let s := { s with edge := { s.edge with guestReqs := s.edge.guestReqs.filter (fun x => !(x.site == r.site && x.tag == r.tag)) } }
  let s := s.modTask r.uid r.id (fun t => { t with guestWaits := t.guestWaits.filter (fun w => w != (r.site, r.tag)) })
  let s := s.pumpGuest r.site
  match s.taskBy r.uid r.id with
  | some t => if s.guestOwes t then s else s.modTask r.uid r.id (fun t => { t with guestReady := true })
  | none => s

/-- A request that fails: its task ends with MEMORY_ERROR of class None (R418, R421), and the guest it was forwarded for is told. -/
def State.guestFailed (s : State) (r : GuestReq) (a code : Nat) : State :=
  let s := s.answerGuest r 5 code []
  let s := match s.taskBy r.uid r.id with
    | some t => if t.phase == Phase.running || t.phase == Phase.held then s.abort t Status.memoryError a 0 else s
    | none => s
  s.guestAnswered r

/-- GUEST_READ_RESP (R421): the data are taken when every block check passes and none is missing. -/
def execGuestReadResp (site tag : Nat) (blocks : List GuestBlock) (s : State) : Host.Outcome State Fault Refusal :=
  match s.guestReq site tag with
  | none => .next s
  | some r =>
    if !s.guestHears site || r.op != 1 then .next s
    else if 64 * blocks.length != r.len then .next (s.guestFailed r r.addr 3)
    else match badGuestBlock r.addr blocks with
      | some a => .next ((s.log { errRec 0x0201 with address := a % 2 ^ 48 }).guestFailed r a 3)
      | none => .next (((if r.answer.isSome then s else s.poke r.addr (blocks.flatMap (fun b => b.data))).answerGuest r 3 0 blocks).guestAnswered r)

/-- GUEST_WRITE_ACK (R421). -/
def execGuestWriteAck (site tag : Nat) (s : State) : Host.Outcome State Fault Refusal :=
  match s.guestReq site tag with
  | none => .next s
  | some r => if !s.guestHears site || r.op != 2 then .next s else .next ((s.answerGuest r 4 0 []).guestAnswered r)

/-- GUEST_ERROR (R421, Table 12-10): whatever the code, the request has failed. -/
def execGuestError (site tag code : Nat) (s : State) : Host.Outcome State Fault Refusal :=
  match s.guestReq site tag with
  | none => .next s
  | some r => if !s.guestHears site || code == 0 then .next s else .next (s.guestFailed r r.addr code)

/-- GUEST_REQUEST_TIMEOUT (R421): not answered within 1 ms, treated as ERROR 0x06. -/
def execGuestRequestTimeout (site tag : Nat) (s : State) : Host.Outcome State Fault Refusal :=
  match s.guestReq site tag with
  | none => .next s
  | some r => if s.now < r.at_ + 1000000 then .next s else .next (s.guestFailed r r.addr 6)

end Sys2Proof.Machine
end

