-- ==== Sys2Proof/Machine/Vector.lean ====
section
/-! DEFINITION. VECTOR tasks (R98 to R101, R106, R160, R166, R271, R427 to R432, R434): the elements of an operation, its
output layout, the units of an optimiser task, and one meaning per operation over the lane operations. -/

namespace Sys2Proof.Machine

/-- One result of an operation: its bits, the flags it raises, and the status and address it aborts the task with. -/
structure Lane where
  val : Nat
  flags : Flags := 0
  bad : Option (BitVec 8 × Nat) := none
  deriving DecidableEq, Repr

/-- A result with its flags. -/
def Lane.of (x : Nat × Flags) : Lane := { val := x.1, flags := x.2 }

/-- One piece of output: where it goes, its bytes and flags, the row it belongs to, and what was read for it, with its
address: A, B, C, row state, offsets. -/
structure VItem where
  addr : Nat
  data : List Byte
  flags : Flags
  row : Nat
  reads : List (List MemWrite)
  bad : Option (BitVec 8 × Nat) := none
  deriving DecidableEq, Repr

/-- The bytes of elements j to j + n - 1 of row i of an operand. -/
def State.elemPiece (s : State) (l : Layout) (size i j n : Nat) : List MemWrite := [⟨l.at i (j * size), s.bytesAt (l.at i (j * size)) (n * size)⟩]

/-- What elements j to j + n - 1 of row i read, in the order A, B, C, row state, offsets (R268, R434). -/
def State.vecReads (s : State) (d : Desc) (i j n : Nat) : List (List MemWrite) :=
  let v := D.vop d
  [s.elemPiece (Lay.a d) (fmtBytes (D.fmtA d)) i j n,
   if vecHasB v then s.elemPiece (Lay.b d) (fmtBytes (D.fmtB d)) i j n else [],
   if v == 0x04 then s.elemPiece (Lay.c d) (fmtBytes (D.fmtC d)) i j n else [],
   if v == 0x20 then s.elemPiece (Lay.row d) 96 i 0 1 else [],
   if v == 0x20 then s.elemPiece (Lay.off d) 4 i (j / 64) 1 else []]

/-- The settings of element (i, j): its random bits are drawn by its index in the result tensor (R101). -/
def lanesSet (d : Desc) (seed i j : Nat) : RSet := rsetOf d (srBits d seed (i * D.n d + j))

/-- The output of an operation that gives one value per element (R434). -/
def State.elemItems (s : State) (d : Desc) (seed : Nat) (f : RSet → Nat → Nat → Lane) : List VItem :=
  let so := fmtBytes (D.fmtOut d)
  (upto (D.m d)).flatMap (fun i => (upto (D.n d)).map (fun j =>
    let r := f (lanesSet d seed i j) i j
    { addr := (Lay.out d).at i (j * so), data := bytesOf r.val so, flags := r.flags, row := i,
      reads := s.vecReads d i j 1, bad := r.bad }))

/-- The output of an operation that gives one value of `size` bytes per row (R434). -/
def State.rowItems (s : State) (d : Desc) (size : Nat) (f : Nat → Lane) : List VItem :=
  (upto (D.m d)).map (fun i =>
    let r := f i
    { addr := (Lay.out d).at i 0, data := bytesOf r.val size, flags := r.flags, row := i,
      reads := s.vecReads d i 0 (D.n d), bad := r.bad })

/-- The output of FCMP: one bit per element, packed least significant bit first (R434). -/
def State.maskItems (s : State) (d : Desc) (seed : Nat) (f : RSet → Nat → Nat → Lane) : List VItem :=
  let n := D.n d
  let total := D.m d * n
  (upto ((total + 7) / 8)).map (fun x =>
    let es := (upto (min 8 (total - 8 * x))).map (fun k =>
      let e := 8 * x + k
      (k, f (lanesSet d seed (e / n) (e % n)) (e / n) (e % n), s.vecReads d (e / n) (e % n) 1))
    { addr := D.addrOut d + x
      data := [BitVec.ofNat 8 (es.map (fun y => y.2.1.val * 2 ^ y.1)).sum]
      flags := es.foldl (fun (g : Flags) y => g ||| y.2.1.flags) 0
      row := 8 * x / n
      reads := (upto 5).map (fun r => es.flatMap (fun y => y.2.2.getD r [])) })

/-- Elements or records a stand processes per beat (Table 3-6). -/
def lanesPerBeat (d : Desc) : Nat :=
  let v := D.vop d
  if decide (0x11 ≤ v) && decide (v ≤ 0x16) then 64
  else if decide (0x18 ≤ v) && decide (v ≤ 0x1B) then 32
  else if v == 0x1E || v == 0x1F then (if D.fmtA d == 8 then 16 else 4)
  else if v == 0x20 then 64 else 256

/-- The stand of a row (R166). -/
def standOfRow (m : Nat) (stands : List Nat) (i : Nat) : Nat := stands.getD (i / max 1 (ceilDiv m stands.length)) 0xFF

/-- The bytes read for a list of pieces of one operand: what neighbours share is read once (R268). -/
def readOnce : List MemWrite → List Byte
  | [] => []
  | [x] => x.data
  | x :: y :: t => if x.addr == y.addr then readOnce (y :: t) else x.data ++ readOnce (y :: t)

/-- The items of one unit of an optimiser task, as the unit with its digests (R268, R271). -/
def vecUnit (d : Desc) (stands : List Nat) (second : Nat → Nat) (k : Nat) (l : List VItem) : OptUnit :=
  let inp := crc64 ((upto 5).flatMap (fun r => readOnce (l.flatMap (fun x => x.reads.getD r []))))
  let fl := l.foldl (fun (f : Flags) x => f ||| x.flags) 0
  let orig := standOfRow (D.m d) stands ((l.head?.map (·.row)).getD 0)
  { index := k, writes := l.map (fun x => ⟨x.addr, x.data⟩), orig := orig, checker := second orig
    digests := { inp := inp, out := crc64 (l.flatMap (·.data) ++ bytesOf fl.toNat 1 ++ bytesOf 0 4) }
    sig := { mode := if D.fmtA d == 0 then 0 else 1, m := D.m d, n := D.n d, hash := inp.toNat } }

/-- Items with the number of output bytes before each. -/
def withBefore (o : Nat) : List VItem → List (Nat × VItem)
  | [] => []
  | x :: t => (o, x) :: withBefore (o + x.data.length) t

/-- The part of an item that falls into the kth 64 KiB of output. -/
def VItem.part (k : Nat) (x : Nat × VItem) : Option VItem :=
  let lo := max x.1 (65536 * k)
  let hi := min (x.1 + x.2.data.length) (65536 * (k + 1))
  if lo < hi then some { x.2 with addr := x.2.addr + (lo - x.1), data := (x.2.data.drop (lo - x.1)).take (hi - lo) } else none

/-- The units of an optimiser task: each successive 64 KiB of output, in address order (R271); an item across an edge belongs
to both. -/
def vecUnits (d : Desc) (stands : List Nat) (second : Nat → Nat) (l : List VItem) : List OptUnit :=
  let items := withBefore 0 l
  (upto (ceilDiv (l.map (fun x => x.data.length)).sum 65536)).map (fun k =>
    vecUnit d stands second k (items.filterMap (VItem.part k)))

/-- The result of a VECTOR task whose output pieces are `l`. -/
def State.runVector (s : State) (p : Placement) (t : Task) (l : List VItem) : Ran :=
  let d := t.desc
  let rep : Report := { flags := l.foldl (fun (f : Flags) x => f ||| x.flags) 0 }
  let busy := ((dealRows (D.m d) t.stands).map (fun (x : Nat × Nat × Nat) => ceilDiv (x.2.2 * D.n d) (lanesPerBeat d))).sum
  match l.findSome? (·.bad) with
  | some (st, a) => { report := rep, busy := busy, abort := some (st, a, 0),
                      left := (l.filterMap (·.bad)).filterMap (fun x =>
                        if x.1 == Status.accumulatorRange then some (x.2, fmtBytes (D.fmtA d), []) else none) }
  | none =>
    if D.optimiser d then
      if t.stands.any (fun g => (s.checkerFor g p.checker).isNone) then
        { report := rep, busy := busy, abort := some (Status.standFenced, 0, 0) }
      else { report := rep, busy := busy, units := vecUnits d t.stands (fun g => (s.checkerFor g p.checker).getD 0xFF) l }
    else { report := rep, busy := busy, writes := l.map (fun x => ⟨x.addr, x.data⟩) }

/-- A VECTOR task of operation `v` starts; `items` gives its output pieces from the job's seed. -/
def State.vectorTask (s : State) (h : Nat) (t : BitVec 32) (p : Placement) (v : Nat)
    (items : State → Desc → Nat → List VItem) : State :=
  s.startOn h t p (fun d => D.kind d == kVector && D.vop d == v)
    (fun s t => s.runVector p t (items s t.desc (s.seedOf t)))

/-- Operands A, B and C of element (i, j). -/
def State.opA (s : State) (d : Desc) (i j : Nat) : Nat := s.elem (Lay.a d) (fmtBytes (D.fmtA d)) i j
def State.opB (s : State) (d : Desc) (i j : Nat) : Nat := s.elem (Lay.b d) (fmtBytes (D.fmtB d)) i j
def State.opC (s : State) (d : Desc) (i j : Nat) : Nat := s.elem (Lay.c d) (fmtBytes (D.fmtC d)) i j

/-- One-operand, two-operand and integer operations, element by element. -/
def State.items1 (s : State) (d : Desc) (seed : Nat) (f : RSet → Nat → Nat × Flags) : List VItem :=
  s.elemItems d seed (fun c i j => .of (f c (s.opA d i j)))
def State.items2 (s : State) (d : Desc) (seed : Nat) (f : RSet → Nat → Nat → Nat × Flags) : List VItem :=
  s.elemItems d seed (fun c i j => .of (f c (s.opA d i j) (s.opB d i j)))
def State.itemsInt (s : State) (d : Desc) (seed : Nat) : List VItem :=
  s.items2 d seed (fun _ a b => (laneInt (D.vop d) a b, 0))
def State.itemsCmp (s : State) (d : Desc) (seed : Nat) : List VItem :=
  s.maskItems d seed (fun c i j => .of (laneCmp c (D.vop d) (D.fmtA d) (D.fmtB d) (s.opA d i j) (s.opB d i j)))

/-- ROWMAX of row i (R99). -/
def State.rowMax (s : State) (d : Desc) (i : Nat) : Lane :=
  .of ((upto (D.n d)).foldl (fun (acc : Nat × Flags) j =>
    let (m, f) := laneSel (rsetOf d 0) 1 (D.fmtA d) fmaxV acc.1 (s.opA d i j)
    (m, acc.2 ||| f)) (0xFF800000, 0))

/-- ROWSUM of row i: an exact Heartwood-592 record (R98). -/
def State.rowSum (s : State) (d : Desc) (i : Nat) : Lane :=
  let r := (upto (D.n d)).foldl (fun (acc : Heart × Flags) j =>
    let (x, fx) := laneIn (rsetOf d 0) (D.fmtA d) (s.opA d i j)
    (acc.1.addAddend x, acc.2 ||| fx ||| nanFlags [x])) ({}, 0)
  { val := r.1.toRecord .h592, flags := r.2 }

/-- RECADD of one element (R72, R73, R75). -/
def State.recAdd (s : State) (d : Desc) (i j : Nat) : Lane :=
  let form := formOf (D.fmtA d)
  let sz := fmtBytes (D.fmtA d)
  match Heart.ofRecord form (s.opA d i j), Heart.ofRecord form (s.opB d i j) with
  | some x, some y =>
    let z := x.merge y
    { val := z.toRecord form
      bad := if z.fits form then none else some (Status.accumulatorRange, (Lay.out d).at i (j * sz)) }
  | none, _ => { val := 0, bad := some (Status.malformedSpillRecord, (Lay.a d).at i (j * sz)) }
  | _, none => { val := 0, bad := some (Status.malformedSpillRecord, (Lay.b d).at i (j * sz)) }

/-- RECRND of one element (R52, R72). -/
def State.recRound (s : State) (d : Desc) (c : RSet) (i j : Nat) : Lane :=
  match Heart.ofRecord (formOf (D.fmtA d)) (s.opA d i j) with
  | some x => .of (x.round (fmtOf (D.fmtOut d)) c)
  | none => { val := 0, bad := some (Status.malformedSpillRecord, (Lay.a d).at i (j * fmtBytes (D.fmtA d))) }

/-- SOFTNORM of one element (R106). -/
def State.softNorm (s : State) (d : Desc) (c : RSet) (i j : Nat) : Lane :=
  let at_ := (Lay.row d).at i 0
  match RowSt.ofNat (s.numAt at_ 96) with
  | some r => .of (laneSoftnorm c (D.fmtA d) (D.fmtOut d) (s.opA d i j) (s.numAt ((Lay.off d).at i (4 * (j / 64))) 4) r.sum r.max)
  | none => { val := 0, bad := some (Status.malformedSpillRecord, at_) }

/-- FADD (R98): a + b in FP32, in the task's mode. -/
def State.itemsFaddOp (s : State) (d : Desc) (k : Nat) : List VItem := s.items2 d k (fun c a b => lane2 c (D.fmtA d) (D.fmtB d) exAdd a b)

/-- FSUB (R98): a − b. -/
def State.itemsFsubOp (s : State) (d : Desc) (k : Nat) : List VItem := s.items2 d k (fun c a b => lane2 c (D.fmtA d) (D.fmtB d) exSub a b)

/-- FMUL (R98): a × b. -/
def State.itemsFmulOp (s : State) (d : Desc) (k : Nat) : List VItem := s.items2 d k (fun c a b => lane2 c (D.fmtA d) (D.fmtB d) exMul a b)

/-- FMA (R98, R100): a × b + c, rounded once. -/
def State.itemsFmaOp (s : State) (d : Desc) (k : Nat) : List VItem := s.elemItems d k (fun c i j =>
    .of (laneFma c (D.fmtA d) (D.fmtB d) (D.fmtC d) (s.opA d i j) (s.opB d i j) (s.opC d i j)))

/-- FMIN (R99). -/
def State.itemsFminOp (s : State) (d : Desc) (k : Nat) : List VItem := s.items2 d k (fun c a b => laneSel c (D.fmtA d) (D.fmtB d) fminV a b)

/-- FMAX (R99). -/
def State.itemsFmaxOp (s : State) (d : Desc) (k : Nat) : List VItem := s.items2 d k (fun c a b => laneSel c (D.fmtA d) (D.fmtB d) fmaxV a b)

/-- FCMP equal (R429, R434). -/
def State.itemsFcmpEqualOp (s : State) (d : Desc) (k : Nat) : List VItem := s.itemsCmp d k

/-- FCMP less than (R429, R434). -/
def State.itemsFcmpLessThanOp (s : State) (d : Desc) (k : Nat) : List VItem := s.itemsCmp d k

/-- FCMP less or equal (R429, R434). -/
def State.itemsFcmpLessOrEqualOp (s : State) (d : Desc) (k : Nat) : List VItem := s.itemsCmp d k

/-- CVT (R98, R430, R432). -/
def State.itemsCvtOp (s : State) (d : Desc) (k : Nat) : List VItem := s.items1 d k (fun c a => laneCvt c (D.fmtA d) (D.fmtOut d) a)

/-- IADD (R98, R427). -/
def State.itemsIaddOp (s : State) (d : Desc) (k : Nat) : List VItem := s.itemsInt d k

/-- IAND (R98, R427). -/
def State.itemsIandOp (s : State) (d : Desc) (k : Nat) : List VItem := s.itemsInt d k

/-- IOR (R98, R427). -/
def State.itemsIorOp (s : State) (d : Desc) (k : Nat) : List VItem := s.itemsInt d k

/-- IXOR (R98, R427). -/
def State.itemsIxorOp (s : State) (d : Desc) (k : Nat) : List VItem := s.itemsInt d k

/-- ISHL (R427). -/
def State.itemsIshlOp (s : State) (d : Desc) (k : Nat) : List VItem := s.itemsInt d k

/-- ISHR (R427). -/
def State.itemsIshrOp (s : State) (d : Desc) (k : Nat) : List VItem := s.itemsInt d k

/-- FDIV (R98, R428): RNE. -/
def State.itemsFdivOp (s : State) (d : Desc) (k : Nat) : List VItem := s.items2 d k (fun c a b => lane2 c.nearest 1 1 exDiv a b)

/-- FSQRT (R98): RNE. -/
def State.itemsFsqrtOp (s : State) (d : Desc) (k : Nat) : List VItem := s.items1 d k (fun c a => lane1 c.nearest 1 exSqrt a)

/-- EXP2 (R98): RNE. -/
def State.itemsExp2Op (s : State) (d : Desc) (k : Nat) : List VItem := s.items1 d k (fun c a => lane1 c.nearest 1 exExp2 a)

/-- LOG2 (R98, R428): RNE. -/
def State.itemsLog2Op (s : State) (d : Desc) (k : Nat) : List VItem := s.items1 d k (fun c a => lane1 c.nearest 1 exLog2 a)

/-- RCP (R98, R428): RNE. -/
def State.itemsRcpOp (s : State) (d : Desc) (k : Nat) : List VItem := s.items1 d k (fun c a => lane1 c.nearest 1 (exDiv (.fin false 1 0)) a)

/-- RSQRT (R98, R428): RNE. -/
def State.itemsRsqrtOp (s : State) (d : Desc) (k : Nat) : List VItem := s.items1 d k (fun c a => lane1 c.nearest 1 exRsqrt a)

/-- RELU (R431). -/
def State.itemsReluOp (s : State) (d : Desc) (k : Nat) : List VItem := s.items1 d k laneRelu

/-- GELU (R98). -/
def State.itemsGeluOp (s : State) (d : Desc) (k : Nat) : List VItem := s.items1 d k (fun c a => laneAct c 2 a)

/-- SIGMOID (R98). -/
def State.itemsSigmoidOp (s : State) (d : Desc) (k : Nat) : List VItem := s.items1 d k (fun c a => laneAct c 3 a)

/-- SILU (R98). -/
def State.itemsSiluOp (s : State) (d : Desc) (k : Nat) : List VItem := s.items1 d k (fun c a => laneAct c 4 a)

/-- TANH (R98). -/
def State.itemsTanhOp (s : State) (d : Desc) (k : Nat) : List VItem := s.items1 d k (fun c a => laneAct c 5 a)

/-- ROWMAX (R99, R434). -/
def State.itemsRowmaxOp (s : State) (d : Desc) (_k : Nat) : List VItem := s.rowItems d 4 (s.rowMax d)

/-- ROWSUM (R98, R434). -/
def State.itemsRowsumOp (s : State) (d : Desc) (_k : Nat) : List VItem := s.rowItems d 80 (s.rowSum d)

/-- RECADD (R75, R434). -/
def State.itemsRecaddOp (s : State) (d : Desc) (k : Nat) : List VItem := s.elemItems d k (fun _ i j => s.recAdd d i j)

/-- RECRND (R52, R98, R434). -/
def State.itemsRecrndOp (s : State) (d : Desc) (k : Nat) : List VItem := s.elemItems d k (fun c i j => s.recRound d c i j)

/-- SOFTNORM (R106, R434). -/
def State.itemsSoftnormOp (s : State) (d : Desc) (k : Nat) : List VItem := s.elemItems d k (fun c i j => s.softNorm d c i j)

/-- The output pieces of any operation, by its VOP (R160). -/
def State.itemsOf (s : State) (d : Desc) (k : Nat) : List VItem :=
  match D.vop d with
  | 1 => s.itemsFaddOp d k
  | 2 => s.itemsFsubOp d k
  | 3 => s.itemsFmulOp d k
  | 4 => s.itemsFmaOp d k
  | 5 => s.itemsFminOp d k
  | 6 => s.itemsFmaxOp d k
  | 7 => s.itemsFcmpEqualOp d k
  | 8 => s.itemsFcmpLessThanOp d k
  | 9 => s.itemsFcmpLessOrEqualOp d k
  | 10 => s.itemsCvtOp d k
  | 11 => s.itemsIaddOp d k
  | 12 => s.itemsIandOp d k
  | 13 => s.itemsIorOp d k
  | 14 => s.itemsIxorOp d k
  | 15 => s.itemsIshlOp d k
  | 16 => s.itemsIshrOp d k
  | 17 => s.itemsFdivOp d k
  | 18 => s.itemsFsqrtOp d k
  | 19 => s.itemsExp2Op d k
  | 20 => s.itemsLog2Op d k
  | 21 => s.itemsRcpOp d k
  | 22 => s.itemsRsqrtOp d k
  | 23 => s.itemsReluOp d k
  | 24 => s.itemsGeluOp d k
  | 25 => s.itemsSigmoidOp d k
  | 26 => s.itemsSiluOp d k
  | 27 => s.itemsTanhOp d k
  | 28 => s.itemsRowmaxOp d k
  | 29 => s.itemsRowsumOp d k
  | 30 => s.itemsRecaddOp d k
  | 31 => s.itemsRecrndOp d k
  | 32 => s.itemsSoftnormOp d k
  | _ => []

/-- FADD (R98): a + b in FP32, in the task's mode. -/
def execFadd (h : Nat) (t : BitVec 32) (p : Placement) (s : State) : Host.Outcome State Fault Refusal :=
  .next (s.vectorTask h t p 0x01 State.itemsFaddOp)

/-- FSUB (R98): a − b. -/
def execFsub (h : Nat) (t : BitVec 32) (p : Placement) (s : State) : Host.Outcome State Fault Refusal :=
  .next (s.vectorTask h t p 0x02 State.itemsFsubOp)

/-- FMUL (R98): a × b. -/
def execFmul (h : Nat) (t : BitVec 32) (p : Placement) (s : State) : Host.Outcome State Fault Refusal :=
  .next (s.vectorTask h t p 0x03 State.itemsFmulOp)

/-- FMA (R98, R100): a × b + c, rounded once. -/
def execFma (h : Nat) (t : BitVec 32) (p : Placement) (s : State) : Host.Outcome State Fault Refusal :=
  .next (s.vectorTask h t p 0x04 State.itemsFmaOp)

/-- FMIN (R99). -/
def execFmin (h : Nat) (t : BitVec 32) (p : Placement) (s : State) : Host.Outcome State Fault Refusal :=
  .next (s.vectorTask h t p 0x05 State.itemsFminOp)

/-- FMAX (R99). -/
def execFmax (h : Nat) (t : BitVec 32) (p : Placement) (s : State) : Host.Outcome State Fault Refusal :=
  .next (s.vectorTask h t p 0x06 State.itemsFmaxOp)

/-- FCMP equal (R429, R434). -/
def execFcmpEqual (h : Nat) (t : BitVec 32) (p : Placement) (s : State) : Host.Outcome State Fault Refusal :=
  .next (s.vectorTask h t p 0x07 State.itemsFcmpEqualOp)

/-- FCMP less than (R429, R434). -/
def execFcmpLessThan (h : Nat) (t : BitVec 32) (p : Placement) (s : State) : Host.Outcome State Fault Refusal :=
  .next (s.vectorTask h t p 0x08 State.itemsFcmpLessThanOp)

/-- FCMP less or equal (R429, R434). -/
def execFcmpLessOrEqual (h : Nat) (t : BitVec 32) (p : Placement) (s : State) : Host.Outcome State Fault Refusal :=
  .next (s.vectorTask h t p 0x09 State.itemsFcmpLessOrEqualOp)

/-- CVT (R98, R430, R432). -/
def execCvt (h : Nat) (t : BitVec 32) (p : Placement) (s : State) : Host.Outcome State Fault Refusal :=
  .next (s.vectorTask h t p 0x0A State.itemsCvtOp)

/-- IADD (R98, R427). -/
def execIadd (h : Nat) (t : BitVec 32) (p : Placement) (s : State) : Host.Outcome State Fault Refusal :=
  .next (s.vectorTask h t p 0x0B State.itemsIaddOp)

/-- IAND (R98, R427). -/
def execIand (h : Nat) (t : BitVec 32) (p : Placement) (s : State) : Host.Outcome State Fault Refusal :=
  .next (s.vectorTask h t p 0x0C State.itemsIandOp)

/-- IOR (R98, R427). -/
def execIor (h : Nat) (t : BitVec 32) (p : Placement) (s : State) : Host.Outcome State Fault Refusal :=
  .next (s.vectorTask h t p 0x0D State.itemsIorOp)

/-- IXOR (R98, R427). -/
def execIxor (h : Nat) (t : BitVec 32) (p : Placement) (s : State) : Host.Outcome State Fault Refusal :=
  .next (s.vectorTask h t p 0x0E State.itemsIxorOp)

/-- ISHL (R427). -/
def execIshl (h : Nat) (t : BitVec 32) (p : Placement) (s : State) : Host.Outcome State Fault Refusal :=
  .next (s.vectorTask h t p 0x0F State.itemsIshlOp)

/-- ISHR (R427). -/
def execIshr (h : Nat) (t : BitVec 32) (p : Placement) (s : State) : Host.Outcome State Fault Refusal :=
  .next (s.vectorTask h t p 0x10 State.itemsIshrOp)

/-- FDIV (R98, R428): RNE. -/
def execFdiv (h : Nat) (t : BitVec 32) (p : Placement) (s : State) : Host.Outcome State Fault Refusal :=
  .next (s.vectorTask h t p 0x11 State.itemsFdivOp)

/-- FSQRT (R98): RNE. -/
def execFsqrt (h : Nat) (t : BitVec 32) (p : Placement) (s : State) : Host.Outcome State Fault Refusal :=
  .next (s.vectorTask h t p 0x12 State.itemsFsqrtOp)

/-- EXP2 (R98): RNE. -/
def execExp2 (h : Nat) (t : BitVec 32) (p : Placement) (s : State) : Host.Outcome State Fault Refusal :=
  .next (s.vectorTask h t p 0x13 State.itemsExp2Op)

/-- LOG2 (R98, R428): RNE. -/
def execLog2 (h : Nat) (t : BitVec 32) (p : Placement) (s : State) : Host.Outcome State Fault Refusal :=
  .next (s.vectorTask h t p 0x14 State.itemsLog2Op)

/-- RCP (R98, R428): RNE. -/
def execRcp (h : Nat) (t : BitVec 32) (p : Placement) (s : State) : Host.Outcome State Fault Refusal :=
  .next (s.vectorTask h t p 0x15 State.itemsRcpOp)

/-- RSQRT (R98, R428): RNE. -/
def execRsqrt (h : Nat) (t : BitVec 32) (p : Placement) (s : State) : Host.Outcome State Fault Refusal :=
  .next (s.vectorTask h t p 0x16 State.itemsRsqrtOp)

/-- RELU (R431). -/
def execRelu (h : Nat) (t : BitVec 32) (p : Placement) (s : State) : Host.Outcome State Fault Refusal :=
  .next (s.vectorTask h t p 0x17 State.itemsReluOp)

/-- GELU (R98). -/
def execGelu (h : Nat) (t : BitVec 32) (p : Placement) (s : State) : Host.Outcome State Fault Refusal :=
  .next (s.vectorTask h t p 0x18 State.itemsGeluOp)

/-- SIGMOID (R98). -/
def execSigmoid (h : Nat) (t : BitVec 32) (p : Placement) (s : State) : Host.Outcome State Fault Refusal :=
  .next (s.vectorTask h t p 0x19 State.itemsSigmoidOp)

/-- SILU (R98). -/
def execSilu (h : Nat) (t : BitVec 32) (p : Placement) (s : State) : Host.Outcome State Fault Refusal :=
  .next (s.vectorTask h t p 0x1A State.itemsSiluOp)

/-- TANH (R98). -/
def execTanh (h : Nat) (t : BitVec 32) (p : Placement) (s : State) : Host.Outcome State Fault Refusal :=
  .next (s.vectorTask h t p 0x1B State.itemsTanhOp)

/-- ROWMAX (R99, R434). -/
def execRowmax (h : Nat) (t : BitVec 32) (p : Placement) (s : State) : Host.Outcome State Fault Refusal :=
  .next (s.vectorTask h t p 0x1C State.itemsRowmaxOp)

/-- ROWSUM (R98, R434). -/
def execRowsum (h : Nat) (t : BitVec 32) (p : Placement) (s : State) : Host.Outcome State Fault Refusal :=
  .next (s.vectorTask h t p 0x1D State.itemsRowsumOp)

/-- RECADD (R75, R434). -/
def execRecadd (h : Nat) (t : BitVec 32) (p : Placement) (s : State) : Host.Outcome State Fault Refusal :=
  .next (s.vectorTask h t p 0x1E State.itemsRecaddOp)

/-- RECRND (R52, R98, R434). -/
def execRecrnd (h : Nat) (t : BitVec 32) (p : Placement) (s : State) : Host.Outcome State Fault Refusal :=
  .next (s.vectorTask h t p 0x1F State.itemsRecrndOp)

/-- SOFTNORM (R106, R434). -/
def execSoftnorm (h : Nat) (t : BitVec 32) (p : Placement) (s : State) : Host.Outcome State Fault Refusal :=
  .next (s.vectorTask h t p 0x20 State.itemsSoftnormOp)

end Sys2Proof.Machine
end

