-- ==== Sys2Proof/Machine/Recompute.lean ====
section
/-! DEFINITION. RECOMPUTE_RERUN (R133): a producer is run again for a reader that met a detected error in a region of class
Recompute. -/

namespace Sys2Proof.Machine

/-- What a second run of a producer with this descriptor yields; the host's data for HOST_READ. Its stand does not change
its bits (R18). -/
def State.rerun (s : State) (t : Task) (hostAnswer : Option (List Byte)) : Ran :=
  let d := t.desc
  if D.kind d == kMatmul then s.runMatmul ⟨0xFF, 0xFF⟩ t
  else if D.kind d == kVector then s.runVector ⟨0xFF, 0xFF⟩ t (s.itemsOf d (s.seedOf t))
  else if D.kind d == kCopy then { writes := [⟨D.addrOut d, s.bytesAt (D.addrA d) (D.length d)⟩] }
  else match hostAnswer with
    | some l => if D.kind d == kHostRead && l.length == D.length d then { writes := [⟨D.addrOut d, l⟩] }
        else { abort := some (Status.memoryError, 0, 1) }
    | none => { abort := some (Status.memoryError, 0, 1) }

/-- The first stand in service. -/
def State.anyStand (s : State) : List Nat := ((upto 192).find? s.standEnabled).toList

/-- The producer's second run (R133): what it leaves, and whether it ended well. It counts what every run counts (R64, R92), and
a detected error in it is handled as one. No block of it is sampled: R265 samples the blocks of tasks, and the task is the
same (DEDUCED, log entry 90). -/
def State.reproduce (s : State) (t : Task) (d : Desc) (hostAnswer : Option (List Byte)) : State × Bool :=
  let p : Task := { uid := t.uid, handle := t.handle, id := D.taskId d, job := t.job, desc := d, stands := s.anyStand }
  match s.readFault [] (readPieces d) with
  | some (b, k) => (s.ownError b k, false)
  | none =>
    if standKind (D.kind d) && s.anyStand.isEmpty then (s, false)
    else
      let r := (s.setOb Obj.checkEnable 0).rerun p hostAnswer
      let s := s.tally p r
      let ws := joinWrites (if r.units.isEmpty then r.writes else sortWrites (r.units.flatMap (·.writes)))
      if r.abort.isSome then (s, false)
      else match s.writeFault ws with
        | some (b, k) => (s.ownError b k, false)
        | none => (ws.foldl (fun s w => s.put w.addr w.data) s, true)

/-- RECOMPUTE_RERUN (R133): the producer runs again and its reader may start over, or the reader ends with MEMORY_ERROR. Only a run that
succeeds counts in RECOMPUTES (DESIGN CHOICE, log entry 90). -/
def execRecomputeRerun (h : Nat) (t : BitVec 32) (hostAnswer : Option (List Byte)) (s : State) :
    Host.Outcome State Fault Refusal :=
  match s.taskAt h t with
  | none => .next s
  | some t =>
    if t.phase == .held && t.faultDetail == 1 && !t.recomputed then
      let b := t.faultAddr / 64
      let (s, ok) := match s.producer t t.faultAddr with
        | some d => s.reproduce t d hostAnswer
        | none => (s, false)
      if ok then
        .next ((s.modTask t.uid t.id (fun t => { t with recomputed := true, faultAddr := 0, faultDetail := 0 })).bump Obj.recomputes)
      else
        let r : ErrRec := { errRec 0x0203 with
          job := t.job, step := D.step t.desc, handle := t.handle, task := t.id.toNat
          attempt := t.attempt, address := t.faultAddr }
        .next (((s.bump Obj.repairFailures).logAt (s.memUnit b) r).abort t Status.memoryError t.faultAddr 1)
    else .next s

end Sys2Proof.Machine
end

