-- ==== Sys2Proof/Machine/Scrub.lean ====
section
/-! DEFINITION. Patrol scrub (R140 to R143): what it reads next, what an upset makes of a block's check (R123, R124), and what
the module does with an error it finds. -/

namespace Sys2Proof.Machine

/-- Code of a memory in Table 4-9. -/
def memCode : MemKind → Nat
  | .stack => 0 | .understory => 1 | .scratch => 2 | .table => 3

/-- Ranges of block numbers of a memory, in the order scrub reads them. -/
def scrubRanges : MemKind → List (Nat × Nat)
  | .stack => [(0, 0x024000000000 / 64)]
  | .understory => [(0x400000000000 / 64, 0x400068000000 / 64)]
  | .scratch => [(0x400100000000 / 64, 0x400118000000 / 64)]
  | .table => [(0x400032000000 / 64, 0x400034000000 / 64), (0x400066000000 / 64, 0x400068000000 / 64)]

/-- The block after b in the ranges; the first one after the last. -/
def nextBlock (l : List (Nat × Nat)) (b : Nat) : Nat :=
  match l.find? (fun (lo, hi) => decide (b + 1 < hi) && decide (lo ≤ b + 1)) with
  | some _ => b + 1
  | none => match l.find? (fun (lo, _) => decide (b < lo)) with
    | some (lo, _) => lo
    | none => (l.headD (0, 1)).1

/-- The saved tasks a block of a context save area belongs to (Table 5-6a): that of a stand's save slot, or those of a channel
swapped out. -/
def State.contextTasks (s : State) (b : Nat) : List Task :=
  let off := b * 64 - 0x023F00000000
  let h := off / 0x80000000
  let o := off % 0x80000000
  let ofSlot (k : Nat) : List Task := match kget? (s.stand (96 * h + k / 8)).saved (k % 8) with
    | some (uid, id) => (s.taskBy uid id).toList
    | none => []
  if o < 0x1000000 then
    match s.chanAt (o / 256) with
    | some c => if c.resident then [] else s.chan.tasks.filter (fun t => t.uid == c.uid)
    | none => []
  else if o < 0x1030000 then ofSlot ((o - 0x1000000) / 256)
  else if 0x8000000 ≤ o then ofSlot ((o - 0x8000000) / 0x280000)
  else []

/-- A block of a context save area fails its check: the tasks saved in it abort (R140). -/
def State.contextFault (s : State) (b : Nat) : State :=
  (s.contextTasks b).foldl (fun s t => s.abort t Status.memoryError (b * 64) 0) (s.detect b .stackCheck)

/-- An upset in a table of the understory reserve (R140): an endpoint table entry is restored from the other half's copy, which is a
successful repair (R137); for any other table the half that holds it is reset (DEDUCED, log entry 88). -/
def State.tableUpset (s : State) (b : Nat) (u : Upset) : State :=
  let key := s.physBlock b
  let s := s.detect b .line
  if u.endpoint then { s with mem := s.mem.heal key s.now } else s.halfLost ((s.homeOf (b * 64)).getD 0)

/-- Does the check of a block or line pass as an upset has left it (R123, R124)? -/
def State.upsetPasses (s : State) (b : Nat) (u : Upset) : Bool :=
  if isStack (b * 64) then !u.reported && u.check == stackCheck (s.physBlock b) u.data
  else u.check.setWidth 16 == lineCheck b u.data

/-- The words of a line whose parity passes, or fails, as an upset has left them (R124). -/
def upsetWords (b : Nat) (u : Upset) (passes : Bool) : List Nat :=
  ((upto 16).filter (fun i => (oddParity (ofBytes ((u.data.drop (4 * i)).take 4)) == u.parity.getLsbD i) == passes)).map (· + 16 * b)

/-- An upset reaches a block or line: it holds what the upset made of it, and its check and parity are as they then are. -/
def State.upset (s : State) (b : Nat) (u : Upset) : State :=
  let s := s.poke (b * 64) u.data
  let m := s.mem
  { s with mem :=
    if isStack (b * 64) then (if s.upsetPasses b u then m.good b else m.bad b [])
    else if s.upsetPasses b u then { m.good b with badWords := (upsetWords b u false).foldl nins (m.good b).badWords }
    else m.bad b (upsetWords b u true) }

/-- SCRUB_READ (R140 to R143): the next block or line of a memory is read, with the upset that has reached it, if any. -/
def execScrubRead (m : MemKind) (upset : Option Upset) (s : State) : Host.Outcome State Fault Refusal :=
  if s.ob Obj.scrubEnable == 0 || decide (2 ≤ s.shed) then .next s
  else
    let ranges := scrubRanges m
    let b := kget s.mem.scrubAt (ranges.headD (0, 1)).1 (memCode m)
    let s := { s with mem := { s.mem with scrubAt := kset s.mem.scrubAt (memCode m) (nextBlock ranges b) } }
    if !s.mapped (b * 64) || !((s.homeOf (b * 64)).map s.halfRuns).getD false then .next s
    else if reservedArea (b * 64) && !isStack (b * 64) then
      .next (match upset with
        | some u => if s.upsetPasses b u then s else s.tableUpset b u
        | none => s)
    else
      let s := match upset with
        | some u => s.upset b u
        | none => s
      match s.blockFault b (b * 64) 64 with
      | some k => .next (if reservedArea (b * 64) then s.contextFault b else s.scrubFound b k)
      | none => .next s

end Sys2Proof.Machine
end

