-- ==== Sys2Proof/Machine/Spdm.lean ====
section
/-! DEFINITION. The management side of the boundary: the SPDM responder (R424, Table 12-12) and the I3C target and MCTP
endpoint (R11, R369). Codes and layouts of SPDM 1.2 and MCTP 1.3 are those of the published standards (PRESUMED, log entry
130); what the manual fixes is which requests are served, for which slot, and what is measured. -/

namespace Sys2Proof.Machine

/-- The management path is in service: a Glade runs as the active one (R365, R424). -/
def State.manages (s : State) : Bool := s.pathServes .bmc

/-- How far SPDM negotiation has come: 1 version, 2 capabilities, 3 algorithms. -/
def State.setSpdm (s : State) (n : Nat) : State := { s with edge := { s.edge with spdm := n } }

/-- An SPDM message: version, code, two parameters and the rest. -/
def spdmMsg (version code p1 p2 : Nat) (body : List Byte) : List Byte :=
  bytesOf version 1 ++ bytesOf code 1 ++ bytesOf p1 1 ++ bytesOf p2 1 ++ body

/-- The bytes of an SPDM response. -/
def spdmResp (code p1 p2 : Nat) (body : List Byte) : List Byte := spdmMsg (if code == 0x04 then 0x10 else 0x12) code p1 p2 body

/-- An SPDM response. -/
def State.spdmAnswer (s : State) (code p1 p2 : Nat) (body : List Byte) : State := s.answerI3c (.spdm code (spdmResp code p1 p2 body))

/-- An SPDM ERROR response: 0x01 invalid request, 0x04 unexpected request. -/
def State.spdmError (s : State) (code : Nat) : State := s.spdmAnswer 0x7F code 0 []

/-- Messages of the negotiation, which every signature covers. -/
def State.recordVca (s : State) (l : List Byte) : State := { s with edge := { s.edge with spdmVca := s.edge.spdmVca ++ l } }

/-- Messages of digests and certificates, which the signature of a challenge covers too. -/
def State.recordCert (s : State) (l : List Byte) : State := { s with edge := { s.edge with spdmCert := s.edge.spdmCert ++ l } }

/-- The body of the VERSION response: one entry, SPDM 1.2. -/
def spdmVersions : List Byte := bytesOf 0x0100 2 ++ bytesOf 0x1200 2

/-- The transcripts start anew with GET_VERSION. -/
def State.beginSpdm (s : State) : State :=
  { s with edge := { s.edge with spdm := 1, spdmVca := spdmMsg 0x10 0x84 0 0 [] ++ spdmResp 0x04 0 0 spdmVersions, spdmCert := [] } }

/-- GET_VERSION (R424): negotiation starts anew. -/
def execGetVersion (s : State) : Host.Outcome State Fault Refusal :=
  .next (if s.manages then s.beginSpdm.spdmAnswer 0x04 0 0 spdmVersions else s)

/-- The CAPABILITIES response: certificates, challenge and signed measurements. -/
def spdmCapabilities : List Byte :=
  [0] ++ Config.spdmSizes.take 1 ++ [0, 0] ++ bytesOf 0x16 4 ++ (Config.spdmSizes.drop 1).take 8

/-- What the module takes of a requester's NEGOTIATE_ALGORITHMS, whose 28 bytes after the header are `offer`: ECDSA P-384, SHA-384 and
DMTF measurements, each if it is offered. -/
def takenAsym (offer : List Byte) : Nat := ofBytes ((offer.drop 4).take 4) &&& 0x80
def takenHash (offer : List Byte) : Nat := ofBytes ((offer.drop 8).take 4) &&& 0x02
def takenMeas (offer : List Byte) : Nat := (offer.getD 2 0).toNat &&& 1

/-- The body of the ALGORITHMS response: measurements, with SHA-384 for them, then signature and hash, and no extension. -/
def spdmAlgorithms (offer : List Byte) : List Byte :=
  bytesOf 36 2 ++ bytesOf (takenMeas offer) 1 ++ [0] ++ bytesOf (if takenMeas offer = 0 then 0 else 0x04) 4 ++
  bytesOf (takenAsym offer) 4 ++ bytesOf (takenHash offer) 4 ++ bytesOf 0 16

/-- GET_CAPABILITIES is answered; `ask` is the 16 bytes of the request after its header. -/
def State.answerCapabilities (s : State) (ask : List Byte) : State :=
  (((s.setSpdm (max s.edge.spdm 2)).recordVca (spdmMsg 0x12 0xE1 0 0 ask ++ spdmResp 0x61 0 0 spdmCapabilities))).spdmAnswer 0x61 0 0 spdmCapabilities

/-- GET_CAPABILITIES (R424). The command carries no body, so the bytes the transcript covers are free values. -/
def execGetCapabilities (s : State) : Host.Outcome State Fault Refusal :=
  .next (if !s.manages then s else if s.edge.spdm < 1 then s.spdmError 0x04 else (s.answerCapabilities (s.freeBytes 16)).drawn 16)

/-- NEGOTIATE_ALGORITHMS is answered; without a common signature and hash nothing that needs them is served after it. -/
def State.answerAlgorithms (s : State) (offer : List Byte) : State :=
  let r := spdmAlgorithms offer
  ((s.setSpdm (if takenAsym offer = 0 || takenHash offer = 0 then 2 else 3)).recordVca (spdmMsg 0x12 0xE3 0 0 offer ++ spdmResp 0x63 0 0 r)).spdmAnswer
    0x63 0 0 r

/-- NEGOTIATE_ALGORITHMS (R424). The command carries no list, so what the requester offers is a free value. -/
def execNegotiateAlgorithms (s : State) : Host.Outcome State Fault Refusal :=
  .next (if !s.manages then s else if s.edge.spdm < 2 then s.spdmError 0x04 else (s.answerAlgorithms (s.freeBytes 28)).drawn 28)

/-- A request that needs the whole negotiation. -/
def State.attested (s : State) (ok : Bool) (f : State → State) : State :=
  if !s.manages then s else if s.edge.spdm < 3 then s.spdmError 0x04 else if !ok then s.spdmError 0x01 else f s

/-- GET_DIGESTS (R424): slot 0 has a chain. -/
def execGetDigests (s : State) : Host.Outcome State Fault Refusal :=
  .next (s.attested true (fun s =>
    let d := Config.sha384 Config.certChain
    (s.recordCert (spdmMsg 0x12 0x81 0 0 [] ++ spdmResp 0x01 0 1 d)).spdmAnswer 0x01 0 1 d))

/-- The CERTIFICATE response: length of the portion, what remains, the portion. -/
def spdmPortion (offset len : Nat) : List Byte :=
  let l := (Config.certChain.drop offset).take len
  bytesOf l.length 2 ++ bytesOf (Config.certChain.length - offset - l.length) 2 ++ l

/-- GET_CERTIFICATE (R424): slot 0 only. -/
def execGetCertificate (slot offset len : Nat) (s : State) : Host.Outcome State Fault Refusal :=
  .next (s.attested (slot == 0) (fun s =>
    (s.recordCert (spdmMsg 0x12 0x82 slot 0 (bytesOf offset 2 ++ bytesOf len 2) ++ spdmResp 0x02 0 0 (spdmPortion offset len))).spdmAnswer
      0x02 0 0 (spdmPortion offset len)))

/-- The ASCII codes of a string. -/
def ascii (s : String) : List Byte := s.toList.map (fun c => BitVec.ofNat 8 c.toNat)

/-- The signature of SPDM 1.2 over a transcript, in a context: the prefix of 100 bytes and the hash of the transcript are signed. -/
def spdmSign (context : String) (transcript : List Byte) : List Byte :=
  let c := ascii context
  let v := ascii "dmtf-spdm-v1.2.*"
  Config.ecdsaSign (Config.sha384 (v ++ v ++ v ++ v ++ List.replicate (36 - c.length) 0 ++ c ++ Config.sha384 transcript))

/-- What measurement `i` of Table 12-12 measures, but the running image, whose digest the image carries (R423). -/
def State.measured (s : State) (i : Nat) : List Byte :=
  match i with
  | 1 => Config.securityRom 0 ++ Config.securityRom 1
  | 3 => settingsBytes (persistentKeys.foldl (fun (m : KMap Nat) k => kset m k (s.ob k)) [])
  | 4 => bytesOf s.edge.fuses0.stepping 1 ++ bytesOf s.edge.fuses1.stepping 1 ++ bytesOf s.edge.fuses0.caps 4 ++
      bytesOf s.edge.fuses1.caps 4 ++ bytesOf s.caps 4
  | 5 => (upto 192).flatMap (fun n => bytesOf (s.width n) 1 ++ bytesOf (s.ob (Obj.arrayFence n)) 4 ++
      bytesOf (s.ob (Obj.bypassed n)) 32 ++ bytesOf (s.ob (Obj.standState n)) 1)
  | _ => []

/-- The measurement block of index i: its number, DMTF specification, size, value type and digest. -/
def State.measurementBlock (s : State) (i : Nat) : List Byte :=
  let d := match s.edge.image with
    | some image => if i == 2 then image.digest else Config.sha384 (s.measured i)
    | none => Config.sha384 (s.measured i)
  let type := if i == 1 then 0 else if i == 2 then 1 else if i == 4 then 2 else 3
  bytesOf i 1 ++ [1] ++ bytesOf (3 + d.length) 2 ++ bytesOf type 1 ++ bytesOf d.length 2 ++ d

/-- The measurement summary hash of a challenge: of the ROMs and the running image for the trusted computing base (PRESUMED, log entry
130), or of all measurements. -/
def State.summaryHash (s : State) (summary : Nat) : List Byte :=
  if summary == 0 then [] else Config.sha384 ((if summary == 1 then [1, 2] else [1, 2, 3, 4, 5]).flatMap s.measurementBlock)

/-- The body of CHALLENGE_AUTH before its signature: digest of the chain, the responder's nonce, the summary, no opaque data. -/
def State.challengeBody (s : State) (summary : Nat) (own : List Byte) : List Byte :=
  Config.sha384 Config.certChain ++ own ++ s.summaryHash summary ++ [0, 0]

/-- CHALLENGE is answered with a signature over every message since GET_VERSION. -/
def State.answerChallenge (s : State) (ask : ChallengeAsk) (own : List Byte) : State :=
  let body := s.challengeBody ask.summary own
  let sign := spdmSign "responder-challenge_auth signing"
    (s.edge.spdmVca ++ s.edge.spdmCert ++ spdmMsg 0x12 0x83 0 ask.summary ask.nonce ++ spdmResp 0x03 0 1 body)
  { s with edge := { s.edge with spdmCert := [] } }.spdmAnswer 0x03 0 1 (body ++ sign)

/-- CHALLENGE (R424). -/
def execChallenge (slot : Nat) (ask : ChallengeAsk) (s : State) : Host.Outcome State Fault Refusal :=
  .next (s.attested (slot == 0 && [0, 1, 0xFF].contains ask.summary) (fun s => (s.answerChallenge ask (s.freeBytes 32)).drawn 32))

/-- The body of MEASUREMENTS before its signature. -/
def State.measurementsBody (s : State) (index : Nat) (own : List Byte) : List Byte :=
  let which := if index == 0 then [] else if index == 0xFF then [1, 2, 3, 4, 5] else [index]
  let record := which.flatMap s.measurementBlock
  bytesOf which.length 1 ++ bytesOf record.length 3 ++ record ++ own ++ [0, 0]

/-- GET_MEASUREMENTS is answered with a signature over the negotiation and this exchange. -/
def State.answerMeasurements (s : State) (index : Nat) (nonce own : List Byte) : State :=
  let body := s.measurementsBody index own
  let p1 := if index == 0 then 5 else 0
  let sign := spdmSign "responder-measurements signing"
    (s.edge.spdmVca ++ spdmMsg 0x12 0xE0 1 index (nonce ++ [0]) ++ spdmResp 0x60 p1 0 body)
  s.spdmAnswer 0x60 p1 0 (body ++ sign)

/-- GET_MEASUREMENTS (R424, Table 12-12): index 0 their number, 0xFF all, 1 to 5 one; signed. -/
def execGetMeasurements (index : Nat) (nonce : List Byte) (s : State) : Host.Outcome State Fault Refusal :=
  .next (s.attested (decide (index ≤ 5) || index == 0xFF) (fun s => (s.answerMeasurements index nonce (s.freeBytes 32)).drawn 32))

/-! ## I3C and MCTP -/

/-- DYNAMIC_ADDRESS_ASSIGNMENT (R11, R369): the I3C controller gives the module its address. -/
def execDynamicAddressAssignment (addr : Nat) (s : State) : Host.Outcome State Fault Refusal :=
  .next (if s.manages && decide (addr < 128) then { s with edge := { s.edge with i3cAddr := some addr } } else s)

/-- Set Endpoint ID: operations 0 and 1 set an assignable ID; 2 asks for a static ID and 3 for a discovered flag, which this
endpoint does not have. -/
def State.setEid (s : State) (data : List Byte) : State :=
  let op := (data.getD 0 0).toNat % 4
  let eid := (data.getD 1 0).toNat
  if data.length != 2 then s.answerI3c (.mctp 1 [3])
  else if decide (2 ≤ op) || decide (eid < 8) || eid == 0xFF then s.answerI3c (.mctp 1 [2])
  else { s with edge := { s.edge with mctpEid := eid } }.answerI3c (.mctp 1 [0, 0, BitVec.ofNat 8 eid, 0])

/-- The versions of a message type: MCTP 1.3 of the base and of control messages, 1.0 of SPDM and of the vendor's own, whose version the
manual does not give (DESIGN CHOICE, log entry 130). -/
def mctpVersions (type : Nat) : List Byte :=
  if type == 0xFF || type == 0 then [0, 1, 0xF1, 0xF3, 0xF0, 0x00]
  else if type == 5 || type == 0x7F then [0, 1, 0xF1, 0xF0, 0xFF, 0x00]
  else [0x80]

/-- MCTP_CONTROL_MESSAGE (R11, Table 0-4: endpoint role, control messages): Set and Get Endpoint ID, versions, message types and
the vendor-defined type, whose command set has version 0x0001 (DESIGN CHOICE, log entry 130); any other command is answered as not
supported. -/
def execMctpControlMessage (code : Nat) (data : List Byte) (s : State) : Host.Outcome State Fault Refusal :=
  if !s.manages then .next s
  else if code == 1 then .next (s.setEid data)
  else if code == 2 then .next (s.answerI3c (.mctp code [0, BitVec.ofNat 8 s.edge.mctpEid, 0, 0]))
  else if code == 4 then .next (s.answerI3c (.mctp code (if data.length == 1 then mctpVersions (data.getD 0 0).toNat else [3])))
  else if code == 5 then .next (s.answerI3c (.mctp code [0, 2, 0x05, 0x7F]))
  else if code == 6 then .next (s.answerI3c (.mctp code (if data.length != 1 then [3] else if data.getD 0 0 != 0 then [2]
    else [0, 0xFF, 1] ++ (bytesOf (s.ob 0x100008) 4).reverse ++ [0, 1])))
  else .next (s.answerI3c (.mctp code [5]))

end Sys2Proof.Machine
end

