-- ==== Sys2Proof/Machine/Dispatch.lean ====
section
/-! DEFINITION. The effect of each command: one arm per constructor of `Instr`. -/

namespace Sys2Proof.Machine

/-- The effect of a command on everything but the queue. -/
def exec (i : Instr) (s : State) : Host.Outcome State Fault Refusal :=
  match i with
  | .tailWrite h v => Sys2Proof.Machine.execTailWrite h v s
  | .cplHeadWrite h v => Sys2Proof.Machine.execCplHeadWrite h v s
  | .doorbellIllegalAccess h offset width => Sys2Proof.Machine.execDoorbellIllegalAccess h offset width s
  | .fetchDescriptor h hostAnswer => Sys2Proof.Machine.execFetchDescriptor h hostAnswer s
  | .matmul h t p => Sys2Proof.Machine.execMatmul h t p s
  | .copy h t => Sys2Proof.Machine.execCopy h t s
  | .fabric h t => Sys2Proof.Machine.execFabric h t s
  | .wait h t => Sys2Proof.Machine.execWait h t s
  | .stepEnd h t => Sys2Proof.Machine.execStepEnd h t s
  | .hostRead h t hostAnswer => Sys2Proof.Machine.execHostRead h t hostAnswer s
  | .hostWrite h t => Sys2Proof.Machine.execHostWrite h t s
  | .fadd h t p => Sys2Proof.Machine.execFadd h t p s
  | .fsub h t p => Sys2Proof.Machine.execFsub h t p s
  | .fmul h t p => Sys2Proof.Machine.execFmul h t p s
  | .fma h t p => Sys2Proof.Machine.execFma h t p s
  | .fmin h t p => Sys2Proof.Machine.execFmin h t p s
  | .fmax h t p => Sys2Proof.Machine.execFmax h t p s
  | .fcmpEqual h t p => Sys2Proof.Machine.execFcmpEqual h t p s
  | .fcmpLessThan h t p => Sys2Proof.Machine.execFcmpLessThan h t p s
  | .fcmpLessOrEqual h t p => Sys2Proof.Machine.execFcmpLessOrEqual h t p s
  | .cvt h t p => Sys2Proof.Machine.execCvt h t p s
  | .iadd h t p => Sys2Proof.Machine.execIadd h t p s
  | .iand h t p => Sys2Proof.Machine.execIand h t p s
  | .ior h t p => Sys2Proof.Machine.execIor h t p s
  | .ixor h t p => Sys2Proof.Machine.execIxor h t p s
  | .ishl h t p => Sys2Proof.Machine.execIshl h t p s
  | .ishr h t p => Sys2Proof.Machine.execIshr h t p s
  | .fdiv h t p => Sys2Proof.Machine.execFdiv h t p s
  | .fsqrt h t p => Sys2Proof.Machine.execFsqrt h t p s
  | .exp2 h t p => Sys2Proof.Machine.execExp2 h t p s
  | .log2 h t p => Sys2Proof.Machine.execLog2 h t p s
  | .rcp h t p => Sys2Proof.Machine.execRcp h t p s
  | .rsqrt h t p => Sys2Proof.Machine.execRsqrt h t p s
  | .relu h t p => Sys2Proof.Machine.execRelu h t p s
  | .gelu h t p => Sys2Proof.Machine.execGelu h t p s
  | .sigmoid h t p => Sys2Proof.Machine.execSigmoid h t p s
  | .silu h t p => Sys2Proof.Machine.execSilu h t p s
  | .tanh h t p => Sys2Proof.Machine.execTanh h t p s
  | .rowmax h t p => Sys2Proof.Machine.execRowmax h t p s
  | .rowsum h t p => Sys2Proof.Machine.execRowsum h t p s
  | .recadd h t p => Sys2Proof.Machine.execRecadd h t p s
  | .recrnd h t p => Sys2Proof.Machine.execRecrnd h t p s
  | .softnorm h t p => Sys2Proof.Machine.execSoftnorm h t p s
  | .taskComplete h t => Sys2Proof.Machine.execTaskComplete h t s
  | .taskRetry h t => Sys2Proof.Machine.execTaskRetry h t s
  | .taskWatchdogExpiry h t => Sys2Proof.Machine.execTaskWatchdogExpiry h t s
  | .handshakeStall stand => Sys2Proof.Machine.execHandshakeStall stand s
  | .standTimeout stand => Sys2Proof.Machine.execStandTimeout stand s
  | .quantumBoundary => Sys2Proof.Machine.execQuantumBoundary s
  | .contextEvict h => Sys2Proof.Machine.execContextEvict h s
  | .jobWeightExpiry stand => Sys2Proof.Machine.execJobWeightExpiry stand s
  | .taskResume h t => Sys2Proof.Machine.execTaskResume h t s
  | .fenceApply stand => Sys2Proof.Machine.execFenceApply stand s
  | .channelCreate v => Sys2Proof.Machine.execChannelCreate v s
  | .channelDestroy v h => Sys2Proof.Machine.execChannelDestroy v h s
  | .channelResume v h => Sys2Proof.Machine.execChannelResume v h s
  | .jobSlotIdWrite v slot id => Sys2Proof.Machine.execJobSlotIdWrite v slot id s
  | .jobScratchCommit v => Sys2Proof.Machine.execJobScratchCommit v s
  | .profileCommit v slot => Sys2Proof.Machine.execProfileCommit v slot s
  | .regionTableCommit v => Sys2Proof.Machine.execRegionTableCommit v s
  | .bar2Read offset len => Sys2Proof.Machine.execBar2Read offset len s
  | .bar2Write offset data => Sys2Proof.Machine.execBar2Write offset data s
  | .twinFetchRetry block => Sys2Proof.Machine.execTwinFetchRetry block s
  | .repairDone block => Sys2Proof.Machine.execRepairDone block s
  | .repairTimeout block => Sys2Proof.Machine.execRepairTimeout block s
  | .recomputeRerun h t hostAnswer => Sys2Proof.Machine.execRecomputeRerun h t hostAnswer s
  | .scrubRead m upset => Sys2Proof.Machine.execScrubRead m upset s
  | .stackEcsPoll events => Sys2Proof.Machine.execStackEcsPoll events s
  | .voteSend slot => Sys2Proof.Machine.execVoteSend slot s
  | .voteReceive p => Sys2Proof.Machine.execVoteReceive p s
  | .decisionReceive p => Sys2Proof.Machine.execDecisionReceive p s
  | .stepCommit slot => Sys2Proof.Machine.execStepCommit slot s
  | .clearingTimeout slot => Sys2Proof.Machine.execClearingTimeout slot s
  | .portEnableWrite v port value => Sys2Proof.Machine.execPortEnableWrite v port value s
  | .portReenable v port value => Sys2Proof.Machine.execPortReenable v port value s
  | .trainingDone port peer => Sys2Proof.Machine.execTrainingDone port peer s
  | .linkLoss port => Sys2Proof.Machine.execLinkLoss port s
  | .backoffExpiry port => Sys2Proof.Machine.execBackoffExpiry port s
  | .backoffReset port => Sys2Proof.Machine.execBackoffReset port s
  | .flitReceive port f => Sys2Proof.Machine.execFlitReceive port f s
  | .nakReceive port lastGood => Sys2Proof.Machine.execNakReceive port lastGood s
  | .creditReturnTimeout port vc => Sys2Proof.Machine.execCreditReturnTimeout port vc s
  | .escapeWaitExpiry n => Sys2Proof.Machine.execEscapeWaitExpiry n s
  | .creditAuditIdle port => Sys2Proof.Machine.execCreditAuditIdle port s
  | .auditFlitReceive port free => Sys2Proof.Machine.execAuditFlitReceive port free s
  | .packetSend n viaUp => Sys2Proof.Machine.execPacketSend n viaUp s
  | .packetForward port p => Sys2Proof.Machine.execPacketForward port p s
  | .writeReceive p => Sys2Proof.Machine.execWriteReceive p s
  | .readReqReceive p => Sys2Proof.Machine.execReadReqReceive p s
  | .readRespReceive p => Sys2Proof.Machine.execReadRespReceive p s
  | .doneReceive p => Sys2Proof.Machine.execDoneReceive p s
  | .refuseReceive p => Sys2Proof.Machine.execRefuseReceive p s
  | .refuseResendExpiry xfer offset dest => Sys2Proof.Machine.execRefuseResendExpiry xfer offset dest s
  | .errorReceive p => Sys2Proof.Machine.execErrorReceive p s
  | .collectiveReceive p => Sys2Proof.Machine.execCollectiveReceive p s
  | .transferComplete src xfer => Sys2Proof.Machine.execTransferComplete src xfer s
  | .heartbeatTimer peer => Sys2Proof.Machine.execHeartbeatTimer peer s
  | .heartbeatReceive p => Sys2Proof.Machine.execHeartbeatReceive p s
  | .peerLost peer => Sys2Proof.Machine.execPeerLost peer s
  | .epochSwitch v value => Sys2Proof.Machine.execEpochSwitch v value s
  | .epochReadyQuery src => Sys2Proof.Machine.execEpochReadyQuery src s
  | .epochReadyAnswer src ready => Sys2Proof.Machine.execEpochReadyAnswer src ready s
  | .flip src => Sys2Proof.Machine.execFlip src s
  | .flipRetry peer => Sys2Proof.Machine.execFlipRetry peer s
  | .drainPoll => Sys2Proof.Machine.execDrainPoll s
  | .drainCountReport src count => Sys2Proof.Machine.execDrainCountReport src count s
  | .retire src => Sys2Proof.Machine.execRetire src s
  | .endpointTableCommit v => Sys2Proof.Machine.execEndpointTableCommit v s
  | .endpointIdCommit v => Sys2Proof.Machine.execEndpointIdCommit v s
  | .grantRequest src => Sys2Proof.Machine.execGrantRequest src s
  | .grant src units => Sys2Proof.Machine.execGrant src units s
  | .forestPacketFrame f => Sys2Proof.Machine.execForestPacketFrame f s
  | .acknowledgementFrame f => Sys2Proof.Machine.execAcknowledgementFrame f s
  | .ackTimer src => Sys2Proof.Machine.execAckTimer src s
  | .forestRetransmit dest pseq => Sys2Proof.Machine.execForestRetransmit dest pseq s
  | .pathCreditGiveBack dest => Sys2Proof.Machine.execPathCreditGiveBack dest s
  | .checkCompare h t block second => Sys2Proof.Machine.execCheckCompare h t block second s
  | .optimiserUnitCompare h t unit second => Sys2Proof.Machine.execOptimiserUnitCompare h t unit second s
  | .thirdRunDone h t block stand third => Sys2Proof.Machine.execThirdRunDone h t block stand third s
  | .thirdRunTimeout h t block => Sys2Proof.Machine.execThirdRunTimeout h t block s
  | .suspectRepeatDone stand again => Sys2Proof.Machine.execSuspectRepeatDone stand again s
  | .selfTestDone stand findings => Sys2Proof.Machine.execSelfTestDone stand findings s
  | .standFence v stand value => Sys2Proof.Machine.execStandFence v stand value s
  | .selfTestNow v stand value => Sys2Proof.Machine.execSelfTestNow v stand value s
  | .taintNotice p => Sys2Proof.Machine.execTaintNotice p s
  | .replicaDigest p => Sys2Proof.Machine.execReplicaDigest p s
  | .expulsion p => Sys2Proof.Machine.execExpulsion p s
  | .errorRecordHandle level unit => Sys2Proof.Machine.execErrorRecordHandle level unit s
  | .errorAck v record => Sys2Proof.Machine.execErrorAck v record s
  | .cperAck v record => Sys2Proof.Machine.execCperAck v record s
  | .errorOverflowClear v value => Sys2Proof.Machine.execErrorOverflowClear v value s
  | .replicaSetsCommit v => Sys2Proof.Machine.execReplicaSetsCommit v s
  | .seedbankSetsCommit v => Sys2Proof.Machine.execSeedbankSetsCommit v s
  | .foldCheck v set gen value => Sys2Proof.Machine.execFoldCheck v set gen value s
  | .foldCheckCompare slot set => Sys2Proof.Machine.execFoldCheckCompare slot set s
  | .twinSlot v gen twinBase size => Sys2Proof.Machine.execTwinSlot v gen twinBase size s
  | .generationCommit slot => Sys2Proof.Machine.execGenerationCommit slot s
  | .genDone v slot gen plots failures cost => Sys2Proof.Machine.execGenDone v slot gen plots failures cost s
  | .genComplete v slot gen nextStep interval => Sys2Proof.Machine.execGenComplete v slot gen nextStep interval s
  | .generationTimeout slot => Sys2Proof.Machine.execGenerationTimeout slot s
  | .restore v slot gen fromEp => Sys2Proof.Machine.execRestore v slot gen fromEp s
  | .powerModelTick a => Sys2Proof.Machine.execPowerModelTick a s
  | .modelCorrectionTick measuredMj => Sys2Proof.Machine.execModelCorrectionTick measuredMj s
  | .railAdjustTick => Sys2Proof.Machine.execRailAdjustTick s
  | .powerCapWrite v watts => Sys2Proof.Machine.execPowerCapWrite v watts s
  | .borrowTrigger => Sys2Proof.Machine.execBorrowTrigger s
  | .loanReturnTrigger => Sys2Proof.Machine.execLoanReturnTrigger s
  | .loanRecallTrigger => Sys2Proof.Machine.execLoanRecallTrigger s
  | .loanAuditTimer => Sys2Proof.Machine.execLoanAuditTimer s
  | .loanRequest v m => Sys2Proof.Machine.execLoanRequest v m s
  | .loanGrant v m => Sys2Proof.Machine.execLoanGrant v m s
  | .loanRefuse v m => Sys2Proof.Machine.execLoanRefuse v m s
  | .loanReturn v m => Sys2Proof.Machine.execLoanReturn v m s
  | .loanRecall v m => Sys2Proof.Machine.execLoanRecall v m s
  | .loanAudit v m => Sys2Proof.Machine.execLoanAudit v m s
  | .steadyLoadCommit v => Sys2Proof.Machine.execSteadyLoadCommit v s
  | .thermalLimiterTick tj => Sys2Proof.Machine.execThermalLimiterTick tj s
  | .outletLimiterTick outlet => Sys2Proof.Machine.execOutletLimiterTick outlet s
  | .thermtrip tj => Sys2Proof.Machine.execThermtrip tj s
  | .supplySample mv holdUpMv => Sys2Proof.Machine.execSupplySample mv holdUpMv s
  | .shedLevelExit => Sys2Proof.Machine.execShedLevelExit s
  | .sentinelMeasure stand counts factory => Sys2Proof.Machine.execSentinelMeasure stand counts factory s
  | .sentinelGap stand => Sys2Proof.Machine.execSentinelGap stand s
  | .marginReplan => Sys2Proof.Machine.execMarginReplan s
  | .replanNow v value => Sys2Proof.Machine.execReplanNow v value s
  | .persistWrite => Sys2Proof.Machine.execPersistWrite s
  | .restoreDefaults v value => Sys2Proof.Machine.execRestoreDefaults v value s
  | .mailboxGo vector m => Sys2Proof.Machine.execMailboxGo vector m s
  | .mailboxDoneClear vector => Sys2Proof.Machine.execMailboxDoneClear vector s
  | .read v m => Sys2Proof.Machine.execRead v m s
  | .write v m => Sys2Proof.Machine.execWrite v m s
  | .stageWrite v m => Sys2Proof.Machine.execStageWrite v m s
  | .readStaged v m => Sys2Proof.Machine.execReadStaged v m s
  | .describe v m => Sys2Proof.Machine.execDescribe v m s
  | .stageDiscard v index => Sys2Proof.Machine.execStageDiscard v index s
  | .stageTimeout role index => Sys2Proof.Machine.execStageTimeout role index s
  | .diagEnableWrite v value => Sys2Proof.Machine.execDiagEnableWrite v value s
  | .guestRightsCommit v => Sys2Proof.Machine.execGuestRightsCommit v s
  | .windowRegisterWrite v => Sys2Proof.Machine.execWindowRegisterWrite v s
  | .gladeTimeout half inProgress => Sys2Proof.Machine.execGladeTimeout half inProgress s
  | .sidebandInputChange pin level => Sys2Proof.Machine.execSidebandInputChange pin level s
  | .toggleAlertClear pin => Sys2Proof.Machine.execToggleAlertClear pin s
  | .perstNFall => Sys2Proof.Machine.execPerstNFall s
  | .perstNRise => Sys2Proof.Machine.execPerstNRise s
  | .pwrbrkNFall => Sys2Proof.Machine.execPwrbrkNFall s
  | .pwrbrkNRise => Sys2Proof.Machine.execPwrbrkNRise s
  | .powerOn => Sys2Proof.Machine.execPowerOn s
  | .halfStart half repairsLeft => Sys2Proof.Machine.execHalfStart half repairsLeft s
  | .pcieReady => Sys2Proof.Machine.execPcieReady s
  | .pcieHotReset => Sys2Proof.Machine.execPcieHotReset s
  | .hostLinkDown => Sys2Proof.Machine.execHostLinkDown s
  | .halfTimeout half => Sys2Proof.Machine.execHalfTimeout half s
  | .halfReset half => Sys2Proof.Machine.execHalfReset half s
  | .halfRejoinTimeout half => Sys2Proof.Machine.execHalfRejoinTimeout half s
  | .bridgeHeartbeatMiss half mainMissed sideMissed => Sys2Proof.Machine.execBridgeHeartbeatMiss half mainMissed sideMissed s
  | .islandLockLoss island => Sys2Proof.Machine.execIslandLockLoss island s
  | .guestLinkTrainingDone site rate32 => Sys2Proof.Machine.execGuestLinkTrainingDone site rate32 s
  | .guestRead site tag addr len => Sys2Proof.Machine.execGuestRead site tag addr len s
  | .guestWrite site tag addr blocks => Sys2Proof.Machine.execGuestWrite site tag addr blocks s
  | .guestReadResp site tag blocks => Sys2Proof.Machine.execGuestReadResp site tag blocks s
  | .guestWriteAck site tag => Sys2Proof.Machine.execGuestWriteAck site tag s
  | .guestError site tag code => Sys2Proof.Machine.execGuestError site tag code s
  | .guestRequestTimeout site tag => Sys2Proof.Machine.execGuestRequestTimeout site tag s
  | .getVersion => Sys2Proof.Machine.execGetVersion s
  | .getCapabilities => Sys2Proof.Machine.execGetCapabilities s
  | .negotiateAlgorithms => Sys2Proof.Machine.execNegotiateAlgorithms s
  | .getDigests => Sys2Proof.Machine.execGetDigests s
  | .getCertificate slot offset len => Sys2Proof.Machine.execGetCertificate slot offset len s
  | .challenge slot nonce => Sys2Proof.Machine.execChallenge slot nonce s
  | .getMeasurements index nonce => Sys2Proof.Machine.execGetMeasurements index nonce s
  | .peerDictionaryResponse src tag status => Sys2Proof.Machine.execPeerDictionaryResponse src tag status s
  | .flipAnswer src => Sys2Proof.Machine.execFlipAnswer src s
  | .hostLinkUp => Sys2Proof.Machine.execHostLinkUp s
  | .tjAlert tj => Sys2Proof.Machine.execTjAlert tj s
  | .inletOutOfRange inlet => Sys2Proof.Machine.execInletOutOfRange inlet s
  | .stackTemperatureLimit stack temp => Sys2Proof.Machine.execStackTemperatureLimit stack temp s
  | .dynamicAddressAssignment addr => Sys2Proof.Machine.execDynamicAddressAssignment addr s
  | .mctpControlMessage code data => Sys2Proof.Machine.execMctpControlMessage code data s

end Sys2Proof.Machine
end

