-- ==== Sys2Proof/Safety.lean ====
section
/-! DEFINITION. The terms in which claims about runs are made: what no command ever changes, which dictionary requests are
served, and what an answered request leaves behind. -/

namespace Sys2Proof.Machine

/-- What a command leaves as it was: the commands that wait, the clock, everything already sent, the fuses of both halves
and the variant of the module; and memory in canonical form stays so. -/
structure Kept (s t : State) : Prop where
  /-- the queue is as it was -/
  pending : t.pending = s.pending
  /-- a command takes no time of its own (log entry 2) -/
  now : t.now = s.now
  /-- nothing sent is taken back -/
  out : s.out <+: t.out
  /-- the fuses (R413) and the variant (R1) -/
  fuses : t.edge.fuses0 = s.edge.fuses0 ∧ t.edge.fuses1 = s.edge.fuses1 ∧ t.edge.variantU = s.edge.variantU
  /-- the canonical form of memory -/
  form : Memory.wf s.mem.cells = true → Memory.wf t.mem.cells = true

/-- The host's request is taken up and executed: BAR0 and the Glade in force serve (R365, R402, R416), no other request of
the mailbox is out (R366, Table 11-1), and the supply is not at shed level 4, which answers it BUSY (Table 10-7). -/
structure HostServed (s : State) (v : Via) : Prop where
  role : v.role = .host
  ahead : v.ahead = 0
  powered : s.edge.powered = true
  glade : s.gladeRuns (s.ob Obj.gladeActive) = true
  ready : s.edge.ready = true
  link : s.edge.hostLink = true
  shed : s.shed < 4

/-- A peer's request is taken up and executed: the Glade serves, and the endpoint table in force names the sender as a member
of this grove or of the forest (R371, Table 7-8), and its packet passes its check (R230). -/
structure PeerServed (s : State) (v : Via) : Prop where
  role : v.role = .peer
  ahead : v.ahead < 64
  powered : s.edge.powered = true
  glade : s.gladeRuns (s.ob Obj.gladeActive) = true
  sound : s.badDict v.src v.tag = none
  route : EpEntry.route (s.epEntry s.epoch v.src) = 2 ∨ EpEntry.route (s.epEntry s.epoch v.src) = 3

/-- A task that may start on its stands runs undisturbed: nothing it reads or writes is refused (R113, R161), none of its
inputs has still to come from a guest (R421), and no read detects an error (R132). `u` is the state with the task begun, `k` the task there. -/
structure RunsClean (s : State) (t : Task) (stands : List Nat) (u : State) (k : Task) : Prop where
  begun : u = s.begin t stands
  task : u.taskBy t.uid t.id = some k
  reads : u.refusedAccess k (readPieces k.desc) false = none
  outs : u.refusedAccess k ((outputsOf k.desc).map (fun o => (o.code, o.addr, o.len))) true = none
  local_ : k.guestReady = true ∨ (readPieces k.desc).all (fun x => !isGuest x.2.1) = true
  sound : u.readFault k.early (readPieces k.desc) = none

/-- A packet of a kind reaches this module whole, on a virtual channel its ports carry (R229, R230, Table 10-7). -/
structure Arrives (s : State) (p : Packet) (kind : Nat) : Prop where
  forMe : s.forMe p = true
  kind : p.kind = kind
  carried : s.vcHeld p.vc = false
  sound : p.checkOk = true

/-- What every arrival does before its own effect: its buffer is freed and its credits returned, its sender is alive, its PACE
and TAINT are seen (R231, R232, R238, R262, R283). -/
def State.arrived (s : State) (p : Packet) : State := (((s.unbuffer p).heard p.src).seePace p).seeTaint p

/-- The state in which an epoch message of a peer acts (R230, R238, Table 7-9): none where its packet is here and fails its check. -/
def State.ctlArrived (s : State) (src : Nat) (f : Ctl → Bool) : Option State :=
  match s.fab.rx.find? (fun x => x.2.kind == 0xC && x.2.src == src && f x.2.ctl) with
  | some (_, p) => if p.checkOk then some ((s.unbuffer p).heard src) else none
  | none => some (s.heard src)

/-- The state once a request that came at `s` has left `u`, and is answered OK with data `d` on its path (R374). -/
def State.answered (s u : State) (v : Via) (m : DictMsg) (d : List Byte) : State := (u.persist (s.takeRequest v)).respond v m (.ok d)

/-- What a WRITE of `x`, in `n` bytes, to an object is as a message (R372). -/
def valueMsg (v : Via) (index sub x n : Nat) : DictMsg := writeMsg v index sub (bytesOf x n)

end Sys2Proof.Machine
end

