-- ==== Sys2Proof/WellFormed.lean ====
section
/-! DEFINITION. The ranges of a command's operands: the unit numbers of Table 0-3, the identifier widths of Table 1-5 and
the field widths of the records a command carries. A command outside them spells nothing the module can receive. -/

namespace Sys2Proof

/-- A channel handle: 16 bits (Table 1-5). -/
def handleOk (h : Nat) : Bool := decide (h < 65536)
/-- A stand: 0 to 191 (R9). -/
def standOk (n : Nat) : Bool := decide (n < 192)
/-- A grove port P0 to P6 or an uplink U0 or U1, as 0 to 8 (R9). -/
def portOk (n : Nat) : Bool := decide (n < 9)
/-- A grove port (R9). -/
def grovePortOk (n : Nat) : Bool := decide (n < 7)
/-- A job slot: 0 to 15 (R149). -/
def slotOk (n : Nat) : Bool := decide (n < 16)
/-- A half: 0 or 1 (R9). -/
def halfOk (n : Nat) : Bool := decide (n < 2)
/-- A guest site: 0 or 1 (R9). -/
def siteOk (n : Nat) : Bool := decide (n < 2)
/-- An endpoint: 16 bits (Table 1-5). -/
def epOk (n : Nat) : Bool := decide (n < 65536)
/-- A mailbox: the BAR0 mailbox has one MSI-X vector of 16 bits (R367). -/
def vectorOk (n : Nat) : Bool := decide (n < 65536)
/-- A value of so many bits. -/
def bitsOk (w n : Nat) : Bool := decide (n < 2 ^ w)
/-- A virtual channel (R231). -/
def vcOk (n : Nat) : Bool := decide (n < 6)
/-- A stack: 0 to 31 (R9). -/
def stackOk (n : Nat) : Bool := decide (n < 32)
/-- The number of a 64-byte block of the 48-bit address space (R111). -/
def blockOk (n : Nat) : Bool := decide (n < 2 ^ 42)

/-- The stand, and the checker stand or 0xFF for none, of a placement (R265). -/
def Placement.wf (p : Placement) : Bool := standOk p.stand && (standOk p.checker || p.checker == 0xFF)

/-- The widths of the header fields (Table 7-5) and a payload of at most 4,096 bytes (R229). -/
def Packet.wf (p : Packet) : Bool :=
  epOk p.dest && epOk p.src && bitsOk 1 p.epoch && vcOk p.vc && bitsOk 4 p.kind && bitsOk 20 p.xfer && bitsOk 16 p.offset &&
  bitsOk 16 p.total && bitsOk 16 p.plot && bitsOk 16 p.stepLo && bitsOk 8 p.pace && bitsOk 12 p.job && bitsOk 5 p.level &&
  bitsOk 13 p.length && bitsOk 48 p.addr && bitsOk 11 p.arrival && decide (p.payload.length ≤ 4096)

/-- The widths of the fields of a dictionary message (Table 11-3). -/
def DictMsg.wf (m : DictMsg) : Bool :=
  bitsOk 8 m.version && bitsOk 8 m.op && bitsOk 16 m.tag && bitsOk 16 m.index && bitsOk 8 m.sub && bitsOk 32 m.offset &&
  bitsOk 16 m.length && decide (m.data.length < 65536)

/-- The requester's endpoint and tag. -/
def Via.wf (v : Via) : Bool :=
  epOk v.src && bitsOk 16 v.tag && bitsOk 16 v.cls && bitsOk 32 v.enterprise && bitsOk 3 v.msgTag && bitsOk 16 v.etherType

/-- The fields of a loan message (Table 10-3). -/
def LoanMsg.wf (m : LoanMsg) : Bool := epOk m.lender && epOk m.borrower && bitsOk 32 m.seq && bitsOk 32 m.watts

/-- The commands whose operands are in range. -/
def Instr.wf : Instr → Bool
  | .tailWrite h _ | .cplHeadWrite h _ => handleOk h
  | .doorbellIllegalAccess h offset width => handleOk h && bitsOk 16 offset && decide (width ≤ 64)
  | .fetchDescriptor h _ => handleOk h
  | .fabric h _ | .wait h _ | .stepEnd h _ | .hostRead h _ _ | .hostWrite h _ => handleOk h
  | .copy h t => handleOk h && t.place.wf
  | .matmul h _ p | .fadd h _ p | .fsub h _ p | .fmul h _ p | .fma h _ p | .fmin h _ p | .fmax h _ p | .fcmpEqual h _ p
  | .fcmpLessThan h _ p | .fcmpLessOrEqual h _ p | .cvt h _ p | .iadd h _ p | .iand h _ p | .ior h _ p | .ixor h _ p
  | .ishl h _ p | .ishr h _ p | .fdiv h _ p | .fsqrt h _ p | .exp2 h _ p | .log2 h _ p | .rcp h _ p | .rsqrt h _ p
  | .relu h _ p | .gelu h _ p | .sigmoid h _ p | .silu h _ p | .tanh h _ p | .rowmax h _ p | .rowsum h _ p
  | .recadd h _ p | .recrnd h _ p | .softnorm h _ p => handleOk h && p.wf
  | .taskComplete h _ | .taskRetry h _ | .taskWatchdogExpiry h _ | .taskResume h _ | .recomputeRerun h _ _ => handleOk h
  | .contextEvict h => handleOk h
  | .handshakeStall n | .standTimeout n | .jobWeightExpiry n | .fenceApply n | .sentinelGap n => standOk n
  | .quantumBoundary => true
  | .channelCreate v | .jobScratchCommit v | .regionTableCommit v | .endpointTableCommit v | .endpointIdCommit v
  | .replicaSetsCommit v | .seedbankSetsCommit v | .steadyLoadCommit v | .guestRightsCommit v => v.wf
  | .channelDestroy v h | .channelResume v h => v.wf && handleOk h
  | .jobSlotIdWrite v slot id => v.wf && slotOk slot && bitsOk 16 id
  | .profileCommit v slot => v.wf && slotOk slot
  | .bar2Read offset len => bitsOk 36 offset && decide (len ≤ 4096)
  | .bar2Write offset data => bitsOk 36 offset && decide (data.length ≤ 4096)
  | .twinFetchRetry b | .repairDone b | .repairTimeout b => blockOk b
  | .scrubRead _ u => (u.map (fun x => x.data.length == 64)).getD true
  | .stackEcsPoll ev => ev.all (fun e => stackOk e.1)
  | .voteSend slot | .stepCommit slot | .clearingTimeout slot | .generationCommit slot | .generationTimeout slot => slotOk slot
  | .voteReceive p | .decisionReceive p | .writeReceive p | .readReqReceive p | .readRespReceive p | .doneReceive p
  | .refuseReceive p | .errorReceive p | .collectiveReceive p | .heartbeatReceive p | .taintNotice p | .replicaDigest p
  | .expulsion p => p.wf
  | .portEnableWrite v port value | .portReenable v port value => v.wf && portOk port && bitsOk 8 value
  | .trainingDone port peer => portOk port &&
    (peer.map (fun r => epOk r.endpoint && bitsOk 12 r.grove && r.credits.length == 6)).getD true
  | .linkLoss port | .backoffExpiry port | .backoffReset port => portOk port
  | .flitReceive port f => grovePortOk port && bitsOk 12 f.fseq && bitsOk 12 f.ackseq && bitsOk 2 f.type &&
    decide (f.credits.length ≤ 2) && f.credits.all (fun c => vcOk c.1 && bitsOk 8 c.2) && f.data.length == 244 && f.packets.all Packet.wf
  | .nakReceive port lastGood => grovePortOk port && bitsOk 12 lastGood
  | .creditReturnTimeout port vc => grovePortOk port && vcOk vc
  | .escapeWaitExpiry _ => true
  | .creditAuditIdle port => grovePortOk port
  | .auditFlitReceive port free => grovePortOk port && free.length == 6
  | .packetSend _ _ => true
  | .packetForward port p => grovePortOk port && p.wf
  | .refuseResendExpiry xfer offset dest => bitsOk 20 xfer && bitsOk 16 offset && epOk dest
  | .transferComplete src xfer => epOk src && bitsOk 20 xfer
  | .heartbeatTimer peer | .peerLost peer | .flipRetry peer => epOk peer
  | .epochSwitch v value => v.wf && bitsOk 8 value
  | .epochReadyQuery src | .epochReadyAnswer src _ | .flip src | .retire src | .flipAnswer src
  | .ackTimer src => epOk src
  | .drainPoll => true
  | .drainCountReport src _ => epOk src
  | .grant f units => bitsOk 8 f.ptype && bitsOk 16 units && (f.packet.map Packet.wf).getD true
  | .grantRequest f | .forestPacketFrame f | .acknowledgementFrame f =>
    bitsOk 8 f.ptype && bitsOk 16 f.pcred && (f.packet.map Packet.wf).getD true
  | .forestRetransmit dest _ | .pathCreditGiveBack dest => epOk dest
  | .checkCompare h _ b _ | .optimiserUnitCompare h _ b _ | .thirdRunTimeout h _ b => handleOk h && bitsOk 32 b
  | .thirdRunDone h _ b n _ => handleOk h && bitsOk 32 b && standOk n
  | .suspectRepeatDone n _ => standOk n
  | .selfTestDone n fs => standOk n && fs.all (fun f => match f with
      | .column a c => decide (a < 4) && decide (c < 64)
      | .array a => decide (a < 4)
      | .stand => true
      | .scratch l => decide (l < 32768))
  | .standFence v n value | .selfTestNow v n value => v.wf && standOk n && bitsOk 8 value
  | .errorRecordHandle level unit => decide (level < 3) && standOk unit
  | .errorAck v r | .cperAck v r => v.wf && bitsOk 32 r
  | .errorOverflowClear v value | .replanNow v value | .restoreDefaults v value | .diagEnableWrite v value =>
      v.wf && bitsOk 8 value
  | .foldCheck v set gen _ => v.wf && bitsOk 16 set && bitsOk 32 gen
  | .foldCheckCompare slot set => slotOk slot && bitsOk 16 set
  | .twinSlot v gen twinBase size => v.wf && bitsOk 32 gen && bitsOk 32 twinBase && bitsOk 32 size
  | .genDone v slot gen plots failures cost =>
      v.wf && slotOk slot && bitsOk 32 gen && bitsOk 32 plots && bitsOk 32 failures && bitsOk 32 cost
  | .genComplete v slot gen nextStep interval =>
      v.wf && slotOk slot && bitsOk 32 gen && bitsOk 48 nextStep && bitsOk 16 interval
  | .restore v slot gen fromEp => v.wf && slotOk slot && bitsOk 32 gen && epOk fromEp
  | .powerModelTick a => a.stands.all (fun x => standOk x.stand)
  | .modelCorrectionTick _ | .railAdjustTick | .borrowTrigger | .loanReturnTrigger | .loanRecallTrigger | .loanAuditTimer => true
  | .powerCapWrite v watts => v.wf && bitsOk 32 watts
  | .loanRequest v m | .loanGrant v m | .loanRefuse v m | .loanReturn v m | .loanRecall v m | .loanAudit v m => v.wf && m.wf
  | .thermalLimiterTick _ | .outletLimiterTick _ | .thermtrip _ | .tjAlert _ | .inletOutOfRange _ => true
  | .supplySample _ _ | .shedLevelExit | .marginReplan | .persistWrite => true
  | .sentinelMeasure n counts _ => standOk n && counts.length == 8
  | .mailboxGo vector m => vector.getLsbD 0 && m.wf
  | .mailboxDoneClear vector => !vector.getLsbD 0
  | .read v m | .write v m | .stageWrite v m | .readStaged v m | .describe v m => v.wf && m.wf
  | .stageDiscard v index => v.wf && bitsOk 16 index
  | .stageTimeout _ index => bitsOk 16 index
  | .windowRegisterWrite _ => true
  | .gladeTimeout half r => halfOk half && (r.map (fun x => x.1.wf && x.2.wf)).getD true
  | .sidebandInputChange pin level => match pin with
      | .slotId => decide (level < 8)
      | _ => decide (level < 2)
  | .toggleAlertClear _ => true
  | .perstNFall | .perstNRise | .pwrbrkNFall | .pwrbrkNRise | .powerOn | .pcieReady | .pcieHotReset | .hostLinkDown => true
  | .halfStart half left => halfOk half && left.all (fun x => stackOk x.1)
  | .halfTimeout half | .halfReset half | .halfRejoinTimeout half => halfOk half
  | .bridgeHeartbeatMiss half m n => halfOk half && decide (m ≤ 8) && decide (n ≤ 8)
  | .islandLockLoss i => match i with
      | .stackPhy n => stackOk n
      | .portSerdes n => portOk n
      | .guestPhy n => siteOk n
      | .mgmtClock n => halfOk n
      | .bridgePhy | .pcie => true
  | .guestLinkTrainingDone site _ => siteOk site
  | .guestRead site tag addr len => siteOk site && bitsOk 8 tag && bitsOk 48 addr && decide (len ≤ 4096)
  | .guestWrite site tag addr bs => siteOk site && bitsOk 8 tag && bitsOk 48 addr && bs.all (fun b => b.data.length == 64)
  | .guestReadResp site tag bs => siteOk site && bitsOk 8 tag && bs.all (fun b => b.data.length == 64)
  | .guestWriteAck site tag | .guestRequestTimeout site tag => siteOk site && bitsOk 8 tag
  | .guestError site tag code => siteOk site && bitsOk 8 tag && bitsOk 8 code
  | .getVersion | .getCapabilities | .negotiateAlgorithms | .getDigests | .hostLinkUp => true
  | .getCertificate slot offset len => bitsOk 4 slot && bitsOk 16 offset && bitsOk 16 len
  | .challenge slot nonce => bitsOk 4 slot && nonce.nonce.length == 32 && bitsOk 8 nonce.summary
  | .getMeasurements index nonce => bitsOk 8 index && nonce.length == 32
  | .peerDictionaryResponse src tag status => epOk src && bitsOk 16 tag && bitsOk 8 status
  | .stackTemperatureLimit stack _ => stackOk stack
  | .dynamicAddressAssignment addr => bitsOk 7 addr
  | .mctpControlMessage code data => bitsOk 8 code && decide (data.length ≤ 64)

end Sys2Proof
end

