-- ==== Sys2Proof/Certificates/Slice0/Obligations.lean ====
section
/-! DEFINITION. What the model is claimed to do: for every command where it completes and what it leaves, by the rules of the
manual; and what every step keeps. Where a statement names a shared operation of the machine, that operation carries the
rule's own words; log entries named in a docstring mark the model's choices. -/

open Sys2Proof Sys2Proof.Machine

/-! ## The dictionary's path -/

/-- What an executed mailbox request leaves besides its own effect `u`: the response with STATUS OK in the buffer, DONE set
and GO cleared, the MSI-X message (none for 0xFFFF; of a vector masked in the MSI-X table a pending bit; that an
entry nobody has written is masked is log entry 102), and nothing else
(R367, R374). -/
def Obligations.HostAnswerLeavesNothingElse : Prop :=
  ∀ (s u : State) (v : Via) (m : DictMsg) (d : List Byte), v.role = .host → u.edge.hostLink = true →
    let t := s.answered u v m d
    t.dict.responseBuf = ({ m with resp := true, length := d.length, data := d }, 0) ∧
    t.dict.done = true ∧ t.dict.go = false ∧ t.dict.staged = u.dict.staged ∧ (∀ k, t.ob k = u.ob k) ∧
    t.mem = u.mem ∧ t.chan = u.chan ∧ t.jobs = u.jobs ∧ t.stands = u.stands ∧ t.fab = u.fab ∧ t.fire = u.fire ∧ t.bank = u.bank ∧
    t.power = u.power ∧
    (u.msixMasked u.dict.msixVector = false → t.edge = u.edge ∧
      t.out = u.out ++ (if u.dict.msixVector = 0xFFFF then [] else [.msix u.dict.msixVector])) ∧
    (u.msixMasked u.dict.msixVector = true → u.dict.msixVector ≠ 0xFFFF →
      t.edge = { u.edge with msixPending := nins u.edge.msixPending u.dict.msixVector } ∧ t.out = u.out)

/-- Channels over the mailbox (R150, R151, R153, R154, R176): a commit that passes every check of R151 opens the handle free
longest, with nothing fetched or written: the next of those never used (that these go out in ascending order is the model's
choice, log entry 93), or, with none left, the one freed first; a destroyed channel without outstanding tasks frees its handle;
a resumed channel goes on, and dependencies on all the tasks it halted on are met from then on (the model's choice, log entry 44). -/
def Obligations.ChannelRequestsComplete : Prop :=
  ∀ (s : State) (v : Via), HostServed s v →
    let u := s.takeRequest v
    (∀ h, u.channelFailure (u.stagedValue .host 0x4010) = none →
      ((s.chan.nextFresh = h ∧ h ≤ 65535) ∨ (65535 < s.chan.nextFresh ∧ s.chan.freed.head? = some h)) →
      ∃ t, exec (.channelCreate v) s = .next t ∧
        (∃ c, t.chanAt h = some c ∧ c.job = u.stagedValue .host 0x4010 1 ∧ c.ringBase = u.stagedValue .host 0x4010 2 ∧
          c.ringEntries = u.stagedValue .host 0x4010 4 ∧ c.cplBase = u.stagedValue .host 0x4010 5 ∧
          c.cplEntries = u.stagedValue .host 0x4010 7 ∧ c.msix = u.stagedValue .host 0x4010 8 ∧
          c.tail = 0 ∧ c.cplHead = 0 ∧ c.fetched = 0 ∧ c.written = 0 ∧ c.expected = 0 ∧ c.halted = false) ∧
        (∀ k, k ≠ h → t.chanAt k = s.chanAt k) ∧
        (if s.chan.nextFresh ≤ 65535 then t.chan.nextFresh = h + 1 ∧ t.chan.freed = s.chan.freed
         else t.chan.nextFresh = s.chan.nextFresh ∧ t.chan.freed = s.chan.freed.drop 1) ∧ t.ob Obj.lastHandle = h ∧
        (t.dict.responseBuf.1.data, t.dict.responseBuf.2) = (bytesOf h 2, 0) ∧ t.chan.tasks = s.chan.tasks ∧
        (s.residentCount < maxResident → t.mem = s.mem)) ∧
    (∀ h c, s.chanAt h = some c → c.destroying = false → s.chan.tasks.all (fun t => t.uid != c.uid) = true → c.held = [] → h < 65536 →
      ∃ t, exec (.channelDestroy v h) s = .next t ∧ t.chanAt h = none ∧ (∀ k, k ≠ h → t.chanAt k = s.chanAt k) ∧
        t.chan.freed = s.chan.freed ++ [h] ∧ t.dict.responseBuf.2 = 0 ∧ t.mem = s.mem) ∧
    (∀ h c, s.chanAt h = some c → h < 65536 →
      ∃ t, exec (.channelResume v h) s = .next t ∧ t.chanAt h = some { c with halted := false, haltedOn := [] } ∧
        (∀ k, k ≠ h → t.chanAt k = s.chanAt k) ∧ t.chan.tasks = s.chan.tasks ∧ t.dict.responseBuf.2 = 0 ∧ t.mem = s.mem)

/-- JOB_SLOT_ID_WRITE, JOB_SCRATCH_COMMIT and PROFILE_COMMIT over the mailbox (R149, R182, R205): a free slot takes an ID no
other slot has, and a slot whose job has no open channels is freed; either way it starts afresh (the model's choice, log entry 24); scratch ranges that fit and do not overlap become effective; a profile of a slot without
open channels becomes effective, and the slot's step state takes the values of Table 6-6. -/
def Obligations.JobRequestsComplete : Prop :=
  ∀ (s : State) (v : Via), HostServed s v →
    let u := s.takeRequest v
    (∀ slot id, slot < 16 → (id ≤ 0xFFF ∨ id = 0xFFFF) → s.ob (Obj.jobSlotId slot) = 0xFFFF → id ≠ 0xFFFF →
      (∀ k, k < 16 → s.ob (Obj.jobSlotId k) ≠ id) → s.ob Obj.diagEnable = 0 →
      ∃ t, exec (.jobSlotIdWrite v slot id) s = .next t ∧ t.ob (Obj.jobSlotId slot) = id ∧ t.job slot = {} ∧
        (∀ k, k < 16 → k ≠ slot → t.ob (Obj.jobSlotId k) = s.ob (Obj.jobSlotId k) ∧ t.job k = s.job k) ∧
        t.dict.responseBuf.2 = 0 ∧ t.mem = s.mem ∧ t.chan = s.chan) ∧
    (∀ slot job, slot < 16 → s.jobOf slot = some job → s.jobChans job = [] → s.ob Obj.diagEnable = 0 →
      ∃ t, exec (.jobSlotIdWrite v slot 0xFFFF) s = .next t ∧ t.jobOf slot = none ∧ t.job slot = {} ∧
        (∀ k, k < 16 → k ≠ slot → t.ob (Obj.jobSlotId k) = s.ob (Obj.jobSlotId k) ∧ t.job k = s.job k) ∧
        t.dict.responseBuf.2 = 0 ∧ t.mem = s.mem ∧ t.chan = s.chan) ∧
    ((∀ k, k < 16 → u.stagedValue .host 0x4015 (k + 1) ≤ 0xFFFF ∧
        fld (u.stagedValue .host 0x4015 (k + 1)) 8 8 + fld (u.stagedValue .host 0x4015 (k + 1)) 0 8 ≤ 32) →
      (∀ a b, a < 16 → b < a → overlaps (fld (u.stagedValue .host 0x4015 (a + 1)) 8 8) (fld (u.stagedValue .host 0x4015 (a + 1)) 0 8)
        (fld (u.stagedValue .host 0x4015 (b + 1)) 8 8) (fld (u.stagedValue .host 0x4015 (b + 1)) 0 8) = false) →
      s.chan.tasks = [] →
      ∃ t, exec (.jobScratchCommit v) s = .next t ∧
        (∀ k, k < 16 → t.ob (Obj.jobScratch k) = u.stagedValue .host 0x4015 (k + 1)) ∧
        t.stagedAt .host 0x4015 = none ∧ t.dict.responseBuf.2 = 0 ∧ t.mem = s.mem ∧ t.chan = s.chan ∧ t.jobs = s.jobs) ∧
    (∀ slot, slot < 16 → u.rangeFailure .host (0x3100 + slot) = none →
      u.stagedValue .host (0x3100 + slot) 9 ≤ u.stagedValue .host (0x3100 + slot) 7 →
      u.stagedValue .host (0x3100 + slot) 7 ≤ u.stagedValue .host (0x3100 + slot) 10 →
      s.chan.chans = [] → (s.job slot).gen = none →
      ∃ t, exec (.profileCommit v slot) s = .next t ∧
        (∀ k, 1 ≤ k → k ≤ 11 → t.ob (okey (0x3100 + slot) k) = u.stagedValue .host (0x3100 + slot) k) ∧
        t.ob (Obj.currentStep slot) = u.stagedValue .host (0x3100 + slot) 5 ∧ t.ob (Obj.attempt slot) = 0 ∧
        t.ob (Obj.lastCommitted slot) = 2 ^ 64 - 1 ∧ t.ob (Obj.lossScaleExp slot) = u.stagedValue .host (0x3100 + slot) 7 ∧
        t.ob (Obj.cleanSteps slot) = 0 ∧ t.ob (Obj.stepsPassed slot) = 0 ∧ t.ob (Obj.stepsSkipped slot) = 0 ∧
        t.ob (Obj.stepsTainted slot) = 0 ∧ t.ob (Obj.lastLoss slot) = 0 ∧ t.ob (Obj.jobPace slot) = 0 ∧ (t.job slot).faulted = false ∧ (t.job slot).stepEnd = none ∧
        t.stagedAt .host (0x3100 + slot) = none ∧ t.dict.responseBuf.2 = 0 ∧ t.mem = s.mem ∧ t.chan = s.chan)

/-- REGION_TABLE_COMMIT, GUEST_RIGHTS_COMMIT and STEADY_LOAD_COMMIT over the mailbox (R128, R129, R345, R420). -/
def Obligations.TableAndRightsCommitsComplete : Prop :=
  ∀ (s : State) (v : Via), HostServed s v →
    let u := s.takeRequest v
    (∀ l, (u.stagedEntries .host 0x6100 1 32).map (fun x => x.map (BitVec.ofNat 256)) = some l → regionTableOk (u.cap 4) l = true →
      u.regionBusy l = false →
      exec (.regionTableCommit v) s = .next (s.answered
        ((({ u with mem := { u.mem with regions := l } } : State).remap (remapped s.mem.regions l)).discard .host 0x6100) v (commitMsg v 0x6100) [])) ∧
    (s.cap 4 = true → (∀ t ∈ s.chan.tasks, names t.desc 0x500000000000 0x2000000000 = false) →
      ∃ t, exec (.guestRightsCommit v) s = .next t ∧
        (∀ k, k < 2 → t.ob (Obj.guestRights k) = u.stagedValue .host 0x9020 (k + 1)) ∧ t.stagedAt .host 0x9020 = none ∧
        t.dict.responseBuf.2 = 0 ∧ t.mem = s.mem ∧ t.chan = s.chan) ∧
    (u.stagedValue .host 0x2004 1 = 0 → 1100 ≤ u.stagedValue .host 0x2004 2 → u.stagedValue .host 0x2004 2 ≤ u.capNoSteady →
      50 ≤ u.stagedValue .host 0x2004 3 → u.stagedValue .host 0x2004 3 ≤ 1000 →
      ∃ t, exec (.steadyLoadCommit v) s = .next t ∧ t.ob Obj.steadyEnable = 0 ∧
        t.ob Obj.steadySetpoint = u.stagedValue .host 0x2004 2 ∧ t.ob Obj.rampLimit = u.stagedValue .host 0x2004 3 ∧
        t.power.ballastMw = 0 ∧ t.stagedAt .host 0x2004 = none ∧ t.dict.responseBuf.2 = 0 ∧ t.mem = s.mem) ∧
    (u.stagedValue .host 0x2004 1 = 1 → s.cap 2 = true → 1100 ≤ u.stagedValue .host 0x2004 2 →
      u.stagedValue .host 0x2004 2 ≤ u.capNoSteady → 50 ≤ u.stagedValue .host 0x2004 3 → u.stagedValue .host 0x2004 3 ≤ 1000 →
      s.power.borrowed = [] →
      ∃ t, exec (.steadyLoadCommit v) s = .next t ∧ t.steady = true ∧ t.ob Obj.steadySetpoint = u.stagedValue .host 0x2004 2 ∧
        t.ob Obj.rampLimit = u.stagedValue .host 0x2004 3 ∧ t.dict.responseBuf.2 = 0 ∧ t.mem = s.mem)

/-- PORT_ENABLE_WRITE, PORT_REENABLE, ENDPOINT_ID_COMMIT, ENDPOINT_TABLE_COMMIT and EPOCH_SWITCH over the mailbox (R222, R254,
R257, R264). -/
def Obligations.FabricRequestsComplete : Prop :=
  ∀ (s : State) (v : Via), HostServed s v →
    let u := s.takeRequest v
    (∀ port value, port < 9 → value < 2 →
      exec (.portEnableWrite v port value) s = .next (s.answered (u.enablePort port value) v (valueMsg v 0x5001 (port + 1) value 1) [])) ∧
    (∀ port, port < 9 →
      exec (.portReenable v port 1) s = .next (s.answered (u.reenablePort port) v (valueMsg v 0x5004 (port + 1) 1 1) []) ∧
      exec (.portReenable v port 0) s = .next (s.answered u v (valueMsg v 0x5004 (port + 1) 0 1) [])) ∧
    (∀ ep grove, u.stagedValue .host 0x5000 1 = ep → u.stagedValue .host 0x5000 2 = grove → 1 ≤ ep → ep ≤ 0xFFFE → grove ≤ 4095 →
      (∀ k, k < 16 → s.ob (Obj.jobSlotId k) = 0xFFFF) →
      ∃ t, exec (.endpointIdCommit v) s = .next t ∧
        t = s.answered ((u.commitEndpoint ep grove).1.discard .host 0x5000) v (commitMsg v 0x5000) [] ∧
        ((∀ n, n < 9 → s.portUp n = false) → t.ob Obj.endpointId = ep ∧ t.ob Obj.groveId = grove ∧
          ((ep ≠ s.ob Obj.endpointId ∨ grove ≠ s.ob Obj.groveId) →
            ∀ n, n < 9 → s.ob (Obj.portEnable n) ≠ 0 → (s.port n).heldByReset = false → (n < 7 ∨ s.cap 1 = true) → t.portSt n = 1) ∧
          t.dict.responseBuf.2 = 0 ∧ t.mem = s.mem ∧ t.chan = s.chan)) ∧
    (∀ e p, (u.stagedEntries .host 0x5010 1 16).map (fun x => x.map (BitVec.ofNat 128)) = some e → u.stagedTables .host 0x5011 2 = .ok p →
      e.all (fun x => !EpEntry.reservedSet x) = true → endpointsOk s.me ((upto e.length).zip e) = true →
      plotsOk ((upto e.length).zip e) (((upto p.length).zip p).map (fun x => (if (s.jobOf x.1).isSome then s.ob (Obj.plotCount x.1) else 0, x.2))) = true →
      s.switching = false →
      ∃ t, exec (.endpointTableCommit v) s = .next t ∧ t.ept (1 - s.epoch) = (upto e.length).zip e ∧ t.ept s.epoch = s.ept s.epoch ∧
        (∀ slot, slot < p.length → t.plotTable (1 - s.epoch) slot = p.getD slot []) ∧
        (∀ slot, t.plotTable s.epoch slot = s.plotTable s.epoch slot) ∧ t.fab.ready = true ∧ t.epoch = s.epoch ∧
        t.dict.responseBuf.2 = 0 ∧ t.mem = s.mem ∧ t.chan = s.chan) ∧
    (s.switching = false → s.coordinator = s.me → s.me ≠ 0 → s.fab.ready = true → s.liveGrove ≠ [] →
      ∃ t, exec (.epochSwitch v 1) s = .next t ∧ t.ob Obj.drainState = 1 ∧ t.fab.switch.queries = s.liveGrove ∧ t.epoch = s.epoch ∧
        t.mem = s.mem ∧ t.chan = s.chan)

/-- STAND_FENCE, SELF_TEST_NOW, ERROR_ACK, CPER_ACK, ERROR_OVERFLOW_CLEAR and REPLICA_SETS_COMMIT over the mailbox (R276, R277,
R285, R292, R295, R296, R392). STAND_STATE reads 1 from when the suite is due, even with a task still running there (the model's choice,
log entry 52). -/
def Obligations.FirebreakRequestsComplete : Prop :=
  ∀ (s : State) (v : Via), HostServed s v →
    let u := s.takeRequest v
    (∀ n, n < 192 → s.fenced n = false → s.runningOn n = none → (s.stand n).pendState = 0 →
      ∃ t, exec (.standFence v n 1) s = .next t ∧ (t.stand n).pendState = 8 ∧ (∀ k, k ≠ n → t.stand k = s.stand k) ∧
        t.chan = s.chan ∧ t.mem = s.mem ∧ t.dict.responseBuf.2 = 0) ∧
    (∀ n, n < 192 → s.ob Obj.diagEnable = 1 → s.fenced n = false →
      ∃ t, exec (.selfTestNow v n 1) s = .next t ∧ ((t.stand n).selfTest).isSome = true ∧ t.ob (Obj.standState n) = 1 ∧
        (∀ k, k ≠ n → t.stand k = s.stand k) ∧ t.chan = s.chan ∧ t.mem = s.mem ∧ t.dict.responseBuf.2 = 0) ∧
    (∀ r, r < 2 ^ 32 →
      ∃ t, exec (.errorAck v r) s = .next t ∧
        (kget t.fire.queues {} moduleUnit).records = ((kget s.fire.queues {} moduleUnit).records).filter (fun x => x.id != r) ∧
        (∀ k, k ≠ moduleUnit → kget t.fire.queues {} k = kget s.fire.queues {} k) ∧ t.mem = s.mem ∧ t.chan = s.chan ∧
        t.dict.responseBuf.2 = 0) ∧
    (∀ r, r < 2 ^ 32 →
      ∃ t, exec (.cperAck v r) s = .next t ∧ t.fire.cpers = s.fire.cpers.filter (fun x => x.id != r) ∧ t.fire.queues = s.fire.queues ∧
        t.mem = s.mem ∧ t.chan = s.chan ∧ t.dict.responseBuf.2 = 0) ∧
    (∃ t, exec (.errorOverflowClear v 0) s = .next t ∧ t.ob Obj.errorOverflow = 0 ∧ Alert.queueOverflow ∉ t.edge.alerts ∧
        t.mem = s.mem ∧ t.chan = s.chan ∧ t.dict.responseBuf.2 = 0) ∧
    (∀ l, u.stagedTables .host 0x6041 16 = .ok l →
      (∀ slot, slot < l.length → (((l.getD slot []).map (BitVec.ofNat 128)).all (u.replicaOk slot)) = true) →
      ∃ t, exec (.replicaSetsCommit v) s = .next t ∧
        (∀ slot, slot < l.length → kget t.fire.replicas [] slot = (l.getD slot []).map (BitVec.ofNat 128)) ∧
        t.stagedAt .host 0x6041 = none ∧ t.mem = s.mem ∧ t.chan = s.chan ∧ t.dict.responseBuf.2 = 0)

/-- SEEDBANK_SETS_COMMIT and RESTORE over the mailbox (R297, R299, R304, R315). -/
def Obligations.SeedbankRequestsComplete : Prop :=
  ∀ (s : State) (v : Via), HostServed s v →
    let u := s.takeRequest v
    (∀ a b, u.stagedTables .host 0x7010 32 = .ok a → u.stagedTables .host 0x7011 16 = .ok b →
      (∀ slot, slot < a.length → u.bankTableOk slot ((a.getD slot []).map (BitVec.ofNat 256)) = true) →
      (∀ slot, (s.job slot).gen = none) →
      ∃ t, exec (.seedbankSetsCommit v) s = .next t ∧
        (∀ slot, slot < a.length → kget t.bank.sets [] slot = (a.getD slot []).map (BitVec.ofNat 256)) ∧
        (∀ slot, slot < b.length → kget t.bank.folds [] slot = (b.getD slot []).map (BitVec.ofNat 128)) ∧
        t.stagedAt .host 0x7010 = none ∧ t.stagedAt .host 0x7011 = none ∧ t.mem = s.mem ∧ t.dict.responseBuf.2 = 0) ∧
    (∀ slot gen from_ job, slot < 16 → gen < 2 ^ 32 → from_ < 65536 → u.jobOf slot = some job →
      (∀ t ∈ s.chan.tasks, t.job ≠ job) → gen ≠ 0 → gen = s.ob (Obj.lastGen slot) →
      exec (.restore v slot gen from_) s = .next (s.answered (u.beginRestore slot gen from_) v
        (valueMsg v 0x7020 (slot + 1) (gen + from_ * 2 ^ 32) 8) []))

/-- POWER_CAP_WRITE, REPLAN_NOW, RESTORE_DEFAULTS and DIAG_ENABLE_WRITE over the mailbox (R325, R328, R361, R389, R392, R438). -/
def Obligations.PowerRequestsComplete : Prop :=
  ∀ (s : State) (v : Via), HostServed s v →
    let u := s.takeRequest v
    (∀ w, 1100 ≤ w → w ≤ 3400 →
      ∃ t, exec (.powerCapWrite v w) s = .next t ∧ t.ob Obj.powerCap = w ∧ Alert.capUnattainable ∉ t.edge.alerts ∧
        t.ob Obj.powerStatus % 2 = 0 ∧ t.fire = s.fire ∧ t.mem = s.mem ∧ t.chan = s.chan ∧ t.dict.responseBuf.2 = 0) ∧
    (∀ w, w < 1100 → s.power.borrowed = [] →
      ∃ t, exec (.powerCapWrite v w) s = .next t ∧ t.ob Obj.powerCap = w ∧ Alert.capUnattainable ∈ t.edge.alerts ∧
        t.ob Obj.powerStatus % 2 = 1 ∧ t.mem = s.mem ∧ t.chan = s.chan ∧ t.dict.responseBuf.2 = 0) ∧
    (exec (.replanNow v 1) s = .next (s.answered u.replan v (valueMsg v 0x8004 2 1 1) [])) ∧
    ((∀ k, k < 16 → s.ob (Obj.jobSlotId k) = 0xFFFF) →
      ∃ t, exec (.restoreDefaults v 1) s = .next t ∧ t = s.answered (u.restoreDefaults 1).1 v (valueMsg v 0x1F00 2 1 1) [] ∧
        ((∀ n, n < 9 → s.portUp n = false) → (∀ k ∈ persistentKeys, t.ob k = objDefault k) ∧
          t.dict.pendingSince.isSome = true ∧ t.dict.responseBuf.2 = 0 ∧ t.mem = s.mem ∧ t.chan = s.chan)) ∧
    (∀ x, x < 2 → (x = 0 ∨ ∀ k, k < 16 → s.ob (Obj.jobSlotId k) = 0xFFFF) →
      ∃ t, exec (.diagEnableWrite v x) s = .next t ∧ t.ob Obj.diagEnable = x ∧ (∀ k, k ≠ Obj.diagEnable → k ≠ Obj.dictRequests 0 → t.ob k = s.ob k) ∧
        t.mem = s.mem ∧ t.chan = s.chan ∧ (s.msixMasked s.dict.msixVector = false → t.edge = s.edge) ∧ t.dict.responseBuf.2 = 0)

/-- The loan messages of a peer (R338 to R343, Table 10-3): a request is granted in steps of 50 W out of what the lender has to
spare, or refused; a grant adds tokens, a refusal asks the next peer, a return and a recall take tokens off, and an audit that
does not agree puts the lender's figure in force and is reported. -/
def Obligations.LoanMessagesComplete : Prop :=
  ∀ (s : State) (v : Via) (m : LoanMsg), PeerServed s v → m.wf = true →
    let u := s.takeRequest v
    let held := ((u.power.borrowed.filter (fun (l : Loan) => l.peer == v.src)).map (fun (l : Loan) => l.watts)).sum
    let lent := ((u.power.lent.filter (fun (l : Loan) => l.peer == v.src)).map (fun (l : Loan) => l.watts)).sum
    let give := if u.mayLend then min (min m.watts (u.capInForce - u.mean100 - 200)) (min (u.ob Obj.lendMax - lent) (u.userCap - 1100)) / 50 * 50 else 0
    let reply (type : Nat) (w : State) : State := s.answered w v (writeMsg v 0x2050 1 (loanBytes type m)) []
    (m.lender = u.me → m.borrower = v.src →
      (give = 0 → exec (.loanRequest v m) s = .next (reply 1 (u.sendLoan v.src 3 u.me v.src 0))) ∧
      (give ≠ 0 → exec (.loanRequest v m) s = .next (reply 1
        (((if u.power.lent = [] then u.ticked 6 else u).modPower (fun p => { p with lent := renewLoan p.lent v.src m.seq give })).sendLoan v.src 2 u.me v.src give))) ∧
      (lent ≠ 0 → exec (.loanReturn v m) s = .next (reply 4
        (u.modPower (fun p => { p with lent := changeLoan p.lent v.src m.seq (· - m.watts) }))))) ∧
    (m.borrower = u.me → m.lender = v.src →
      (let w := u.modPower (fun p => { p with
          borrowed := renewLoan p.borrowed v.src m.seq m.watts, shortfall := p.shortfall - m.watts })
       exec (.loanGrant v m) s = .next (reply 2 (if w.mayLend then w.askLoan else w.returnAll))) ∧
      exec (.loanRefuse v m) s = .next (reply 3 u.askLoan) ∧
      (0 < min held m.watts → exec (.loanRecall v m) s = .next (reply 5
        ((u.modPower (fun p => { p with borrowed := changeLoan p.borrowed v.src m.seq (· - min held m.watts) })).sendLoan v.src 4 v.src u.me (min held m.watts)))) ∧
      (held = m.watts → exec (.loanAudit v m) s = .next (reply 6 u)) ∧
      (held ≠ m.watts → exec (.loanAudit v m) s = .next (reply 6
        (((u.modPower (fun p => { p with borrowed := changeLoan p.borrowed v.src m.seq (fun _ => m.watts) })).setBit Obj.powerStatus 8 true).bump
          Obj.loanMismatches))))

/-- The seedbank messages of a peer (R301, R306, R312, R313, Table 9-6): FOLD_CHECK is kept until the holder compares, TWIN_SLOT
copies a live copy that is whole and of the generation's step into the generation's slot, GEN_DONE enters its node, GEN_COMPLETE is acted on and passed on. That a GEN_DONE stands for the first child that covers as many
plots is the model's choice (log entry 38), and so is how a TWIN_SLOT finds the live copy's step (log entry 101). -/
def Obligations.SeedbankMessagesComplete : Prop :=
  ∀ (s : State) (v : Via), PeerServed s v →
    let u := s.takeRequest v
    (∀ slot set gen (value : Word64) g, set < 65536 → gen < 2 ^ 32 →
      let m := writeMsg v 0x7030 3 (bytesOf (set * 2 ^ 112 + gen * 2 ^ 64 + value.toNat) 16)
      s.hintOf v m = some slot → (u.job slot).gen = some g → g.gen = gen → g.abandoned = false → g.grove.contains v.src = true →
      (u.bankEntry slot set).isSome = true → g.checks.any (fun c => c.1 == v.src && c.2.1 == set) = false →
      exec (.foldCheck v set gen value) s = .next
        (u.modJob slot (fun j => { j with gen := some { g with checks := g.checks ++ [(v.src, set, value, v.tag)] } }))) ∧
    (∀ job gen base size st, gen < 2 ^ 32 → base < 2 ^ 32 → 0 < size → size < 2 ^ 32 →
      let m := writeMsg v 0x7030 4 (bytesOf (gen * 2 ^ 96 + base * 2 ^ 64 + size * 2 ^ 32) 16)
      let k := if gen % 2 = 1 then 1 else 2
      ((s.hintOf v m).bind u.jobOf) = some job → u.liveWhole (base * 65536) (size * 65536) = some st →
      (∀ g, (u.job ((u.slotOf job).getD 16)).gen = some g → g.gen = gen ∧ u.copyOfStep ((u.slotOf job).getD 16) g.step st = true) →
      u.peerMay job (base * 65536) (3 * (size * 65536)) = true → u.firstFault (base * 65536) (size * 65536) = none →
      let w := u.put (base * 65536 + k * (size * 65536)) (u.bytesAt (base * 65536) (size * 65536))
      exec (.twinSlot v gen base size) s = .next (s.answered
        { w with bank := { w.bank with copies := w.bank.copies.filter (fun x => x.base != base * 65536 + k * (size * 65536)) ++
            [⟨base * 65536 + k * (size * 65536), size * 65536, k, gen, st, 0⟩] } } v m [])) ∧
    (∀ slot gen plots failures cost g l first, slot < 16 → gen < 2 ^ 32 → plots < 2 ^ 17 → failures < 2 ^ 32 → cost < 2 ^ 32 →
      (u.job slot).gen = some g → g.gen = gen →
      (u.doneChildren slot v.src).find? (fun x => x.2.2 == plots && !g.sums.any (fun y => y.1 == x.1 && y.2.1 == x.2.1)) = some (l, first, plots) →
      exec (.genDone v slot gen plots failures cost) s = .next (s.answered (u.addDone slot 20 l first (plots, failures, cost)) v
        (writeMsg v 0x7030 1 (bytesOf (gen * 2 ^ 96 + plots * 2 ^ 79 + failures * 2 ^ 32 + cost) 16)) [])) ∧
    (∀ slot gen next interval, slot < 16 → gen < 2 ^ 32 → next < 2 ^ 48 → interval < 65536 →
      ((u.job slot).gen.isSome = true ∨ u.ob (Obj.lastGen slot) ≠ gen) →
      exec (.genComplete v slot gen next interval) s = .next (s.answered
        ((u.genCompleted slot gen next interval).sendGenComplete slot gen next interval) v
        (writeMsg v 0x7030 2 (bytesOf (gen * 2 ^ 96 + next * 2 ^ 48 + interval * 2 ^ 32) 16)) []))

/-- The operations of the dictionary over the mailbox (R373 to R376, R382, R383, R386, R437): READ and READ_STAGED give the effective
and the staged value, DESCRIBE the description, WRITE puts a value in force or stages it, and 0 to subindex 0xFF discards. -/
def Obligations.DictionaryOperationsComplete : Prop :=
  ∀ (s : State) (v : Via) (m : DictMsg) (r : ObjRow), HostServed s v →
    let u := s.takeRequest v
    (badHeader m = false → u.target m.index m.sub = some r → fits r m = true → u.denied .host r m.op = false →
      (m.op = 1 → exec (.read v m) s = .next (s.answered u v m (u.readData .host r m))) ∧
      (m.op = 3 → exec (.readStaged v m) s = .next (s.answered u v m (u.readData .host r m))) ∧
      (m.op = 4 → exec (.describe v m) s = .next (s.answered u v m (u.describe r))) ∧
      (m.op = 2 → m.sub ≠ 0xFF → r.acc = .rw → encodingFault r (ofBytes m.data) = false → rangeFault r (ofBytes m.data) = false →
        u.refusedValue m.index m.sub (ofBytes m.data) = false →
        m.index ∉ [0x2001, 0x4020, 0x5001, 0x5050, 0x6050, 0xF000] →
        exec (.write v m) s = .next (s.answered ((u.touchStaged .host m.index).setOb (okey m.index m.sub) (ofBytes m.data)) v m [])) ∧
      (∀ w d, m.op = 2 → m.sub ≠ 0xFF → r.acc ≠ .rwc → (u.touchStaged v.role m.index).writeObject { v with tag := m.tag } (s.hintOf v m) r m = (w, .ok d) →
        exec (.write v m) s = .next (s.answered w v m d)) ∧
      (m.op = 2 → m.sub ≠ 0xFF → r.acc = .rwc →
        (match r.type with
          | .table entry count => m.offset + m.length ≤ entry * count
          | _ => encodingFault r (ofBytes m.data) = false) →
        exec (.stageWrite v m) s = .next (s.answered (u.stage .host r m).1 v m []))) ∧
    (∀ index, (rowsAt index).any (fun r => r.acc == .rwc) = true → (index ≠ 0x9020 ∨ s.cap 4 = true) → index < 0xA000 →
      (let t := s.answered (u.discard .host index) v (writeMsg v index 0xFF [0]) []
       exec (.stageDiscard v index) s = .next t ∧ t.stagedAt .host index = none))

/-- The mailbox's control register, the window register and the writing of settings to flash (R367, R368, R388, R417): a
write of the control register takes MSIX_VECTOR and clears DONE where it writes 1 there; GO submits the request unless one is out. -/
def Obligations.MailboxAndFlashEventsComplete : Prop :=
  ∀ s : State,
    (∀ (w : BitVec 32) m, s.edge.ready = true → s.edge.hostLink = true →
      let d := { s.dict with msixVector := fld w.toNat 16 16, done := s.dict.done && !w.getLsbD 1 }
      (s.dict.go = true → exec (.mailboxGo w m) s = .next { s with dict := d }) ∧
      (s.dict.go = false → exec (.mailboxGo w m) s = .next
        (({ s with dict := { d with go := true, request := m } } : State).request { role := .host, tag := m.tag } m)) ∧
      exec (.mailboxDoneClear w) s = .next { s with dict := d }) ∧
    (s.edge.powered = true → s.dict.pendingSince.isSome = true →
      ∃ t area, exec .persistWrite s = .next t ∧ t.dict.pendingSince = none ∧
        (if olderIsA s.dict.flashA s.dict.flashB then t.dict.flashA = area ∧ t.dict.flashB = s.dict.flashB
         else t.dict.flashB = area ∧ t.dict.flashA = s.dict.flashA) ∧
        area.seq = some (nextSeq s.dict.flashA s.dict.flashB) ∧ (∀ k ∈ persistentKeys, kget? area.data k = some (s.ob k)) ∧
        area.rest = 0 ∧ area.check = crc32c (settingsBytes area.data) ∧ (∀ k, t.ob k = s.ob k) ∧ t.mem = s.mem ∧ t.chan = s.chan ∧ t.out = s.out) ∧
    (∀ w, s.edge.ready = true → s.edge.hostLink = true →
      exec (.windowRegisterWrite w) s = .next { s with edge := { s.edge with window := w &&& 0x0000FFFFC0000000 } })

/-! ## Channels and tasks -/

/-- TAIL_WRITE and CPL_HEAD_WRITE (R156): a write to a handle that is not open or whose destruction has begun is ignored; else a value that is no step
forward is stale and leaves everything as it is; one beyond what the ring or the records allow is ignored; any other becomes the
accepted value, and a channel without a context then asks for one (R180). An ignored write, and an access of another width or place (R155), is counted in
DOORBELLS_IGNORED and logged with code 0x0105, and changes no channel and no memory. -/
def Obligations.ADoorbellWriteIsHandledByItsDifference : Prop :=
  ∀ (s : State) (h : Nat) (v : BitVec 32),
    ((s.chanAt h = none ∨ ∃ c, s.chanAt h = some c ∧ c.destroying = true) →
      exec (.tailWrite h v) s = .next (s.doorbellIgnored h v.toNat 0) ∧ exec (.cplHeadWrite h v) s = .next (s.doorbellIgnored h v.toNat 0)) ∧
    (∀ c, s.chanAt h = some c → c.destroying = false →
      ((v - c.tail = 0 ∨ 2 ^ 31 ≤ (v - c.tail).toNat) → exec (.tailWrite h v) s = .next s) ∧
      ((v - c.cplHead = 0 ∨ 2 ^ 31 ≤ (v - c.cplHead).toNat) → exec (.cplHeadWrite h v) s = .next s) ∧
      (v - c.tail ≠ 0 → (v - c.tail).toNat < 2 ^ 31 →
        (c.ringEntries < (v - c.fetched).toNat → exec (.tailWrite h v) s = .next (s.doorbellIgnored h v.toNat c.fetched.toNat)) ∧
        ((v - c.fetched).toNat ≤ c.ringEntries →
          exec (.tailWrite h v) s = .next ((s.setChan h { c with tail := v }).wantContext h) ∧
          (c.resident = true → exec (.tailWrite h v) s = .next (s.setChan h { c with tail := v })))) ∧
      (v - c.cplHead ≠ 0 → (v - c.cplHead).toNat < 2 ^ 31 →
        ((c.written - c.cplHead).toNat < (v - c.cplHead).toNat → exec (.cplHeadWrite h v) s = .next (s.doorbellIgnored h v.toNat c.written.toNat)) ∧
        ((v - c.cplHead).toNat ≤ (c.written - c.cplHead).toNat →
          exec (.cplHeadWrite h v) s = .next ((s.setChan h { c with cplHead := v }).wantContext h) ∧
          (c.resident = true → exec (.cplHeadWrite h v) s = .next (s.setChan h { c with cplHead := v }))))) ∧
    (∀ offset width, (s.chanAt h = none ∨ (∃ c, s.chanAt h = some c ∧ c.destroying = true) ∨ doorbellLegal offset width = false) →
      ∃ x y, exec (.doorbellIllegalAccess h offset width) s = .next (s.doorbellIgnored h x y)) ∧
    (∀ x y, let t := s.doorbellIgnored h x y
      t.ob Obj.doorbellsIgnored = s.ob Obj.doorbellsIgnored + 1 ∧ t.chan = s.chan ∧ t.mem = s.mem ∧ t.out = s.out ∧ t.fab = s.fab ∧ t.jobs = s.jobs ∧
      ((kget s.fire.queues {} moduleUnit).used moduleUnit < 63 →
        (∀ k, k ≠ Obj.doorbellsIgnored → t.ob k = s.ob k) ∧
        ∃ r, (kget t.fire.queues {} moduleUnit).records = insRecord r (kget s.fire.queues {} moduleUnit).records ∧
          r.code = 0x0105 ∧ r.handle = h ∧ r.id = s.fire.nextRecord))

/-- FETCH_DESCRIPTOR (R157, R158, R161, R418): a resident channel with descriptors behind its TAIL and room in its completion ring
takes the next one, from host memory or from its ring in the module's memory, a block that a repair has brought as it was then
(R120); a read that fails ends the expected task with
DESCRIPTOR_FETCH and halts the channel. -/
def Obligations.DescriptorFetchAdmitsTheNextDescriptor : Prop :=
  ∀ (s : State) (h : Nat) (c : Chan), s.chanAt h = some c → c.destroying = false → c.resident = true → c.tail ≠ c.fetched →
    s.ringRoom c = true →
    (∀ d, c.ringHost = true → s.edge.hostLink = true →
      exec (.fetchDescriptor h (some d)) s = .next (s.admitDesc h c d) ∧
      exec (.fetchDescriptor h none) s = .next (s.fetchFailed h c.descAddr)) ∧
    (∀ x, c.ringHost = false → s.firstRefused c.job false c.descAddr 128 = none → s.touchesLost c.descAddr 128 = false →
      s.unreadFault c.early c.descAddr 128 = none →
      exec (.fetchDescriptor h x) s = .next (s.admitDesc h c
        (BitVec.ofNat 1024 ((c.early.foldl (fun s w => s.poke w.addr w.data) s).numAt c.descAddr 128)))) ∧
    (∀ d : Desc, (s.setChan h { c with fetched := c.fetched + 1, fetchTotal := c.fetchTotal + 1, expected := c.expected + 1, early := [] }).admissionFault
        c.job ((s.slotOf c.job).getD 16) c.expected d = none → D.mcCount d = 0 →
      (D.earlyB d = false ∨ 1 ≤ s.shed ∨ ((∀ x ∈ earlyParts d, s.readBad (x.1 / 64) x.1 x.2 = none) ∧
        ∀ x ∈ s.chan.tasks, x.uid = c.uid → x.id ≠ c.expected)) →
      ∃ k : Task, (s.admitDesc h c d).chan.tasks = s.chan.tasks ++ [k] ∧ k.uid = c.uid ∧ k.handle = h ∧ k.id = c.expected ∧ k.job = c.job ∧
        k.desc = d ∧ k.phase = .waiting ∧ k.started = false ∧ (s.admitDesc h c d).mem = s.mem ∧ (s.admitDesc h c d).out = s.out ∧
        (s.admitDesc h c d).chanAt h = some { c with fetched := c.fetched + 1, fetchTotal := c.fetchTotal + 1, expected := c.expected + 1, early := [] })

/-- COPY, which runs on a stand (R165), and the tasks without one (R159, R164, R188, R192, R239, R244, R418). What a task read
early it finds as it was then (R167). -/
def Obligations.TasksWithoutAStandComplete : Prop :=
  ∀ (s : State) (h : Nat) (id : BitVec 32) (t : Task), s.taskAt h id = some t → s.mayStart t = true →
    (∀ (p : Placement) (stands : List Nat) (u : State) (k : Task), D.kind t.desc = kCopy → s.place t p = some stands →
      RunsClean s t stands u k →
      let a := (u.withEarly k).bytesAt (D.addrA k.desc) (D.length k.desc)
      u.writeFault [⟨D.addrOut k.desc, a⟩] = none →
      exec (.copy h { id := id, place := p }) s = .next (u.ran k { writes := [⟨D.addrOut k.desc, a⟩], busy := Config.copyBeats (D.length k.desc) })) ∧
    (∀ (u : State) (k : Task), RunsClean s t [] u k →
      let a := (u.withEarly k).bytesAt (D.addrA k.desc) (D.length k.desc)
      (D.kind t.desc = kWait → exec (.wait h id) s = .next (u.ran k {})) ∧
      (∀ l, D.kind t.desc = kHostRead → l.length = D.length k.desc → u.writeFault [⟨D.addrOut k.desc, l⟩] = none →
        exec (.hostRead h id (some l)) s = .next (u.ran k { writes := [⟨D.addrOut k.desc, l⟩] })) ∧
      (D.kind t.desc = kHostWrite → exec (.hostWrite h id) s = .next (u.ran k { host := some (D.target k.desc, a) })) ∧
      (D.kind t.desc = kFabric → s.xferRoom false = true → D.remoteEp k.desc ≠ 0xFFFF →
        ∃ w x ps k', exec (.fabric h id) s = .next w ∧ w.taskBy t.uid t.id = some k' ∧ k'.phase = .running ∧ k'.result = none ∧
          w.fab.outXfers = s.fab.outXfers ++
            [{ xfer := x, dest := D.remoteEp k.desc, job := k.job, use := .task t.uid t.id, awaiting := [D.remoteEp k.desc], packets := ps }] ∧ w.fab.sendQ = s.fab.sendQ ++ ps ∧ w.mem = s.mem)) ∧
    (D.kind t.desc = kStepEnd → ((s.begin t []).job (s.slotOfTask t)).kept = [] →
      exec (.stepEnd h id) s = .next ((s.begin t []).modJob (s.slotOfTask t) (fun j => { j with
        stepEnd := some (t.uid, t.id, s.now, BitVec.ofNat 32 (D.addrA t.desc)) })))

/-- The vector operations: the command of each, its VOP code (Table 2-13) and the items it computes. -/
def vectorRows : List ((Nat → BitVec 32 → Placement → Instr) × Nat × (State → Desc → Nat → List VItem)) := [
  (.fadd, 0x01, State.itemsFaddOp), (.fsub, 0x02, State.itemsFsubOp), (.fmul, 0x03, State.itemsFmulOp), (.fma, 0x04, State.itemsFmaOp),
  (.fmin, 0x05, State.itemsFminOp), (.fmax, 0x06, State.itemsFmaxOp), (.fcmpEqual, 0x07, State.itemsFcmpEqualOp),
  (.fcmpLessThan, 0x08, State.itemsFcmpLessThanOp), (.fcmpLessOrEqual, 0x09, State.itemsFcmpLessOrEqualOp), (.cvt, 0x0A, State.itemsCvtOp),
  (.iadd, 0x0B, State.itemsIaddOp), (.iand, 0x0C, State.itemsIandOp), (.ior, 0x0D, State.itemsIorOp), (.ixor, 0x0E, State.itemsIxorOp),
  (.ishl, 0x0F, State.itemsIshlOp), (.ishr, 0x10, State.itemsIshrOp), (.fdiv, 0x11, State.itemsFdivOp), (.fsqrt, 0x12, State.itemsFsqrtOp),
  (.exp2, 0x13, State.itemsExp2Op), (.log2, 0x14, State.itemsLog2Op), (.rcp, 0x15, State.itemsRcpOp), (.rsqrt, 0x16, State.itemsRsqrtOp),
  (.relu, 0x17, State.itemsReluOp), (.gelu, 0x18, State.itemsGeluOp), (.sigmoid, 0x19, State.itemsSigmoidOp), (.silu, 0x1A, State.itemsSiluOp),
  (.tanh, 0x1B, State.itemsTanhOp), (.rowmax, 0x1C, State.itemsRowmaxOp), (.rowsum, 0x1D, State.itemsRowsumOp),
  (.recadd, 0x1E, State.itemsRecaddOp), (.recrnd, 0x1F, State.itemsRecrndOp), (.softnorm, 0x20, State.itemsSoftnormOp)]

/-- MATMUL and every vector operation (R86, R98 to R106, R165, R166): a task that may start on its stands, whose accesses are
allowed and whose inputs read well, runs and leaves what its blocks or items give; every stand it runs on serves its job. -/
def Obligations.StandTasksComplete : Prop :=
  ∀ (s : State) (h : Nat) (id : BitVec 32) (p : Placement) (t : Task) (stands : List Nat) (u : State) (k : Task),
    s.taskAt h id = some t → s.mayStart t = true → s.place t p = some stands → RunsClean s t stands u k →
    (D.kind t.desc = kMatmul →
      let r := (u.withEarly k).runMatmul p k
      r.abort = none → u.writeFault (joinWrites r.writes) = none → exec (.matmul h id p) s = .next (u.ran k r)) ∧
    (∀ row ∈ vectorRows, D.kind t.desc = kVector → D.vop t.desc = row.2.1 →
      let e := u.withEarly k
      let r := e.runVector p k (row.2.2 e k.desc (e.seedOf k))
      r.abort = none → u.writeFault (joinWrites r.writes) = none → exec (row.1 h id p) s = .next (u.ran k r))

/-- What a run of a task leaves alone (R122, R164): with no repair in progress, every byte outside the writes of the run,
every other task, every channel, the jobs, regions, power and the fabric, and of each stand all but the tile active in it and the
time since when it has work for another's task; and, where no sampled check goes without a checker (R270), every object but the counters the run advances. -/
def Obligations.ATaskChangesOnlyWhatItWrites : Prop :=
  ∀ (s : State) (t : Task) (r : Ran), s.mem.repairs = [] →
    let u := s.ran t r
    (∀ x, (∀ w ∈ r.writes, x < w.addr ∨ w.addr + w.data.length ≤ x) → u.byteAt x = s.byteAt x) ∧
    (r.unchecked = [] → ∀ k, k ∉ r.counts.map (·.1) → u.ob k = s.ob k) ∧
    (∀ k, (k.uid ≠ t.uid ∨ k.id ≠ t.id) → (k ∈ u.chan.tasks ↔ k ∈ s.chan.tasks)) ∧
    u.chan.chans = s.chan.chans ∧ u.jobs = s.jobs ∧ (∀ n, { u.stand n with tile := (s.stand n).tile, worksSince := (s.stand n).worksSince } = s.stand n) ∧
    (∀ n, n ∉ r.tiles.map (·.1) → n ∉ r.checks.map (·.checker) → n ∉ r.units.map (·.checker) → u.stand n = s.stand n) ∧ u.mem.regions = s.mem.regions ∧ u.power = s.power ∧ u.fab = s.fab

/-- The end of a task (R169 to R175, R178, R404, R422): a due status completes it, a due retry sends it back to the start, an
expired watchdog aborts it and resets its stands, and a preempted task resumes on its stands once they are idle and its job's
turn has come there; a MATMUL alone is charged beats, for the reload of its weights. -/
def Obligations.TaskEndsComplete : Prop :=
  ∀ (s : State) (h : Nat) (id : BitVec 32) (t : Task), s.taskAt h id = some t →
    (∀ st, s.dueStatus t = some st → exec (.taskComplete h id) s = .next (((s.learnClass t).finish t st).release t)) ∧
    (t.phase = .ended → retryDue t = true →
      ∃ w, exec (.taskRetry h id) s = .next w ∧ w.ob Obj.taskRetries = s.ob Obj.taskRetries + 1 ∧
        w.chan.tasks = s.chan.tasks.map (fun x => if x.uid == t.uid && x.id == t.id then { x with
          phase := .waiting, retried := true, result := none, stands := [], report := {}, busy := 0, faultAddr := 0, faultDetail := 0, early := [],
          guestReady := false, guestWaits := [] } else x) ∧
        w.chan.chans = s.chan.chans ∧ w.mem = s.mem) ∧
    ((t.phase = .running ∨ t.phase = .held) → t.pausedAt = none → D.kind t.desc ≠ kWait → D.kind t.desc ≠ kStepEnd →
      t.startAt + s.ob Obj.taskWatchdog * 1000000 ≤ s.now →
      let r : ErrRec := { errRec 0x0102 with job := t.job, step := D.step t.desc, handle := t.handle, task := t.id.toNat, attempt := t.attempt }
      exec (.taskWatchdogExpiry h id) s = .next
        (((match t.stands.head? with
            | some n => s.logStand n r
            | none => s.log r).abort t Status.watchdog).resetStands t.stands)) ∧
    (t.phase = .preempted → (∀ n ∈ t.stands, s.standIdle n = true) → s.turn (t.stands.headD 0) = some (s.slotOfTask t) → s.shed < 3 →
      s.saveFault t = none →
      ∃ w, exec (.taskResume h id) s = .next w ∧
        (let resumed := s.chan.tasks.map (fun x => if x.uid == t.uid && x.id == t.id then { x with
            phase := .running, startAt := x.startAt + t.pausedFor s.now, pausedAt := none, savedAt := [] } else x)
         w.chan.tasks.map (fun x => { x with busy := 0 }) = resumed.map (fun x => { x with busy := 0 }) ∧
         (D.kind t.desc ≠ kMatmul → w.chan.tasks = resumed)) ∧
        w.chan.chans = s.chan.chans ∧ w.mem = s.mem ∧
        ∀ n ∈ t.stands, (t.uid, t.id) ∉ (w.stand n).saved.map (·.2) ∧ (w.stand n).servesSlot = some (s.slotOfTask t))

/-- Time slicing (R37, R97, R180, R181, R183, R184): a task on a stand where the turn has come to another job is preempted into a
save slot of each of its stands, and runs on where it has not; at a quantum boundary, every 2 ms, the channels that waited longest come
in, one after another, while one waits and there is room (that they do so there is the model's choice, log entry 92), and where two or
more still wait, residents are marked until as many are marked as wait; a marked channel without a started task is swapped out, and the
channel that waited longest swapped in. Whose turn it is on a stand is the model's choice in part (log entry 76); of the resident
channels the ones marked are those that have held a context longest (log entry 54). With no repair in progress nothing else of the
tasks and channels changes. -/
def Obligations.TimeSlicingCompletes : Prop :=
  ∀ s : State,
    (∀ n t k, s.runningOn n = some t → t.phase = .running → s.slotsFree t = true → s.turn n = some k → k ≠ s.slotOfTask t →
      exec (.jobWeightExpiry n) s = .next (s.preempt t) ∧
        (∀ x ∈ (s.preempt t).chan.tasks, x.uid = t.uid → x.id = t.id → x.phase = .preempted ∧ x.pausedAt = some s.now) ∧
        (s.mem.repairs = [] → (∀ x ∈ (s.preempt t).chan.tasks, (x.uid ≠ t.uid ∨ x.id ≠ t.id) → x ∈ s.chan.tasks) ∧
          (s.preempt t).chan.chans = s.chan.chans) ∧
        (∀ g ∈ t.stands, (t.uid, t.id) ∈ ((s.preempt t).stand g).saved.map (·.2) ∧ ((s.preempt t).stand g).tile = none) ∧
        (∀ g, g ∉ t.stands → (s.preempt t).stand g = s.stand g)) ∧
    (∀ n, (s.runningOn n = none ∨ s.turn n = none ∨ ∃ t, s.runningOn n = some t ∧ s.turn n = some (s.slotOfTask t)) →
      exec (.jobWeightExpiry n) s = .next s) ∧
    (s.due 8 2000000 = false → exec .quantumBoundary s = .next s) ∧
    (s.due 8 2000000 = true →
      let q := s.ticked 8
      (s.waitingCount = 0 → exec .quantumBoundary s = .next q) ∧
      (s.waitingCount = 1 → q.contextRoom = none → exec .quantumBoundary s = .next q) ∧
      (2 ≤ s.waitingCount → q.contextRoom = none →
        let w := q.markLongest (s.waitingCount - s.markedCount)
        exec .quantumBoundary s = .next w ∧ w.chan.tasks = s.chan.tasks ∧ w.mem = s.mem ∧ w.dict = s.dict ∧
          (∀ h c, s.chanAt h = some c → ∃ m, w.chanAt h = some { c with marked := m } ∧ (c.marked = true → m = true))) ∧
      (∀ (k : Nat) (u : Nat → State) (h : Nat → Nat), u 0 = q → k ≤ s.waitingCount →
        (∀ i, i < k → (u i).oldestWaiting = some (h i) ∧ ∃ t, (u i).contextRoom = some t ∧ u (i + 1) = t.swapIn (h i)) →
        (k = s.waitingCount ∨ (u k).oldestWaiting = none ∨ (u k).contextRoom = none) →
        exec .quantumBoundary s = .next (if 1 < (u k).waitingCount then (u k).markLongest ((u k).waitingCount - (u k).markedCount) else u k))) ∧
    (∀ h c, s.chanAt h = some c → c.marked = true → c.resident = true → s.contextIdle c = true →
      (∀ v, s.oldestWaiting = some v → exec (.contextEvict h) s = .next ((s.swapOut h).swapIn v)) ∧
      (s.oldestWaiting = none → exec (.contextEvict h) s = .next (s.swapOut h)) ∧
      (s.swapOut h).ob Obj.contextSwaps = s.ob Obj.contextSwaps + 1 ∧
      (s.mem.repairs = [] → (s.swapOut h).chanAt h = some { c with
        resident := false, marked := false, waitingSince := if s.hasWork c then some s.now else none })) ∧
    (∀ h c, s.chanAt h = some c → (c.marked = false ∨ c.resident = false ∨ s.contextIdle c = false) → exec (.contextEvict h) s = .next s)

/-- What stops a stand (R28, R90, R91, R93, R278, R404, R422): a handshake stalled for 10 µs is logged, its task aborted with STALL
and the stand reset, and the same for a stand that has had a check, a third run, a test or ballast for 10 µs (that this is given up
is the model's choice, log entry 91); a stand that does not answer is reset, and its task ends with STALL (the model's choice, log
entry 30); what is decided on a stand without a running task takes effect. -/
def Obligations.StandStopsComplete : Prop :=
  ∀ (s : State) (n : Nat), n < 192 →
    (∀ t, s.runningOn n = some t →
      (t.startAt + 10000 ≤ s.now → exec (.handshakeStall n) s = .next (((s.logStand n { errRec 0x0101 with
        job := t.job, step := D.step t.desc, handle := t.handle, task := t.id.toNat, attempt := t.attempt }).abort t Status.stall).standReset n)) ∧
      (s.now < t.startAt + 10000 → exec (.handshakeStall n) s = .next s) ∧
      (s.halfRuns (n / 96) = true → s.fenced n = false → exec (.standTimeout n) s = .next ((s.abort t Status.stall).standReset n))) ∧
    (s.runningOn n = none → s.halfRuns (n / 96) = true → s.fenced n = false → exec (.standTimeout n) s = .next (s.standReset n) ∧
      (s.worksFor n = true → s.worksFrom n + 10000 ≤ s.now →
        exec (.handshakeStall n) s = .next ((((s.logStand n (errRec 0x0101)).stallUnits n).standReset n).abandonChecks n)) ∧
      ((s.worksFor n = false ∨ s.now < s.worksFrom n + 10000) → exec (.handshakeStall n) s = .next s)) ∧
    (s.runningOn n = none → s.fenced n = false → (s.stand n).pendFence = 0 → (s.stand n).pendState = 0 → (s.stand n).pendBypass ≠ 0 →
      s.ob (Obj.arrayFence n) = 0 → (∀ a, a < 4 → bitsIn (s.ob (Obj.bypassed n) ||| (s.stand n).pendBypass) (64 * a) 64 ≤ 8) →
      ∃ t, exec (.fenceApply n) s = .next t ∧ t.ob (Obj.bypassed n) = s.ob (Obj.bypassed n) ||| (s.stand n).pendBypass ∧
        t.ob (Obj.arrayFence n) = 0 ∧ t.ob (Obj.standState n) = s.ob (Obj.standState n) ∧ (t.stand n).pendBypass = 0 ∧
        (∀ k, k ≠ n → t.stand k = s.stand k) ∧ t.chan = s.chan ∧ t.mem = s.mem) ∧
    (s.runningOn n = none → s.fenced n = false → 2 ≤ (s.stand n).pendState → (s.stand n).saved = [] →
      s.fire.trios = [] →
      ∃ t, exec (.fenceApply n) s = .next t ∧ t.ob (Obj.standState n) = (s.stand n).pendState ∧ t.fenced n = true ∧
        (∀ g ∈ t.mem.groups, n ∉ g.set) ∧ t.chan = s.chan ∧ t.mem.cells = s.mem.cells)

/-- RECOMPUTE_RERUN (R133): the producer runs once more, its outputs are written again and the reader may start over; where there is
none, or its run fails (which run of it counts in RECOMPUTES is the model's choice, log entry 90), the reader ends with MEMORY_ERROR. -/
def Obligations.RecomputeRerunCompletes : Prop :=
  ∀ (s : State) (h : Nat) (id : BitVec 32) (t : Task) (answer : Option (List Byte)), s.taskAt h id = some t →
    t.phase = .held → t.faultDetail = 1 → t.recomputed = false →
    (∀ d u, s.producer t t.faultAddr = some d → s.reproduce t d answer = (u, true) →
      ∃ w, exec (.recomputeRerun h id answer) s = .next w ∧ w.ob Obj.recomputes = u.ob Obj.recomputes + 1 ∧ w.mem = u.mem ∧
        w.chan.tasks = u.chan.tasks.map (fun x => if x.uid == t.uid && x.id == t.id then
          { x with recomputed := true, faultAddr := 0, faultDetail := 0 } else x)) ∧
    (∀ u, ((s.producer t t.faultAddr = none ∧ u = s) ∨ ∃ d, s.producer t t.faultAddr = some d ∧ s.reproduce t d answer = (u, false)) →
      exec (.recomputeRerun h id answer) s = .next ((((u.bump Obj.repairFailures).logAt (u.memUnit (t.faultAddr / 64)) { errRec 0x0203 with
        job := t.job, step := D.step t.desc, handle := t.handle, task := t.id.toNat, attempt := t.attempt, address := t.faultAddr }).abort
          t Status.memoryError t.faultAddr 1)))

/-! ## Memory -/

/-- BAR2_READ (R114, R139, R407, R417): all ones and a record where an address is unmapped; the bytes where they read well; after a
detected error the bytes marked poisoned, or, where every block in error is of class Twin or Seedbank, once the blocks are repaired. -/
def Obligations.HostReadsComplete : Prop :=
  ∀ (s : State) (offset len : Nat), s.edge.hostLink = true → 0 < len →
    let a := s.bar2Addr offset
    (s.inBar2 offset len = false → exec (.bar2Read offset len) s = .next s) ∧
    (s.inBar2 offset len = true →
      (s.hostMay a len = false → exec (.bar2Read offset len) s = .next ((s.unmappedAccess a).emit (.readData (List.replicate len 0xFF) false))) ∧
      (s.hostMay a len = true → s.badBlocksOf a len = [] → exec (.bar2Read offset len) s = .next (s.emit (.readData (s.bytesAt a len) false))) ∧
      (∀ bad, s.hostMay a len = true → s.badBlocksOf a len = bad → bad ≠ [] →
        ((∃ x ∈ bad, s.repairable x.1 = false) → exec (.bar2Read offset len) s = .next
          ((bad.foldl (fun s x => s.ownError x.1 x.2) s).emit (.readData (s.bytesAt a len) true))) ∧
        ((∀ x ∈ bad, s.repairable x.1 = true) →
          ∃ t r, exec (.bar2Read offset len) s = .next t ∧ r.addr = a ∧ r.data = s.bytesAt a len ∧ r.waits = bad.map (·.1) ∧
            (∀ x ∈ s.mem.reads, x.id ≠ r.id) ∧ t.mem.reads = s.mem.reads ++ [r] ∧
            (∀ b k, bad = [(b, k)] → t = (({ s with mem := { s.mem with reads := s.mem.reads ++ [r] } } : State).meet b k).waitRepair b (s.classOf b)
              (fun y => { y with accesses := y.accesses ++ [.hostRead r.id] })))))

/-- BAR2_WRITE (R114, R120, R122, R124, R137, R138, R407, R417): discarded and recorded where unmapped; a whole block is written with a
new check whatever it held; part of a block is written where the rest of it reads well, and waits for the repair, or is lost,
where it does not. Every byte outside the write reads as before. -/
def Obligations.HostWritesComplete : Prop :=
  ∀ (s : State) (offset : Nat) (data : List Byte), s.edge.hostLink = true → data ≠ [] → s.inBar2 offset data.length = true →
    let a := s.bar2Addr offset
    (s.hostMay a data.length = false → exec (.bar2Write offset data) s = .next (s.unmappedAccess a)) ∧
    (s.hostMay a data.length = true → a % 64 = 0 → data.length = 64 → s.pendingRepair (a / 64) = false →
      ∃ t, exec (.bar2Write offset data) s = .next t ∧ a / 64 ∈ t.mem.okBlocks ∧
        (∀ x, t.byteAt x = if h : a ≤ x ∧ x < a + data.length then data[x - a]'(by omega) else s.byteAt x) ∧
        t.chan = s.chan ∧ t.dict = s.dict ∧ t.out = s.out ∧ t.mem.regions = s.mem.regions) ∧
    (s.hostMay a data.length = true → a / 64 = (a + data.length - 1) / 64 → data.length < 64 →
      (s.writeBad (a / 64) a data.length = none →
        ∃ t, exec (.bar2Write offset data) s = .next t ∧ t.mem.okBlocks = s.mem.okBlocks ∧
          (∀ x, t.byteAt x = if h : a ≤ x ∧ x < a + data.length then data[x - a]'(by omega) else s.byteAt x) ∧
          t.chan = s.chan ∧ t.dict = s.dict ∧ t.out = s.out ∧ t.mem.regions = s.mem.regions) ∧
      (∀ k, s.writeBad (a / 64) a data.length = some k →
        let u := s.meet (a / 64) k
        (u.repairable (a / 64) = true → exec (.bar2Write offset data) s = .next
          (u.waitRepair (a / 64) (u.classOf (a / 64)) (fun r => { r with accesses := r.accesses ++ [.hostWrite a data] }))) ∧
        (u.repairable (a / 64) = false → exec (.bar2Write offset data) s = .next u)))

/-- The end of a repair (R132, R135, R136, R138, Table 4-7): data that has come complete in time is written with a new check and the
repair is over, data that came too late is not; the second twin is asked when the first failed or did not answer in 400 µs; a repair without sources or time left fails. -/
def Obligations.RepairsComplete : Prop :=
  ∀ (s : State) (b : Nat) (r : Repair), s.mem.repairs.find? (fun x => x.block == b) = some r →
    (∀ d, r.data = some d → r.failed = false → r.missing = 0 → d.length = 64 → s.now ≤ r.t0 + r.bound →
      exec (.repairDone b) s = .next ((((s.dropRepairXfers b).poke (b * 64) d).mended b false).bump
        (if r.cls == 2 then Obj.repairsTwin else Obj.repairsSeedbank)) ∧
      (r.accesses = [] → r.waiters = [] →
        ∃ t, exec (.repairDone b) s = .next t ∧ b ∈ t.mem.okBlocks ∧ t.pendingRepair b = false ∧
          (∀ x, t.byteAt x = if h : b * 64 ≤ x ∧ x < b * 64 + d.length then d[x - b * 64]'(by omega) else s.byteAt x) ∧
          t.chan = s.chan ∧ t.out = s.out)) ∧
    (r.t0 + r.bound < s.now → exec (.repairDone b) s = .next s) ∧
    (∀ xs u, r.cls = 2 → r.asked = 0 → r.second ≠ 0 → (r.failed = true ∨ (r.t0 + 400000 ≤ s.now ∧ r.missing ≠ 0)) →
      (s.dropRepairXfers b).ask r.second r.copyAt r.job r.gen b = (xs, u) →
      exec (.twinFetchRetry b) s = .next { u with mem := { u.mem with repairs := u.mem.repairs.map (fun y => if y.block == b then
        { y with asked := 1, failed := false, missing := 1, xfers := xs, data := none } else y) } }) ∧
    (s.repairOver r = true → exec (.repairTimeout b) s = .next ((s.dropRepairXfers b).repairFailed r))

/-- SCRUB_READ and STACK_ECS_POLL (R121, R140 to R143): scrub moves on to the next block of its memory; a block that reads well changes
nothing else, and an upset that passes the check is not seen; a block with an error outside the reserved areas is repaired or listed, one
in a context save area aborts the tasks saved in it, and an upset in a table is restored or resets the half (the model's choice, log entry
88); the stacks' own counts are taken over every 100 ms. -/
def Obligations.ScrubAndPollComplete : Prop :=
  ∀ s : State,
    (∀ m : MemKind, s.ob Obj.scrubEnable ≠ 0 → s.shed < 2 →
      let b := kget s.mem.scrubAt ((scrubRanges m).headD (0, 1)).1 (memCode m)
      let u : State := { s with mem := { s.mem with scrubAt := kset s.mem.scrubAt (memCode m) (nextBlock (scrubRanges m) b) } }
      ((s.mapped (b * 64) = false ∨ ((s.homeOf (b * 64)).map s.halfRuns).getD false = false) → ∀ e, exec (.scrubRead m e) s = .next u) ∧
      (s.mapped (b * 64) = true → ((s.homeOf (b * 64)).map s.halfRuns).getD false = true →
        (reservedArea (b * 64) = true → isStack (b * 64) = false → exec (.scrubRead m none) s = .next u ∧
          ∀ e, exec (.scrubRead m (some e)) s = .next (if u.upsetPasses b e then u else u.tableUpset b e)) ∧
        ((reservedArea (b * 64) = false ∨ isStack (b * 64) = true) → ∀ e : Option Upset,
          let w := (e.map (u.upset b)).getD u
          (w.blockFault b (b * 64) 64 = none → exec (.scrubRead m e) s = .next w) ∧
          (∀ k, w.blockFault b (b * 64) 64 = some k →
            exec (.scrubRead m e) s = .next (if reservedArea (b * 64) then w.contextFault b else w.scrubFound b k))))) ∧
    (s.due 7 100000000 = false → ∀ l, exec (.stackEcsPoll l) s = .next s) ∧
    (s.due 7 100000000 = true → ∀ l, ∃ t, exec (.stackEcsPoll l) s = .next t ∧
      (∀ l1 l2 stack n, l = l1 ++ (stack, n) :: l2 → (∀ x ∈ l2, x.1 ≠ stack) → t.ob (Obj.stackOndie stack) = n) ∧
      (∀ k, (∀ x ∈ l, k ≠ Obj.stackOndie x.1) → t.ob k = s.ob k) ∧ t.mem = s.mem ∧ t.chan = s.chan ∧ t.fire = s.fire)

/-! ## The clearing -/

/-- The clearing's commands (R189, R192, R193, R195 to R202): a vote that may go is cast and its root decides when it can; a received
vote and a received decision reach their slot; the optimiser tasks of a passed step done, it is committed; a STEP_END without a
decision for CLEARING_TIMEOUT faults its job. -/
def Obligations.ClearingCompletes : Prop :=
  ∀ (s : State) (slot : Nat), slot < 16 →
    (s.mayVote slot = true → exec (.voteSend slot) s = .next ((s.castVote slot).decideRoot slot)) ∧
    (∀ st, (s.job slot).toCommit.find? (s.optimisersDone slot) = some st →
      exec (.stepCommit slot) s = .next (((((s.modJob slot (fun j => { j with toCommit := j.toCommit.filter (· != st) })).setOb
        (Obj.lastCommitted slot) st).replicas slot st).copyGen slot st).liveCopies slot st)) ∧
    (∀ uid id t0 loss, (s.job slot).stepEnd = some (uid, id, t0, loss) → t0 + s.ob Obj.clearingTimeout * 1000000000 ≤ s.now →
      exec (.clearingTimeout slot) s = .next ((s.log { errRec 0x0403 with
        job := (s.jobOf slot).getD 0, step := s.step slot, attempt := s.att slot }).jobFault slot)) ∧
    (∀ p, Arrives s p 8 → exec (.voteReceive p) s = .next ((s.arrived p).voteArrives p)) ∧
    (∀ p, Arrives s p 9 → exec (.decisionReceive p) s = .next ((s.arrived p).decisionArrives p))

/-- The counters of a slot after a decision (R186, R200, R207): PASS and SKIP move CURRENT_STEP on by one and clear the attempt, TAINT
repeats the step under the next attempt; the loss scale falls by one on SKIP, stays on TAINT, and rises by one after
SCALE_GROWTH clean steps, within SCALE_MIN and SCALE_MAX. -/
def Obligations.DecisionMovesTheCounters : Prop :=
  ∀ (s : State) (slot : Nat) (d : Decision), slot < 16 → d.decision ≤ 2 →
    let t := s.advance slot d
    let e := s.ob (Obj.lossScaleExp slot)
    let c := s.ob (Obj.cleanSteps slot)
    (d.decision = 0 → t.step slot = (s.step slot + 1) % 2 ^ 48 ∧ t.att slot = 0 ∧ t.ob (Obj.stepsPassed slot) = s.ob (Obj.stepsPassed slot) + 1 ∧
      (c + 1 = s.ob (Obj.scaleGrowth slot) → t.ob (Obj.lossScaleExp slot) = min (e + 1) (s.ob (Obj.scaleMax slot)) ∧ t.ob (Obj.cleanSteps slot) = 0) ∧
      (c + 1 ≠ s.ob (Obj.scaleGrowth slot) → t.ob (Obj.lossScaleExp slot) = e ∧ t.ob (Obj.cleanSteps slot) = c + 1)) ∧
    (d.decision = 1 → t.step slot = (s.step slot + 1) % 2 ^ 48 ∧ t.att slot = 0 ∧ t.ob (Obj.stepsSkipped slot) = s.ob (Obj.stepsSkipped slot) + 1 ∧
      t.ob (Obj.lossScaleExp slot) = max (e - 1) (s.ob (Obj.scaleMin slot)) ∧ t.ob (Obj.cleanSteps slot) = 0) ∧
    (d.decision = 2 → t.step slot = s.step slot ∧ t.att slot = s.att slot + 1 ∧ t.ob (Obj.stepsTainted slot) = s.ob (Obj.stepsTainted slot) + 1 ∧
      t.ob (Obj.lossScaleExp slot) = e ∧ t.ob (Obj.cleanSteps slot) = c) ∧
    t.mem = s.mem ∧ t.chan = s.chan ∧ t.stands = s.stands ∧ t.fab = s.fab ∧ t.out = s.out ∧ (∀ k, k ≠ slot → t.job k = s.job k)

/-! ## Transfers -/

/-- What a received packet of each kind does besides its arrival (R135, R136, R238, R241 to R246, R304, R307, R311, R316). -/
def Obligations.ReceivedPacketsComplete : Prop :=
  ∀ (s : State) (p : Packet),
    let u := s.arrived p
    (∀ slot, u.slotOf p.job = some slot →
      (Arrives s p 1 → exec (.writeReceive p) s = .next (u.jobWrite slot p)) ∧
      (Arrives s p 7 → exec (.collectiveReceive p) s = .next (u.jobWrite slot p)) ∧
      (Arrives s p 2 → exec (.readReqReceive p) s = .next (u.jobRead slot p))) ∧
    (u.slotOf p.job = none →
      (Arrives s p 1 → exec (.writeReceive p) s = .next (u.refuseIn p 1)) ∧
      (Arrives s p 7 → exec (.collectiveReceive p) s = .next (u.refuseIn p 1)) ∧
      (Arrives s p 2 → exec (.readReqReceive p) s = .next (u.answerError p 1))) ∧
    (∀ o, u.fab.outXfers.find? (fun o => o.xfer == p.xfer && o.awaiting.contains p.src) = some o →
      let w := State.pumpLaunches u.fab.launches.length
        { u with fab := { u.fab with outXfers := u.fab.outXfers.filter (fun x => x.xfer != p.xfer) } }
      (∀ b, o.use = .repair b → Arrives s p 3 → exec (.readRespReceive p) s = .next (w.repairData b p.xfer p).runRestores) ∧
      (∀ slot target, o.use = .restore slot target → Arrives s p 3 →
        exec (.readRespReceive p) s = .next (w.restoreData slot target p.xfer p).runRestores)) ∧
    (Arrives s p 4 → exec (.doneReceive p) s = .next (u.xferAnswer p.src p.xfer true)) ∧
    (Arrives s p 5 → exec (.refuseReceive p) s = .next (u.schedule p)) ∧
    (Arrives s p 6 → exec (.errorReceive p) s = .next (u.xferAnswer (u.answeredBy p) p.xfer false)) ∧
    (Arrives s p 0xC → p.ctl = .heartbeat → exec (.heartbeatReceive p) s = .next u)

/-- A WRITE a peer may make (R241, R243, R244): its payload is stored at ADDR, and no other byte of memory changes; the first packet of a
transfer opens it, and each further one is counted in it. One that names no job here, an address outside the job's regions, a TOTAL of 0
or another than the transfer's, or that is one more than its TOTAL, is answered with ERROR and stores nothing. -/
def Obligations.PeerWritesStoreTheirPayload : Prop :=
  ∀ (s : State) (slot : Nat) (p : Packet), p.sbCopy = false → p.gen = none →
    let known := s.fab.inXfers.find? (fun x => x.src == p.src && x.xfer == p.xfer)
    let may := s.peerMay p.job p.addr (max p.payload.length 1) = true ∧ s.touchesLost p.addr p.payload.length = false
    (may → 1 ≤ p.total → s.mem.repairs = [] → p.addr % 64 = 0 → p.payload.length % 64 = 0 → 0 < p.payload.length →
      let t := s.jobWrite slot p
      let stored := (∀ x, t.byteAt x = if h : p.addr ≤ x ∧ x < p.addr + p.payload.length then p.payload[x - p.addr]'(by omega) else s.byteAt x) ∧
        t.chan = s.chan ∧ t.dict = s.dict ∧ t.out = s.out
      (known = none → s.fab.inXfers.length < 65536 → stored ∧
        t.fab.inXfers = s.fab.inXfers ++ [{ src := p.src, xfer := p.xfer, job := p.job, total := p.total, count := 1, arrival := p.arrival, epoch := p.epoch, base := p.addr - 4096 * p.offset }]) ∧
      (∀ x, known = some x → x.total = p.total → x.count < x.total → stored ∧
        t.fab.inXfers = s.fab.inXfers.map (fun x => if x.src == p.src && x.xfer == p.xfer then { x with count := x.count + 1 } else x))) ∧
    (may → (p.total = 0 ∨ ∃ x, known = some x ∧ (x.total ≠ p.total ∨ x.total ≤ x.count)) →
      s.jobWrite slot p = s.refuseIn p 4 ∧ (s.jobWrite slot p).mem = s.mem ∧ (s.jobWrite slot p).chan = s.chan) ∧
    (s.slotOf p.job = none → s.writeArrives p = s.refuseIn p 1 ∧ (s.writeArrives p).mem = s.mem ∧ (s.writeArrives p).chan = s.chan) ∧
    (s.peerMay p.job p.addr (max p.payload.length 1) = false →
      s.jobWrite slot p = s.refuseIn p 2 ∧ (s.jobWrite slot p).mem = s.mem ∧ (s.jobWrite slot p).chan = s.chan)

/-- The other events of transfers and of peers (R238, R241, R244, R246, R258, R313, R344): a complete transfer counts its arrival and is
answered DONE, after the repair of the counter's block where that is in error, or with ERROR where there is none (the model's choice, log
entry 85); a refused packet is sent again when its wait is over; a peer not written to for 100 ms gets a heartbeat; one not heard for 1 s
is lost, logged and alerted, and a FABRIC task that waited for it ends with FABRIC_ERROR. -/
def Obligations.TransferAndPeerEventsComplete : Prop :=
  ∀ s : State,
    (∀ src xfer x, s.fab.inXfers.find? (fun x => x.src == src && x.xfer == xfer) = some x → x.count = x.total → x.closing = false →
      (s.counterOf x = none → exec (.transferComplete src xfer) s = .next ((s.dropIn src xfer).send
        { dest := src, src := s.me, vc := 2, kind := 4, xfer := xfer, total := x.total, job := x.job })) ∧
      (∀ a, s.counterOf x = some a →
        (s.firstFault a 8 = none →
          exec (.transferComplete src xfer) s = .next ((s.ownWrite a (bytesOf ((s.numAt a 8 + 1) % 2 ^ 64) 8)).sendDone src xfer)) ∧
        (∀ b k, s.firstFault a 8 = some (b, k) →
          let u := s.meet b k
          (u.repairable b = false → exec (.transferComplete src xfer) s = .next (u.endIn x 3)) ∧
          (u.repairable b = true → exec (.transferComplete src xfer) s = .next
            (({ u with fab := { u.fab with inXfers := u.fab.inXfers.map (fun y => if y == x then { y with closing := true } else y) } } : State).waitRepair
              b (u.classOf b) (fun r => { r with accesses := r.accesses ++ [.arrival a src xfer] })))))) ∧
    (∀ dest xfer offset r t, s.fab.resends.find? (fun r => r.dest == dest && r.packet.xfer == xfer && r.packet.offset == offset) = some r →
      r.due = some t → t ≤ s.now →
      ∃ w, exec (.refuseResendExpiry xfer offset dest) s = .next w ∧ w.fab.sendQ = s.fab.sendQ ++ [r.packet] ∧
        w.fab.resends = s.fab.resends.map (fun x => if x == r then { x with due := none } else x) ∧ w.mem = s.mem ∧ w.chan = s.chan) ∧
    (∀ peer, s.grovePeers.contains peer = true → (kget s.fab.peers {} peer).sentAt + 100000000 ≤ s.now →
      ∃ w q, exec (.heartbeatTimer peer) s = .next w ∧ w.fab.sendQ = s.fab.sendQ ++ [q] ∧ q.dest = peer ∧ q.ctl = .heartbeat ∧
        (kget w.fab.peers {} peer).sentAt = s.now ∧ w.mem = s.mem ∧ w.chan = s.chan ∧ w.dict = s.dict) ∧
    (∀ peer p, kget? s.fab.peers peer = some p → p.lost = false → peer ≠ s.me → s.inGrove peer = true → p.heardAt + 1000000000 ≤ s.now →
      exec (.peerLost peer) s = .next (((((s.losePeer peer p).settleLoans peer).abandonFor peer).runRestores).queriesAnswered) ∧
      (s.fab.launches = [] → s.ob Obj.drainState ≠ 1 → (∀ slot, (s.job slot).gen = none ∧ (s.job slot).restore = none) →
        (s.fab.outXfers = [] ∨ ∃ o t, s.fab.outXfers = [o] ∧ o.awaiting = [peer] ∧ o.use = .task t.uid t.id ∧
          s.taskBy t.uid t.id = some t ∧ t.phase = .running ∧ D.kind t.desc = kFabric) →
        ∃ w, exec (.peerLost peer) s = .next w ∧ (kget w.fab.peers {} peer).lost = true ∧ Alert.peerLost peer ∈ w.edge.alerts ∧
          w.power.lent = s.power.lent.filter (fun l => l.peer != peer) ∧ w.power.borrowed = s.power.borrowed.filter (fun l => l.peer != peer) ∧
          (∀ x ∈ w.fab.inXfers, x.src ≠ peer) ∧ (∀ x, w.byteAt x = s.byteAt x) ∧ w.chan.chans = s.chan.chans ∧
          ((kget s.fire.queues {} moduleUnit).used moduleUnit < 63 →
            ∃ r, (kget w.fire.queues {} moduleUnit).records = insRecord r (kget s.fire.queues {} moduleUnit).records ∧
              r.code = 0x0303 ∧ r.detail0 = peer) ∧
          (∀ o, s.fab.outXfers = [o] → w.fab.outXfers = [] ∧ ∀ uid id, o.use = .task uid id →
            ∃ k, w.taskBy uid id = some k ∧ k.phase = .ended ∧ k.result = some Status.fabricError)))

/-! ## Ports and links -/

/-- The events of a port (R218, R221 to R226): training ends in BACKOFF without a peer or after more than 100 ms, in HELD_DOWN for a
grove port with an unfit peer, in UP otherwise, with the credits the peer advertises; a lost link is a flap; a backoff that is over trains again; a port UP for 60 s starts from the least backoff. -/
def Obligations.PortEventsComplete : Prop :=
  ∀ (s : State) (port : Nat), port < 9 →
    (s.portSt port = 1 →
      exec (.trainingDone port none) s = .next (s.backoff port) ∧
      ∀ r : PeerReport,
        ((s.me = 0 ∨ (s.port port).since + 100000000 < s.now) → exec (.trainingDone port (some r)) s = .next (s.backoff port)) ∧
        (s.me ≠ 0 → s.now ≤ (s.port port).since + 100000000 →
          (7 ≤ port → exec (.trainingDone port (some r)) s = .next (s.comeUp port 0 fullCredits)) ∧
          (port < 7 → s.peerRefused port r = none → exec (.trainingDone port (some r)) s = .next (s.comeUp port r.endpoint r.credits)) ∧
          (∀ c, port < 7 → s.peerRefused port r = some c → exec (.trainingDone port (some r)) s = .next
            (((s.enterPort port 4 c).lengthen port).log { errRec 0x0302 with detail0 := port })))) ∧
    (s.portUp port = true → exec (.linkLoss port) s = .next (s.flap port)) ∧
    (s.portSt port = 3 → (s.port port).since + (s.port port).wait * 1000000 ≤ s.now → exec (.backoffExpiry port) s = .next (s.train port)) ∧
    (s.portUp port = true → (s.port port).since + 60000000000 ≤ s.now →
      ∃ t, exec (.backoffReset port) s = .next t ∧ t.port port = { s.port port with backoff := 0 } ∧
        (∀ k, k ≠ port → t.port k = s.port k) ∧ (∀ k, t.ob k = s.ob k) ∧ t.mem = s.mem ∧ t.chan = s.chan)

/-- What a flap leaves (R223 to R225): counted and logged; below FLAP_LIMIT flaps in FLAP_WINDOW the port waits in BACKOFF, from
BACKOFF_MIN on and twice as long the next time up to BACKOFF_MAX; at the limit it is HELD_DOWN for cause 1, the backoff doubled all
the same. -/
def Obligations.AFlapBacksOffOrHoldsDown : Prop :=
  ∀ (s : State) (port : Nat), port < 9 → s.portUp port = true → (∀ x ∈ (s.port port).retry, x.2.hop = false ∧ x.2.dest ≠ 0xFFFF) →
    ∃ t, exec (.linkLoss port) s = .next t ∧ t.ob (Obj.flaps port) = s.ob (Obj.flaps port) + 1 ∧ t.ob (Obj.portPeer port) = 0 ∧
      (let recent := ((s.port port).flapTimes.filter (fun t => s.now - t < s.ob Obj.flapWindow * 1000000000)).length + 1
       let w := min (max (s.port port).backoff (s.ob Obj.backoffMin)) (s.ob Obj.backoffMax)
       (t.port port).wait = w ∧ (t.port port).backoff = min (2 * w) (s.ob Obj.backoffMax) ∧
       (recent < s.ob Obj.flapLimit → t.portSt port = 3) ∧
       (s.ob Obj.flapLimit ≤ recent → t.portSt port = 4 ∧ t.ob (Obj.portState port) / 256 = 1)) ∧
      (t.port port).retry = [] ∧ t.fab.requeue = s.fab.requeue ++ (s.port port).retry.map (·.2) ∧
      (∀ k, k < 9 → k ≠ port → t.port k = s.port k ∧ t.ob (Obj.portState k) = s.ob (Obj.portState k)) ∧ t.mem = s.mem ∧ t.chan = s.chan

/-- Flits and credits (R219, R220, R223, R231 to R234): a flit with a failed CRC is answered by NAK for the last good one; one out of
order is passed over; the one expected frees what it acknowledges and delivers the packets that end in its data, after those that an
earlier flit has begun (what fills a flit is the model's choice, log entry 96); NAK replays; an overdue credit return is a flap; an idle
link is audited once the flit not yet full has left, and the sender takes over the receiver's counts. -/
def Obligations.FlitsAndCreditsComplete : Prop :=
  ∀ (s : State) (port : Nat), port < 7 → s.portUp port = true →
    (∀ f : Flit, f.crc ≠ f.check → exec (.flitReceive port f) s = .next (s.emit (.nak port (((s.port port).rxNext + 4095) % 4096)))) ∧
    (∀ f : Flit, f.crc = f.check → f.fseq ≠ (s.port port).rxNext → exec (.flitReceive port f) s = .next s) ∧
    (∀ f : Flit, f.crc = f.check → f.fseq = (s.port port).rxNext →
      ∃ t, exec (.flitReceive port f) s = .next t ∧
        (f.nak = false →
          let (ps, left) := if f.type = 0 then f.unpack (s.port port).rxData else ([], (s.port port).rxData)
          t.fab.rx = s.fab.rx ++ (ps.filter (fun p => !(p.kind == 0 || decide (0xD ≤ p.kind)))).map (fun p => (port, p)) ∧
          (t.port port).rxData = left ∧
          (t.port port).rxNext = ((s.port port).rxNext + 1) % 4096 ∧
          (t.port port).retry = (s.port port).retry.filter (fun x => !flitLe x.1 f.ackseq) ∧
          (∀ k, k ≠ port → t.port k = s.port k) ∧ t.mem = s.mem ∧ t.chan = s.chan)) ∧
    (∀ g, exec (.nakReceive port g) s = .next (s.replay port g)) ∧
    (∀ vc t, vc < 6 → s.waitsCredits port vc = true → (s.port port).waitFrom vc = some t → t + 50000 ≤ s.now →
      exec (.creditReturnTimeout port vc) s = .next (s.flap port)) ∧
    ((s.port port).lastPacket + 20000 ≤ s.now → (∀ t, (s.port port).lastAudit = some t → t + 1000000 ≤ s.now) →
      exec (.creditAuditIdle port) s = .next (((s.pumpFlits port true (s.port port).dueFlits).modPort port
        (fun p => { p with lastAudit := some s.now })).emit (.audit port (s.port port).credits (s.port port).free))) ∧
    (∀ free : List Nat, (s.port port).credits.length = 6 →
      ∃ t, exec (.auditFlitReceive port free) s = .next t ∧ (∀ vc, vc < 6 → (t.port port).credits.getD vc 0 = free.getD vc 0) ∧
        t.ob Obj.auditMismatches = s.ob Obj.auditMismatches +
          ((upto 6).filter (fun vc => (s.port port).credits.getD vc 0 != free.getD vc 0)).length ∧
        (∀ k, k ≠ port → t.port k = s.port k) ∧ t.mem = s.mem ∧ t.chan = s.chan)

/-- The moves of packets (R226, R229, R233, R235, R247, R255, R261): a waiting packet leaves by its route once that is ready, stamped with the
injection epoch; one for this module arrives; one without a route comes to nothing; an intermediate forwards once, on the direct port,
and moves to VC5 after ESCAPE_WAIT. -/
def Obligations.PacketMovesComplete : Prop :=
  ∀ s : State,
    (∀ (n : Nat) (viaUp : List Nat) (p : Packet) (again : Bool) (t : State), s.pull n = some (p, again, t) →
      let q := if again then p else s.stamp p
      s.me ≠ 0 → s.suspended q = false →
      (q.dest = s.me → exec (.packetSend n viaUp) s = .next { t with fab := { t.fab with rx := t.fab.rx ++ [(9, q.seal)] } }) ∧
      (q.dest ≠ s.me → q.dest = 0xFFFF →
        (∀ ep ∈ s.grovePeers, s.directUp (s.epEntry q.epoch ep) ep = true → s.portReady (s.epEntry q.epoch ep).port q = true) →
        exec (.packetSend n viaUp) s = .next (t.broadcast q)) ∧
      (q.dest ≠ s.me → q.dest = 0xFFFF →
        (∃ ep ∈ s.grovePeers, s.directUp (s.epEntry q.epoch ep) ep = true ∧ s.portReady (s.epEntry q.epoch ep).port q = false) →
        exec (.packetSend n viaUp) s = .next (s.grovePeers.foldl (fun s ep =>
          if s.directUp (s.epEntry q.epoch ep) ep then s.noteWait (s.epEntry q.epoch ep).port q else s) s)) ∧
      (q.dest ≠ s.me → q.dest ≠ 0xFFFF →
        (∀ k, (s.routeOf q).route = 2 → t.groveRoute (s.routeOf q) q viaUp = some k →
          (s.portReady k q = true → exec (.packetSend n viaUp) s = .next (t.onPort k q)) ∧
          (s.portReady k q = false → exec (.packetSend n viaUp) s = .next (s.noteWait k q))) ∧
        (((s.routeOf q).route = 3 ∨ ((s.routeOf q).route = 2 ∧ t.groveRoute (s.routeOf q) q viaUp = none)) →
          (∀ w, s.uplinksFor (s.routeOf q) ≠ [] → t.forestSend (s.routeOf q) q = (true, w) → exec (.packetSend n viaUp) s = .next w) ∧
          (∀ w, s.uplinksFor (s.routeOf q) ≠ [] → t.forestSend (s.routeOf q) q = (false, w) →
            exec (.packetSend n viaUp) s = .next (s.forestSend (s.routeOf q) q).2) ∧
          (s.uplinksFor (s.routeOf q) = [] → exec (.packetSend n viaUp) s = .next (t.noRoute q))) ∧
        ((s.routeOf q).route ≠ 2 → (s.routeOf q).route ≠ 3 → exec (.packetSend n viaUp) s = .next (t.noRoute q)))) ∧
    (∀ (port : Nat) (p : Packet), s.forMe p = false → s.fab.rx.contains (port, p) = true →
      let e := s.routeOf p
      (p.hop = false → e.route = 2 → s.directUp e p.dest = true →
        (s.portReady e.port p = true → exec (.packetForward port p) s = .next (s.hopOn e.port port p p.vc)) ∧
        (s.portReady e.port p = false → s.fab.waitingFwd.any (fun w => w.port == port && w.packet == p) = false →
          let u := s.noteWait e.port p
          exec (.packetForward port p) s = .next { u with fab := { u.fab with waitingFwd := u.fab.waitingFwd ++ [⟨port, p, s.now⟩] } })) ∧
      ((p.hop = true ∨ e.route ≠ 2 ∨ s.directUp e p.dest = false) → exec (.packetForward port p) s = .next ((s.unbuffer p).noRoute p))) ∧
    (∀ (n : Nat) (w : Waiting), s.fab.waitingFwd[n]? = some w → w.since + s.ob Obj.escapeWait * 1000 ≤ s.now →
      s.directUp (s.routeOf w.packet) w.packet.dest = true → s.portReady (s.routeOf w.packet).port { w.packet with vc := 5 } = true →
      exec (.escapeWaitExpiry n) s = .next ((s.hopOn (s.routeOf w.packet).port w.port w.packet 5).bump Obj.escapeUses))

/-- The messages of an epoch switch (R230, R256 to R258, Table 7-9): a query is answered with whether a version is committed; a FLIP makes
that version the injection epoch, once, and is answered each time; a poll is answered with the count of packets of the old
epoch; RETIRE ends the drain, but of a module that itself waits for FLIP answers; the module that drains (which one, and whom it
asks: the model's choice, log entry 98) repeats FLIP and the poll until all have answered and nothing old is left, and then sends
RETIRE to all of them. -/
def Obligations.EpochMessagesComplete : Prop :=
  ∀ (s : State) (src : Nat),
    (∀ u, s.ctlArrived src (· == .readyQuery) = some u →
      exec (.epochReadyQuery src) s = .next (u.control src (.readyAnswer (u.fab.ready && u.fab.oldEpoch.isNone)))) ∧
    (∀ ready u, s.ctlArrived src (· == .readyAnswer ready) = some u → u.fab.switch.queries.contains src = true →
      exec (.epochReadyAnswer src ready) s = .next ({ u with fab := { u.fab with switch := { u.fab.switch with
        queries := u.fab.switch.queries.filter (· != src), notReady := u.fab.switch.notReady || !ready } } } : State).queriesAnswered) ∧
    (∀ u, s.ctlArrived src (· == .flip) = some u →
      (u.fab.ready = false → exec (.flip src) s = .next (u.control src .flipAnswer)) ∧
      (u.fab.ready = true → ∃ t, exec (.flip src) s = .next t ∧ t = u.flipEpoch.control src .flipAnswer ∧ t.epoch = 1 - s.epoch ∧ t.fab.oldEpoch = some s.epoch ∧ t.fab.ready = false ∧
        t.fab.ept0 = s.fab.ept0 ∧ t.fab.ept1 = s.fab.ept1 ∧ t.mem = s.mem ∧ t.chan = s.chan)) ∧
    (∀ u, s.ctlArrived src (· == .flipAnswer) = some u →
      ∃ t, exec (.flipAnswer src) s = .next t ∧ (∀ x ∈ t.fab.switch.flips, x.1 ≠ src) ∧ t.epoch = s.epoch ∧ t.mem = s.mem ∧ t.chan = s.chan) ∧
    (∀ t0, s.fab.switch.flips.find? (fun x => x.1 == src) = some (src, t0) → t0 + 100000 ≤ s.now → (kget s.fab.peers {} src).lost = false →
      exec (.flipRetry src) s = .next (({ s with fab := { s.fab with switch := { s.fab.switch with
        flips := s.fab.switch.flips.map (fun (x : Nat × Nat) => if x.1 == src then (src, s.now) else x) } } } : State).control src .flip)) ∧
    (s.fab.oldEpoch.isSome = true → s.drains = true → s.fab.switch.pollAt + 10000 ≤ s.now →
      let settled := s.fab.switch.flips = [] ∧ (∀ e ∈ s.drainGrove, kget? s.fab.switch.counts e = some 0) ∧ s.drainCount = 0
      (settled → ∃ t, exec .drainPoll s = .next t ∧ t = (s.drainGrove.foldl (fun s e => s.control e .retire) s).retireOld ∧
        t.fab.sendQ = s.fab.sendQ ++ s.drainGrove.map (fun e => { dest := e, src := s.me, vc := 0, kind := 0xC, ctl := .retire }) ∧ t.fab.oldEpoch = none ∧ t.ob Obj.drainState = 0 ∧ t.epoch = s.epoch ∧ t.mem = s.mem ∧ t.chan = s.chan) ∧
      (¬ settled → ∃ t, exec .drainPoll s = .next t ∧
        t.fab.sendQ = s.fab.sendQ ++ s.drainGrove.map (fun e => { dest := e, src := s.me, vc := 0, kind := 0xC, ctl := .drainPoll }) ∧ t.fab.oldEpoch = s.fab.oldEpoch ∧ t.ob Obj.drainState = 2 ∧ t.fab.switch.counts = [] ∧
        t.fab.switch.pollAt = s.now ∧ t.epoch = s.epoch ∧ t.mem = s.mem ∧ t.chan = s.chan)) ∧
    (∀ u, s.ctlArrived src (· == .drainPoll) = some u →
      exec (.drainCountReport src none) s = .next
        (({ u with fab := { u.fab with polledAt := u.now } } : State).control src (.drainReport u.drainCount))) ∧
    (∀ c u, s.ctlArrived src (· == .drainReport c) = some u →
      exec (.drainCountReport src (some c)) s = .next
        { u with fab := { u.fab with switch := { u.fab.switch with counts := kset u.fab.switch.counts src c } } }) ∧
    (∀ u, s.ctlArrived src (· == .retire) = some u →
      (u.fab.switch.flips ≠ [] → exec (.retire src) s = .next u) ∧
      (u.fab.switch.flips = [] → ∃ t, exec (.retire src) s = .next t ∧ t.fab.oldEpoch = none ∧ t.ob Obj.drainState = 0 ∧ t.fab.switch = {} ∧ t.epoch = s.epoch ∧
        t.mem = s.mem ∧ t.chan = s.chan)) ∧
    (∀ port p, s.fab.rx.find? (fun x => x.2.kind == 0xC && x.2.src == src && x.2.ctl == .retire) = some (port, p) → p.checkOk = false →
      exec (.retire src) s = .next ((s.unbuffer p).log { errRec 0x0304 with detail0 := 0xC }))

/-! ## Forest paths -/

/-- The forest's events (R227, R228, R247 to R249): a request is granted or queued, a give-back frees credits of the pool; a grant adds
path credits (a grant's PCRED brings returned credits too: the model's choice, log entry 97); a packet frame within 256 of the next PSEQ is delivered once and an acknowledgement falls due; every frame frees
what its PACK acknowledges; an unacknowledged frame goes again, stamped anew, and after FOREST_RETRIES the path has failed; a
source silent for 100 µs gives its credits back. A foreign frame acts on no path. -/
def Obligations.ForestEventsComplete : Prop :=
  ∀ (s : State) (src : Nat),
    (∀ (f : Frame) t, s.foreign f = some t → exec (.grantRequest f) s = .next t ∧ (∀ g : Frame, g.granting f.pcred = f → exec (.grant g f.pcred) s = .next t) ∧
      exec (.forestPacketFrame f) s = .next t ∧ exec (.acknowledgementFrame f) s = .next t ∧ t.fab = s.fab ∧ t.mem = s.mem ∧ t.chan = s.chan) ∧
    (∀ (f : Frame), s.foreign f = none → s.senderOf f = some src →
      (f.pcred = 0 → s.fab.grantWait = [] →
        let u := match s.path? src with
          | some x => s.setPath src (x.takePack f)
          | none => s
        (∀ w, u.grantTo src = some w → exec (.grantRequest f) s = .next w) ∧
        (u.grantTo src = none → ∃ w, exec (.grantRequest f) s = .next w ∧ w.fab.grantWait = [src] ∧
          w.ob Obj.grantsWaiting = s.ob Obj.grantsWaiting + (if u.poolEmpty then 1 else 0) ∧ w.fab.paths = u.fab.paths ∧ w.mem = s.mem ∧ w.chan = s.chan)) ∧
      (∀ x, s.path? src = some x →
        (f.pcred ≠ 0 → s.fab.grantWait = [] →
          exec (.grantRequest f) s = .next (s.setPath src { x.takePack f with granted := x.granted - f.pcred })) ∧
        (∀ g : Frame, g.granting f.pcred = f → exec (.grant g f.pcred) s =
          .next (s.setPath src { x.takePack f with credits := x.credits + f.pcred, requested := false })) ∧
        (∀ p, (f.pseq - x.expected).toNat < 256 → x.early.contains f.pseq = false → f.packet = some p → s.forMe p = true → 1 ≤ p.kind → p.kind < 0xD →
          ∃ w y, exec (.forestPacketFrame f) s = .next w ∧ w.fab.rx = s.fab.rx ++ [(7, p)] ∧ w.path? src = some y ∧ y.ackDue.isSome = true ∧
            y.credits = x.credits + f.pcred ∧ (f.pseq = x.expected → x.early = [] → y.expected = x.expected + 1 ∧ y.early = []) ∧
            y.unacked = x.unacked.filter (fun y => decide ((y.1 - f.pack).toNat < 2 ^ 31)) ∧ w.mem = s.mem ∧ w.chan = s.chan) ∧
        ((256 ≤ (f.pseq - x.expected).toNat ∨ x.early.contains f.pseq = true) →
          ∃ w y, exec (.forestPacketFrame f) s = .next w ∧ w.fab.rx = s.fab.rx ∧ w.path? src = some y ∧ y.ackDue.isSome = true ∧
            y.expected = x.expected ∧ y.early = x.early ∧ w.mem = s.mem ∧ w.chan = s.chan) ∧
        (∃ w y, exec (.acknowledgementFrame f) s = .next w ∧ w.path? src = some y ∧ y.credits = x.credits + f.pcred ∧
          y.unacked = x.unacked.filter (fun y => decide ((y.1 - f.pack).toNat < 2 ^ 31)) ∧ y.expected = x.expected ∧ w.fab.rx = s.fab.rx ∧
          w.mem = s.mem ∧ w.chan = s.chan))) ∧
    (∀ x t u, s.path? src = some x → s.pickUplink (s.epEntry s.epoch src) = some u →
      (x.ackDue = some t → exec (.ackTimer src) s = .next (s.frameOut u src pAck 0 none none)) ∧
      (0 < x.credits → x.lastSent + 100000 ≤ s.now → s.shed < 3 →
        exec (.pathCreditGiveBack src) s = .next ((s.setPath src { x with credits := 0 }).frameOut u src pRequest 0 (some x.credits) none))) ∧
    (∀ x pseq t n p, s.path? src = some x → x.unacked.find? (fun y => y.1 == pseq) = some (pseq, t, n, p) →
      t + s.ob Obj.forestRetransmit * 1000 ≤ s.now →
      (s.vcHeld p.vc = true → exec (.forestRetransmit src pseq) s = .next s) ∧
      (s.vcHeld p.vc = false → s.ob Obj.forestRetries ≤ n → exec (.forestRetransmit src pseq) s = .next (s.pathFailed src)) ∧
      (s.vcHeld p.vc = false → n < s.ob Obj.forestRetries →
        let q := (s.stamp p).seal
        let w := s.setPath src { x with lastSent := s.now, unacked := x.unacked.map (fun y =>
          if y.1 == pseq then (pseq, s.now, n + 1, q) else y) }
        (s.pickUplink (s.epEntry s.epoch src) = none → exec (.forestRetransmit src pseq) s = .next w) ∧
        (∀ u, s.pickUplink (s.epEntry s.epoch src) = some u →
          exec (.forestRetransmit src pseq) s = .next (w.frameOut u src pPacket pseq none (some q)))))

/-! ## Silent errors -/

/-- Sampled checks and optimiser units (R269, R271 to R274, Table 8-1): equal digests settle; a difference is counted, logged and waits
for a third run on the stand chosen for it (which one is the model's choice, log entry 53); the third run makes the odd one a suspect, or the case stays unresolved, as it does
after 10 ms. -/
def Obligations.ChecksAndThirdRunsComplete : Prop :=
  (∀ (s : State) (h : Nat) (id : BitVec 32) (block : Nat) (c : Check), s.checkAt h id block = some c →
      (∀ second : Digests, c.other = none →
        (second.out = c.digests.out → exec (.checkCompare h id block second) s = .next ((s.bump Obj.checksRun).settle c)) ∧
        (second.out ≠ c.digests.out →
          ∃ t, exec (.checkCompare h id block second) s = .next t ∧ t.ob Obj.checksRun = s.ob Obj.checksRun + 1 ∧
            t.ob Obj.checkDisagreements = s.ob Obj.checkDisagreements + 1 ∧
            t.fire.checks = s.fire.checks.map (fun x => if x == c then
              { x with other := some (second.out, s.now), third := s.thirdStand c.orig c.checker } else x) ∧
            t.mem = s.mem ∧ t.chan = s.chan ∧ (∀ n, n ≠ s.thirdStand c.orig c.checker → t.stand n = s.stand n))) ∧
      (∀ other t0 third bytes, c.other = some (other, t0) →
        (s.standEnabled c.third = true → s.now ≤ t0 + 10000000 →
          exec (.thirdRunDone h id block c.third ⟨third, bytes⟩) s = .next (s.thirdCheck c other third)) ∧
        (t0 + 10000000 ≤ s.now → exec (.thirdRunTimeout h id block) s = .next (s.unresolved c)))) ∧
  (∀ (s : State) (h : Nat) (id : BitVec 32) (unit : Nat) (t : Task) (u : OptUnit), s.taskAt h id = some t → t.phase = .running →
      (∀ second : Digests, t.units.find? (fun u => u.index == unit && !u.done && !u.dead && u.second.isNone) = some u →
        (second.out = u.digests.out →
          exec (.optimiserUnitCompare h id unit second) s = .next ((s.bump Obj.checksRun).writeUnit t u u.writes)) ∧
        (second.out ≠ u.digests.out →
          ∃ w, exec (.optimiserUnitCompare h id unit second) s = .next w ∧ w.ob Obj.checkDisagreements = s.ob Obj.checkDisagreements + 1 ∧
            w.chan.tasks = s.chan.tasks.map (fun x => if x.uid == t.uid && x.id == t.id then { x with units := x.units.map (fun y =>
              if y.index == unit then { y with second := some second.out, at_ := s.now, third := s.thirdStand u.orig u.checker } else y) } else x) ∧ w.mem = s.mem)) ∧
      (s.checkAt h id unit = none → t.units.find? (fun u => u.index == unit && u.second.isSome && !u.dead) = some u →
        (∀ third bytes, s.standEnabled u.third = true → s.now ≤ u.at_ + 10000000 →
          bytes.length = (u.writes.map (fun w => w.data.length)).sum →
          exec (.thirdRunDone h id unit u.third ⟨third, bytes⟩) s = .next (s.thirdUnit t u (u.second.getD 0) third bytes)) ∧
        (u.at_ + 10000000 ≤ s.now → exec (.thirdRunTimeout h id unit) s = .next (s.deadUnit t u))))

/-- Suspects and self-tests (R275, R276, Table 8-2): on an idle stand the repeat of a suspect that gives the majority is a transient fault
below TRANSIENT_LIMIT; one that does not, or at the limit, brings on the suite; a suite without a finding leaves the stand
enabled, one that finds an array fences it. STAND_STATE reads 1 from when a suite is due (the model's choice, log entry 52). -/
def Obligations.SuspectsAndSelfTestsComplete : Prop :=
  ∀ (s : State) (n : Nat), n < 192 → s.runningOn n = none → s.fenced n = false → s.halfRuns (n / 96) = true →
    (∀ x more (again : Digests), (s.stand n).suspects = x :: more → again.inp = x.inp →
      let recent := (s.stand n).transients.filter (fun t => s.now - t < 86400000000000)
      (again.out = x.majority → recent.length < s.ob Obj.transientLimit →
        ∃ t, exec (.suspectRepeatDone n again) s = .next t ∧
          t.stand n = { s.stand n with suspects := more, transients := recent ++ [s.now], tile := (t.stand n).tile } ∧
          t.ob (Obj.transientFaults n) = s.ob (Obj.transientFaults n) + 1 ∧ t.ob (Obj.standState n) = s.ob (Obj.standState n) ∧
          (∀ k, k ≠ n → t.stand k = s.stand k) ∧ t.mem = s.mem ∧ t.chan = s.chan) ∧
      ((again.out ≠ x.majority ∨ s.ob Obj.transientLimit ≤ recent.length) →
        ∃ t, exec (.suspectRepeatDone n again) s = .next t ∧ (t.stand n).suspects = more ∧ (t.stand n).selfTest.isSome = true ∧
          t.ob (Obj.standState n) = 1 ∧ (∀ k, k ≠ n → t.stand k = s.stand k) ∧ t.mem = s.mem ∧ t.chan = s.chan)) ∧
    (∀ why, (s.stand n).selfTest = some why → s.fire.trios = [] → (s.stand n).pendState = 0 → (s.stand n).pendFence = 0 → (s.stand n).pendBypass = 0 →
      (∃ t, exec (.selfTestDone n []) s = .next t ∧ t.stand n = { s.stand n with selfTest := none, tested := none } ∧ t.ob (Obj.standState n) = 0 ∧
        t.ob (Obj.arrayFence n) = s.ob (Obj.arrayFence n) ∧ t.ob (Obj.bypassed n) = s.ob (Obj.bypassed n) ∧
        (∀ k, k ≠ n → t.stand k = s.stand k) ∧ t.mem = s.mem ∧ t.chan = s.chan) ∧
      (∀ a, a < 4 → s.ob (Obj.arrayFence n) = 0 → s.ob (Obj.bypassed n) = 0 →
        ∃ t, exec (.selfTestDone n [.array a]) s = .next t ∧ t.ob (Obj.arrayFence n) = 2 ^ a ∧ t.ob (Obj.standState n) = 0 ∧
          (t.stand n).selfTest = none ∧ t.mem = s.mem ∧ t.chan = s.chan))

/-- Firebreak messages and error records (R282 to R284, R287, R288, R292, R293): a notice of the current attempt holds its unstarted tasks, any other is
counted as stale; a digest reaches the comparator; an expulsion marks its module; a handler passes the record of the highest
severity, the oldest first, to the queue above. -/
def Obligations.FirebreakMessagesComplete : Prop :=
  (∀ (s : State) (p : Packet) (slot : Nat), Arrives s p 0xA →
      let u := s.arrived p
      let m := Firebreak.ofNat (ofBytes p.payload)
      u.slotOf m.job = some slot →
      (m.type = 1 → m.step = u.step slot → m.attempt = u.att slot →
        exec (.taintNotice p) s = .next ((u.modJob slot (fun j => { j with heldByNotice := true })).bump Obj.noticesReceived)) ∧
      (m.type = 1 → (m.step ≠ u.step slot ∨ m.attempt ≠ u.att slot) → exec (.taintNotice p) s = .next (u.bump Obj.staleNotices)) ∧
      (m.type = 2 → exec (.replicaDigest p) s = .next (u.digestArrives slot m.set m.step m.source (BitVec.ofNat 128 m.digest))) ∧
      (m.type = 3 → m.digest % 65536 = u.me →
        exec (.expulsion p) s = .next (((u.modJob slot (fun j => { j with expelled := true })).bump Obj.expulsions).failure)) ∧
      (m.type = 3 → m.digest % 65536 ≠ u.me →
        exec (.expulsion p) s = .next ((u.modJob slot (fun j => { j with expelledEps := nins j.expelledEps (m.digest % 65536) })).bump Obj.expulsions))) ∧
  (∀ (s : State) (level unit : Nat) (r : ErrRec), (level = 0 ∧ unit < 192) ∨ (level = 1 ∧ unit < 2) →
      let from_ := if level = 0 then unit else halfUnit unit
      let q := kget s.fire.queues {} from_
      nextHandled q.records = some r → (kget s.fire.queues {} (aboveUnit from_)).used (aboveUnit from_) < 63 →
      ∃ t, exec (.errorRecordHandle level unit) s = .next t ∧ (kget t.fire.queues {} from_).records = q.records.erase r ∧
        (∃ x, (kget t.fire.queues {} (aboveUnit from_)).records = insRecord x (kget s.fire.queues {} (aboveUnit from_)).records ∧ x.id = r.id ∧ x.code = r.code) ∧
        r ∈ q.records ∧ (∀ x ∈ q.records, x.severity ≤ r.severity) ∧ t.mem = s.mem ∧ t.chan = s.chan ∧ (∀ k, t.ob k = s.ob k))

/-! ## The seedbank -/

/-- The seedbank's own events (R306, R310, R312, R313): the holder compares a set's fold checks and answers every source; once the copy and the twins' slots are
taken, every answer is here and the step after has passed or skipped, the commit words are written and GEN_DONE goes, but for a set
whose header reads with an error, which abandons the generation (the model's choice, log entry 33); a generation not complete in GENERATION_TIMEOUT is given up at the root's host; an answer from a peer is taken off what is awaited. -/
def Obligations.SeedbankEventsComplete : Prop :=
  (∀ (s : State) (slot set : Nat) (g : Gen) (e : BankSet), (s.job slot).gen = some g → s.bankEntry slot set = some e →
      g.checks.any (fun c => c.2.1 == set) = true → s.foldReady g e = true → g.abandoned = false →
      let v := s.ownRead (e.parityOf g.gen) (e.paritySize * 65536)
      let good := v.foldAgrees g e
      let u := v.modJob slot (fun j => { j with gen := some { g with checks := g.checks.filter (fun c => c.2.1 != set) } })
      let w := (g.checks.filter (fun c => c.2.1 == set)).foldl (fun s c => s.answerFold g c good) u
      exec (.foldCheckCompare slot set) s = .next (if good then w else w.abandonGen slot)) ∧
  (∀ (s : State) (slot : Nat) (g : Gen) loss dec, (s.job slot).gen = some g → g.verify = some (loss, dec) → g.copied = true → g.slots = [] → g.awaiting = [] →
      g.committed = false → g.abandoned = false →
      let bad := ∃ e ∈ s.bankSets slot, (s.firstFault (BankSet.copyOf e g.gen) 64).isSome = true
      (bad → exec (.generationCommit slot) s = .next
        (((s.bankSets slot).foldl (fun s (e : BankSet) => s.ownRead (e.copyOf g.gen) 64) s).abandonGen slot)) ∧
      (¬ bad → s.stacksAsleep = false → exec (.generationCommit slot) s = .next
        (((((s.commitWrites slot g loss dec).foldl (fun s w => s.ownWrite w.addr w.data) s).setOb Obj.generationCost g.cost).modJob slot (fun j => { j with
          gen := some { g with committed := true } })).sendGenDone slot { g with committed := true })) ∧
      (¬ bad → s.stacksAsleep = true → s.bank.heldCommits = [] → s.bankSets slot ≠ [] → ∃ t, exec (.generationCommit slot) s = .next t ∧
        t.bank.heldCommits = s.commitWrites slot g loss dec ∧ t.mem = s.mem ∧ t.jobs = s.jobs)) ∧
  (∀ (s : State) (slot : Nat) (g : Gen), (s.job slot).gen = some g → s.rootHost slot = s.me →
      g.t0 + s.ob Obj.generationTimeout * 1000000000 ≤ s.now →
      let next := s.step slot + 8
      let i := s.ob (Obj.intervalInForce slot)
      exec (.generationTimeout slot) s = .next ((s.genCompleted slot (g.gen - 1) next i).sendGenComplete slot (g.gen - 1) next i)) ∧
  (∀ (s : State) (src tag status slot : Nat) (g : Gen) (what : PeerAsk), s.fab.asks.find? (fun x => x.1 == src && x.2.1 == tag) = some (src, tag, what) →
      (what = .fold slot ∨ what = .twin slot) → (s.job slot).gen = some g → g.abandoned = false → g.awaiting.contains (src, tag) = true →
      s.dictPacket src tag = none →
      ∃ t, exec (.peerDictionaryResponse src tag status) s = .next t ∧ t.fab.asks = s.fab.asks.filter (fun x => !(x.1 == src && x.2.1 == tag)) ∧
        t.mem = s.mem ∧ t.chan = s.chan ∧
        (status = 0 → ∃ g', (t.job slot).gen = some g' ∧ g'.awaiting = g.awaiting.filter (· != (src, tag)) ∧ g'.abandoned = false) ∧
        (status ≠ 0 → ∃ g', (t.job slot).gen = some g' ∧ g'.abandoned = true ∧ t.ob Obj.gensAbandoned = s.ob Obj.gensAbandoned + 1))

/-! ## Power, heat, supply and ageing -/

/-- The periodic work of the power controller (R322 to R324, R330 to R337, R346 to R348): the interval of 10 µs, the correction each 100 ms, the rails and OWN_PACE each
millisecond. An idle stand withholds against what the budget leaves above the modelled power, the model's own choice (log entry 114). -/
def Obligations.PowerTicksComplete : Prop :=
  ∀ s : State, s.edge.powered = true →
    (∀ a : PowerSample, s.due 0 10000 = true → ∃ t, exec (.powerModelTick a) s = .next t ∧
      (let raw := withLosses (s.consumers (s.counted10 a))
       let power := withLosses (s.consumers (s.corrected (s.counted10 a)))
       let b := s.budget
       let l := s.loads a
       let held := decide (s.power.stackLimit < 16) || decide (s.power.linkLimit < 16)
       (∀ x ∈ divide b (power - (l.map (·.power)).sum) l, (t.stand x.1.stand).w = (let w := nextW (s.stand x.1.stand).w x.1.power x.2 x.1.peak
          if held then max w (s.stand x.1.stand).w else w)) ∧
       (∀ n, n < 192 → s.standEnabled n = true → s.runningOn n = none →
          t.stand n = (s.stand n).withhold held (s.leak n) (b - power) (s.leak n)) ∧
       (∀ n, s.standEnabled n = false → t.stand n = s.stand n) ∧
       t.power.powerMw = power + t.power.ballastMw ∧ (s.steady = false → t.power.ballastMw = 0) ∧
       t.power.rawMw = s.power.rawMw + raw + t.power.ballastMw * 4096 / s.power.k ∧ t.mem = s.mem ∧ t.chan = s.chan ∧ t.fab = s.fab)) ∧
    (∀ mj, s.due 1 100000000 = true → s.power.rawMw ≠ 0 → ∃ t, exec (.modelCorrectionTick mj) s = .next t ∧ t.ob Obj.inputPower = mj / 100 ∧
      t.ob Obj.modelCorrection = t.power.k ∧ 3686 ≤ t.power.k ∧ t.power.k ≤ 4506 ∧ t.power.rawMw = 0 ∧ t.mem = s.mem ∧ t.chan = s.chan ∧ t.stands = s.stands) ∧
    (s.due 2 1000000 = true → ∃ t, exec .railAdjustTick s = .next t ∧ (∀ n, n < 192 → s.standEnabled n = true → (t.stand n).rail = ((s.adjustRail n).stand n).rail ∧ (t.stand n).wSum = 0 ∧
        (t.stand n).wCount = 0) ∧
      (∀ n, n < 192 → s.standEnabled n = false → t.stand n = s.stand n) ∧
      t.ob Obj.ownPace = (if s.power.paceCount = 0 then 0 else min 224 (s.power.paceSum / s.power.paceCount)) ∧ t.mem = s.mem ∧ t.chan = s.chan)

/-- The events of lending (R339 to R341, R343): a module throttled for 10 ms by its cap asks the first peer for its shortfall; with 100 W
to spare for a second 50 W of the newest loan go back; with less than 50 W to spare the newest loan is recalled; every loan is audited. -/
def Obligations.LendingEventsComplete : Prop :=
  ∀ s : State,
    (∀ t, s.power.paceSince = some t → t + 10000000 ≤ s.now → s.mayBorrow = true → s.budget = s.capInForce * 1000 → s.power.shortfall = 0 →
      exec .borrowTrigger s = .next ((s.modPower (fun p => { p with shortfall := s.shortfall, asked := [] })).askLoan)) ∧
    (∀ t l, s.power.idleSince = some t → t + 1000000000 ≤ s.now → s.power.borrowed.getLast? = some l → s.mean100 + 100 ≤ s.capInForce →
      exec .loanReturnTrigger s = .next ((s.modPower (fun p => { p with borrowed := changeLoan p.borrowed l.peer l.seq (· - min 50 l.watts) })).sendLoan
        l.peer 4 l.peer s.me (min 50 l.watts))) ∧
    (∀ l, s.power.lent.getLast? = some l → s.capInForce ≤ s.mean100 + 50 → exec .loanRecallTrigger s = .next (s.sendLoan l.peer 5 s.me l.peer l.watts)) ∧
    (s.due 6 1000000000 = true → ∃ t, exec .loanAuditTimer s = .next t ∧ t.fab.sendQ.length = s.fab.sendQ.length + s.power.lent.length ∧ t.power.lent = s.power.lent ∧
      t.power.borrowed = s.power.borrowed ∧ t.mem = s.mem ∧ t.chan = s.chan)

/-- The limiters and the other readings of heat (R350 to R352): at its threshold a limiter lowers its limit (Tj by 50 W, the outlet by 20 W), 2 K
below it raises the limit again (by 10 W and by 5 W) until it no longer binds; 110 °C and an inlet outside 20 °C to 65 °C assert ALERT_N; 95 °C takes 1/16 off a stack; 125 °C
turns both halves off and the module stays tripped. -/
def Obligations.HeatEventsComplete : Prop :=
  ∀ s : State, s.edge.powered = true →
    (∀ tj : Int, s.due 3 1000000 = true → ∃ t, exec (.thermalLimiterTick tj) s = .next t ∧ t.ob Obj.tjMax = ofInt32 tj ∧ (Alert.tj ∈ t.edge.alerts ↔ 1100 ≤ tj) ∧
      (toInt32 (s.ob Obj.throttleTj) ≤ tj → t.power.thermal = some (max 1100000 (s.power.thermal.getD (s.capInForce * 1000) - 50000))) ∧
      (tj < toInt32 (s.ob Obj.throttleTj) - 20 → ∀ x, s.power.thermal = some x →
        t.power.thermal = (if s.capInForce * 1000 ≤ x + 10000 then none else some (x + 10000))) ∧
      (tj < toInt32 (s.ob Obj.throttleTj) → s.power.thermal = none → t.power.thermal = none) ∧
      t.power.outlet = s.power.outlet ∧ t.mem = s.mem ∧ t.chan = s.chan) ∧
    (∀ outlet : Int, s.due 4 100000000 = true → ∃ t, exec (.outletLimiterTick outlet) s = .next t ∧ t.ob Obj.outletTemp = ofInt32 outlet ∧
      (toInt32 (s.ob Obj.outletLimit) ≤ outlet → t.power.outlet = some (max 1100000 (s.power.outlet.getD (s.capInForce * 1000) - 20000))) ∧
      (outlet < toInt32 (s.ob Obj.outletLimit) - 20 → ∀ x, s.power.outlet = some x →
        t.power.outlet = (if s.capInForce * 1000 ≤ x + 5000 then none else some (x + 5000))) ∧
      (outlet < toInt32 (s.ob Obj.outletLimit) → s.power.outlet = none → t.power.outlet = none) ∧
      t.power.thermal = s.power.thermal ∧ t.mem = s.mem ∧ t.chan = s.chan) ∧
    (∀ tj : Int, ∃ t, exec (.tjAlert tj) s = .next t ∧ t.ob Obj.tjMax = ofInt32 tj ∧ (Alert.tj ∈ t.edge.alerts ↔ 1100 ≤ tj) ∧ t.power = s.power ∧
      t.mem = s.mem ∧ t.chan = s.chan) ∧
    (∀ inlet : Int, ∃ t, exec (.inletOutOfRange inlet) s = .next t ∧ t.ob Obj.inletTemp = ofInt32 inlet ∧
      (Alert.inlet ∈ t.edge.alerts ↔ (inlet < 200 ∨ 650 < inlet)) ∧ (t.ob Obj.powerStatus / 128 % 2 = 1 ↔ (inlet < 200 ∨ 650 < inlet)) ∧
      t.mem = s.mem ∧ t.chan = s.chan) ∧
    (∀ stack (temp : Int), stack < 32 →
      (950 ≤ temp → ∃ t, exec (.stackTemperatureLimit stack temp) s = .next t ∧ kget t.power.stackTemp 16 stack = kget s.power.stackTemp 16 stack - 1 ∧
        (∀ k, k ≠ stack → kget t.power.stackTemp 16 k = kget s.power.stackTemp 16 k) ∧ t.mem = s.mem ∧ t.chan = s.chan) ∧
      (temp < 930 → ∃ t, exec (.stackTemperatureLimit stack temp) s = .next t ∧ kget t.power.stackTemp 16 stack = 16 ∧
        (∀ k, k ≠ stack → kget t.power.stackTemp 16 k = kget s.power.stackTemp 16 k) ∧ t.mem = s.mem ∧ t.chan = s.chan)) ∧
    (∀ tj : Int, 1250 ≤ tj → ∃ t, exec (.thermtrip tj) s = .next t ∧ t.edge.tripped = true ∧ t.edge.coldHalves = [0, 1] ∧
      t.mem.okBlocks = [] ∧ t.mem.okWords = [])

/-- The supply (R353, R354, R357, R358, Table 10-7): the mean of five samples is INPUT_VOLTAGE; above 60 V it alerts, above 63 V the module
turns off in order; the shed level goes up at once to what the voltage calls for, and down by one after 100 ms above its exit value. Level 3 aborts every
task on a stand with SUPPLY_SHED, level 4 disables the ports and holds both halves in reset, level 5 is the orderly off. -/
def Obligations.SupplyEventsComplete : Prop :=
  (∀ (s : State) (mv holdUp : Nat), s.edge.powered = true → s.due 5 10000 = true →
      let samples := (mv :: s.power.samples).take 5
      let avg := samples.sum / samples.length
      (shedTarget avg holdUp ≤ s.shed → avg ≤ 63000 →
        ∃ t, exec (.supplySample mv holdUp) s = .next t ∧ t.power.samples = samples ∧ t.ob Obj.inputVoltage = avg ∧
          (Alert.overVoltage ∈ t.edge.alerts ↔ 60000 < avg) ∧ t.shed = s.shed ∧ t.mem = s.mem ∧ t.chan = s.chan ∧ t.fab = s.fab) ∧
      (s.shed = 0 → 42000 ≤ avg → avg < 44000 → 30000 ≤ holdUp → s.power.borrowed = [] →
        ∃ t, exec (.supplySample mv holdUp) s = .next t ∧ t.shed = 1 ∧ t.ob (Obj.shedEntries 0) = s.ob (Obj.shedEntries 0) + 1 ∧
          t.ob Obj.powerStatus / 16 % 2 = 1 ∧ t.mem = s.mem ∧ t.chan = s.chan) ∧
      (shedTarget avg holdUp = 2 → s.shed = 1 → ∃ t, exec (.supplySample mv holdUp) s = .next t ∧ t.shed = 2 ∧ t.mem = s.mem ∧ t.chan = s.chan) ∧
      (shedTarget avg holdUp = 3 → s.shed = 2 → ∃ t u : State, exec (.supplySample mv holdUp) s = .next t ∧ u.shed = 3 ∧ u.mem = s.mem ∧ u.chan = s.chan ∧
        u.stands = s.stands ∧ t = (s.chan.tasks.filter (fun x => x.phase == .running || x.phase == .held || x.phase == .preempted)).foldl
          (fun u x => u.abort x Status.supplyShed) u) ∧
      (shedTarget avg holdUp = 4 → s.shed = 3 → ∃ t u : State, exec (.supplySample mv holdUp) s = .next t ∧ u.shed = 4 ∧ u.mem = s.mem ∧ u.chan = s.chan ∧
        u.fab = s.fab ∧ t.ob (Obj.halfState 0) = 0 ∧ t.ob (Obj.halfState 1) = 0 ∧
        t = (((upto 9).foldl (fun u n => ((if u.portUp n then u.leaveUp n else u).enterPort n 0 0).modPort n (fun p => { p with heldByReset := true })) u).setOb
          (Obj.halfState 0) 0).setOb (Obj.halfState 1) 0) ∧
      (shedTarget avg holdUp = 5 → s.shed < 5 → avg ≤ 63000 → ∃ t, exec (.supplySample mv holdUp) s = .next t ∧ t.edge.powered = false ∧
        t.edge.orderlyOff = true ∧ t.bank.heldCommits = []) ∧
      (63000 < avg → ∃ t, exec (.supplySample mv holdUp) s = .next t ∧ t.edge.powered = false ∧ t.edge.orderlyOff = true ∧ t.bank.heldCommits = [])) ∧
  (∀ (s : State) (since : Nat), s.edge.powered = true → 1 ≤ s.shed → s.shed ≤ 4 → kget? s.power.exitSince s.shed = some since → since + 100000000 ≤ s.now →
      (s.shed ≤ 2 → ∃ t, exec .shedLevelExit s = .next t ∧ t.shed = s.shed - 1 ∧ (s.shed = 1 → t.ob Obj.powerStatus / 16 % 2 = 0) ∧
        t.mem = s.mem ∧ t.chan = s.chan ∧ t.fab = s.fab) ∧
      (s.shed = 3 → exec .shedLevelExit s = .next ((s.setOb Obj.shedLevel 2).flushCommits)) ∧
      (s.shed = 4 → exec .shedLevelExit s = .next ((s.setOb Obj.shedLevel 3).moduleReset)))

/-- Ageing (R359 to R363): a measurement on an idle stand sets its slowdown to the median of the last sixteen; one not measured for an hour
gets a gap; each REPLAN_INTERVAL the margins are planned again, and no offset falls. -/
def Obligations.AgeingEventsComplete : Prop :=
  ∀ s : State, s.edge.powered = true →
    (∀ n counts tj, n < 192 → s.standEnabled n = true → (s.standIdle n = true ∨ (s.stand n).gapDue = true) →
      ∃ t, exec (.sentinelMeasure n counts tj) s = .next t ∧
        t.ob (Obj.slowdown n) = min 65535 (median ((slowest counts (s.factoryCounts n tj) :: (s.stand n).samples).take 16)) ∧
        (t.stand n).gapDue = false ∧ (t.stand n).measuredAt = s.now ∧ (∀ k, k ≠ n → t.stand k = s.stand k) ∧ t.mem = s.mem ∧ t.chan = s.chan) ∧
    (∀ n, n < 192 → s.standEnabled n = true → (s.stand n).measuredAt + 3600000000000 ≤ s.now →
      exec (.sentinelGap n) s = .next (s.modStand n (fun x => { x with gapDue := true }))) ∧
    (s.power.replanAt + s.ob Obj.replanInterval ≤ s.hours →
      ∃ t, exec .marginReplan s = .next t ∧ (∀ n, n < 192 → s.ob (Obj.voltageOffset n) ≤ t.ob (Obj.voltageOffset n)) ∧
        (∀ n, n < 192 → s.fenced n = false → max (s.ob (Obj.voltageOffset n)) (offsetFor (s.ob (Obj.slowdown n))) ≤ s.ob Obj.offsetLimit →
          t.ob (Obj.voltageOffset n) = max (s.ob (Obj.voltageOffset n)) (offsetFor (s.ob (Obj.slowdown n)))) ∧
        t.power.replanAt = s.hours)

/-! ## The boundary -/

/-- The sideband inputs (R399 to R401, R403, R340): a new level waits for 20 µs of stability, a return before that is a rejected toggle; an accepted fall of
PERST_N resets the module, a rise starts its 100 ms; PWRBRK_N caps at 1,100 W and returns loans; ten quiet seconds clear the toggle alert. -/
def Obligations.SidebandEventsComplete : Prop :=
  ∀ s : State,
    (∀ pin level, s.edge.powered = false →
      exec (.sidebandInputChange pin level) s = .next (s.setPin pin { s.pin pin with level := level % pinLevels pin })) ∧
    (∀ pin level, s.edge.powered = true → pin ≠ .slotId → level < 2 →
      (level ≠ (s.pin pin).level → (s.pin pin).pending = none →
        exec (.sidebandInputChange pin level) s = .next (s.setPin pin { s.pin pin with pending := some (level, s.now) })) ∧
      (level = (s.pin pin).level → (s.pin pin).pending ≠ none →
        ∃ t, exec (.sidebandInputChange pin level) s = .next t ∧ t.ob (Obj.sidebandToggles (pinNo pin)) = s.ob (Obj.sidebandToggles (pinNo pin)) + 1 ∧
          (t.pin pin).pending = none ∧ (t.pin pin).level = (s.pin pin).level ∧ (t.pin pin).lastToggle = s.now ∧ t.mem = s.mem ∧ t.chan = s.chan)) ∧
    (∀ pin, Alert.toggles (pinNo pin) ∈ s.edge.alerts → (s.pin pin).lastToggle + 10000000000 ≤ s.now →
      exec (.toggleAlertClear pin) s = .next (s.calm (.toggles (pinNo pin))) ∧ Alert.toggles (pinNo pin) ∉ (s.calm (.toggles (pinNo pin))).edge.alerts) ∧
    (s.mayAccept .perst 0 = true → s.edge.powered = true →
      let u := s.acceptLevel .perst 0
      exec .perstNFall s = .next ({ u with edge := { u.edge with perstHighAt := none } } : State).moduleReset) ∧
    (s.mayAccept .perst 1 = true → ∃ t, exec .perstNRise s = .next t ∧ t.edge.perstHighAt = some s.now ∧ t.edge.perst.level = 1 ∧ t.mem = s.mem ∧
      t.chan = s.chan ∧ (∀ k, t.ob k = s.ob k)) ∧
    (s.mayAccept .pwrbrk 0 = true → ∃ t, exec .pwrbrkNFall s = .next t ∧ t.edge.pwrbrk.level = 0 ∧ t.ob Obj.powerStatus / 8 % 2 = 1 ∧
      t.power.borrowed = [] ∧ t.capNoSteady = 1100 ∧ t.fab.sendQ.length = s.fab.sendQ.length + s.power.borrowed.length ∧ t.mem = s.mem ∧ t.chan = s.chan) ∧
    (s.mayAccept .pwrbrk 1 = true → ∃ t, exec .pwrbrkNRise s = .next t ∧ t.edge.pwrbrk.level = 1 ∧ t.ob Obj.powerStatus / 8 % 2 = 0 ∧
      t.power = s.power ∧ t.mem = s.mem ∧ t.chan = s.chan)

/-- What a reset of the module leaves (R403, Table 12-2): no channel and no task, both halves in reset, every port DISABLED, the host link down and READY
withdrawn, every SRAM line failing its check, the error queues of stands and halves, the repairs and the twins' copy records gone with the understory
reserve; the configuration, the staged values, the regions and, with no task outstanding, every byte of the stacks stay. Halves that must stay off, after a
trip or at shed level 4, are off (HALF_STATE 0). -/
def Obligations.AModuleResetLeaves : Prop :=
  ∀ s : State, s.edge.powered = true →
    ∃ t, exec .pcieHotReset s = .next t ∧ t.chan.chans = [] ∧ t.chan.tasks = [] ∧ (∀ h, h < 2 → t.ob (Obj.halfState h) = (if s.staysOff then 0 else 1)) ∧
      (∀ n, n < 9 → t.portSt n = 0) ∧ t.edge.hostLink = false ∧ t.edge.ready = false ∧ t.edge.powered = true ∧
      t.fab.sendQ = [] ∧ t.fab.rx = [] ∧ t.fab.outXfers = [] ∧ t.fab.inXfers = [] ∧ t.fab.ept0 = s.fab.ept0 ∧ t.fab.ept1 = s.fab.ept1 ∧
      t.dict.staged = s.dict.staged ∧ t.mem.regions = s.mem.regions ∧ (∀ b ∈ t.mem.okBlocks, inSram 0 b = false ∧ inSram 1 b = false) ∧
      (∀ h, s.chanAt h = none ∨ h ∈ t.chan.freed) ∧
      t.mem.repairs = [] ∧ t.bank.copies = [] ∧ t.fire.checks = [] ∧ (∀ q ∈ t.fire.queues, q.1 = moduleUnit) ∧
      2 ∉ t.edge.unlocked ∧ 3 ∉ t.edge.unlocked ∧ (s.chan.tasks = [] → ∀ a, isStack a = true → t.byteAt a = s.byteAt a)

/-- The way up (R402, R405, R413, R416, R423, Table 12-4): with the input good for 100 ms the Glades start from an image that may be taken, or FAULT_N says that there is
none; a half starts with its ports, the one that is not lost too; both halves done, one of them running, and PERST_N high for 100 ms
release READY; the host link goes and returns, with the pending MSI-X messages whose vectors are not masked, and with PCIE_LINK as trained (log
entry 4). That a start locks the half's clocks is the model's reading (log entry 116), that the standard masks a vector after reset its own (log entry 102). -/
def Obligations.StartingEventsComplete : Prop :=
  ∀ s : State,
    (s.mayPowerOn = true →
      (takeImage s.edge.minVersion s.edge.images = none → ∃ t, exec .powerOn s = .next t ∧ t.edge.powered = true ∧ t.edge.glade0 = false ∧
        t.edge.glade1 = false ∧ FaultCause.noImage ∈ t.edge.faults ∧ t.chan.chans = []) ∧
      (∀ i, takeImage s.edge.minVersion s.edge.images = some i → ∃ t, exec .powerOn s = .next t ∧ t.edge.powered = true ∧ t.edge.glade0 = true ∧
        t.edge.glade1 = true ∧ t.edge.image = some i ∧ t.ob 0x100005 = i.version ∧ t.chan.chans = [] ∧ t.mem.okBlocks = [] ∧ t.edge.bootAt = s.now)) ∧
    (∀ half left, s.mayStartHalf half = true →
      (s.pairRefused = true → ∃ t, exec (.halfStart half left) s = .next t ∧ FaultCause.pairing ∈ t.edge.faults ∧ t.ob (Obj.halfState half) = 1 ∧
        t.mem = s.mem ∧ t.chan = s.chan) ∧
      (s.pairRefused = false →
        ∃ t, exec (.halfStart half left) s = .next t ∧ t.halfRuns half = true ∧ (∀ n ∈ portsOf half, (t.port n).heldByReset = false) ∧
          half ∉ t.edge.coldHalves ∧ 1 ∉ t.edge.unlocked ∧ 2 + half ∉ t.edge.unlocked ∧ kget? t.edge.lostAt half = none ∧
          (s.bank.heldCommits = [] → s.chan.chans = [] →
            (∀ b ∈ t.mem.okBlocks, inSram half b = false) ∧ t.mem.cells = s.mem.cells ∧ t.chan = s.chan))) ∧
    (∀ high, s.edge.powered = true → s.edge.ready = false → (∀ h, h < 2 → s.halfRuns h = true ∨ s.halfDead h = true) →
      (s.halfRuns 0 = true ∨ s.halfRuns 1 = true) → s.edge.perstHighAt = some high → high + 100000000 ≤ s.now →
      ∃ t, exec .pcieReady s = .next t ∧ t.edge.ready = true ∧ t.edge.hostLink = true ∧ 0 ∉ t.edge.unlocked ∧ t.ob Obj.pcieLink = s.trainedLink ∧
        (s.chan.chans = [] → (∀ v ∈ s.edge.msixPending, s.msixMasked v = false) → t.edge.msixPending = [] ∧
          t.out = s.out ++ s.edge.msixPending.filterMap (fun v => if v = 0xFFFF then none else some (.msix v)) ∧ t.mem = s.mem ∧
          t.chan = s.chan)) ∧
    (s.edge.hostLink = true → ∃ t, exec .hostLinkDown s = .next t ∧ t.edge.hostLink = false ∧ t.edge.window = 0 ∧ t.dict.request = ({} : DictSt).request ∧ t.dict.go = false ∧
      t.edge.msixTable = [] ∧ t.edge.msixPending = [] ∧ t.ob Obj.pcieLink = 0 ∧ t.mem = s.mem ∧ t.chan = s.chan ∧ t.edge.ready = s.edge.ready) ∧
    (s.edge.powered = true → s.edge.ready = true → s.edge.hostLink = false → s.edge.perst.level = 1 →
      ∃ t, exec .hostLinkUp s = .next t ∧ t.edge.hostLink = true ∧ 0 ∉ t.edge.unlocked ∧ t.ob Obj.pcieLink = s.trainedLink ∧
        (s.chan.chans = [] → (∀ v ∈ s.edge.msixPending, s.msixMasked v = false) → t.edge.msixPending = [] ∧ t.mem = s.mem ∧ t.chan = s.chan) ∧
        (s.chan.chans = [] → (∀ v ∈ s.edge.msixPending, s.msixMasked v = true ∧ v ≠ 0xFFFF) → (∀ v, v ∈ t.edge.msixPending ↔ v ∈ s.edge.msixPending) ∧
          t.out = s.out))

/-- Halves, Glades and clocks (R381, R405, R406, R410 to R412, R422): a half that times out or is reset is lost, and with the other not running the module is reset; a half
that has not rejoined in 2 s is reset once more and then given up; a missed bridge takes the half it must; a clock without lock
takes its island; the standby Glade takes over, requests in progress are answered RETRY and those that waited are served. -/
def Obligations.HalfAndGladeEventsComplete : Prop :=
  ∀ s : State,
    (∀ h, h < 2 → s.halfRuns h = true →
      (s.halfRuns (1 - h) = true → exec (.halfTimeout h) s = .next (s.takenOver (s.dropHalf h)) ∧
        exec (.halfReset h) s = .next (s.takenOver (s.dropHalf h))) ∧
      (s.halfRuns (1 - h) = false → exec (.halfTimeout h) s = .next (s.takenOver s.moduleReset) ∧
        exec (.halfReset h) s = .next (s.takenOver s.moduleReset))) ∧
    (∀ u : State, (u.ob Obj.gladeActive = s.ob Obj.gladeActive → s.takenOver u = u) ∧
      (u.ob Obj.gladeActive ≠ s.ob Obj.gladeActive → s.takenOver u = u.retryLater.serveHeld)) ∧
    (∀ h since, kget? s.edge.lostAt h = some since → s.halfRuns h = false → since + 2000000000 ≤ s.now →
      (s.edge.retriedHalf.contains h = false → ∃ t, exec (.halfRejoinTimeout h) s = .next t ∧ h ∈ t.edge.retriedHalf ∧ kget? t.edge.lostAt h = some s.now ∧
        t.mem = s.mem ∧ t.chan = s.chan) ∧
      (s.edge.retriedHalf.contains h = true → ∃ t, exec (.halfRejoinTimeout h) s = .next t ∧ h ∈ t.edge.deadHalves ∧ t.ob (Obj.halfState h) = 3 ∧
        FaultCause.startUp h ∈ t.edge.faults ∧ t.mem = s.mem ∧ t.chan = s.chan)) ∧
    (∀ h main side, h < 2 → 8 ≤ main → s.halfRuns 0 = true → s.halfRuns 1 = true →
      (8 ≤ side → exec (.bridgeHeartbeatMiss h main side) s = .next (s.takenOver (s.dropHalf (1 - h)))) ∧
      (side < 8 → s.ob Obj.gladeActive < 2 → exec (.bridgeHeartbeatMiss h main side) s =
        .next (s.takenOver (s.dropHalf (1 - s.ob Obj.gladeActive))))) ∧
    (s.edge.powered = true →
      (∀ st, st < 32 → exec (.islandLockLoss (.stackPhy st)) s =
        .next (((s.log { errRec 0x0602 with stack := st }).unlock (32 + st)).halfLost (st / 16))) ∧
      exec (.islandLockLoss .bridgePhy) s = .next ((s.log (errRec 0x0602)).unlock 1) ∧
      (∀ n, n < 9 → s.portUp n = true →
        exec (.islandLockLoss (.portSerdes n)) s = .next (((s.log { errRec 0x0602 with detail0 := n }).unlock (10 + n)).flap n)) ∧
      exec (.islandLockLoss .pcie) s = .next ((s.log (errRec 0x0602)).unlock 0).resetHostLink ∧
      (∀ g, g < 2 → exec (.islandLockLoss (.guestPhy g)) s =
        .next (((s.log { errRec 0x0602 with detail0 := g }).unlock (20 + g)).guestDown g)) ∧
      (∀ h, h < 2 → ∃ t, exec (.islandLockLoss (.mgmtClock h)) s = .next t ∧ t.gladeRuns h = false ∧
        2 + h ∈ t.edge.unlocked ∧ ((2 + (1 - h)) ∈ s.edge.unlocked → FaultCause.mgmtClock ∈ t.edge.faults) ∧ t.mem = s.mem ∧ t.chan = s.chan)) ∧
    (∀ h req, h < 2 → s.edge.powered = true → FaultCause.noImage ∉ s.edge.faults → s.ob Obj.gladeActive = h →
      (s.gladeRuns (1 - h) = true → exec (.gladeTimeout h req) s =
          .next ((((s.failover h).setGlade h (!s.edge.unlocked.contains (2 + h))).answerRetry req).retryLater).serveHeld ∧
        (s.failover h).ob Obj.gladeActive = 1 - h ∧ (s.failover h).dict.staged = []) ∧
      (s.gladeRuns (1 - h) = false → ∃ t, exec (.gladeTimeout h req) s = .next t ∧ t.gladeRuns h = false ∧ FaultCause.glades ∈ t.edge.faults ∧ t.mem = s.mem ∧
        t.chan = s.chan))

/-- The guest sites (R419 to R421, Table 12-10): the link comes up at its rate; a read a guest may make is answered with the bytes and their checks, a write is stored
and acknowledged, without a right both are refused and recorded; a request for the other guest's window goes on to that guest; an answer of a guest settles the module's request,
an error or 1 ms without an answer fails it. What a guest reads in its own window is a free value (log entry 4). -/
def Obligations.GuestEventsComplete : Prop :=
  (∀ (s : State) (site : Nat), site < 2 → s.cap 4 = true → s.halfRuns site = true →
    (∀ rate, s.guestUp site = false → exec (.guestLinkTrainingDone site (some rate)) s =
      .next ((s.setOb (Obj.guestLink site) (2 + 4 * bit rate)).relock (20 + site))) ∧
    exec (.guestLinkTrainingDone site none) s = .next (s.guestDown site)) ∧
  ∀ (s : State) (site : Nat), s.guestHears site = true →
    (∀ tag addr len,
      (s.guestMay site 2 addr len = false → exec (.guestRead site tag addr len) s = .next (s.guestRefuse site tag addr len)) ∧
      (s.guestMay site 2 addr len = true → isGuest addr = false → s.touchesLost addr len = false → s.badBlocksOf addr len = [] →
        exec (.guestRead site tag addr len) s = .next (s.toGuest site 3 tag addr len 0 (guestBlocks addr (s.bytesAt addr len)))) ∧
      (s.guestMay site 2 addr len = true → ownWindow site addr len = true →
        ∃ own : List Byte, own.length = len ∧ exec (.guestRead site tag addr len) s =
          .next ((s.toGuest site 3 tag addr len 0 (guestBlocks addr own)).drawn len)) ∧
      (s.guestMay site 2 addr len = true → ownWindow site addr len = false → isGuest addr = true →
        exec (.guestRead site tag addr len) s = .next (s.forwardGuest site tag 1 addr len []))) ∧
    (∀ tag addr (blocks : List GuestBlock), badGuestBlock addr blocks = none → s.guestMay site 3 addr (64 * blocks.length) = true →
      ownWindow site addr (64 * blocks.length) = false → s.touchesLost addr (64 * blocks.length) = false → isGuest addr = true →
      exec (.guestWrite site tag addr blocks) s = .next (s.forwardGuest site tag 2 addr (64 * blocks.length) blocks)) ∧
    (∀ tag addr (blocks : List GuestBlock), badGuestBlock addr blocks = none → s.guestMay site 3 addr (64 * blocks.length) = true →
      ownWindow site addr (64 * blocks.length) = false → s.touchesLost addr (64 * blocks.length) = false → isGuest addr = false →
      exec (.guestWrite site tag addr blocks) s =
        .next ((s.put addr (blocks.flatMap (fun b => b.data))).toGuest site 4 tag addr (64 * blocks.length) 0 [])) ∧
    (∀ tag r, s.guestReq site tag = some r →
      (∀ blocks : List GuestBlock, r.op = 1 → 64 * blocks.length = r.len →
        (badGuestBlock r.addr blocks = none →
          (r.answer = none → exec (.guestReadResp site tag blocks) s = .next ((s.poke r.addr (blocks.flatMap (fun b => b.data))).guestAnswered r)) ∧
          (r.answer ≠ none → exec (.guestReadResp site tag blocks) s = .next ((s.answerGuest r 3 0 blocks).guestAnswered r))) ∧
        (∀ a, badGuestBlock r.addr blocks = some a →
          exec (.guestReadResp site tag blocks) s = .next ((s.log { errRec 0x0201 with address := a % 2 ^ 48 }).guestFailed r a 3))) ∧
      (r.op = 2 → exec (.guestWriteAck site tag) s = .next ((s.answerGuest r 4 0 []).guestAnswered r)) ∧
      (∀ code, code ≠ 0 → exec (.guestError site tag code) s = .next (s.guestFailed r r.addr code)) ∧
      (r.at_ + 1000000 ≤ s.now → exec (.guestRequestTimeout site tag) s = .next (s.guestFailed r r.addr 6)))

/-- Attestation and management (R424, R369, R11, Table 12-12): negotiation in its order, digests, certificates of slot 0, challenges and measurements
signed over the transcript; the I3C address; the MCTP endpoint ID, operations and versions. None of them changes memory, channels or an object of
the dictionary. Layouts and codes of the published standards are the model's (log entry 130). -/
def Obligations.AttestationAndManagementComplete : Prop :=
  ∀ s : State, s.manages = true →
    exec .getVersion s = .next (s.beginSpdm.spdmAnswer 0x04 0 0 (bytesOf 0x0100 2 ++ bytesOf 0x1200 2)) ∧
    (1 ≤ s.edge.spdm → ∃ t, exec .getCapabilities s = .next t ∧
      ∃ ask : List Byte, ask.length = 16 ∧ t = { s.answerCapabilities ask with free := t.free }) ∧
    (2 ≤ s.edge.spdm → ∃ t, exec .negotiateAlgorithms s = .next t ∧
      ∃ offer : List Byte, offer.length = 28 ∧ t = { s.answerAlgorithms offer with free := t.free }) ∧
    (3 ≤ s.edge.spdm →
      exec .getDigests s = .next ((s.recordCert (spdmMsg 0x12 0x81 0 0 [] ++ spdmResp 0x01 0 1 (Config.sha384 Config.certChain))).spdmAnswer 0x01 0 1
        (Config.sha384 Config.certChain)) ∧
      (∀ offset len, exec (.getCertificate 0 offset len) s = .next ((s.recordCert (spdmMsg 0x12 0x82 0 0 (bytesOf offset 2 ++ bytesOf len 2) ++
        spdmResp 0x02 0 0 (spdmPortion offset len))).spdmAnswer 0x02 0 0 (spdmPortion offset len))) ∧
      (∀ slot offset len, slot ≠ 0 → exec (.getCertificate slot offset len) s = .next (s.spdmError 0x01)) ∧
      (∀ ask : ChallengeAsk, ask.summary ∈ [0, 1, 0xFF] → ∃ t, exec (.challenge 0 ask) s = .next t ∧
        (∃ own : List Byte, own.length = 32 ∧ t = { s.answerChallenge ask own with free := t.free }) ∧
        t.mem = s.mem ∧ t.chan = s.chan ∧ t.dict = s.dict) ∧
      (∀ slot ask, slot ≠ 0 → exec (.challenge slot ask) s = .next (s.spdmError 0x01)) ∧
      (∀ index nonce, (index ≤ 5 ∨ index = 0xFF) → ∃ t, exec (.getMeasurements index nonce) s = .next t ∧
        (∃ own : List Byte, own.length = 32 ∧ t = { s.answerMeasurements index nonce own with free := t.free }) ∧
        t.mem = s.mem ∧ t.chan = s.chan ∧ t.dict = s.dict)) ∧
    (∀ own : List Byte,
      (∀ ask : ChallengeAsk, s.answerChallenge ask own = ({ s with edge := { s.edge with spdmCert := [] } } : State).spdmAnswer 0x03 0 1
        (s.challengeBody ask.summary own ++ spdmSign "responder-challenge_auth signing" (s.edge.spdmVca ++ s.edge.spdmCert ++
          spdmMsg 0x12 0x83 0 ask.summary ask.nonce ++ spdmResp 0x03 0 1 (s.challengeBody ask.summary own)))) ∧
      (∀ index nonce, 1 ≤ index → s.answerMeasurements index nonce own = s.spdmAnswer 0x60 0 0
        (s.measurementsBody index own ++ spdmSign "responder-measurements signing" (s.edge.spdmVca ++
          spdmMsg 0x12 0xE0 1 index (nonce ++ [0]) ++ spdmResp 0x60 0 0 (s.measurementsBody index own))))) ∧
    (s.edge.spdm < 3 → ∀ index nonce, exec (.getMeasurements index nonce) s = .next (s.spdmError 0x04)) ∧
    (∀ addr, addr < 128 → exec (.dynamicAddressAssignment addr) s = .next { s with edge := { s.edge with i3cAddr := some addr } }) ∧
    (∀ op eid : Byte, op.toNat % 4 < 2 → 8 ≤ eid.toNat → eid ≠ 0xFF →
      exec (.mctpControlMessage 1 [op, eid]) s = .next
        (({ s with edge := { s.edge with mctpEid := eid.toNat } } : State).answerI3c (.mctp 1 [0, 0, eid, 0]))) ∧
    (∀ op eid : Byte, (2 ≤ op.toNat % 4 ∨ eid.toNat < 8 ∨ eid = 0xFF) →
      exec (.mctpControlMessage 1 [op, eid]) s = .next (s.answerI3c (.mctp 1 [2]))) ∧
    (∀ data, exec (.mctpControlMessage 2 data) s = .next (s.answerI3c (.mctp 2 [0, BitVec.ofNat 8 s.edge.mctpEid, 0, 0]))) ∧
    (∀ type : Byte, exec (.mctpControlMessage 4 [type]) s = .next (s.answerI3c (.mctp 4 (mctpVersions type.toNat))))

/-! ## Rules of single requests and values -/

/-- POWER_CAP (R325): any value from 0 W to 3,400 W is accepted, a greater one is refused as an invalid value and changes nothing; the default is 3,000 W. -/
def Obligations.PowerCapTakesUpTo3400W : Prop :=
  objDefault Obj.powerCap = 3000 ∧
  ∀ (s : State) (v : Via) (w : Nat), HostServed s v → w < 65536 →
    ∃ t, exec (.powerCapWrite v w) s = .next t ∧
      (w ≤ 3400 → t.ob Obj.powerCap = w ∧ t.dict.responseBuf.2 = 0) ∧
      (3400 < w → t.ob Obj.powerCap = s.ob Obj.powerCap ∧ t.dict.responseBuf.2 = 1)

/-- Staged values lapse (R385): a role that has written nothing to an index for STAGE_TIMEOUT loses what it has staged there, and no other
staged value; a write that is staged starts the time afresh. -/
def Obligations.StagedValuesLapse : Prop :=
  (∀ (s : State) (role : Role) (index : Nat) (x : Staged), s.stagedAt role index = some x → x.at_ + s.ob Obj.stageTimeout * 1000000000 ≤ s.now →
    ∃ t, exec (.stageTimeout role index) s = .next t ∧ t.stagedAt role index = none ∧
      (∀ r i, (r ≠ role ∨ i ≠ index) → t.stagedAt r i = s.stagedAt r i) ∧ (∀ k, t.ob k = s.ob k) ∧ t.mem = s.mem ∧ t.chan = s.chan) ∧
  (∀ (s t : State) (role : Role) (r : ObjRow) (m : DictMsg) (d : List Byte), s.stage role r m = (t, .ok d) →
    ∃ x, t.stagedAt role m.index = some x ∧ x.at_ = s.now)

/-- A request beyond the number its path may have outstanding is answered BUSY and not executed (R366, Table 11-1): but for the counts of requests and
of refusals no object, channel or byte of memory changes. -/
def Obligations.ARequestBeyondItsPathIsBusy : Prop :=
  ∀ (s : State) (v : Via) (m : DictMsg) (i : Instr), s.pathServes v.role = true → s.failoverDue v.role = false → s.foreignMsg v = false →
    pathLimit v.role ≤ v.ahead →
    (v.role = .peer → s.badDict v.src v.tag = none) →
    ((i = .read v m ∧ m.op = 1) ∨ (i = .write v m ∧ m.op = 2) ∨ (i = .stageWrite v m ∧ m.op = 2) ∨ (i = .readStaged v m ∧ m.op = 3) ∨
      (i = .describe v m ∧ m.op = 4)) →
    ∃ t, exec i s = .next t ∧ t = (s.takeRequest v).respond v m .busy ∧
      (∀ k, k ≠ Obj.dictRequests (roleCode v.role) → k ≠ Obj.dictRefused → t.ob k = s.ob k) ∧ t.dict.staged = s.dict.staged ∧ t.mem = s.mem ∧
      t.chan.tasks = s.chan.tasks ∧ t.chan.chans = s.chan.chans ∧
      (v.role = .host → t.dict.responseBuf = ({ m with resp := true, length := 0, data := [] }, 2))

/-- The integer operations (R427): a shift takes its count from bits [4:0] of the second operand, left with zeros, right with copies of bit 31; the others
work bit by bit or modulo 2^32; none sets a flag. -/
def Obligations.IntegerOperationsWorkLaneByLane : Prop :=
  (∀ a b : BitVec 32,
    laneInt 0x0F a.toNat b.toNat = (a <<< (b.toNat % 32)).toNat ∧ laneInt 0x10 a.toNat b.toNat = (a.sshiftRight (b.toNat % 32)).toNat ∧
    laneInt 0x0B a.toNat b.toNat = (a + b).toNat ∧ laneInt 0x0C a.toNat b.toNat = (a &&& b).toNat ∧
    laneInt 0x0D a.toNat b.toNat = (a ||| b).toNat ∧ laneInt 0x0E a.toNat b.toNat = (a ^^^ b).toNat) ∧
  (∀ (s : State) (d : Desc) (seed : Nat), ∀ x ∈ s.itemsInt d seed, x.flags = 0)

/-! ## All commands -/

/-- A step runs the command at the front of the queue on the state with the rest of the queue, and nothing else; with no command waiting, only
the clock moves, by 1 µs (the model's choice: log entry 2). -/
def Obligations.AStepRunsTheFrontCommand : Prop :=
  ∀ (s : State),
    (∀ c rest, step { s with pending := c :: rest } = exec c { s with pending := rest }) ∧
    (s.pending = [] → step s = .next { s with now := s.now + 1000 })

/-- Every command answers a next state, whatever the state and the operands: none faults and none is refused. -/
def Obligations.EveryCommandAnswers : Prop := ∀ (c : Instr) (s : State), ∃ t, exec c s = .next t

/-- What no command changes: the commands that wait, the clock, what has been sent already, the fuses of both halves and the variant. -/
def Obligations.CommandsKeepQueueClockOutputAndFuses : Prop :=
  ∀ (c : Instr) (s t : State), exec c s = .next t →
    t.pending = s.pending ∧ t.now = s.now ∧ s.out <+: t.out ∧ t.edge.fuses0 = s.edge.fuses0 ∧ t.edge.fuses1 = s.edge.fuses1 ∧
    t.edge.variantU = s.edge.variantU

/-- Memory stays in its canonical form through every step, from every state that has it: its addresses rise and no entry is equal to what an
unlisted address reads as. The clock never goes back, what has been sent stays sent, and the queue grows by nothing. -/
def Obligations.EveryStepKeepsMemoryInForm : Prop :=
  ∀ s t : State, Memory.wf s.mem.cells = true → step s = .next t →
    Memory.wf t.mem.cells = true ∧ s.now ≤ t.now ∧ s.out <+: t.out ∧ t.pending = s.pending.tail

/-- The state after reset: no power, no channel, no task, no command waiting, nothing sent; memory lists nothing and is in its form; every object at its
default, of which those named here are the manual's numbers. -/
def Obligations.ResetLeaves : Prop :=
  let s := State.reset
  s.edge.powered = false ∧ s.chan.chans = [] ∧ s.chan.tasks = [] ∧ s.pending = [] ∧ s.out = [] ∧ s.mem.cells = [] ∧ Memory.wf s.mem.cells = true ∧
  s.mem.okBlocks = [] ∧ s.edge.window = 0 ∧ s.dict.msixVector = 0xFFFF ∧ s.dict.go = false ∧ s.dict.done = false ∧
  s.ob Obj.powerCap = 3000 ∧ s.ob Obj.flapLimit = 16 ∧ s.ob Obj.flapWindow = 60 ∧ s.ob Obj.backoffMin = 1 ∧ s.ob Obj.backoffMax = 4000 ∧
  s.ob Obj.replanInterval = 1000 ∧ s.ob Obj.offsetLimit = 60 ∧ s.ob Obj.doorbellsIgnored = 0 ∧ s.ob Obj.endpointId = 0 ∧
  (∀ n, n < 9 → s.portSt n = 0) ∧ (∀ k, s.ob k = objDefault k)
end

