-- ==== Sys2Proof/Laws/Memory.lean ====
section
/-! SUPPORT. Sparse maps and the memory kept in one canonical form: what one store reads back as, and that every store
keeps the form. -/

namespace Sys2Proof.Machine

set_option Elab.async false

theorem kget?_kset_same {α : Type} (m : KMap α) (k : Nat) (v : α) : kget? (kset m k v) k = some v := by
  induction m with
  | nil => simp [kset, kget?]
  | cons p t ih =>
    obtain ⟨a, w⟩ := p
    unfold kset
    split
    · simp [kget?]
    · split
      · simp [kget?]
      · rename_i h; simp [kget?, h, ih]

theorem kget?_kset_other {α : Type} (m : KMap α) (k j : Nat) (v : α) (h : j ≠ k) :
    kget? (kset m k v) j = kget? m j := by
  induction m with
  | nil => simp [kset, kget?, Ne.symm h]
  | cons p t ih =>
    obtain ⟨a, w⟩ := p
    unfold kset
    split
    · simp [kget?, Ne.symm h]
    · split
      · rename_i e; subst e; simp [kget?, Ne.symm h]
      · by_cases e : a = j <;> simp [kget?, e, ih]

@[simp] theorem kget_kset_same {α : Type} (m : KMap α) (d : α) (k : Nat) (v : α) : kget (kset m k v) d k = v := by
  simp [kget, kget?_kset_same]

theorem kget_kset_other {α : Type} (m : KMap α) (d : α) (k j : Nat) (v : α) (h : j ≠ k) :
    kget (kset m k v) d j = kget m d j := by simp [kget, kget?_kset_other _ _ _ _ h]

theorem kget?_kdel_same {α : Type} (m : KMap α) (k : Nat) : kget? (kdel m k) k = none := by
  unfold kdel
  induction m with
  | nil => rfl
  | cons p t ih =>
    obtain ⟨a, w⟩ := p
    by_cases e : a = k
    · subst e; simp [ih]
    · simp [kget?, e, ih]

theorem kget?_kdel_other {α : Type} (m : KMap α) (k j : Nat) (h : j ≠ k) : kget? (kdel m k) j = kget? m j := by
  unfold kdel
  induction m with
  | nil => rfl
  | cons p t ih =>
    obtain ⟨a, w⟩ := p
    by_cases e : a = k
    · subst e; simp [kget?, Ne.symm h, ih]
    · by_cases e2 : a = j
      · subst e2; simp [kget?, e]
      · simp [kget?, e, e2, ih]

/-- A stored byte reads back, and every other byte reads as before. -/
theorem cellPut_reads (c : List Host.Cell) (a b : Nat) (v : Byte) :
    kget (cellPut c a v) 0 b = if b = a then v else kget c 0 b := by
  unfold cellPut
  split
  · rename_i h
    split
    · subst_vars; simp [kget, kget?_kdel_same]
    · simp [kget, kget?_kdel_other _ _ _ ‹_›]
  · split
    · subst_vars; simp
    · simp [kget_kset_other _ _ _ _ _ ‹_›]

/-- What memory reads as after bytes are stored from `a` on. -/
theorem cellsWrite_reads (l : List Byte) : ∀ (c : List Host.Cell) (a b : Nat),
    kget (cellsWrite c a l) 0 b = if h : a ≤ b ∧ b < a + l.length then l[b - a]'(by omega) else kget c 0 b := by
  induction l with
  | nil =>
    intro c a b
    have h : ¬ (a ≤ b ∧ b < a + ([] : List Byte).length) := by simp
    rw [dif_neg h]; rfl
  | cons v t ih =>
    intro c a b
    simp only [cellsWrite, ih, cellPut_reads, List.length_cons]
    by_cases hb : b = a
    · subst hb
      have h1 : ¬ (b + 1 ≤ b ∧ b < b + 1 + t.length) := by omega
      have h2 : b ≤ b ∧ b < b + (t.length + 1) := by omega
      rw [dif_neg h1, dif_pos h2, if_pos rfl]
      simp
    · by_cases hr : a + 1 ≤ b ∧ b < a + 1 + t.length
      · have h2 : a ≤ b ∧ b < a + (t.length + 1) := by omega
        have h3 : b - a = (b - (a + 1)) + 1 := by omega
        rw [dif_pos hr, dif_pos h2]
        simp [h3]
      · have h2 : ¬ (a ≤ b ∧ b < a + (t.length + 1)) := by omega
        rw [dif_neg hr, dif_neg h2, if_neg hb]

/-- Keys rise and every key is above `n`. -/
theorem rising_cons {α : Type} (a : Nat) (v : α) (t : KMap α) :
    rising ((a, v) :: t) = true ↔ (∀ x ∈ t, a < x.1) ∧ rising t = true := by
  induction t generalizing a v with
  | nil => simp [rising]
  | cons p t ih =>
    obtain ⟨b, w⟩ := p
    simp only [rising, Bool.and_eq_true, decide_eq_true_eq, List.mem_cons, forall_eq_or_imp]
    constructor
    · rintro ⟨h, r⟩
      refine ⟨⟨h, fun x hx => ?_⟩, r⟩
      have := ((ih b w).1 r).1 x hx
      omega
    · rintro ⟨⟨h, -⟩, r⟩
      exact ⟨h, r⟩

theorem mem_kset {α : Type} (m : KMap α) (k : Nat) (v : α) (x : Nat × α) (h : x ∈ kset m k v) : x = (k, v) ∨ x ∈ m := by
  induction m with
  | nil => simp [kset] at h; simp [h]
  | cons p t ih =>
    obtain ⟨a, w⟩ := p
    unfold kset at h
    split at h
    · simpa using h
    · split at h
      · rcases List.mem_cons.1 h with h | h
        · exact .inl h
        · exact .inr (List.mem_cons_of_mem _ h)
      · rcases List.mem_cons.1 h with h | h
        · exact .inr (h ▸ List.mem_cons_self)
        · rcases ih h with h | h
          · exact .inl h
          · exact .inr (List.mem_cons_of_mem _ h)

theorem rising_kset {α : Type} (m : KMap α) (k : Nat) (v : α) (h : rising m = true) : rising (kset m k v) = true := by
  induction m with
  | nil => rfl
  | cons p t ih =>
    obtain ⟨a, w⟩ := p
    have h' := (rising_cons a w t).1 h
    unfold kset
    split
    · refine (rising_cons _ _ _).2 ⟨fun x hx => ?_, h⟩
      rcases List.mem_cons.1 hx with e | e
      · subst e; assumption
      · have := h'.1 x e; omega
    · split
      · subst_vars; exact (rising_cons _ _ _).2 h'
      · refine (rising_cons _ _ _).2 ⟨fun x hx => ?_, ih h'.2⟩
        rcases mem_kset _ _ _ _ hx with e | e
        · subst e; simp; omega
        · exact h'.1 x e

theorem rising_filter {α : Type} (m : KMap α) (p : Nat × α → Bool) (h : rising m = true) : rising (m.filter p) = true := by
  induction m with
  | nil => rfl
  | cons q t ih =>
    obtain ⟨a, w⟩ := q
    have h' := (rising_cons a w t).1 h
    simp only [List.filter]
    split
    · exact (rising_cons _ _ _).2 ⟨fun x hx => h'.1 x (List.mem_filter.1 hx).1, ih h'.2⟩
    · exact ih h'.2

/-- One store keeps the canonical form. -/
theorem cellPut_wf (c : List Host.Cell) (a : Nat) (v : Byte) (h : Memory.wf c = true) : Memory.wf (cellPut c a v) = true := by
  simp only [Memory.wf, Bool.and_eq_true, List.all_eq_true] at h ⊢
  unfold cellPut
  split
  · exact ⟨rising_filter _ _ h.1, fun x hx => h.2 x (List.mem_filter.1 hx).1⟩
  · refine ⟨rising_kset _ _ _ h.1, fun x hx => ?_⟩
    rcases mem_kset _ _ _ _ hx with e | e
    · subst e; simpa using ‹_›
    · exact h.2 x e

/-- Storing bytes keeps the canonical form. -/
theorem cellsWrite_wf (l : List Byte) : ∀ (c : List Host.Cell) (a : Nat), Memory.wf c = true → Memory.wf (cellsWrite c a l) = true := by
  induction l with
  | nil => intro c a h; exact h
  | cons v t ih => intro c a h; exact ih _ _ (cellPut_wf c a v h)

/-- What a byte reads as after a store without regard to checks. -/
theorem State.poke_byteAt (s : State) (a b : Nat) (l : List Byte) :
    (s.poke a l).byteAt b = if h : a ≤ b ∧ b < a + l.length then l[b - a]'(by omega) else s.byteAt b := by
  exact cellsWrite_reads l s.mem.cells a b

end Sys2Proof.Machine
end

