-- ==== Sys2Proof/Laws/State.lean ====
section
/-! SUPPORT. What each primitive update of the state changes, field by field, so that no later proof unfolds a record update;
and what objects read as after them. -/

namespace Sys2Proof.Machine

set_option Elab.async false

@[simp] theorem State.emit_now (s : State) (o : Out) : (s.emit o).now = s.now := rfl
@[simp] theorem State.emit_mem (s : State) (o : Out) : (s.emit o).mem = s.mem := rfl
@[simp] theorem State.emit_chan (s : State) (o : Out) : (s.emit o).chan = s.chan := rfl
@[simp] theorem State.emit_jobs (s : State) (o : Out) : (s.emit o).jobs = s.jobs := rfl
@[simp] theorem State.emit_stands (s : State) (o : Out) : (s.emit o).stands = s.stands := rfl
@[simp] theorem State.emit_fab (s : State) (o : Out) : (s.emit o).fab = s.fab := rfl
@[simp] theorem State.emit_fire (s : State) (o : Out) : (s.emit o).fire = s.fire := rfl
@[simp] theorem State.emit_bank (s : State) (o : Out) : (s.emit o).bank = s.bank := rfl
@[simp] theorem State.emit_power (s : State) (o : Out) : (s.emit o).power = s.power := rfl
@[simp] theorem State.emit_dict (s : State) (o : Out) : (s.emit o).dict = s.dict := rfl
@[simp] theorem State.emit_edge (s : State) (o : Out) : (s.emit o).edge = s.edge := rfl
@[simp] theorem State.emit_free (s : State) (o : Out) : (s.emit o).free = s.free := rfl
@[simp] theorem State.emit_out (s : State) (o : Out) : (s.emit o).out = s.out ++ [o] := rfl
@[simp] theorem State.emit_pending (s : State) (o : Out) : (s.emit o).pending = s.pending := rfl
@[simp] theorem State.send_now (s : State) (p : Packet) : (s.send p).now = s.now := rfl
@[simp] theorem State.send_mem (s : State) (p : Packet) : (s.send p).mem = s.mem := rfl
@[simp] theorem State.send_chan (s : State) (p : Packet) : (s.send p).chan = s.chan := rfl
@[simp] theorem State.send_jobs (s : State) (p : Packet) : (s.send p).jobs = s.jobs := rfl
@[simp] theorem State.send_stands (s : State) (p : Packet) : (s.send p).stands = s.stands := rfl
@[simp] theorem State.send_fire (s : State) (p : Packet) : (s.send p).fire = s.fire := rfl
@[simp] theorem State.send_bank (s : State) (p : Packet) : (s.send p).bank = s.bank := rfl
@[simp] theorem State.send_power (s : State) (p : Packet) : (s.send p).power = s.power := rfl
@[simp] theorem State.send_dict (s : State) (p : Packet) : (s.send p).dict = s.dict := rfl
@[simp] theorem State.send_edge (s : State) (p : Packet) : (s.send p).edge = s.edge := rfl
@[simp] theorem State.send_free (s : State) (p : Packet) : (s.send p).free = s.free := rfl
@[simp] theorem State.send_out (s : State) (p : Packet) : (s.send p).out = s.out := rfl
@[simp] theorem State.send_pending (s : State) (p : Packet) : (s.send p).pending = s.pending := rfl
@[simp] theorem State.drawn_now (s : State) (n : Nat) : (s.drawn n).now = s.now := rfl
@[simp] theorem State.drawn_mem (s : State) (n : Nat) : (s.drawn n).mem = s.mem := rfl
@[simp] theorem State.drawn_chan (s : State) (n : Nat) : (s.drawn n).chan = s.chan := rfl
@[simp] theorem State.drawn_jobs (s : State) (n : Nat) : (s.drawn n).jobs = s.jobs := rfl
@[simp] theorem State.drawn_stands (s : State) (n : Nat) : (s.drawn n).stands = s.stands := rfl
@[simp] theorem State.drawn_fab (s : State) (n : Nat) : (s.drawn n).fab = s.fab := rfl
@[simp] theorem State.drawn_fire (s : State) (n : Nat) : (s.drawn n).fire = s.fire := rfl
@[simp] theorem State.drawn_bank (s : State) (n : Nat) : (s.drawn n).bank = s.bank := rfl
@[simp] theorem State.drawn_power (s : State) (n : Nat) : (s.drawn n).power = s.power := rfl
@[simp] theorem State.drawn_dict (s : State) (n : Nat) : (s.drawn n).dict = s.dict := rfl
@[simp] theorem State.drawn_edge (s : State) (n : Nat) : (s.drawn n).edge = s.edge := rfl
@[simp] theorem State.drawn_free (s : State) (n : Nat) : (s.drawn n).free = s.free + n := rfl
@[simp] theorem State.drawn_out (s : State) (n : Nat) : (s.drawn n).out = s.out := rfl
@[simp] theorem State.drawn_pending (s : State) (n : Nat) : (s.drawn n).pending = s.pending := rfl
@[simp] theorem State.setOb_now (s : State) (k v : Nat) : (s.setOb k v).now = s.now := rfl
@[simp] theorem State.setOb_mem (s : State) (k v : Nat) : (s.setOb k v).mem = s.mem := rfl
@[simp] theorem State.setOb_chan (s : State) (k v : Nat) : (s.setOb k v).chan = s.chan := rfl
@[simp] theorem State.setOb_jobs (s : State) (k v : Nat) : (s.setOb k v).jobs = s.jobs := rfl
@[simp] theorem State.setOb_stands (s : State) (k v : Nat) : (s.setOb k v).stands = s.stands := rfl
@[simp] theorem State.setOb_fab (s : State) (k v : Nat) : (s.setOb k v).fab = s.fab := rfl
@[simp] theorem State.setOb_fire (s : State) (k v : Nat) : (s.setOb k v).fire = s.fire := rfl
@[simp] theorem State.setOb_bank (s : State) (k v : Nat) : (s.setOb k v).bank = s.bank := rfl
@[simp] theorem State.setOb_power (s : State) (k v : Nat) : (s.setOb k v).power = s.power := rfl
@[simp] theorem State.setOb_edge (s : State) (k v : Nat) : (s.setOb k v).edge = s.edge := rfl
@[simp] theorem State.setOb_free (s : State) (k v : Nat) : (s.setOb k v).free = s.free := rfl
@[simp] theorem State.setOb_out (s : State) (k v : Nat) : (s.setOb k v).out = s.out := rfl
@[simp] theorem State.setOb_pending (s : State) (k v : Nat) : (s.setOb k v).pending = s.pending := rfl
@[simp] theorem State.bump_now (s : State) (k : Nat) : (s.bump k).now = s.now := rfl
@[simp] theorem State.bump_mem (s : State) (k : Nat) : (s.bump k).mem = s.mem := rfl
@[simp] theorem State.bump_chan (s : State) (k : Nat) : (s.bump k).chan = s.chan := rfl
@[simp] theorem State.bump_jobs (s : State) (k : Nat) : (s.bump k).jobs = s.jobs := rfl
@[simp] theorem State.bump_stands (s : State) (k : Nat) : (s.bump k).stands = s.stands := rfl
@[simp] theorem State.bump_fab (s : State) (k : Nat) : (s.bump k).fab = s.fab := rfl
@[simp] theorem State.bump_fire (s : State) (k : Nat) : (s.bump k).fire = s.fire := rfl
@[simp] theorem State.bump_bank (s : State) (k : Nat) : (s.bump k).bank = s.bank := rfl
@[simp] theorem State.bump_power (s : State) (k : Nat) : (s.bump k).power = s.power := rfl
@[simp] theorem State.bump_edge (s : State) (k : Nat) : (s.bump k).edge = s.edge := rfl
@[simp] theorem State.bump_free (s : State) (k : Nat) : (s.bump k).free = s.free := rfl
@[simp] theorem State.bump_out (s : State) (k : Nat) : (s.bump k).out = s.out := rfl
@[simp] theorem State.bump_pending (s : State) (k : Nat) : (s.bump k).pending = s.pending := rfl
@[simp] theorem State.addOb_now (s : State) (k n : Nat) : (s.addOb k n).now = s.now := rfl
@[simp] theorem State.addOb_mem (s : State) (k n : Nat) : (s.addOb k n).mem = s.mem := rfl
@[simp] theorem State.addOb_chan (s : State) (k n : Nat) : (s.addOb k n).chan = s.chan := rfl
@[simp] theorem State.addOb_jobs (s : State) (k n : Nat) : (s.addOb k n).jobs = s.jobs := rfl
@[simp] theorem State.addOb_stands (s : State) (k n : Nat) : (s.addOb k n).stands = s.stands := rfl
@[simp] theorem State.addOb_fab (s : State) (k n : Nat) : (s.addOb k n).fab = s.fab := rfl
@[simp] theorem State.addOb_fire (s : State) (k n : Nat) : (s.addOb k n).fire = s.fire := rfl
@[simp] theorem State.addOb_bank (s : State) (k n : Nat) : (s.addOb k n).bank = s.bank := rfl
@[simp] theorem State.addOb_power (s : State) (k n : Nat) : (s.addOb k n).power = s.power := rfl
@[simp] theorem State.addOb_edge (s : State) (k n : Nat) : (s.addOb k n).edge = s.edge := rfl
@[simp] theorem State.addOb_free (s : State) (k n : Nat) : (s.addOb k n).free = s.free := rfl
@[simp] theorem State.addOb_out (s : State) (k n : Nat) : (s.addOb k n).out = s.out := rfl
@[simp] theorem State.addOb_pending (s : State) (k n : Nat) : (s.addOb k n).pending = s.pending := rfl
@[simp] theorem State.setBit_now (s : State) (k n : Nat) (b : Bool) : (s.setBit k n b).now = s.now := rfl
@[simp] theorem State.setBit_mem (s : State) (k n : Nat) (b : Bool) : (s.setBit k n b).mem = s.mem := rfl
@[simp] theorem State.setBit_chan (s : State) (k n : Nat) (b : Bool) : (s.setBit k n b).chan = s.chan := rfl
@[simp] theorem State.setBit_jobs (s : State) (k n : Nat) (b : Bool) : (s.setBit k n b).jobs = s.jobs := rfl
@[simp] theorem State.setBit_stands (s : State) (k n : Nat) (b : Bool) : (s.setBit k n b).stands = s.stands := rfl
@[simp] theorem State.setBit_fab (s : State) (k n : Nat) (b : Bool) : (s.setBit k n b).fab = s.fab := rfl
@[simp] theorem State.setBit_fire (s : State) (k n : Nat) (b : Bool) : (s.setBit k n b).fire = s.fire := rfl
@[simp] theorem State.setBit_bank (s : State) (k n : Nat) (b : Bool) : (s.setBit k n b).bank = s.bank := rfl
@[simp] theorem State.setBit_power (s : State) (k n : Nat) (b : Bool) : (s.setBit k n b).power = s.power := rfl
@[simp] theorem State.setBit_edge (s : State) (k n : Nat) (b : Bool) : (s.setBit k n b).edge = s.edge := rfl
@[simp] theorem State.setBit_free (s : State) (k n : Nat) (b : Bool) : (s.setBit k n b).free = s.free := rfl
@[simp] theorem State.setBit_out (s : State) (k n : Nat) (b : Bool) : (s.setBit k n b).out = s.out := rfl
@[simp] theorem State.setBit_pending (s : State) (k n : Nat) (b : Bool) : (s.setBit k n b).pending = s.pending := rfl
@[simp] theorem State.setJob_now (s : State) (n : Nat) (j : JobSt) : (s.setJob n j).now = s.now := rfl
@[simp] theorem State.setJob_mem (s : State) (n : Nat) (j : JobSt) : (s.setJob n j).mem = s.mem := rfl
@[simp] theorem State.setJob_chan (s : State) (n : Nat) (j : JobSt) : (s.setJob n j).chan = s.chan := rfl
@[simp] theorem State.setJob_jobs (s : State) (n : Nat) (j : JobSt) : (s.setJob n j).jobs = kset s.jobs n j := rfl
@[simp] theorem State.setJob_stands (s : State) (n : Nat) (j : JobSt) : (s.setJob n j).stands = s.stands := rfl
@[simp] theorem State.setJob_fab (s : State) (n : Nat) (j : JobSt) : (s.setJob n j).fab = s.fab := rfl
@[simp] theorem State.setJob_fire (s : State) (n : Nat) (j : JobSt) : (s.setJob n j).fire = s.fire := rfl
@[simp] theorem State.setJob_bank (s : State) (n : Nat) (j : JobSt) : (s.setJob n j).bank = s.bank := rfl
@[simp] theorem State.setJob_power (s : State) (n : Nat) (j : JobSt) : (s.setJob n j).power = s.power := rfl
@[simp] theorem State.setJob_dict (s : State) (n : Nat) (j : JobSt) : (s.setJob n j).dict = s.dict := rfl
@[simp] theorem State.setJob_edge (s : State) (n : Nat) (j : JobSt) : (s.setJob n j).edge = s.edge := rfl
@[simp] theorem State.setJob_free (s : State) (n : Nat) (j : JobSt) : (s.setJob n j).free = s.free := rfl
@[simp] theorem State.setJob_out (s : State) (n : Nat) (j : JobSt) : (s.setJob n j).out = s.out := rfl
@[simp] theorem State.setJob_pending (s : State) (n : Nat) (j : JobSt) : (s.setJob n j).pending = s.pending := rfl
@[simp] theorem State.modJob_now (s : State) (n : Nat) (f : JobSt → JobSt) : (s.modJob n f).now = s.now := rfl
@[simp] theorem State.modJob_mem (s : State) (n : Nat) (f : JobSt → JobSt) : (s.modJob n f).mem = s.mem := rfl
@[simp] theorem State.modJob_chan (s : State) (n : Nat) (f : JobSt → JobSt) : (s.modJob n f).chan = s.chan := rfl
@[simp] theorem State.modJob_jobs (s : State) (n : Nat) (f : JobSt → JobSt) : (s.modJob n f).jobs = kset s.jobs n (f (s.job n)) := rfl
@[simp] theorem State.modJob_stands (s : State) (n : Nat) (f : JobSt → JobSt) : (s.modJob n f).stands = s.stands := rfl
@[simp] theorem State.modJob_fab (s : State) (n : Nat) (f : JobSt → JobSt) : (s.modJob n f).fab = s.fab := rfl
@[simp] theorem State.modJob_fire (s : State) (n : Nat) (f : JobSt → JobSt) : (s.modJob n f).fire = s.fire := rfl
@[simp] theorem State.modJob_bank (s : State) (n : Nat) (f : JobSt → JobSt) : (s.modJob n f).bank = s.bank := rfl
@[simp] theorem State.modJob_power (s : State) (n : Nat) (f : JobSt → JobSt) : (s.modJob n f).power = s.power := rfl
@[simp] theorem State.modJob_dict (s : State) (n : Nat) (f : JobSt → JobSt) : (s.modJob n f).dict = s.dict := rfl
@[simp] theorem State.modJob_edge (s : State) (n : Nat) (f : JobSt → JobSt) : (s.modJob n f).edge = s.edge := rfl
@[simp] theorem State.modJob_free (s : State) (n : Nat) (f : JobSt → JobSt) : (s.modJob n f).free = s.free := rfl
@[simp] theorem State.modJob_out (s : State) (n : Nat) (f : JobSt → JobSt) : (s.modJob n f).out = s.out := rfl
@[simp] theorem State.modJob_pending (s : State) (n : Nat) (f : JobSt → JobSt) : (s.modJob n f).pending = s.pending := rfl
@[simp] theorem State.setStand_now (s : State) (n : Nat) (x : StandSt) : (s.setStand n x).now = s.now := rfl
@[simp] theorem State.setStand_mem (s : State) (n : Nat) (x : StandSt) : (s.setStand n x).mem = s.mem := rfl
@[simp] theorem State.setStand_chan (s : State) (n : Nat) (x : StandSt) : (s.setStand n x).chan = s.chan := rfl
@[simp] theorem State.setStand_jobs (s : State) (n : Nat) (x : StandSt) : (s.setStand n x).jobs = s.jobs := rfl
@[simp] theorem State.setStand_stands (s : State) (n : Nat) (x : StandSt) : (s.setStand n x).stands = kset s.stands n x := rfl
@[simp] theorem State.setStand_fab (s : State) (n : Nat) (x : StandSt) : (s.setStand n x).fab = s.fab := rfl
@[simp] theorem State.setStand_fire (s : State) (n : Nat) (x : StandSt) : (s.setStand n x).fire = s.fire := rfl
@[simp] theorem State.setStand_bank (s : State) (n : Nat) (x : StandSt) : (s.setStand n x).bank = s.bank := rfl
@[simp] theorem State.setStand_power (s : State) (n : Nat) (x : StandSt) : (s.setStand n x).power = s.power := rfl
@[simp] theorem State.setStand_dict (s : State) (n : Nat) (x : StandSt) : (s.setStand n x).dict = s.dict := rfl
@[simp] theorem State.setStand_edge (s : State) (n : Nat) (x : StandSt) : (s.setStand n x).edge = s.edge := rfl
@[simp] theorem State.setStand_free (s : State) (n : Nat) (x : StandSt) : (s.setStand n x).free = s.free := rfl
@[simp] theorem State.setStand_out (s : State) (n : Nat) (x : StandSt) : (s.setStand n x).out = s.out := rfl
@[simp] theorem State.setStand_pending (s : State) (n : Nat) (x : StandSt) : (s.setStand n x).pending = s.pending := rfl
@[simp] theorem State.modStand_now (s : State) (n : Nat) (f : StandSt → StandSt) : (s.modStand n f).now = s.now := rfl
@[simp] theorem State.modStand_mem (s : State) (n : Nat) (f : StandSt → StandSt) : (s.modStand n f).mem = s.mem := rfl
@[simp] theorem State.modStand_chan (s : State) (n : Nat) (f : StandSt → StandSt) : (s.modStand n f).chan = s.chan := rfl
@[simp] theorem State.modStand_jobs (s : State) (n : Nat) (f : StandSt → StandSt) : (s.modStand n f).jobs = s.jobs := rfl
@[simp] theorem State.modStand_stands (s : State) (n : Nat) (f : StandSt → StandSt) : (s.modStand n f).stands = kset s.stands n (f (s.stand n)) := rfl
@[simp] theorem State.modStand_fab (s : State) (n : Nat) (f : StandSt → StandSt) : (s.modStand n f).fab = s.fab := rfl
@[simp] theorem State.modStand_fire (s : State) (n : Nat) (f : StandSt → StandSt) : (s.modStand n f).fire = s.fire := rfl
@[simp] theorem State.modStand_bank (s : State) (n : Nat) (f : StandSt → StandSt) : (s.modStand n f).bank = s.bank := rfl
@[simp] theorem State.modStand_power (s : State) (n : Nat) (f : StandSt → StandSt) : (s.modStand n f).power = s.power := rfl
@[simp] theorem State.modStand_dict (s : State) (n : Nat) (f : StandSt → StandSt) : (s.modStand n f).dict = s.dict := rfl
@[simp] theorem State.modStand_edge (s : State) (n : Nat) (f : StandSt → StandSt) : (s.modStand n f).edge = s.edge := rfl
@[simp] theorem State.modStand_free (s : State) (n : Nat) (f : StandSt → StandSt) : (s.modStand n f).free = s.free := rfl
@[simp] theorem State.modStand_out (s : State) (n : Nat) (f : StandSt → StandSt) : (s.modStand n f).out = s.out := rfl
@[simp] theorem State.modStand_pending (s : State) (n : Nat) (f : StandSt → StandSt) : (s.modStand n f).pending = s.pending := rfl
@[simp] theorem State.setChan_now (s : State) (h : Nat) (c : Chan) : (s.setChan h c).now = s.now := rfl
@[simp] theorem State.setChan_mem (s : State) (h : Nat) (c : Chan) : (s.setChan h c).mem = s.mem := rfl
@[simp] theorem State.setChan_jobs (s : State) (h : Nat) (c : Chan) : (s.setChan h c).jobs = s.jobs := rfl
@[simp] theorem State.setChan_stands (s : State) (h : Nat) (c : Chan) : (s.setChan h c).stands = s.stands := rfl
@[simp] theorem State.setChan_fab (s : State) (h : Nat) (c : Chan) : (s.setChan h c).fab = s.fab := rfl
@[simp] theorem State.setChan_fire (s : State) (h : Nat) (c : Chan) : (s.setChan h c).fire = s.fire := rfl
@[simp] theorem State.setChan_bank (s : State) (h : Nat) (c : Chan) : (s.setChan h c).bank = s.bank := rfl
@[simp] theorem State.setChan_power (s : State) (h : Nat) (c : Chan) : (s.setChan h c).power = s.power := rfl
@[simp] theorem State.setChan_dict (s : State) (h : Nat) (c : Chan) : (s.setChan h c).dict = s.dict := rfl
@[simp] theorem State.setChan_edge (s : State) (h : Nat) (c : Chan) : (s.setChan h c).edge = s.edge := rfl
@[simp] theorem State.setChan_free (s : State) (h : Nat) (c : Chan) : (s.setChan h c).free = s.free := rfl
@[simp] theorem State.setChan_out (s : State) (h : Nat) (c : Chan) : (s.setChan h c).out = s.out := rfl
@[simp] theorem State.setChan_pending (s : State) (h : Nat) (c : Chan) : (s.setChan h c).pending = s.pending := rfl
@[simp] theorem State.setTasks_now (s : State) (l : List Task) : (s.setTasks l).now = s.now := rfl
@[simp] theorem State.setTasks_mem (s : State) (l : List Task) : (s.setTasks l).mem = s.mem := rfl
@[simp] theorem State.setTasks_jobs (s : State) (l : List Task) : (s.setTasks l).jobs = s.jobs := rfl
@[simp] theorem State.setTasks_stands (s : State) (l : List Task) : (s.setTasks l).stands = s.stands := rfl
@[simp] theorem State.setTasks_fab (s : State) (l : List Task) : (s.setTasks l).fab = s.fab := rfl
@[simp] theorem State.setTasks_fire (s : State) (l : List Task) : (s.setTasks l).fire = s.fire := rfl
@[simp] theorem State.setTasks_bank (s : State) (l : List Task) : (s.setTasks l).bank = s.bank := rfl
@[simp] theorem State.setTasks_power (s : State) (l : List Task) : (s.setTasks l).power = s.power := rfl
@[simp] theorem State.setTasks_dict (s : State) (l : List Task) : (s.setTasks l).dict = s.dict := rfl
@[simp] theorem State.setTasks_edge (s : State) (l : List Task) : (s.setTasks l).edge = s.edge := rfl
@[simp] theorem State.setTasks_free (s : State) (l : List Task) : (s.setTasks l).free = s.free := rfl
@[simp] theorem State.setTasks_out (s : State) (l : List Task) : (s.setTasks l).out = s.out := rfl
@[simp] theorem State.setTasks_pending (s : State) (l : List Task) : (s.setTasks l).pending = s.pending := rfl
@[simp] theorem State.modTask_now (s : State) (u : Nat) (i : BitVec 32) (f : Task → Task) : (s.modTask u i f).now = s.now := rfl
@[simp] theorem State.modTask_mem (s : State) (u : Nat) (i : BitVec 32) (f : Task → Task) : (s.modTask u i f).mem = s.mem := rfl
@[simp] theorem State.modTask_jobs (s : State) (u : Nat) (i : BitVec 32) (f : Task → Task) : (s.modTask u i f).jobs = s.jobs := rfl
@[simp] theorem State.modTask_stands (s : State) (u : Nat) (i : BitVec 32) (f : Task → Task) : (s.modTask u i f).stands = s.stands := rfl
@[simp] theorem State.modTask_fab (s : State) (u : Nat) (i : BitVec 32) (f : Task → Task) : (s.modTask u i f).fab = s.fab := rfl
@[simp] theorem State.modTask_fire (s : State) (u : Nat) (i : BitVec 32) (f : Task → Task) : (s.modTask u i f).fire = s.fire := rfl
@[simp] theorem State.modTask_bank (s : State) (u : Nat) (i : BitVec 32) (f : Task → Task) : (s.modTask u i f).bank = s.bank := rfl
@[simp] theorem State.modTask_power (s : State) (u : Nat) (i : BitVec 32) (f : Task → Task) : (s.modTask u i f).power = s.power := rfl
@[simp] theorem State.modTask_dict (s : State) (u : Nat) (i : BitVec 32) (f : Task → Task) : (s.modTask u i f).dict = s.dict := rfl
@[simp] theorem State.modTask_edge (s : State) (u : Nat) (i : BitVec 32) (f : Task → Task) : (s.modTask u i f).edge = s.edge := rfl
@[simp] theorem State.modTask_free (s : State) (u : Nat) (i : BitVec 32) (f : Task → Task) : (s.modTask u i f).free = s.free := rfl
@[simp] theorem State.modTask_out (s : State) (u : Nat) (i : BitVec 32) (f : Task → Task) : (s.modTask u i f).out = s.out := rfl
@[simp] theorem State.modTask_pending (s : State) (u : Nat) (i : BitVec 32) (f : Task → Task) : (s.modTask u i f).pending = s.pending := rfl
@[simp] theorem State.modPower_now (s : State) (f : PowerSt → PowerSt) : (s.modPower f).now = s.now := rfl
@[simp] theorem State.modPower_mem (s : State) (f : PowerSt → PowerSt) : (s.modPower f).mem = s.mem := rfl
@[simp] theorem State.modPower_chan (s : State) (f : PowerSt → PowerSt) : (s.modPower f).chan = s.chan := rfl
@[simp] theorem State.modPower_jobs (s : State) (f : PowerSt → PowerSt) : (s.modPower f).jobs = s.jobs := rfl
@[simp] theorem State.modPower_stands (s : State) (f : PowerSt → PowerSt) : (s.modPower f).stands = s.stands := rfl
@[simp] theorem State.modPower_fab (s : State) (f : PowerSt → PowerSt) : (s.modPower f).fab = s.fab := rfl
@[simp] theorem State.modPower_fire (s : State) (f : PowerSt → PowerSt) : (s.modPower f).fire = s.fire := rfl
@[simp] theorem State.modPower_bank (s : State) (f : PowerSt → PowerSt) : (s.modPower f).bank = s.bank := rfl
@[simp] theorem State.modPower_power (s : State) (f : PowerSt → PowerSt) : (s.modPower f).power = f s.power := rfl
@[simp] theorem State.modPower_dict (s : State) (f : PowerSt → PowerSt) : (s.modPower f).dict = s.dict := rfl
@[simp] theorem State.modPower_edge (s : State) (f : PowerSt → PowerSt) : (s.modPower f).edge = s.edge := rfl
@[simp] theorem State.modPower_free (s : State) (f : PowerSt → PowerSt) : (s.modPower f).free = s.free := rfl
@[simp] theorem State.modPower_out (s : State) (f : PowerSt → PowerSt) : (s.modPower f).out = s.out := rfl
@[simp] theorem State.modPower_pending (s : State) (f : PowerSt → PowerSt) : (s.modPower f).pending = s.pending := rfl
@[simp] theorem State.setPort_now (s : State) (n : Nat) (p : Port) : (s.setPort n p).now = s.now := rfl
@[simp] theorem State.setPort_mem (s : State) (n : Nat) (p : Port) : (s.setPort n p).mem = s.mem := rfl
@[simp] theorem State.setPort_chan (s : State) (n : Nat) (p : Port) : (s.setPort n p).chan = s.chan := rfl
@[simp] theorem State.setPort_jobs (s : State) (n : Nat) (p : Port) : (s.setPort n p).jobs = s.jobs := rfl
@[simp] theorem State.setPort_stands (s : State) (n : Nat) (p : Port) : (s.setPort n p).stands = s.stands := rfl
@[simp] theorem State.setPort_fire (s : State) (n : Nat) (p : Port) : (s.setPort n p).fire = s.fire := rfl
@[simp] theorem State.setPort_bank (s : State) (n : Nat) (p : Port) : (s.setPort n p).bank = s.bank := rfl
@[simp] theorem State.setPort_power (s : State) (n : Nat) (p : Port) : (s.setPort n p).power = s.power := rfl
@[simp] theorem State.setPort_dict (s : State) (n : Nat) (p : Port) : (s.setPort n p).dict = s.dict := rfl
@[simp] theorem State.setPort_edge (s : State) (n : Nat) (p : Port) : (s.setPort n p).edge = s.edge := rfl
@[simp] theorem State.setPort_free (s : State) (n : Nat) (p : Port) : (s.setPort n p).free = s.free := rfl
@[simp] theorem State.setPort_out (s : State) (n : Nat) (p : Port) : (s.setPort n p).out = s.out := rfl
@[simp] theorem State.setPort_pending (s : State) (n : Nat) (p : Port) : (s.setPort n p).pending = s.pending := rfl
@[simp] theorem State.modPort_now (s : State) (n : Nat) (f : Port → Port) : (s.modPort n f).now = s.now := rfl
@[simp] theorem State.modPort_mem (s : State) (n : Nat) (f : Port → Port) : (s.modPort n f).mem = s.mem := rfl
@[simp] theorem State.modPort_chan (s : State) (n : Nat) (f : Port → Port) : (s.modPort n f).chan = s.chan := rfl
@[simp] theorem State.modPort_jobs (s : State) (n : Nat) (f : Port → Port) : (s.modPort n f).jobs = s.jobs := rfl
@[simp] theorem State.modPort_stands (s : State) (n : Nat) (f : Port → Port) : (s.modPort n f).stands = s.stands := rfl
@[simp] theorem State.modPort_fire (s : State) (n : Nat) (f : Port → Port) : (s.modPort n f).fire = s.fire := rfl
@[simp] theorem State.modPort_bank (s : State) (n : Nat) (f : Port → Port) : (s.modPort n f).bank = s.bank := rfl
@[simp] theorem State.modPort_power (s : State) (n : Nat) (f : Port → Port) : (s.modPort n f).power = s.power := rfl
@[simp] theorem State.modPort_dict (s : State) (n : Nat) (f : Port → Port) : (s.modPort n f).dict = s.dict := rfl
@[simp] theorem State.modPort_edge (s : State) (n : Nat) (f : Port → Port) : (s.modPort n f).edge = s.edge := rfl
@[simp] theorem State.modPort_free (s : State) (n : Nat) (f : Port → Port) : (s.modPort n f).free = s.free := rfl
@[simp] theorem State.modPort_out (s : State) (n : Nat) (f : Port → Port) : (s.modPort n f).out = s.out := rfl
@[simp] theorem State.modPort_pending (s : State) (n : Nat) (f : Port → Port) : (s.modPort n f).pending = s.pending := rfl
@[simp] theorem State.setPath_now (s : State) (n : Nat) (p : Path) : (s.setPath n p).now = s.now := rfl
@[simp] theorem State.setPath_mem (s : State) (n : Nat) (p : Path) : (s.setPath n p).mem = s.mem := rfl
@[simp] theorem State.setPath_chan (s : State) (n : Nat) (p : Path) : (s.setPath n p).chan = s.chan := rfl
@[simp] theorem State.setPath_jobs (s : State) (n : Nat) (p : Path) : (s.setPath n p).jobs = s.jobs := rfl
@[simp] theorem State.setPath_stands (s : State) (n : Nat) (p : Path) : (s.setPath n p).stands = s.stands := rfl
@[simp] theorem State.setPath_fire (s : State) (n : Nat) (p : Path) : (s.setPath n p).fire = s.fire := rfl
@[simp] theorem State.setPath_bank (s : State) (n : Nat) (p : Path) : (s.setPath n p).bank = s.bank := rfl
@[simp] theorem State.setPath_power (s : State) (n : Nat) (p : Path) : (s.setPath n p).power = s.power := rfl
@[simp] theorem State.setPath_dict (s : State) (n : Nat) (p : Path) : (s.setPath n p).dict = s.dict := rfl
@[simp] theorem State.setPath_edge (s : State) (n : Nat) (p : Path) : (s.setPath n p).edge = s.edge := rfl
@[simp] theorem State.setPath_free (s : State) (n : Nat) (p : Path) : (s.setPath n p).free = s.free := rfl
@[simp] theorem State.setPath_out (s : State) (n : Nat) (p : Path) : (s.setPath n p).out = s.out := rfl
@[simp] theorem State.setPath_pending (s : State) (n : Nat) (p : Path) : (s.setPath n p).pending = s.pending := rfl
@[simp] theorem State.track_now (s : State) (o : OutXfer) : (s.track o).now = s.now := rfl
@[simp] theorem State.track_mem (s : State) (o : OutXfer) : (s.track o).mem = s.mem := rfl
@[simp] theorem State.track_chan (s : State) (o : OutXfer) : (s.track o).chan = s.chan := rfl
@[simp] theorem State.track_jobs (s : State) (o : OutXfer) : (s.track o).jobs = s.jobs := rfl
@[simp] theorem State.track_stands (s : State) (o : OutXfer) : (s.track o).stands = s.stands := rfl
@[simp] theorem State.track_fire (s : State) (o : OutXfer) : (s.track o).fire = s.fire := rfl
@[simp] theorem State.track_bank (s : State) (o : OutXfer) : (s.track o).bank = s.bank := rfl
@[simp] theorem State.track_power (s : State) (o : OutXfer) : (s.track o).power = s.power := rfl
@[simp] theorem State.track_dict (s : State) (o : OutXfer) : (s.track o).dict = s.dict := rfl
@[simp] theorem State.track_edge (s : State) (o : OutXfer) : (s.track o).edge = s.edge := rfl
@[simp] theorem State.track_free (s : State) (o : OutXfer) : (s.track o).free = s.free := rfl
@[simp] theorem State.track_out (s : State) (o : OutXfer) : (s.track o).out = s.out := rfl
@[simp] theorem State.track_pending (s : State) (o : OutXfer) : (s.track o).pending = s.pending := rfl
@[simp] theorem State.dropIn_now (s : State) (a b : Nat) : (s.dropIn a b).now = s.now := rfl
@[simp] theorem State.dropIn_mem (s : State) (a b : Nat) : (s.dropIn a b).mem = s.mem := rfl
@[simp] theorem State.dropIn_chan (s : State) (a b : Nat) : (s.dropIn a b).chan = s.chan := rfl
@[simp] theorem State.dropIn_jobs (s : State) (a b : Nat) : (s.dropIn a b).jobs = s.jobs := rfl
@[simp] theorem State.dropIn_stands (s : State) (a b : Nat) : (s.dropIn a b).stands = s.stands := rfl
@[simp] theorem State.dropIn_fire (s : State) (a b : Nat) : (s.dropIn a b).fire = s.fire := rfl
@[simp] theorem State.dropIn_bank (s : State) (a b : Nat) : (s.dropIn a b).bank = s.bank := rfl
@[simp] theorem State.dropIn_power (s : State) (a b : Nat) : (s.dropIn a b).power = s.power := rfl
@[simp] theorem State.dropIn_dict (s : State) (a b : Nat) : (s.dropIn a b).dict = s.dict := rfl
@[simp] theorem State.dropIn_edge (s : State) (a b : Nat) : (s.dropIn a b).edge = s.edge := rfl
@[simp] theorem State.dropIn_free (s : State) (a b : Nat) : (s.dropIn a b).free = s.free := rfl
@[simp] theorem State.dropIn_out (s : State) (a b : Nat) : (s.dropIn a b).out = s.out := rfl
@[simp] theorem State.dropIn_pending (s : State) (a b : Nat) : (s.dropIn a b).pending = s.pending := rfl
@[simp] theorem State.poke_now (s : State) (a : Nat) (l : List Byte) : (s.poke a l).now = s.now := rfl
@[simp] theorem State.poke_chan (s : State) (a : Nat) (l : List Byte) : (s.poke a l).chan = s.chan := rfl
@[simp] theorem State.poke_jobs (s : State) (a : Nat) (l : List Byte) : (s.poke a l).jobs = s.jobs := rfl
@[simp] theorem State.poke_stands (s : State) (a : Nat) (l : List Byte) : (s.poke a l).stands = s.stands := rfl
@[simp] theorem State.poke_fab (s : State) (a : Nat) (l : List Byte) : (s.poke a l).fab = s.fab := rfl
@[simp] theorem State.poke_fire (s : State) (a : Nat) (l : List Byte) : (s.poke a l).fire = s.fire := rfl
@[simp] theorem State.poke_bank (s : State) (a : Nat) (l : List Byte) : (s.poke a l).bank = s.bank := rfl
@[simp] theorem State.poke_power (s : State) (a : Nat) (l : List Byte) : (s.poke a l).power = s.power := rfl
@[simp] theorem State.poke_dict (s : State) (a : Nat) (l : List Byte) : (s.poke a l).dict = s.dict := rfl
@[simp] theorem State.poke_edge (s : State) (a : Nat) (l : List Byte) : (s.poke a l).edge = s.edge := rfl
@[simp] theorem State.poke_free (s : State) (a : Nat) (l : List Byte) : (s.poke a l).free = s.free := rfl
@[simp] theorem State.poke_out (s : State) (a : Nat) (l : List Byte) : (s.poke a l).out = s.out := rfl
@[simp] theorem State.poke_pending (s : State) (a : Nat) (l : List Byte) : (s.poke a l).pending = s.pending := rfl
@[simp] theorem State.soil_now (s : State) (a n : Nat) : (s.soil a n).now = s.now := rfl
@[simp] theorem State.soil_mem (s : State) (a n : Nat) : (s.soil a n).mem = s.mem := rfl
@[simp] theorem State.soil_chan (s : State) (a n : Nat) : (s.soil a n).chan = s.chan := rfl
@[simp] theorem State.soil_jobs (s : State) (a n : Nat) : (s.soil a n).jobs = s.jobs := rfl
@[simp] theorem State.soil_stands (s : State) (a n : Nat) : (s.soil a n).stands = s.stands := rfl
@[simp] theorem State.soil_fab (s : State) (a n : Nat) : (s.soil a n).fab = s.fab := rfl
@[simp] theorem State.soil_fire (s : State) (a n : Nat) : (s.soil a n).fire = s.fire := rfl
@[simp] theorem State.soil_power (s : State) (a n : Nat) : (s.soil a n).power = s.power := rfl
@[simp] theorem State.soil_dict (s : State) (a n : Nat) : (s.soil a n).dict = s.dict := rfl
@[simp] theorem State.soil_edge (s : State) (a n : Nat) : (s.soil a n).edge = s.edge := rfl
@[simp] theorem State.soil_free (s : State) (a n : Nat) : (s.soil a n).free = s.free := rfl
@[simp] theorem State.soil_out (s : State) (a n : Nat) : (s.soil a n).out = s.out := rfl
@[simp] theorem State.soil_pending (s : State) (a n : Nat) : (s.soil a n).pending = s.pending := rfl
@[simp] theorem State.store_now (s : State) (a : Nat) (l : List Byte) : (s.store a l).now = s.now := rfl
@[simp] theorem State.store_chan (s : State) (a : Nat) (l : List Byte) : (s.store a l).chan = s.chan := rfl
@[simp] theorem State.store_jobs (s : State) (a : Nat) (l : List Byte) : (s.store a l).jobs = s.jobs := rfl
@[simp] theorem State.store_stands (s : State) (a : Nat) (l : List Byte) : (s.store a l).stands = s.stands := rfl
@[simp] theorem State.store_fab (s : State) (a : Nat) (l : List Byte) : (s.store a l).fab = s.fab := rfl
@[simp] theorem State.store_fire (s : State) (a : Nat) (l : List Byte) : (s.store a l).fire = s.fire := rfl
@[simp] theorem State.store_power (s : State) (a : Nat) (l : List Byte) : (s.store a l).power = s.power := rfl
@[simp] theorem State.store_dict (s : State) (a : Nat) (l : List Byte) : (s.store a l).dict = s.dict := rfl
@[simp] theorem State.store_edge (s : State) (a : Nat) (l : List Byte) : (s.store a l).edge = s.edge := rfl
@[simp] theorem State.store_free (s : State) (a : Nat) (l : List Byte) : (s.store a l).free = s.free := rfl
@[simp] theorem State.store_out (s : State) (a : Nat) (l : List Byte) : (s.store a l).out = s.out := rfl
@[simp] theorem State.store_pending (s : State) (a : Nat) (l : List Byte) : (s.store a l).pending = s.pending := rfl
@[simp] theorem State.healBlock_now (s : State) (b : Nat) : (s.healBlock b).now = s.now := rfl
@[simp] theorem State.healBlock_chan (s : State) (b : Nat) : (s.healBlock b).chan = s.chan := rfl
@[simp] theorem State.healBlock_jobs (s : State) (b : Nat) : (s.healBlock b).jobs = s.jobs := rfl
@[simp] theorem State.healBlock_stands (s : State) (b : Nat) : (s.healBlock b).stands = s.stands := rfl
@[simp] theorem State.healBlock_fab (s : State) (b : Nat) : (s.healBlock b).fab = s.fab := rfl
@[simp] theorem State.healBlock_fire (s : State) (b : Nat) : (s.healBlock b).fire = s.fire := rfl
@[simp] theorem State.healBlock_bank (s : State) (b : Nat) : (s.healBlock b).bank = s.bank := rfl
@[simp] theorem State.healBlock_power (s : State) (b : Nat) : (s.healBlock b).power = s.power := rfl
@[simp] theorem State.healBlock_dict (s : State) (b : Nat) : (s.healBlock b).dict = s.dict := rfl
@[simp] theorem State.healBlock_edge (s : State) (b : Nat) : (s.healBlock b).edge = s.edge := rfl
@[simp] theorem State.healBlock_free (s : State) (b : Nat) : (s.healBlock b).free = s.free := rfl
@[simp] theorem State.healBlock_out (s : State) (b : Nat) : (s.healBlock b).out = s.out := rfl
@[simp] theorem State.healBlock_pending (s : State) (b : Nat) : (s.healBlock b).pending = s.pending := rfl
@[simp] theorem State.calm_now (s : State) (a : Alert) : (s.calm a).now = s.now := rfl
@[simp] theorem State.calm_mem (s : State) (a : Alert) : (s.calm a).mem = s.mem := rfl
@[simp] theorem State.calm_chan (s : State) (a : Alert) : (s.calm a).chan = s.chan := rfl
@[simp] theorem State.calm_jobs (s : State) (a : Alert) : (s.calm a).jobs = s.jobs := rfl
@[simp] theorem State.calm_stands (s : State) (a : Alert) : (s.calm a).stands = s.stands := rfl
@[simp] theorem State.calm_fab (s : State) (a : Alert) : (s.calm a).fab = s.fab := rfl
@[simp] theorem State.calm_fire (s : State) (a : Alert) : (s.calm a).fire = s.fire := rfl
@[simp] theorem State.calm_bank (s : State) (a : Alert) : (s.calm a).bank = s.bank := rfl
@[simp] theorem State.calm_power (s : State) (a : Alert) : (s.calm a).power = s.power := rfl
@[simp] theorem State.calm_dict (s : State) (a : Alert) : (s.calm a).dict = s.dict := rfl
@[simp] theorem State.calm_free (s : State) (a : Alert) : (s.calm a).free = s.free := rfl
@[simp] theorem State.calm_out (s : State) (a : Alert) : (s.calm a).out = s.out := rfl
@[simp] theorem State.calm_pending (s : State) (a : Alert) : (s.calm a).pending = s.pending := rfl
@[simp] theorem State.discard_now (s : State) (r : Role) (i : Nat) : (s.discard r i).now = s.now := rfl
@[simp] theorem State.discard_mem (s : State) (r : Role) (i : Nat) : (s.discard r i).mem = s.mem := rfl
@[simp] theorem State.discard_chan (s : State) (r : Role) (i : Nat) : (s.discard r i).chan = s.chan := rfl
@[simp] theorem State.discard_jobs (s : State) (r : Role) (i : Nat) : (s.discard r i).jobs = s.jobs := rfl
@[simp] theorem State.discard_stands (s : State) (r : Role) (i : Nat) : (s.discard r i).stands = s.stands := rfl
@[simp] theorem State.discard_fab (s : State) (r : Role) (i : Nat) : (s.discard r i).fab = s.fab := rfl
@[simp] theorem State.discard_fire (s : State) (r : Role) (i : Nat) : (s.discard r i).fire = s.fire := rfl
@[simp] theorem State.discard_bank (s : State) (r : Role) (i : Nat) : (s.discard r i).bank = s.bank := rfl
@[simp] theorem State.discard_power (s : State) (r : Role) (i : Nat) : (s.discard r i).power = s.power := rfl
@[simp] theorem State.discard_edge (s : State) (r : Role) (i : Nat) : (s.discard r i).edge = s.edge := rfl
@[simp] theorem State.discard_free (s : State) (r : Role) (i : Nat) : (s.discard r i).free = s.free := rfl
@[simp] theorem State.discard_out (s : State) (r : Role) (i : Nat) : (s.discard r i).out = s.out := rfl
@[simp] theorem State.discard_pending (s : State) (r : Role) (i : Nat) : (s.discard r i).pending = s.pending := rfl
@[simp] theorem State.setSpdm_now (s : State) (n : Nat) : (s.setSpdm n).now = s.now := rfl
@[simp] theorem State.setSpdm_mem (s : State) (n : Nat) : (s.setSpdm n).mem = s.mem := rfl
@[simp] theorem State.setSpdm_chan (s : State) (n : Nat) : (s.setSpdm n).chan = s.chan := rfl
@[simp] theorem State.setSpdm_jobs (s : State) (n : Nat) : (s.setSpdm n).jobs = s.jobs := rfl
@[simp] theorem State.setSpdm_stands (s : State) (n : Nat) : (s.setSpdm n).stands = s.stands := rfl
@[simp] theorem State.setSpdm_fab (s : State) (n : Nat) : (s.setSpdm n).fab = s.fab := rfl
@[simp] theorem State.setSpdm_fire (s : State) (n : Nat) : (s.setSpdm n).fire = s.fire := rfl
@[simp] theorem State.setSpdm_bank (s : State) (n : Nat) : (s.setSpdm n).bank = s.bank := rfl
@[simp] theorem State.setSpdm_power (s : State) (n : Nat) : (s.setSpdm n).power = s.power := rfl
@[simp] theorem State.setSpdm_dict (s : State) (n : Nat) : (s.setSpdm n).dict = s.dict := rfl
@[simp] theorem State.setSpdm_free (s : State) (n : Nat) : (s.setSpdm n).free = s.free := rfl
@[simp] theorem State.setSpdm_out (s : State) (n : Nat) : (s.setSpdm n).out = s.out := rfl
@[simp] theorem State.setSpdm_pending (s : State) (n : Nat) : (s.setSpdm n).pending = s.pending := rfl

@[simp] theorem State.setChan_tasks (s : State) (h : Nat) (c : Chan) : (s.setChan h c).chan.tasks = s.chan.tasks := rfl
@[simp] theorem State.setChan_chans (s : State) (h : Nat) (c : Chan) : (s.setChan h c).chan.chans = kset s.chan.chans h c := rfl
@[simp] theorem State.setTasks_tasks (s : State) (l : List Task) : (s.setTasks l).chan.tasks = l := rfl
@[simp] theorem State.setTasks_chans (s : State) (l : List Task) : (s.setTasks l).chan.chans = s.chan.chans := rfl

theorem State.setChan_same (s : State) (h : Nat) (c : Chan) : (s.setChan h c).chanAt h = some c := by
  simp [State.chanAt, kget?_kset_same]

theorem State.setChan_other (s : State) (h k : Nat) (c : Chan) (e : k ≠ h) : (s.setChan h c).chanAt k = s.chanAt k := by
  simp [State.chanAt, kget?_kset_other _ _ _ _ e]

theorem State.setJob_same (s : State) (n : Nat) (j : JobSt) : (s.setJob n j).job n = j := by simp [State.job]

theorem State.setJob_other (s : State) (n k : Nat) (j : JobSt) (e : k ≠ n) : (s.setJob n j).job k = s.job k := by
  simp [State.job, kget_kset_other _ _ _ _ _ e]

theorem State.setStand_same (s : State) (n : Nat) (x : StandSt) : (s.setStand n x).stand n = x := by simp [State.stand]

theorem State.setStand_other (s : State) (n k : Nat) (x : StandSt) (e : k ≠ n) : (s.setStand n x).stand k = s.stand k := by
  simp [State.stand, kget_kset_other _ _ _ _ _ e]

theorem State.setPort_same (s : State) (n : Nat) (p : Port) : (s.setPort n p).port n = p := by simp [State.port, State.setPort]

theorem State.setPort_other (s : State) (n k : Nat) (p : Port) (e : k ≠ n) : (s.setPort n p).port k = s.port k := by
  simp [State.port, State.setPort, kget_kset_other _ _ _ _ _ e]

/-! ## Objects -/

/-- Two states with the same dictionary values read the same objects. -/
theorem State.ob_congr {s t : State} (h : t.dict.objs = s.dict.objs) (k : Nat) : t.ob k = s.ob k := by simp [State.ob, h]

theorem State.setOb_same (s : State) (k v : Nat) : (s.setOb k v).ob k = v := by
  simp [State.ob, State.setOb, kget?_kset_same]

theorem State.setOb_other (s : State) (k v j : Nat) (e : j ≠ k) : (s.setOb k v).ob j = s.ob j := by
  simp [State.ob, State.setOb, kget?_kset_other _ _ _ _ e]

theorem State.bump_same (s : State) (k : Nat) : (s.bump k).ob k = s.ob k + 1 := State.setOb_same _ _ _

theorem State.bump_other (s : State) (k j : Nat) (e : j ≠ k) : (s.bump k).ob j = s.ob j := State.setOb_other _ _ _ _ e

theorem State.addOb_same (s : State) (k n : Nat) : (s.addOb k n).ob k = s.ob k + n := State.setOb_same _ _ _

theorem State.addOb_other (s : State) (k n j : Nat) (e : j ≠ k) : (s.addOb k n).ob j = s.ob j := State.setOb_other _ _ _ _ e

@[simp] theorem State.emit_ob (s : State) (o : Out) (k' : Nat) : (s.emit o).ob k' = s.ob k' := rfl
@[simp] theorem State.send_ob (s : State) (p : Packet) (k' : Nat) : (s.send p).ob k' = s.ob k' := rfl
@[simp] theorem State.drawn_ob (s : State) (n : Nat) (k' : Nat) : (s.drawn n).ob k' = s.ob k' := rfl
@[simp] theorem State.setJob_ob (s : State) (n : Nat) (j : JobSt) (k' : Nat) : (s.setJob n j).ob k' = s.ob k' := rfl
@[simp] theorem State.modJob_ob (s : State) (n : Nat) (f : JobSt → JobSt) (k' : Nat) : (s.modJob n f).ob k' = s.ob k' := rfl
@[simp] theorem State.setStand_ob (s : State) (n : Nat) (x : StandSt) (k' : Nat) : (s.setStand n x).ob k' = s.ob k' := rfl
@[simp] theorem State.modStand_ob (s : State) (n : Nat) (f : StandSt → StandSt) (k' : Nat) : (s.modStand n f).ob k' = s.ob k' := rfl
@[simp] theorem State.setChan_ob (s : State) (h : Nat) (c : Chan) (k' : Nat) : (s.setChan h c).ob k' = s.ob k' := rfl
@[simp] theorem State.setTasks_ob (s : State) (l : List Task) (k' : Nat) : (s.setTasks l).ob k' = s.ob k' := rfl
@[simp] theorem State.modTask_ob (s : State) (u : Nat) (i : BitVec 32) (f : Task → Task) (k' : Nat) : (s.modTask u i f).ob k' = s.ob k' := rfl
@[simp] theorem State.modPower_ob (s : State) (f : PowerSt → PowerSt) (k' : Nat) : (s.modPower f).ob k' = s.ob k' := rfl
@[simp] theorem State.setPort_ob (s : State) (n : Nat) (p : Port) (k' : Nat) : (s.setPort n p).ob k' = s.ob k' := rfl
@[simp] theorem State.modPort_ob (s : State) (n : Nat) (f : Port → Port) (k' : Nat) : (s.modPort n f).ob k' = s.ob k' := rfl
@[simp] theorem State.setPath_ob (s : State) (n : Nat) (p : Path) (k' : Nat) : (s.setPath n p).ob k' = s.ob k' := rfl
@[simp] theorem State.track_ob (s : State) (o : OutXfer) (k' : Nat) : (s.track o).ob k' = s.ob k' := rfl
@[simp] theorem State.dropIn_ob (s : State) (a b : Nat) (k' : Nat) : (s.dropIn a b).ob k' = s.ob k' := rfl
@[simp] theorem State.poke_ob (s : State) (a : Nat) (l : List Byte) (k' : Nat) : (s.poke a l).ob k' = s.ob k' := rfl
@[simp] theorem State.soil_ob (s : State) (a n : Nat) (k' : Nat) : (s.soil a n).ob k' = s.ob k' := rfl
@[simp] theorem State.store_ob (s : State) (a : Nat) (l : List Byte) (k' : Nat) : (s.store a l).ob k' = s.ob k' := rfl
@[simp] theorem State.healBlock_ob (s : State) (b : Nat) (k' : Nat) : (s.healBlock b).ob k' = s.ob k' := rfl
@[simp] theorem State.calm_ob (s : State) (a : Alert) (k' : Nat) : (s.calm a).ob k' = s.ob k' := rfl
@[simp] theorem State.setSpdm_ob (s : State) (n : Nat) (k' : Nat) : (s.setSpdm n).ob k' = s.ob k' := rfl
@[simp] theorem State.discard_ob (s : State) (r : Role) (i k' : Nat) : (s.discard r i).ob k' = s.ob k' := rfl

@[simp] theorem State.relock_now (s : State) (c : Nat) : (s.relock c).now = s.now := rfl
@[simp] theorem State.relock_mem (s : State) (c : Nat) : (s.relock c).mem = s.mem := rfl
@[simp] theorem State.relock_chan (s : State) (c : Nat) : (s.relock c).chan = s.chan := rfl
@[simp] theorem State.relock_jobs (s : State) (c : Nat) : (s.relock c).jobs = s.jobs := rfl
@[simp] theorem State.relock_stands (s : State) (c : Nat) : (s.relock c).stands = s.stands := rfl
@[simp] theorem State.relock_fab (s : State) (c : Nat) : (s.relock c).fab = s.fab := rfl
@[simp] theorem State.relock_fire (s : State) (c : Nat) : (s.relock c).fire = s.fire := rfl
@[simp] theorem State.relock_bank (s : State) (c : Nat) : (s.relock c).bank = s.bank := rfl
@[simp] theorem State.relock_power (s : State) (c : Nat) : (s.relock c).power = s.power := rfl
@[simp] theorem State.relock_dict (s : State) (c : Nat) : (s.relock c).dict = s.dict := rfl
@[simp] theorem State.relock_free (s : State) (c : Nat) : (s.relock c).free = s.free := rfl
@[simp] theorem State.relock_out (s : State) (c : Nat) : (s.relock c).out = s.out := rfl
@[simp] theorem State.relock_pending (s : State) (c : Nat) : (s.relock c).pending = s.pending := rfl
@[simp] theorem State.relock_ob (s : State) (c k' : Nat) : (s.relock c).ob k' = s.ob k' := rfl
@[simp] theorem State.relock_unlocked (s : State) (c : Nat) : (s.relock c).edge.unlocked = s.edge.unlocked.filter (· != c) := rfl
@[simp] theorem State.engage_now (s : State) (n : Nat) : (s.engage n).now = s.now := rfl
@[simp] theorem State.engage_mem (s : State) (n : Nat) : (s.engage n).mem = s.mem := rfl
@[simp] theorem State.engage_chan (s : State) (n : Nat) : (s.engage n).chan = s.chan := rfl
@[simp] theorem State.engage_jobs (s : State) (n : Nat) : (s.engage n).jobs = s.jobs := rfl
@[simp] theorem State.engage_fab (s : State) (n : Nat) : (s.engage n).fab = s.fab := rfl
@[simp] theorem State.engage_fire (s : State) (n : Nat) : (s.engage n).fire = s.fire := rfl
@[simp] theorem State.engage_bank (s : State) (n : Nat) : (s.engage n).bank = s.bank := rfl
@[simp] theorem State.engage_power (s : State) (n : Nat) : (s.engage n).power = s.power := rfl
@[simp] theorem State.engage_dict (s : State) (n : Nat) : (s.engage n).dict = s.dict := rfl
@[simp] theorem State.engage_edge (s : State) (n : Nat) : (s.engage n).edge = s.edge := rfl
@[simp] theorem State.engage_free (s : State) (n : Nat) : (s.engage n).free = s.free := rfl
@[simp] theorem State.engage_out (s : State) (n : Nat) : (s.engage n).out = s.out := rfl
@[simp] theorem State.engage_pending (s : State) (n : Nat) : (s.engage n).pending = s.pending := rfl
@[simp] theorem State.engage_ob (s : State) (n : Nat) (k' : Nat) : (s.engage n).ob k' = s.ob k' := rfl
@[simp] theorem State.leaveTile_now (s : State) (x : Nat × Tile) : (s.leaveTile x).now = s.now := rfl
@[simp] theorem State.leaveTile_mem (s : State) (x : Nat × Tile) : (s.leaveTile x).mem = s.mem := rfl
@[simp] theorem State.leaveTile_chan (s : State) (x : Nat × Tile) : (s.leaveTile x).chan = s.chan := rfl
@[simp] theorem State.leaveTile_jobs (s : State) (x : Nat × Tile) : (s.leaveTile x).jobs = s.jobs := rfl
@[simp] theorem State.leaveTile_fab (s : State) (x : Nat × Tile) : (s.leaveTile x).fab = s.fab := rfl
@[simp] theorem State.leaveTile_fire (s : State) (x : Nat × Tile) : (s.leaveTile x).fire = s.fire := rfl
@[simp] theorem State.leaveTile_bank (s : State) (x : Nat × Tile) : (s.leaveTile x).bank = s.bank := rfl
@[simp] theorem State.leaveTile_power (s : State) (x : Nat × Tile) : (s.leaveTile x).power = s.power := rfl
@[simp] theorem State.leaveTile_dict (s : State) (x : Nat × Tile) : (s.leaveTile x).dict = s.dict := rfl
@[simp] theorem State.leaveTile_edge (s : State) (x : Nat × Tile) : (s.leaveTile x).edge = s.edge := rfl
@[simp] theorem State.leaveTile_free (s : State) (x : Nat × Tile) : (s.leaveTile x).free = s.free := rfl
@[simp] theorem State.leaveTile_out (s : State) (x : Nat × Tile) : (s.leaveTile x).out = s.out := rfl
@[simp] theorem State.leaveTile_pending (s : State) (x : Nat × Tile) : (s.leaveTile x).pending = s.pending := rfl
@[simp] theorem State.leaveTile_ob (s : State) (x : Nat × Tile) (k' : Nat) : (s.leaveTile x).ob k' = s.ob k' := rfl
@[simp] theorem State.recordVca_now (s : State) (l : List Byte) : (s.recordVca l).now = s.now := rfl
@[simp] theorem State.recordVca_mem (s : State) (l : List Byte) : (s.recordVca l).mem = s.mem := rfl
@[simp] theorem State.recordVca_chan (s : State) (l : List Byte) : (s.recordVca l).chan = s.chan := rfl
@[simp] theorem State.recordVca_jobs (s : State) (l : List Byte) : (s.recordVca l).jobs = s.jobs := rfl
@[simp] theorem State.recordVca_stands (s : State) (l : List Byte) : (s.recordVca l).stands = s.stands := rfl
@[simp] theorem State.recordVca_fab (s : State) (l : List Byte) : (s.recordVca l).fab = s.fab := rfl
@[simp] theorem State.recordVca_fire (s : State) (l : List Byte) : (s.recordVca l).fire = s.fire := rfl
@[simp] theorem State.recordVca_bank (s : State) (l : List Byte) : (s.recordVca l).bank = s.bank := rfl
@[simp] theorem State.recordVca_power (s : State) (l : List Byte) : (s.recordVca l).power = s.power := rfl
@[simp] theorem State.recordVca_dict (s : State) (l : List Byte) : (s.recordVca l).dict = s.dict := rfl
@[simp] theorem State.recordVca_free (s : State) (l : List Byte) : (s.recordVca l).free = s.free := rfl
@[simp] theorem State.recordVca_out (s : State) (l : List Byte) : (s.recordVca l).out = s.out := rfl
@[simp] theorem State.recordVca_pending (s : State) (l : List Byte) : (s.recordVca l).pending = s.pending := rfl
@[simp] theorem State.recordVca_ob (s : State) (l : List Byte) (k' : Nat) : (s.recordVca l).ob k' = s.ob k' := rfl
@[simp] theorem State.recordCert_now (s : State) (l : List Byte) : (s.recordCert l).now = s.now := rfl
@[simp] theorem State.recordCert_mem (s : State) (l : List Byte) : (s.recordCert l).mem = s.mem := rfl
@[simp] theorem State.recordCert_chan (s : State) (l : List Byte) : (s.recordCert l).chan = s.chan := rfl
@[simp] theorem State.recordCert_jobs (s : State) (l : List Byte) : (s.recordCert l).jobs = s.jobs := rfl
@[simp] theorem State.recordCert_stands (s : State) (l : List Byte) : (s.recordCert l).stands = s.stands := rfl
@[simp] theorem State.recordCert_fab (s : State) (l : List Byte) : (s.recordCert l).fab = s.fab := rfl
@[simp] theorem State.recordCert_fire (s : State) (l : List Byte) : (s.recordCert l).fire = s.fire := rfl
@[simp] theorem State.recordCert_bank (s : State) (l : List Byte) : (s.recordCert l).bank = s.bank := rfl
@[simp] theorem State.recordCert_power (s : State) (l : List Byte) : (s.recordCert l).power = s.power := rfl
@[simp] theorem State.recordCert_dict (s : State) (l : List Byte) : (s.recordCert l).dict = s.dict := rfl
@[simp] theorem State.recordCert_free (s : State) (l : List Byte) : (s.recordCert l).free = s.free := rfl
@[simp] theorem State.recordCert_out (s : State) (l : List Byte) : (s.recordCert l).out = s.out := rfl
@[simp] theorem State.recordCert_pending (s : State) (l : List Byte) : (s.recordCert l).pending = s.pending := rfl
@[simp] theorem State.recordCert_ob (s : State) (l : List Byte) (k' : Nat) : (s.recordCert l).ob k' = s.ob k' := rfl

end Sys2Proof.Machine
end

