-- ==== Sys2Proof/Laws/Dictionary.lean ====
section
/-! SUPPORT. The path of a dictionary request, once: when a mailbox request comes to its object, what its answer leaves, and
how the bytes of a value read back. -/

namespace Sys2Proof.Machine

set_option Elab.async false

@[simp] theorem bytesOf_length (x n : Nat) : (bytesOf x n).length = n := by
  induction n generalizing x with
  | zero => rfl
  | succ n ih => simp [bytesOf, ih]

/-- The number in the `n` bytes of `x`. -/
theorem ofBytes_bytesOf (x n : Nat) : ofBytes (bytesOf x n) = x % 256 ^ n := by
  induction n generalizing x with
  | zero => simp [bytesOf, ofBytes, Nat.mod_one]
  | succ n ih =>
    have h1 : (BitVec.ofNat 8 x).toNat = x % 256 := BitVec.toNat_ofNat x 8
    rw [bytesOf, ofBytes, ih, h1, Nat.pow_succ, Nat.mul_comm (256 ^ n) 256, Nat.mod_mul]

/-- A request of the host is counted, and that is all. -/
theorem takeRequest_host (s : State) (v : Via) (h : v.role = .host) : s.takeRequest v = s.bump (Obj.dictRequests 0) := by
  simp [State.takeRequest, h, roleCode]

/-- A mailbox request that is served, executed and answered OK. -/
theorem requestFor_host {s u : State} {v : Via} {m : DictMsg} {d : List Byte} (hint : Option Nat) (h : HostServed s v)
    (e : (s.takeRequest v).execute { v with tag := m.tag } (hint.orElse (fun _ => s.hintOf v m)) m = (u, .ok d)) :
    s.requestFor v hint m = s.answered u v m d := by
  have hs : (s.takeRequest v).shed = s.shed := by
    rw [takeRequest_host s v h.role]
    exact State.bump_other _ _ _ (by decide)
  have h4 : ¬ (4 ≤ s.shed) := Nat.not_le.2 h.shed
  have hp : s.pathServes v.role = true := by simp [State.pathServes, h.role, h.powered, h.glade, h.ready, h.link]
  have h1 : ¬ (pathLimit v.role ≤ v.ahead) := by simp [h.role, h.ahead, pathLimit]
  have h2 : (v.role == Role.peer) = false := by rw [h.role]; rfl
  have hf : s.failoverDue v.role = false := by simp [State.failoverDue, h.glade]
  have h3 : s.foreignMsg v = false := by simp [State.foreignMsg, h.role]
  unfold State.requestFor
  simp only [hp, hf, h3, h1, hs, h4, h2, if_false, Bool.not_true, Bool.false_eq_true, decide_false, Bool.and_false, Bool.false_and]
  rw [e]
  rfl

/-- A WRITE that passes every check of R373 comes to its object. -/
theorem execute_write {s : State} {v : Via} {hint : Option Nat} {m : DictMsg} {r : ObjRow} (hb : badHeader m = false) (ht : s.target m.index m.sub = some r)
    (hf : fits r m = true) (hd : s.denied v.role r m.op = false) (ho : m.op = 2) (hs : m.sub ≠ 0xFF) (ha : r.acc ≠ .rwc) :
    s.execute v hint m = (s.touchStaged v.role m.index).writeObject v hint r m := by
  rw [ho] at hd
  simp [State.execute, hb, ht, hf, hd, ho, hs, ha]

/-- A commit that passes every check of R373 comes to its index, and what it covers is no longer staged. -/
theorem execute_commit {s u : State} {v w : Via} {hint : Option Nat} {index : Nat} {r : ObjRow} {d : List Byte} (ht : s.target index 0xFF = some r)
    (hf : r.type = .u8) (hd : s.denied v.role r 2 = false) (e : s.commitIndex v index = (u, .ok d)) :
    s.execute v hint (commitMsg w index) = ((index :: alsoCommits index).foldl (fun t i => t.discard v.role i) u, .ok d) := by
  have hb : badHeader (commitMsg w index) = false := rfl
  have hf' : fits r (commitMsg w index) = true := by simp [fits, hf, commitMsg, writeMsg, OType.size]
  simp only [State.execute, hb, State.commit]
  simp [commitMsg, writeMsg] at *
  simp [ht, hf', hd, ofBytes, e, Reply.code]

/-- What the answer to a mailbox request leaves. -/
theorem answered_host (s u : State) (v : Via) (m : DictMsg) (d : List Byte) (h : v.role = .host) :
    s.answered u v m d = ({ u.persist (s.takeRequest v) with
      dict := { (u.persist (s.takeRequest v)).dict with
        responseBuf := ({ m with resp := true, length := d.length, data := d }, 0), done := true, go := false } }).msix
          u.dict.msixVector := by
  have hp : (u.persist (s.takeRequest v)).dict.msixVector = u.dict.msixVector := by
    unfold State.persist; split <;> rfl
  simp only [State.answered, State.respond, h]
  simp only [show ((Reply.ok d == Reply.later) = false) from rfl, Bool.false_eq_true, if_false, Reply.code, Reply.data, beq_self_eq_true, if_true]
  rw [← hp]

end Sys2Proof.Machine
end

