-- ==== Sys2Proof/Laws/Kept.lean ====
section
/-! SUPPORT. The relation `Kept` between a state and a later one: what no shared operation of the machine ever changes. One
lemma per operation, in its transitive form (if the state before it was kept, so is the state after it), so that a claim
about a whole command follows from the operations it is made of, without unfolding any of them. -/

namespace Sys2Proof.Machine

set_option Elab.async false

theorem Kept.refl (s : State) : Kept s s := ⟨rfl, rfl, List.prefix_refl _, ⟨rfl, rfl, rfl⟩, id⟩

theorem Kept.trans {s t u : State} (a : Kept s t) (b : Kept t u) : Kept s u :=
  ⟨b.pending.trans a.pending, b.now.trans a.now, a.out.trans b.out,
   ⟨b.fuses.1.trans a.fuses.1, b.fuses.2.1.trans a.fuses.2.1, b.fuses.2.2.trans a.fuses.2.2⟩, fun h => b.form (a.form h)⟩

/-- An update of any fields but the queue and the clock, with what it must leave in place. -/
theorem Kept.upd {z u : State} {mem : MemSt} {chan : ChanSt} {jobs : KMap JobSt} {stands : KMap StandSt} {fab : FabSt} {fire : FireSt}
    {bank : BankSt} {power : PowerSt} {dict : DictSt} {edge : EdgeSt} {free : Nat} {out : List Out} (h : Kept z u)
    (hc : mem.cells = u.mem.cells)
    (he : edge.fuses0 = u.edge.fuses0 ∧ edge.fuses1 = u.edge.fuses1 ∧ edge.variantU = u.edge.variantU)
    (ho : u.out <+: out) :
    Kept z { now := u.now, mem := mem, chan := chan, jobs := jobs, stands := stands, fab := fab, fire := fire, bank := bank, power := power, dict := dict,
             edge := edge, free := free, out := out, pending := u.pending } :=
  h.trans ⟨rfl, rfl, ho, he, fun hf => by rw [hc]; exact hf⟩

theorem Kept.ite {z a b : State} {c : Prop} [Decidable c] (ha : Kept z a) (hb : Kept z b) : Kept z (if c then a else b) := by
  split <;> assumption

theorem Kept.ite_fst {β : Type} {z : State} {a b : State × β} {c : Prop} [Decidable c] (ha : Kept z a.1) (hb : Kept z b.1) :
    Kept z (if c then a else b).1 := by split <;> assumption

theorem Kept.ite_snd {β : Type} {z : State} {a b : β × State} {c : Prop} [Decidable c] (ha : Kept z a.2) (hb : Kept z b.2) :
    Kept z (if c then a else b).2 := by split <;> assumption

theorem Kept.foldl {β : Type} {z : State} {f : State → β → State} (l : List β) (hf : ∀ a x, Kept z a → Kept z (f a x)) :
    ∀ {u : State}, Kept z u → Kept z (l.foldl f u) := by
  induction l with
  | nil => intro u h; exact h
  | cons x t ih => intro u h; exact ih (hf u x h)

/-- A fold that carries a state and a result. -/
theorem Kept.foldl_fst {β γ : Type} {z : State} {f : State × γ → β → State × γ} (l : List β)
    (hf : ∀ a x, Kept z a.1 → Kept z (f a x).1) : ∀ {u : State × γ}, Kept z u.1 → Kept z (l.foldl f u).1 := by
  induction l with
  | nil => intro u h; exact h
  | cons x t ih => intro u h; exact ih (hf u x h)

theorem Kept.foldl_snd {β γ : Type} {z : State} {f : γ × State → β → γ × State} (l : List β)
    (hf : ∀ a x, Kept z a.2 → Kept z (f a x).2) : ∀ {u : γ × State}, Kept z u.2 → Kept z (l.foldl f u).2 := by
  induction l with
  | nil => intro u h; exact h
  | cons x t ih => intro u h; exact ih (hf u x h)

theorem Kept.of_fst {β : Type} {z t : State} {r : β} {p : State × β} (e : p = (t, r)) (h : Kept z p.1) : Kept z t := by
  subst e; exact h

theorem Kept.of_snd {β : Type} {z t : State} {r : β} {p : β × State} (e : p = (r, t)) (h : Kept z p.2) : Kept z t := by
  subst e; exact h

theorem State.setOb_kept {z : State} (s : State) (key v : Nat) (hk : Kept z s) : Kept z (State.setOb s key v) := by
  unfold State.setOb
  repeat' (first
    | with_reducible assumption
    | with_reducible refine Kept.upd ?_ rfl ⟨rfl, rfl, rfl⟩ (List.prefix_refl _))

theorem State.clearOb_kept {z : State} (s : State) (key : Nat) (hk : Kept z s) : Kept z (State.clearOb s key) := by
  unfold State.clearOb
  exact Kept.upd hk rfl ⟨rfl, rfl, rfl⟩ (List.prefix_refl _)

theorem State.addOb_kept {z : State} (s : State) (key n : Nat) (hk : Kept z s) : Kept z (State.addOb s key n) := by
  unfold State.addOb
  repeat' (first
    | with_reducible assumption
    | with_reducible apply State.setOb_kept)

theorem State.bump_kept {z : State} (s : State) (key : Nat) (hk : Kept z s) : Kept z (State.bump s key) := by
  unfold State.bump
  repeat' (first
    | with_reducible assumption
    | with_reducible apply State.addOb_kept)

theorem State.setBit_kept {z : State} (s : State) (key bitNo : Nat) (v : Bool) (hk : Kept z s) : Kept z (State.setBit s key bitNo v) := by
  unfold State.setBit
  repeat' (first
    | with_reducible assumption
    | with_reducible apply State.setOb_kept)

theorem State.emit_kept {z : State} (s : State) (o : Out) (hk : Kept z s) : Kept z (s.emit o) :=
  hk.trans ⟨rfl, rfl, List.prefix_append _ _, ⟨rfl, rfl, rfl⟩, id⟩

theorem State.answerI3c_kept {z : State} (s : State) (o : Out) (hk : Kept z s) : Kept z (State.answerI3c s o) := by
  unfold State.answerI3c
  repeat' (first
    | with_reducible assumption
    | with_reducible apply State.emit_kept
    | split)

theorem State.msix_kept {z : State} (s : State) (vector : Nat) (hk : Kept z s) : Kept z (State.msix s vector) := by
  unfold State.msix
  repeat' (first
    | with_reducible assumption
    | with_reducible apply State.emit_kept
    | split
    | with_reducible refine Kept.upd ?_ rfl ⟨rfl, rfl, rfl⟩ (List.prefix_refl _))

theorem State.raise_kept {z : State} (s : State) (a : Alert) (hk : Kept z s) : Kept z (State.raise s a) := by
  unfold State.raise
  repeat' (first
    | with_reducible assumption
    | split
    | with_reducible refine Kept.upd ?_ rfl ⟨rfl, rfl, rfl⟩ (List.prefix_refl _))

theorem State.calm_kept {z : State} (s : State) (a : Alert) (hk : Kept z s) : Kept z (State.calm s a) := by
  unfold State.calm
  repeat' (first
    | with_reducible assumption
    | split
    | with_reducible refine Kept.upd ?_ rfl ⟨rfl, rfl, rfl⟩ (List.prefix_refl _))

theorem State.faultN_kept {z : State} (s : State) (c : FaultCause) (hk : Kept z s) : Kept z (State.faultN s c) := by
  unfold State.faultN
  repeat' (first
    | with_reducible assumption
    | split
    | with_reducible refine Kept.upd ?_ rfl ⟨rfl, rfl, rfl⟩ (List.prefix_refl _))

theorem State.relock_kept {z : State} (s : State) (c : Nat) (hk : Kept z s) : Kept z (State.relock s c) := by
  unfold State.relock
  repeat' (first
    | with_reducible assumption
    | split
    | with_reducible refine Kept.upd ?_ rfl ⟨rfl, rfl, rfl⟩ (List.prefix_refl _))

theorem State.ticked_kept {z : State} (s : State) (k : Nat) (hk : Kept z s) : Kept z (State.ticked s k) := by
  unfold State.ticked
  exact Kept.upd hk rfl ⟨rfl, rfl, rfl⟩ (List.prefix_refl _)

theorem State.send_kept {z : State} (s : State) (p : Packet) (hk : Kept z s) : Kept z (State.send s p) := by
  unfold State.send
  repeat' (first
    | with_reducible assumption
    | split
    | with_reducible refine Kept.upd ?_ rfl ⟨rfl, rfl, rfl⟩ (List.prefix_refl _))

theorem State.drawn_kept {z : State} (s : State) (n : Nat) (hk : Kept z s) : Kept z (State.drawn s n) := by
  unfold State.drawn
  repeat' (first
    | with_reducible assumption
    | split
    | with_reducible refine Kept.upd ?_ rfl ⟨rfl, rfl, rfl⟩ (List.prefix_refl _))

theorem State.setJob_kept {z : State} (s : State) (slot : Nat) (j : JobSt) (hk : Kept z s) : Kept z (State.setJob s slot j) := by
  unfold State.setJob
  repeat' (first
    | with_reducible assumption
    | split
    | with_reducible refine Kept.upd ?_ rfl ⟨rfl, rfl, rfl⟩ (List.prefix_refl _))

theorem State.modJob_kept {z : State} (s : State) (slot : Nat) (f : JobSt → JobSt) (hk : Kept z s) : Kept z (State.modJob s slot f) := by
  unfold State.modJob
  repeat' (first
    | with_reducible assumption
    | with_reducible apply State.setJob_kept)

theorem State.setStand_kept {z : State} (s : State) (n : Nat) (x : StandSt) (hk : Kept z s) : Kept z (State.setStand s n x) := by
  unfold State.setStand
  repeat' (first
    | with_reducible assumption
    | split
    | with_reducible refine Kept.upd ?_ rfl ⟨rfl, rfl, rfl⟩ (List.prefix_refl _))

theorem State.modStand_kept {z : State} (s : State) (n : Nat) (f : StandSt → StandSt) (hk : Kept z s) : Kept z (State.modStand s n f) := by
  unfold State.modStand
  repeat' (first
    | with_reducible assumption
    | with_reducible apply State.setStand_kept)

theorem State.loseRecord_kept {z : State} (s : State) (unit : Nat) (lost : ErrRec) (q : ErrQueue) (hk : Kept z s) : Kept z (State.loseRecord s unit lost q) := by
  unfold State.loseRecord
  repeat' (first
    | with_reducible assumption
    | with_reducible apply State.setOb_kept
    | with_reducible apply State.bump_kept
    | with_reducible apply State.raise_kept
    | split
    | with_reducible refine Kept.upd ?_ rfl ⟨rfl, rfl, rfl⟩ (List.prefix_refl _))

theorem State.enqueue_kept {z : State} (s : State) (unit : Nat) (r : ErrRec) (hk : Kept z s) : Kept z (State.enqueue s unit r) := by
  unfold State.enqueue
  repeat' (first
    | with_reducible assumption
    | with_reducible apply State.loseRecord_kept
    | split
    | with_reducible refine Kept.upd ?_ rfl ⟨rfl, rfl, rfl⟩ (List.prefix_refl _))

theorem State.sign_kept {z : State} (s : State) (r : ErrRec) (info : SigInfo) (hk : Kept z s) : Kept z (State.sign s r info) := by
  unfold State.sign
  repeat' (first
    | with_reducible assumption
    | with_reducible apply State.bump_kept
    | split
    | with_reducible refine Kept.upd ?_ rfl ⟨rfl, rfl, rfl⟩ (List.prefix_refl _))

theorem State.logAt_kept {z : State} (s : State) (unit : Nat) (r : ErrRec) (info : SigInfo) (hk : Kept z s) : Kept z (State.logAt s unit r info) := by
  unfold State.logAt
  repeat' (first
    | with_reducible assumption
    | with_reducible apply State.enqueue_kept
    | with_reducible apply State.sign_kept
    | split
    | with_reducible refine Kept.upd ?_ rfl ⟨rfl, rfl, rfl⟩ (List.prefix_refl _))

theorem State.log_kept {z : State} (s : State) (r : ErrRec) (hk : Kept z s) : Kept z (State.log s r) := by
  unfold State.log
  repeat' (first
    | with_reducible assumption
    | with_reducible apply State.logAt_kept)

theorem State.logStand_kept {z : State} (s : State) (n : Nat) (r : ErrRec) (info : SigInfo) (hk : Kept z s) : Kept z (State.logStand s n r info) := by
  unfold State.logStand
  repeat' (first
    | with_reducible assumption
    | with_reducible apply State.logAt_kept)

theorem State.logHalf_kept {z : State} (s : State) (h : Nat) (r : ErrRec) (hk : Kept z s) : Kept z (State.logHalf s h r) := by
  unfold State.logHalf
  repeat' (first
    | with_reducible assumption
    | with_reducible apply State.logAt_kept)

theorem State.unmappedAccess_kept {z : State} (s : State) (a : Nat) (r : ErrRec) (hk : Kept z s) : Kept z (State.unmappedAccess s a r) := by
  unfold State.unmappedAccess
  repeat' (first
    | with_reducible assumption
    | with_reducible apply State.bump_kept
    | with_reducible apply State.log_kept)

theorem State.listBad_kept {z : State} (s : State) (b : Nat) (hk : Kept z s) : Kept z (State.listBad s b) := by
  unfold State.listBad
  repeat' (first
    | with_reducible assumption
    | with_reducible apply State.loseRecord_kept
    | split
    | with_reducible refine Kept.upd ?_ rfl ⟨rfl, rfl, rfl⟩ (List.prefix_refl _))

theorem State.decideStand_kept {z : State} (s : State) (n fence bypass state : Nat) (hk : Kept z s) : Kept z (State.decideStand s n fence bypass state) := by
  unfold State.decideStand
  repeat' (first
    | with_reducible assumption
    | with_reducible apply State.modStand_kept)

theorem State.poke_kept {z : State} (s : State) (a : Nat) (data : List Byte) (hk : Kept z s) : Kept z (s.poke a data) :=
  hk.trans ⟨rfl, rfl, List.prefix_refl _, ⟨rfl, rfl, rfl⟩, fun h => cellsWrite_wf _ _ _ h⟩

theorem State.soil_kept {z : State} (s : State) (a n : Nat) (hk : Kept z s) : Kept z (State.soil s a n) := by
  unfold State.soil
  repeat' (first
    | with_reducible assumption
    | split
    | with_reducible refine Kept.upd ?_ rfl ⟨rfl, rfl, rfl⟩ (List.prefix_refl _))

theorem State.store_kept {z : State} (s : State) (a : Nat) (data : List Byte) (hk : Kept z s) : Kept z (State.store s a data) := by
  unfold State.store
  repeat' (first
    | with_reducible assumption
    | with_reducible apply State.poke_kept
    | with_reducible apply State.soil_kept)

theorem State.healBlock_kept {z : State} (s : State) (b : Nat) (hk : Kept z s) : Kept z (State.healBlock s b) := by
  unfold State.healBlock
  repeat' (first
    | with_reducible assumption
    | split
    | with_reducible refine Kept.upd ?_ rfl ⟨rfl, rfl, rfl⟩ (List.prefix_refl _))

theorem State.hostReadOn_kept {z : State} (s : State) (id b : Nat) (hk : Kept z s) : Kept z (State.hostReadOn s id b) := by
  unfold State.hostReadOn
  repeat' (first
    | with_reducible assumption
    | with_reducible apply State.emit_kept
    | split
    | with_reducible refine Kept.upd ?_ rfl ⟨rfl, rfl, rfl⟩ (List.prefix_refl _))

theorem State.giveTask_kept {z : State} (s : State) (uid : Nat) (id : BitVec 32) (b : Nat) (hk : Kept z s) : Kept z (State.giveTask s uid id b) := by
  unfold State.giveTask
  repeat' (first
    | with_reducible assumption
    | split
    | with_reducible refine Kept.upd ?_ rfl ⟨rfl, rfl, rfl⟩ (List.prefix_refl _))

theorem State.giveFetch_kept {z : State} (s : State) (uid b : Nat) (hk : Kept z s) : Kept z (State.giveFetch s uid b) := by
  unfold State.giveFetch
  repeat' (first
    | with_reducible assumption
    | split
    | with_reducible refine Kept.upd ?_ rfl ⟨rfl, rfl, rfl⟩ (List.prefix_refl _))

theorem State.unpause_kept {z : State} (s : State) (w : Nat × BitVec 32) (hk : Kept z s) : Kept z (State.unpause s w) := by
  unfold State.unpause
  repeat' (first
    | with_reducible assumption
    | split
    | with_reducible refine Kept.upd ?_ rfl ⟨rfl, rfl, rfl⟩ (List.prefix_refl _))

theorem State.noteCopy_kept {z : State} (s : State) (p : Packet) (hk : Kept z s) : Kept z (State.noteCopy s p) := by
  unfold State.noteCopy
  repeat' (first
    | with_reducible assumption
    | split
    | with_reducible refine Kept.upd ?_ rfl ⟨rfl, rfl, rfl⟩ (List.prefix_refl _))

theorem State.dropIn_kept {z : State} (s : State) (src xfer : Nat) (hk : Kept z s) : Kept z (State.dropIn s src xfer) := by
  unfold State.dropIn
  repeat' (first
    | with_reducible assumption
    | split
    | with_reducible refine Kept.upd ?_ rfl ⟨rfl, rfl, rfl⟩ (List.prefix_refl _))

theorem State.endIn_kept {z : State} (s : State) (x : InXfer) (code : Nat) (hk : Kept z s) : Kept z (State.endIn s x code) := by
  unfold State.endIn
  repeat' (first
    | with_reducible assumption
    | with_reducible apply State.send_kept
    | with_reducible apply State.dropIn_kept)

theorem State.endXfer_kept {z : State} (s : State) (src xfer code : Nat) (hk : Kept z s) : Kept z (State.endXfer s src xfer code) := by
  unfold State.endXfer
  repeat' (first
    | with_reducible assumption
    | with_reducible apply State.endIn_kept
    | split)

theorem State.sendDone_kept {z : State} (s : State) (src xfer : Nat) (hk : Kept z s) : Kept z (State.sendDone s src xfer) := by
  unfold State.sendDone
  repeat' (first
    | with_reducible assumption
    | with_reducible apply State.send_kept
    | with_reducible apply State.dropIn_kept
    | split)

theorem State.countIn_kept {z : State} (s : State) (p : Packet) (hk : Kept z s) : Kept z (State.countIn s p) := by
  unfold State.countIn
  repeat' (first
    | with_reducible assumption
    | split
    | with_reducible refine Kept.upd ?_ rfl ⟨rfl, rfl, rfl⟩ (List.prefix_refl _))

theorem State.access_kept {z : State} (s : State) (b : Nat) (full : Bool) (x : BlockAccess) (hk : Kept z s) : Kept z (s.access b full x) := by
  have hp : ∀ a l, Kept z (if full then s else s.store a l) := fun a l => Kept.ite hk (State.store_kept _ _ _ hk)
  unfold State.access
  cases x with
  | hostRead id => exact State.hostReadOn_kept _ _ _ hk
  | task uid id => exact State.giveTask_kept _ _ _ _ hk
  | fetch uid => exact State.giveFetch_kept _ _ _ hk
  | arrival a src xfer => exact State.sendDone_kept _ _ _ (hp _ _)
  | peer p a l =>
    have hq : ∀ u, Kept z u → Kept z (if u.partWaits p then u else (u.noteCopy p).countIn p) :=
      fun u h => Kept.ite h (State.countIn_kept _ _ (State.noteCopy_kept _ _ h))
    exact hq _ (hp a l)
  | _ => exact hp _ _

theorem State.mended_kept {z : State} (s : State) (b : Nat) (full : Bool) (hk : Kept z s) : Kept z (State.mended s b full) := by
  unfold State.mended
  split
  · exact State.healBlock_kept _ _ hk
  · exact Kept.foldl _ (fun _ _ h => State.unpause_kept _ _ h) (Kept.foldl _ (fun _ _ h => State.access_kept _ _ _ _ h)
      (Kept.upd (State.healBlock_kept _ _ hk) rfl ⟨rfl, rfl, rfl⟩ (List.prefix_refl _)))

theorem State.writeBlock_kept {z : State} (s : State) (b lo : Nat) (data : List Byte) (hk : Kept z s) : Kept z (State.writeBlock s b lo data).1 := by
  unfold State.writeBlock
  repeat' (first
    | with_reducible assumption
    | with_reducible apply State.store_kept
    | with_reducible apply State.mended_kept
    | split
    | with_reducible refine Kept.upd ?_ rfl ⟨rfl, rfl, rfl⟩ (List.prefix_refl _))

theorem State.writeRange_kept {z : State} (s : State) (a : Nat) (data : List Byte) (hk : Kept z s) : Kept z (State.writeRange s a data).1 := by
  unfold State.writeRange
  repeat' (first
    | with_reducible assumption
    | with_reducible apply State.writeBlock_kept
    | (with_reducible refine Kept.foldl_fst _ (fun _ _ _ => ?_) ?_))

theorem State.writeAll_kept {z : State} (s : State) (ws : List MemWrite) (hk : Kept z s) : Kept z (State.writeAll s ws).1 := by
  unfold State.writeAll
  repeat' (first
    | with_reducible assumption
    | with_reducible apply State.writeRange_kept
    | (with_reducible refine Kept.foldl_fst _ (fun _ _ _ => ?_) ?_))

theorem State.put_kept {z : State} (s : State) (a : Nat) (data : List Byte) (hk : Kept z s) : Kept z (State.put s a data) := by
  unfold State.put
  repeat' (first
    | with_reducible assumption
    | with_reducible apply State.writeRange_kept)

theorem State.hostWrite_kept {z : State} (s : State) (a : Nat) (data : List Byte) (hk : Kept z s) : Kept z (State.hostWrite s a data) := by
  unfold State.hostWrite
  repeat' (first
    | with_reducible assumption
    | with_reducible apply State.emit_kept)

theorem State.allocXfer_kept {z : State} (s : State) (hk : Kept z s) : Kept z (State.allocXfer s).2 := by
  unfold State.allocXfer
  repeat' (first
    | with_reducible assumption
    | split
    | with_reducible refine Kept.upd ?_ rfl ⟨rfl, rfl, rfl⟩ (List.prefix_refl _))

theorem State.track_kept {z : State} (s : State) (o : OutXfer) (hk : Kept z s) : Kept z (State.track s o) := by
  unfold State.track
  repeat' (first
    | with_reducible assumption
    | split
    | with_reducible refine Kept.upd ?_ rfl ⟨rfl, rfl, rfl⟩ (List.prefix_refl _))

theorem State.answer_kept {z : State} (s : State) (p : Packet) (kind : Nat) (payload : List Byte) (hk : Kept z s) : Kept z (State.answer s p kind payload) := by
  unfold State.answer
  repeat' (first
    | with_reducible assumption
    | with_reducible apply State.send_kept)

theorem State.answerError_kept {z : State} (s : State) (p : Packet) (code : Nat) (hk : Kept z s) : Kept z (State.answerError s p code) := by
  unfold State.answerError
  repeat' (first
    | with_reducible assumption
    | with_reducible apply State.answer_kept)

end Sys2Proof.Machine
end

