-- ==== Sys2Proof/Laws/KeptTasks.lean ====
section
/-! SUPPORT. The lemmas of `Kept` (Sys2Proof/Laws/Kept.lean) for the tree of a job, the life of a task, its start, and the stands. -/

namespace Sys2Proof.Machine

set_option Elab.async false

theorem State.sendRecord_kept {z : State} (s : State) (kind dest slot l first : Nat) (payload : Nat) (hk : Kept z s) : Kept z (State.sendRecord s kind dest slot l first payload) := by
  unfold State.sendRecord
  repeat' (first
    | with_reducible assumption
    | with_reducible apply State.send_kept
    | with_reducible apply State.allocXfer_kept)

theorem State.addVote_kept {z : State} (s : State) (slot n l i : Nat) (key : Nat × Nat) (v : Vote) (hk : Kept z s) :
    Kept z (s.addVote slot n l i key v) := by
  induction n generalizing s l i key v with
  | zero => exact hk
  | succ n ih =>
    unfold State.addVote
    dsimp only
    repeat' (first
      | with_reducible assumption
      | with_reducible apply ih
      | with_reducible apply State.bump_kept
      | with_reducible apply State.log_kept
      | with_reducible apply State.setJob_kept
      | with_reducible apply State.sendRecord_kept
      | split)

theorem State.passOn_kept {z : State} (s : State) (slot : Nat) (d : Decision) (hk : Kept z s) : Kept z (State.passOn s slot d) := by
  unfold State.passOn
  repeat' (first
    | with_reducible assumption
    | with_reducible apply State.sendRecord_kept
    | (with_reducible refine Kept.foldl _ (fun _ _ _ => ?_) ?_))

theorem State.sendFirebreak_kept {z : State} (s : State) (dest : Nat) (m : Firebreak) (hk : Kept z s) : Kept z (State.sendFirebreak s dest m) := by
  unfold State.sendFirebreak
  repeat' (first
    | with_reducible assumption
    | with_reducible apply State.send_kept
    | with_reducible apply State.allocXfer_kept)

theorem State.confirmTaint_kept {z : State} (s : State) (slot reason : Nat) (r : ErrRec) (info : SigInfo) (hk : Kept z s) : Kept z (State.confirmTaint s slot reason r info) := by
  unfold State.confirmTaint
  repeat' (first
    | with_reducible assumption
    | with_reducible apply State.addOb_kept
    | with_reducible apply State.setJob_kept
    | with_reducible apply State.modJob_kept
    | with_reducible apply State.logAt_kept
    | with_reducible apply State.sendRecord_kept
    | with_reducible apply State.sendFirebreak_kept
    | (with_reducible refine Kept.foldl _ (fun _ _ _ => ?_) ?_)
    | split)

theorem State.setChan_kept {z : State} (s : State) (h : Nat) (c : Chan) (hk : Kept z s) : Kept z (State.setChan s h c) := by
  unfold State.setChan
  repeat' (first
    | with_reducible assumption
    | with_reducible refine Kept.upd ?_ rfl ⟨rfl, rfl, rfl⟩ (List.prefix_refl _))

theorem State.modChan_kept {z : State} (s : State) (h : Nat) (f : Chan → Chan) (hk : Kept z s) : Kept z (State.modChan s h f) := by
  unfold State.modChan
  repeat' (first
    | with_reducible assumption
    | with_reducible apply State.setChan_kept
    | split)

theorem State.setTasks_kept {z : State} (s : State) (l : List Task) (hk : Kept z s) : Kept z (State.setTasks s l) := by
  unfold State.setTasks
  repeat' (first
    | with_reducible assumption
    | with_reducible refine Kept.upd ?_ rfl ⟨rfl, rfl, rfl⟩ (List.prefix_refl _))

theorem State.modTask_kept {z : State} (s : State) (uid : Nat) (t : BitVec 32) (f : Task → Task) (hk : Kept z s) : Kept z (State.modTask s uid t f) := by
  unfold State.modTask
  repeat' (first
    | with_reducible assumption
    | with_reducible apply State.setTasks_kept)

theorem State.writeRec_kept {z : State} (s : State) (h : Nat) (r : BitVec 512) (irq : Bool) (hk : Kept z s) : Kept z (State.writeRec s h r irq) := by
  unfold State.writeRec
  repeat' (first
    | with_reducible assumption
    | with_reducible apply State.msix_kept
    | with_reducible apply State.put_kept
    | with_reducible apply State.hostWrite_kept
    | with_reducible apply State.setChan_kept
    | split)

theorem State.emitRec_kept {z : State} (s : State) (h : Nat) (r : BitVec 512) (irq : Bool) (hk : Kept z s) : Kept z (State.emitRec s h r irq) := by
  unfold State.emitRec
  repeat' (first
    | with_reducible assumption
    | with_reducible apply State.setChan_kept
    | with_reducible apply State.writeRec_kept
    | split)

theorem State.flushHeld_kept {z : State} (s : State) (h n : Nat) (hk : Kept z s) : Kept z (s.flushHeld h n) := by
  induction n generalizing s with
  | zero => exact hk
  | succ n ih =>
    unfold State.flushHeld
    repeat' (first
      | with_reducible assumption
      | with_reducible apply ih
      | with_reducible apply State.writeRec_kept
      | with_reducible apply State.setChan_kept
      | split)

theorem State.resolve_kept {z : State} (s : State) (uid : Nat) (id : BitVec 32) (ok : Bool) (hk : Kept z s) : Kept z (State.resolve s uid id ok) := by
  unfold State.resolve
  repeat' (first
    | with_reducible assumption
    | with_reducible apply State.setTasks_kept)

theorem State.freeChan_kept {z : State} (s : State) (h : Nat) (hk : Kept z s) : Kept z (State.freeChan s h) := by
  unfold State.freeChan
  repeat' (first
    | with_reducible assumption
    | with_reducible apply State.setTasks_kept
    | split
    | with_reducible refine Kept.upd ?_ rfl ⟨rfl, rfl, rfl⟩ (List.prefix_refl _))

theorem State.flushAll_kept {z : State} (s : State) (hk : Kept z s) : Kept z (State.flushAll s) := by
  unfold State.flushAll
  repeat' (first
    | with_reducible assumption
    | with_reducible apply State.flushHeld_kept
    | with_reducible apply State.freeChan_kept
    | (with_reducible refine Kept.foldl _ (fun _ _ _ => ?_) ?_))

theorem State.leaveGroup_kept {z : State} (s : State) (t : Task) (hk : Kept z s) : Kept z (State.leaveGroup s t) := by
  unfold State.leaveGroup
  repeat' (first
    | with_reducible assumption
    | split
    | with_reducible refine Kept.upd ?_ rfl ⟨rfl, rfl, rfl⟩ (List.prefix_refl _))

theorem State.unsave_kept {z : State} (s : State) (t : Task) (hk : Kept z s) : Kept z (State.unsave s t) := by
  unfold State.unsave
  repeat' (first
    | with_reducible assumption
    | split
    | with_reducible refine Kept.upd ?_ rfl ⟨rfl, rfl, rfl⟩ (List.prefix_refl _))

theorem State.forget_kept {z : State} (s : State) (t : Task) (hk : Kept z s) : Kept z (State.forget s t) := by
  unfold State.forget
  repeat' (first
    | with_reducible assumption
    | with_reducible refine Kept.upd ?_ rfl ⟨rfl, rfl, rfl⟩ (List.prefix_refl _))

theorem State.finishCore_kept {z : State} (s : State) (t : Task) (status : BitVec 8) (hk : Kept z s) : Kept z (State.finishCore s t status) := by
  unfold State.finishCore
  repeat' (first
    | with_reducible assumption
    | with_reducible apply State.bump_kept
    | with_reducible apply State.modJob_kept
    | with_reducible apply State.modChan_kept
    | with_reducible apply State.setTasks_kept
    | with_reducible apply State.emitRec_kept
    | with_reducible apply State.resolve_kept
    | with_reducible apply State.freeChan_kept
    | with_reducible apply State.leaveGroup_kept
    | with_reducible apply State.unsave_kept
    | with_reducible apply Kept.ite
    | split)

theorem State.withdraw_kept {z : State} (s : State) (job step : Nat) (status : BitVec 8) (hk : Kept z s) : Kept z (State.withdraw s job step status) := by
  unfold State.withdraw
  repeat' (first
    | with_reducible assumption
    | with_reducible apply State.modChan_kept
    | with_reducible apply State.emitRec_kept
    | with_reducible apply Kept.ite
    | (with_reducible refine Kept.foldl _ (fun _ _ _ => ?_) ?_))

theorem State.abandonGen_kept {z : State} (s : State) (slot : Nat) (hk : Kept z s) : Kept z (State.abandonGen s slot) := by
  unfold State.abandonGen
  repeat' (first
    | with_reducible assumption
    | with_reducible apply State.bump_kept
    | with_reducible apply State.modJob_kept
    | split)

theorem State.failure_kept {z : State} (s : State) (hk : Kept z s) : Kept z (State.failure s) := by
  unfold State.failure
  repeat' (first
    | with_reducible assumption
    | with_reducible refine Kept.upd ?_ rfl ⟨rfl, rfl, rfl⟩ (List.prefix_refl _))

theorem State.holdPlots_kept {z : State} (s : State) (epoch slot : Nat) (hk : Kept z s) : Kept z (State.holdPlots s epoch slot) := by
  unfold State.holdPlots
  repeat' (first
    | with_reducible assumption
    | with_reducible apply State.modJob_kept
    | split)

theorem State.jobFaultIn_kept {z : State} (s : State) (slot step : Nat) (hk : Kept z s) : Kept z (State.jobFaultIn s slot step) := by
  unfold State.jobFaultIn
  repeat' (first
    | with_reducible assumption
    | with_reducible apply State.modJob_kept
    | with_reducible apply State.modChan_kept
    | with_reducible apply State.finishCore_kept
    | with_reducible apply State.withdraw_kept
    | with_reducible apply State.abandonGen_kept
    | with_reducible apply State.failure_kept
    | with_reducible apply Kept.ite
    | (with_reducible refine Kept.foldl _ (fun _ _ _ => ?_) ?_)
    | split)

theorem State.jobFault_kept {z : State} (s : State) (slot : Nat) (hk : Kept z s) : Kept z (State.jobFault s slot) := by
  unfold State.jobFault
  repeat' (first
    | with_reducible assumption
    | with_reducible apply State.jobFaultIn_kept)

theorem State.finish_kept {z : State} (s : State) (t : Task) (status : BitVec 8) (hk : Kept z s) : Kept z (State.finish s t status) := by
  unfold State.finish
  repeat' (first
    | with_reducible assumption
    | with_reducible apply State.modJob_kept
    | with_reducible apply State.log_kept
    | with_reducible apply State.confirmTaint_kept
    | with_reducible apply State.finishCore_kept
    | with_reducible apply State.jobFault_kept
    | with_reducible apply Kept.ite
    | split)

theorem State.spoil_kept {z : State} (s : State) (l : List (Nat × Nat)) (hk : Kept z s) : Kept z (State.spoil s l) := by
  unfold State.spoil
  repeat' (first
    | with_reducible assumption
    | with_reducible apply State.drawn_kept
    | with_reducible apply State.store_kept
    | (with_reducible refine Kept.foldl _ (fun _ _ _ => ?_) ?_))

theorem State.stop_kept {z : State} (s : State) (t : Task) (status : BitVec 8) (addr : Nat) (detail : Nat) (hk : Kept z s) : Kept z (State.stop s t status addr detail) := by
  unfold State.stop
  repeat' (first
    | with_reducible assumption
    | with_reducible apply State.modTask_kept
    | with_reducible apply State.leaveGroup_kept
    | with_reducible apply State.unsave_kept
    | with_reducible apply State.forget_kept)

theorem State.abort_kept {z : State} (s : State) (t : Task) (status : BitVec 8) (addr : Nat) (detail : Nat) (hk : Kept z s) : Kept z (State.abort s t status addr detail) := by
  unfold State.abort
  repeat' (first
    | with_reducible assumption
    | with_reducible apply State.spoil_kept
    | with_reducible apply State.stop_kept)

theorem State.fenceDecide_kept {z : State} (s : State) (n fence bypass state : Nat) (hk : Kept z s) : Kept z (State.fenceDecide s n fence bypass state) := by
  unfold State.fenceDecide
  try dsimp only
  repeat' (first
    | with_reducible assumption
    | with_reducible apply State.decideStand_kept
    | with_reducible apply State.abort_kept
    | split)

theorem State.standReset_kept {z : State} (s : State) (n : Nat) (hk : Kept z s) : Kept z (State.standReset s n) := by
  unfold State.standReset
  repeat' (first
    | with_reducible assumption
    | with_reducible apply State.modStand_kept
    | with_reducible apply State.logStand_kept
    | with_reducible apply State.fenceDecide_kept
    | split
    | dsimp only)

theorem State.countDetected_kept {z : State} (s : State) (k : BadKind) (stackNo : Nat) (hk : Kept z s) : Kept z (State.countDetected s k stackNo) := by
  unfold State.countDetected
  repeat' (first
    | with_reducible assumption
    | with_reducible apply State.bump_kept
    | split)

theorem State.permanentFault_kept {z : State} (s : State) (b : Nat) (r : ErrRec) (hk : Kept z s) : Kept z (State.permanentFault s b r) := by
  unfold State.permanentFault
  repeat' (first
    | with_reducible assumption
    | with_reducible apply State.logAt_kept
    | with_reducible apply State.fenceDecide_kept
    | split
    | with_reducible refine Kept.upd ?_ rfl ⟨rfl, rfl, rfl⟩ (List.prefix_refl _))

theorem State.detect_kept {z : State} (s : State) (b : Nat) (k : BadKind) (r : ErrRec) (hk : Kept z s) : Kept z (State.detect s b k r) := by
  unfold State.detect
  repeat' (first
    | with_reducible assumption
    | with_reducible apply State.logAt_kept
    | with_reducible apply State.listBad_kept
    | with_reducible apply State.countDetected_kept
    | with_reducible apply State.permanentFault_kept
    | split
    | with_reducible refine Kept.upd ?_ rfl ⟨rfl, rfl, rfl⟩ (List.prefix_refl _))

theorem State.meet_kept {z : State} (s : State) (b : Nat) (k : BadKind) (r : ErrRec) (hk : Kept z s) : Kept z (State.meet s b k r) := by
  unfold State.meet
  repeat' (first
    | with_reducible assumption
    | with_reducible apply State.detect_kept
    | split)

theorem State.ask_kept {z : State} (s : State) (dest addr job gen block : Nat) (hk : Kept z s) : Kept z (s.ask dest addr job gen block).2 := by
  unfold State.ask
  split
  · exact hk
  · exact State.send_kept _ _ (State.track_kept _ _ (State.allocXfer_kept _ hk))

theorem State.fetchFailed_kept {z : State} (s : State) (h addr : Nat) (hk : Kept z s) : Kept z (State.fetchFailed s h addr) := by
  unfold State.fetchFailed
  repeat' (first
    | with_reducible assumption
    | with_reducible apply State.bump_kept
    | with_reducible apply State.setChan_kept
    | with_reducible apply State.emitRec_kept
    | with_reducible apply State.resolve_kept
    | split)

theorem State.hostReadFails_kept {z : State} (s : State) (id : Nat) (hk : Kept z s) : Kept z (State.hostReadFails s id) := by
  unfold State.hostReadFails
  repeat' (first
    | with_reducible assumption
    | with_reducible apply State.emit_kept
    | split
    | with_reducible refine Kept.upd ?_ rfl ⟨rfl, rfl, rfl⟩ (List.prefix_refl _))

theorem State.repairFailed_kept {z : State} (s : State) (r : Repair) (hk : Kept z s) : Kept z (State.repairFailed s r) := by
  unfold State.repairFailed
  repeat' (first
    | with_reducible assumption
    | with_reducible apply State.bump_kept
    | with_reducible apply State.logAt_kept
    | with_reducible apply State.dropIn_kept
    | with_reducible apply State.endXfer_kept
    | with_reducible apply State.hostWrite_kept
    | with_reducible apply State.answerError_kept
    | with_reducible apply State.abort_kept
    | with_reducible apply State.fetchFailed_kept
    | with_reducible apply State.hostReadFails_kept
    | with_reducible apply State.ownWrite_kept
    | (with_reducible refine Kept.foldl _ (fun _ _ _ => ?_) ?_)
    | split
    | with_reducible refine Kept.upd ?_ rfl ⟨rfl, rfl, rfl⟩ (List.prefix_refl _))

theorem State.startRepair_kept {z : State} (s : State) (r : Repair) (hk : Kept z s) : Kept z (State.startRepair s r) := by
  unfold State.startRepair
  repeat' (first
    | with_reducible assumption
    | with_reducible apply State.meet_kept
    | with_reducible apply State.ask_kept
    | with_reducible apply State.repairFailed_kept
    | (with_reducible refine Kept.foldl_snd _ (fun _ _ _ => ?_) ?_)
    | with_reducible refine Kept.of_snd (by assumption) ?_
    | split
    | with_reducible refine Kept.upd ?_ rfl ⟨rfl, rfl, rfl⟩ (List.prefix_refl _))

theorem State.waitRepair_kept {z : State} (s : State) (b cls : Nat) (f : Repair → Repair) (hk : Kept z s) : Kept z (State.waitRepair s b cls f) := by
  unfold State.waitRepair
  repeat' (first
    | with_reducible assumption
    | with_reducible apply State.startRepair_kept
    | (with_reducible refine Kept.foldl_snd _ (fun _ _ _ => ?_) ?_)
    | with_reducible refine Kept.of_snd (by assumption) ?_
    | split
    | with_reducible refine Kept.upd ?_ rfl ⟨rfl, rfl, rfl⟩ (List.prefix_refl _))

theorem State.ownError_kept {z : State} (s : State) (b : Nat) (k : BadKind) (hk : Kept z s) : Kept z (State.ownError s b k) := by
  unfold State.ownError
  repeat' (first
    | with_reducible assumption
    | with_reducible apply State.detect_kept
    | with_reducible apply State.startRepair_kept
    | (with_reducible refine Kept.foldl_snd _ (fun _ _ _ => ?_) ?_)
    | with_reducible refine Kept.of_snd (by assumption) ?_
    | split
    | dsimp only)

theorem State.ownRead_kept {z : State} (s : State) (a n : Nat) (hk : Kept z s) : Kept z (State.ownRead s a n) := by
  unfold State.ownRead
  repeat' (first
    | with_reducible assumption
    | with_reducible apply State.ownError_kept
    | (with_reducible refine Kept.foldl _ (fun _ _ _ => ?_) ?_))

theorem State.blockWrite_kept {z : State} (s : State) (b lo : Nat) (data : List Byte) (x : BlockAccess) (hk : Kept z s) : Kept z (State.blockWrite s b lo data x).1 := by
  unfold State.blockWrite
  repeat' (first
    | with_reducible assumption
    | with_reducible apply State.writeBlock_kept
    | with_reducible apply State.meet_kept
    | with_reducible apply State.waitRepair_kept
    | with_reducible apply Kept.ite_fst
    | split)

theorem State.partsWrite_kept {z : State} (s : State) (a : Nat) (data : List Byte) (x : Nat → List Byte → BlockAccess) (hk : Kept z s) : Kept z (State.partsWrite s a data x).1 := by
  unfold State.partsWrite
  repeat' (first
    | with_reducible assumption
    | with_reducible apply State.blockWrite_kept
    | (with_reducible refine Kept.foldl_fst _ (fun _ _ _ => ?_) ?_))

theorem State.ownWrite_kept {z : State} (s : State) (a : Nat) (data : List Byte) (hk : Kept z s) : Kept z (State.ownWrite s a data) := by
  unfold State.ownWrite
  repeat' (first
    | with_reducible assumption
    | with_reducible apply State.partsWrite_kept)

theorem State.holdTask_kept {z : State} (s : State) (t : Task) (hk : Kept z s) : Kept z (State.holdTask s t) := by
  unfold State.holdTask
  repeat' (first
    | with_reducible assumption
    | with_reducible apply State.modTask_kept)

theorem State.holdRerun_kept {z : State} (s : State) (t : Task) (b : Nat) (hk : Kept z s) : Kept z (State.holdRerun s t b) := by
  unfold State.holdRerun
  repeat' (first
    | with_reducible assumption
    | with_reducible apply State.modTask_kept)

theorem State.taskWaits_kept {z : State} (s : State) (t : Task) (b : Nat) (hk : Kept z s) : Kept z (State.taskWaits s t b) := by
  unfold State.taskWaits
  repeat' (first
    | with_reducible assumption
    | with_reducible apply State.waitRepair_kept
    | split)

theorem State.taskFault_kept {z : State} (s : State) (t : Task) (b : Nat) (k : BadKind) (hk : Kept z s) : Kept z (State.taskFault s t b k) := by
  unfold State.taskFault
  repeat' (first
    | with_reducible assumption
    | with_reducible apply State.bump_kept
    | with_reducible apply State.logAt_kept
    | with_reducible apply State.abort_kept
    | with_reducible apply State.meet_kept
    | with_reducible apply State.waitRepair_kept
    | with_reducible apply State.holdTask_kept
    | with_reducible apply State.holdRerun_kept
    | with_reducible apply State.taskWaits_kept
    | split
    | dsimp only)

theorem State.serve_kept {z : State} (s : State) (slot n : Nat) (hk : Kept z s) : Kept z (State.serve s slot n) := by
  unfold State.serve
  repeat' (first
    | with_reducible assumption
    | with_reducible apply State.modStand_kept
    | with_reducible apply Kept.ite)

theorem State.taskBoundary_kept {z : State} (s : State) (t : Task) (n : Nat) (hk : Kept z s) : Kept z (State.taskBoundary s t n) := by
  unfold State.taskBoundary
  repeat' (first
    | with_reducible assumption
    | with_reducible apply State.drawn_kept
    | with_reducible apply State.modStand_kept
    | with_reducible apply Kept.ite
    | dsimp only)

theorem State.begin_kept {z : State} (s : State) (t : Task) (stands : List Nat) (hk : Kept z s) : Kept z (State.begin s t stands) := by
  unfold State.begin
  repeat' (first
    | with_reducible assumption
    | with_reducible apply State.modTask_kept
    | with_reducible apply State.serve_kept
    | with_reducible apply State.taskBoundary_kept
    | with_reducible apply Kept.ite
    | (with_reducible refine Kept.foldl _ (fun _ _ _ => ?_) ?_)
    | dsimp only)

theorem State.toGuest_kept {z : State} (s : State) (site op tag a n code : Nat) (blocks : List GuestBlock) (hk : Kept z s) : Kept z (State.toGuest s site op tag a n code blocks) := by
  unfold State.toGuest
  repeat' (first
    | with_reducible assumption
    | with_reducible apply State.emit_kept)

theorem State.answerGuest_kept {z : State} (s : State) (r : GuestReq) (op code : Nat) (blocks : List GuestBlock) (hk : Kept z s) : Kept z (State.answerGuest s r op code blocks) := by
  unfold State.answerGuest
  repeat' (first
    | with_reducible assumption
    | with_reducible apply State.answer_kept
    | with_reducible apply State.toGuest_kept
    | with_reducible apply Kept.ite
    | split
    | dsimp only)

theorem State.sendGuest_kept {z : State} (s : State) (r : GuestReq) (blocks : List GuestBlock) (hk : Kept z s) : Kept z (State.sendGuest s r blocks) := by
  unfold State.sendGuest
  repeat' (first
    | with_reducible assumption
    | with_reducible apply State.emit_kept
    | with_reducible apply State.modTask_kept
    | split
    | with_reducible refine Kept.upd ?_ rfl ⟨rfl, rfl, rfl⟩ (List.prefix_refl _))

theorem State.askGuest_kept {z : State} (s : State) (t : Task) (op a n : Nat) (blocks : List GuestBlock) (hk : Kept z s) : Kept z (State.askGuest s t op a n blocks) := by
  unfold State.askGuest
  repeat' (first
    | with_reducible assumption
    | with_reducible apply State.sendGuest_kept)

theorem State.pumpGuest_kept {z : State} (s : State) (site : Nat) (hk : Kept z s) : Kept z (State.pumpGuest s site) := by
  unfold State.pumpGuest
  repeat' (first
    | with_reducible assumption
    | with_reducible apply State.sendGuest_kept
    | split
    | with_reducible refine Kept.upd ?_ rfl ⟨rfl, rfl, rfl⟩ (List.prefix_refl _))

theorem State.deliver_kept {z : State} (s : State) (t : Task) (ws : List MemWrite) (hk : Kept z s) : Kept z (State.deliver s t ws) := by
  unfold State.deliver
  repeat' (first
    | with_reducible assumption
    | with_reducible apply State.store_kept
    | with_reducible apply State.put_kept
    | with_reducible apply State.askGuest_kept
    | with_reducible apply Kept.ite
    | (with_reducible refine Kept.foldl _ (fun _ _ _ => ?_) ?_))

theorem State.fetchGuest_kept {z : State} (s : State) (t : Task) (hk : Kept z s) : Kept z (State.fetchGuest s t) := by
  unfold State.fetchGuest
  repeat' (first
    | with_reducible assumption
    | with_reducible apply State.modTask_kept
    | with_reducible apply State.askGuest_kept
    | (with_reducible refine Kept.foldl _ (fun _ _ _ => ?_) ?_))

theorem State.noteUnchecked_kept {z : State} (s : State) (t : Task) (x : Nat × Nat) (hk : Kept z s) : Kept z (State.noteUnchecked s t x) := by
  unfold State.noteUnchecked
  repeat' (first
    | with_reducible assumption
    | with_reducible apply State.bump_kept
    | with_reducible apply State.logStand_kept)

theorem State.leaveTile_kept {z : State} (s : State) (x : Nat × Tile) (hk : Kept z s) : Kept z (State.leaveTile s x) := by
  unfold State.leaveTile
  repeat' (first
    | with_reducible assumption
    | with_reducible apply State.modStand_kept
    | with_reducible apply Kept.ite
    | dsimp only)

theorem State.counted_kept {z : State} (s : State) (r : Ran) (hk : Kept z s) : Kept z (State.counted s r) := by
  unfold State.counted
  repeat' (first
    | with_reducible assumption
    | with_reducible apply State.addOb_kept
    | with_reducible apply State.leaveTile_kept
    | with_reducible apply Kept.ite
    | (with_reducible refine Kept.foldl _ (fun _ _ _ => ?_) ?_)
    | dsimp only)

theorem State.tally_kept {z : State} (s : State) (t : Task) (r : Ran) (hk : Kept z s) : Kept z (State.tally s t r) := by
  unfold State.tally
  repeat' (first
    | with_reducible assumption
    | with_reducible apply State.noteUnchecked_kept
    | with_reducible apply State.counted_kept
    | with_reducible apply Kept.ite
    | (with_reducible refine Kept.foldl _ (fun _ _ _ => ?_) ?_)
    | dsimp only)

theorem State.engage_kept {z : State} (s : State) (n : Nat) (hk : Kept z s) : Kept z (State.engage s n) := by
  unfold State.engage
  repeat' (first
    | with_reducible assumption
    | with_reducible apply State.modStand_kept
    | with_reducible apply Kept.ite
    | dsimp only)

theorem State.ran_kept {z : State} (s : State) (t : Task) (r : Ran) (hk : Kept z s) : Kept z (State.ran s t r) := by
  unfold State.ran
  repeat' (first
    | with_reducible assumption
    | with_reducible apply State.hostWrite_kept
    | with_reducible apply State.modTask_kept
    | with_reducible apply State.deliver_kept
    | with_reducible apply State.tally_kept
    | with_reducible apply State.engage_kept
    | with_reducible apply Kept.ite
    | (with_reducible refine Kept.foldl _ (fun _ _ _ => ?_) ?_)
    | split
    | with_reducible refine Kept.upd ?_ rfl ⟨rfl, rfl, rfl⟩ (List.prefix_refl _)
    | dsimp only)

theorem State.ranAbort_kept {z : State} (s : State) (t : Task) (r : Ran) (st : BitVec 8) (a detail : Nat) (hk : Kept z s) : Kept z (State.ranAbort s t r st a detail) := by
  unfold State.ranAbort
  repeat' (first
    | with_reducible assumption
    | with_reducible apply State.put_kept
    | with_reducible apply State.modTask_kept
    | with_reducible apply State.spoil_kept
    | with_reducible apply State.stop_kept
    | with_reducible apply State.tally_kept
    | with_reducible apply Kept.ite
    | (with_reducible refine Kept.foldl _ (fun _ _ _ => ?_) ?_)
    | dsimp only)

theorem State.withEarly_kept {z : State} (s : State) (t : Task) (hk : Kept z s) : Kept z (State.withEarly s t) := by
  unfold State.withEarly
  repeat' (first
    | with_reducible assumption
    | with_reducible apply State.poke_kept
    | (with_reducible refine Kept.foldl _ (fun _ _ _ => ?_) ?_))

theorem State.start_kept {z : State} (s : State) (t : Task) (stands : List Nat) (run : State → Task → Ran) (hk : Kept z s) : Kept z (State.start s t stands run) := by
  unfold State.start
  repeat' (first
    | with_reducible assumption
    | with_reducible apply State.unmappedAccess_kept
    | with_reducible apply State.stop_kept
    | with_reducible apply State.abort_kept
    | with_reducible apply State.taskFault_kept
    | with_reducible apply State.begin_kept
    | with_reducible apply State.fetchGuest_kept
    | with_reducible apply State.counted_kept
    | with_reducible apply State.ran_kept
    | with_reducible apply State.ranAbort_kept
    | with_reducible apply State.withEarly_kept
    | with_reducible apply Kept.ite
    | (with_reducible refine Kept.foldl _ (fun _ _ _ => ?_) ?_)
    | split
    | dsimp only)

theorem State.startOn_kept {z : State} (s : State) (h : Nat) (id : BitVec 32) (p : Placement) (ok : Desc → Bool) (run : State → Task → Ran) (hk : Kept z s) : Kept z (State.startOn s h id p ok run) := by
  unfold State.startOn
  repeat' (first
    | with_reducible assumption
    | with_reducible apply State.start_kept
    | split)

theorem State.startBare_kept {z : State} (s : State) (h : Nat) (id : BitVec 32) (kind : Nat) (run : State → Task → Ran) (hk : Kept z s) : Kept z (State.startBare s h id kind run) := by
  unfold State.startBare
  repeat' (first
    | with_reducible assumption
    | with_reducible apply State.start_kept
    | split)

theorem State.learnClass_kept {z : State} (s : State) (t : Task) (hk : Kept z s) : Kept z (State.learnClass s t) := by
  unfold State.learnClass
  repeat' (first
    | with_reducible assumption
    | with_reducible apply State.drawn_kept
    | with_reducible apply State.modStand_kept
    | (with_reducible refine Kept.foldl _ (fun _ _ _ => ?_) ?_))

theorem State.release_kept {z : State} (s : State) (t : Task) (hk : Kept z s) : Kept z (State.release s t) := by
  unfold State.release
  repeat' (first
    | with_reducible assumption
    | with_reducible apply State.modStand_kept
    | (with_reducible refine Kept.foldl _ (fun _ _ _ => ?_) ?_))

theorem State.resetStands_kept {z : State} (s : State) (l : List Nat) (hk : Kept z s) : Kept z (State.resetStands s l) := by
  unfold State.resetStands
  repeat' (first
    | with_reducible assumption
    | with_reducible apply State.standReset_kept
    | (with_reducible refine Kept.foldl _ (fun _ _ _ => ?_) ?_))

theorem State.stallStand_kept {z : State} (s : State) (n : Nat) (t : Task) (hk : Kept z s) : Kept z (State.stallStand s n t) := by
  unfold State.stallStand
  repeat' (first
    | with_reducible assumption
    | with_reducible apply State.abort_kept
    | with_reducible apply State.standReset_kept)

theorem State.abandonChecks_kept {z : State} (s : State) (n : Nat) (hk : Kept z s) : Kept z (State.abandonChecks s n) := by
  unfold State.abandonChecks
  repeat' (first
    | with_reducible assumption
    | with_reducible apply State.bump_kept
    | with_reducible apply State.logStand_kept
    | (with_reducible refine Kept.foldl _ (fun _ _ _ => ?_) ?_)
    | with_reducible refine Kept.upd ?_ rfl ⟨rfl, rfl, rfl⟩ (List.prefix_refl _))

theorem State.dropTrio_kept {z : State} (s : State) (n : Nat) (hk : Kept z s) : Kept z (State.dropTrio s n) := by
  unfold State.dropTrio
  repeat' (first
    | with_reducible assumption
    | with_reducible apply State.fenceDecide_kept
    | (with_reducible refine Kept.foldl _ (fun _ _ _ => ?_) ?_)
    | split
    | with_reducible refine Kept.upd ?_ rfl ⟨rfl, rfl, rfl⟩ (List.prefix_refl _))

theorem State.stallUnits_kept {z : State} (s : State) (n : Nat) (hk : Kept z s) : Kept z (State.stallUnits s n) := by
  unfold State.stallUnits
  repeat' (first
    | with_reducible assumption
    | with_reducible apply State.abort_kept
    | (with_reducible refine Kept.foldl _ (fun _ _ _ => ?_) ?_))

theorem State.leaveSets_kept {z : State} (s : State) (n : Nat) (hk : Kept z s) : Kept z (State.leaveSets s n) := by
  unfold State.leaveSets
  repeat' (first
    | with_reducible assumption
    | with_reducible refine Kept.upd ?_ rfl ⟨rfl, rfl, rfl⟩ (List.prefix_refl _))

theorem State.endSaved_kept {z : State} (s : State) (n : Nat) (status : BitVec 8) (hk : Kept z s) : Kept z (State.endSaved s n status) := by
  unfold State.endSaved
  repeat' (first
    | with_reducible assumption
    | with_reducible apply State.abort_kept
    | (with_reducible refine Kept.foldl _ (fun _ _ _ => ?_) ?_)
    | split)

theorem State.checkFloor_kept {z : State} (s : State) (hk : Kept z s) : Kept z (State.checkFloor s) := by
  unfold State.checkFloor
  repeat' (first
    | with_reducible assumption
    | with_reducible apply State.raise_kept
    | with_reducible apply State.log_kept
    | split
    | with_reducible refine Kept.upd ?_ rfl ⟨rfl, rfl, rfl⟩ (List.prefix_refl _))

theorem State.fenceStand_kept {z : State} (s : State) (n reason : Nat) (hk : Kept z s) : Kept z (State.fenceStand s n reason) := by
  unfold State.fenceStand
  repeat' (first
    | with_reducible assumption
    | with_reducible apply State.setOb_kept
    | with_reducible apply State.modStand_kept
    | with_reducible apply State.logStand_kept
    | with_reducible apply State.abandonChecks_kept
    | with_reducible apply State.dropTrio_kept
    | with_reducible apply State.leaveSets_kept
    | with_reducible apply State.endSaved_kept
    | with_reducible apply State.checkFloor_kept)

theorem State.applyFence_kept {z : State} (s : State) (stand : Nat) (hk : Kept z s) : Kept z (State.applyFence s stand) := by
  unfold State.applyFence
  repeat' (first
    | with_reducible assumption
    | with_reducible apply State.setOb_kept
    | with_reducible apply State.modStand_kept
    | with_reducible apply State.logStand_kept
    | with_reducible apply State.fenceStand_kept
    | with_reducible apply Kept.ite
    | (with_reducible refine Kept.foldl _ (fun _ _ _ => ?_) ?_))

end Sys2Proof.Machine
end

