-- ==== Sys2Proof/Laws/KeptFabric.lean ====
section
/-! SUPPORT. The lemmas of `Kept` (Sys2Proof/Laws/Kept.lean) for packets, links, the tables of the fabric, forest paths, transfers and memory repair. -/

namespace Sys2Proof.Machine

set_option Elab.async false

theorem State.control_kept {z : State} (s : State) (dest : Nat) (c : Ctl) (hk : Kept z s) : Kept z (State.control s dest c) := by
  unfold State.control
  repeat' (first
    | with_reducible assumption
    | with_reducible apply State.send_kept)

theorem State.peerWrite_kept {z : State} (s : State) (dest job index sub : Nat) (data : List Byte) (ask : Option PeerAsk) (hk : Kept z s) : Kept z (State.peerWrite s dest job index sub data ask) := by
  unfold State.peerWrite
  repeat' (first
    | with_reducible assumption
    | with_reducible apply State.send_kept
    | with_reducible apply State.ask_kept
    | with_reducible refine Kept.upd ?_ rfl ⟨rfl, rfl, rfl⟩ (List.prefix_refl _))

theorem State.heard_kept {z : State} (s : State) (ep : Nat) (hk : Kept z s) : Kept z (State.heard s ep) := by
  unfold State.heard
  repeat' (first
    | with_reducible assumption
    | with_reducible apply State.calm_kept
    | split
    | with_reducible refine Kept.upd ?_ rfl ⟨rfl, rfl, rfl⟩ (List.prefix_refl _))

theorem State.setPort_kept {z : State} (s : State) (n : Nat) (p : Port) (hk : Kept z s) : Kept z (State.setPort s n p) := by
  unfold State.setPort
  repeat' (first
    | with_reducible assumption
    | with_reducible refine Kept.upd ?_ rfl ⟨rfl, rfl, rfl⟩ (List.prefix_refl _))

theorem State.modPort_kept {z : State} (s : State) (n : Nat) (f : Port → Port) (hk : Kept z s) : Kept z (State.modPort s n f) := by
  unfold State.modPort
  repeat' (first
    | with_reducible assumption
    | with_reducible apply State.setPort_kept)

theorem State.sendFlit_kept {z : State} (s : State) (n : Nat) (hk : Kept z s) : Kept z (State.sendFlit s n) := by
  unfold State.sendFlit
  repeat' (first
    | with_reducible assumption
    | with_reducible apply State.emit_kept
    | with_reducible apply State.setPort_kept)

theorem State.pumpFlits_kept {z : State} (s : State) (n : Nat) (flush : Bool) (k : Nat) (hk : Kept z s) : Kept z (s.pumpFlits n flush k) := by
  induction k generalizing s with
  | zero => exact hk
  | succ k ih =>
    unfold State.pumpFlits
    exact Kept.ite (ih _ (State.sendFlit_kept _ _ hk)) hk

theorem State.returnCredits_kept {z : State} (s : State) (n vc k : Nat) (hk : Kept z s) : Kept z (State.returnCredits s n vc k) := by
  unfold State.returnCredits
  exact Kept.ite hk (State.pumpFlits_kept _ _ _ _ (State.modPort_kept _ _ _ hk))

theorem State.unbuffer_kept {z : State} (s : State) (p : Packet) (hk : Kept z s) : Kept z (State.unbuffer s p) := by
  unfold State.unbuffer
  repeat' (first
    | with_reducible assumption
    | with_reducible apply State.modPort_kept
    | with_reducible apply State.returnCredits_kept
    | split
    | with_reducible refine Kept.upd ?_ rfl ⟨rfl, rfl, rfl⟩ (List.prefix_refl _))

theorem State.seePace_kept {z : State} (s : State) (p : Packet) (hk : Kept z s) : Kept z (State.seePace s p) := by
  unfold State.seePace
  repeat' (first
    | with_reducible assumption
    | with_reducible apply State.modJob_kept
    | split)

theorem State.seeTaint_kept {z : State} (s : State) (p : Packet) (hk : Kept z s) : Kept z (State.seeTaint s p) := by
  unfold State.seeTaint
  repeat' (first
    | with_reducible assumption
    | with_reducible apply State.bump_kept
    | with_reducible apply State.modJob_kept
    | split)

theorem State.receive_kept {z : State} (s : State) (p : Packet) (kinds : List Nat) (f : State → State)
    (hf : ∀ a, Kept z a → Kept z (f a)) (hk : Kept z s) : Kept z (s.receive p kinds f) := by
  unfold State.receive
  dsimp only
  repeat' (first
    | with_reducible assumption
    | with_reducible apply hf
    | with_reducible apply State.unbuffer_kept
    | with_reducible apply State.heard_kept
    | with_reducible apply State.seePace_kept
    | with_reducible apply State.seeTaint_kept
    | with_reducible apply State.log_kept
    | split)

theorem State.startLaunch_kept {z : State} (s : State) (l : Launch) (hk : Kept z s) : Kept z (State.startLaunch s l) := by
  unfold State.startLaunch
  repeat' (first
    | with_reducible assumption
    | with_reducible apply State.allocXfer_kept
    | with_reducible apply State.track_kept
    | with_reducible refine Kept.upd ?_ rfl ⟨rfl, rfl, rfl⟩ (List.prefix_refl _))

theorem State.pumpLaunches_kept {z : State} (n : Nat) (s : State) (hk : Kept z s) : Kept z (State.pumpLaunches n s) := by
  induction n generalizing s with
  | zero => exact hk
  | succ n ih =>
    unfold State.pumpLaunches
    split
    · exact hk
    · split
      · exact ih _ (State.startLaunch_kept _ _ (Kept.upd hk rfl ⟨rfl, rfl, rfl⟩ (List.prefix_refl _)))
      · exact hk

theorem State.launch_kept {z : State} (s : State) (dest job : Nat) (use : XferUse) (ps : List Packet) (hk : Kept z s) : Kept z (State.launch s dest job use ps) := by
  unfold State.launch
  repeat' (first
    | with_reducible assumption
    | with_reducible apply State.pumpLaunches_kept
    | with_reducible refine Kept.upd ?_ rfl ⟨rfl, rfl, rfl⟩ (List.prefix_refl _))

theorem State.askPeer_kept {z : State} (s : State) (slot dest job sub : Nat) (value : Nat) (ask : PeerAsk) (hk : Kept z s) : Kept z (State.askPeer s slot dest job sub value ask) := by
  unfold State.askPeer
  repeat' (first
    | with_reducible assumption
    | with_reducible apply State.modJob_kept
    | with_reducible apply State.ask_kept
    | with_reducible apply State.peerWrite_kept)

theorem State.sendSlots_kept {z : State} (s : State) (slot : Nat) (hk : Kept z s) : Kept z (State.sendSlots s slot) := by
  unfold State.sendSlots
  repeat' (first
    | with_reducible assumption
    | with_reducible apply State.modJob_kept
    | with_reducible apply State.askPeer_kept
    | (with_reducible refine Kept.foldl _ (fun _ _ _ => ?_) ?_)
    | split)

theorem State.liveCopies_kept {z : State} (s : State) (slot st : Nat) (hk : Kept z s) : Kept z (State.liveCopies s slot st) := by
  unfold State.liveCopies
  repeat' (first
    | with_reducible assumption
    | with_reducible apply State.modJob_kept
    | with_reducible apply State.ownRead_kept
    | with_reducible apply State.launch_kept
    | with_reducible apply State.sendSlots_kept
    | (with_reducible refine Kept.foldl _ (fun _ _ _ => ?_) ?_)
    | split)

theorem State.liveCopyDone_kept {z : State} (s : State) (slot : Nat) (ok : Bool) (hk : Kept z s) : Kept z (State.liveCopyDone s slot ok) := by
  unfold State.liveCopyDone
  repeat' (first
    | with_reducible assumption
    | with_reducible apply State.modJob_kept
    | with_reducible apply State.sendSlots_kept
    | split
    | dsimp only)

theorem State.zero_kept {z : State} (s : State) (a n : Nat) (hk : Kept z s) : Kept z (State.zero s a n) := by
  unfold State.zero
  repeat' (first
    | with_reducible assumption
    | with_reducible apply State.put_kept)

theorem State.startGen_kept {z : State} (s : State) (slot st : Nat) (hk : Kept z s) : Kept z (State.startGen s slot st) := by
  unfold State.startGen
  repeat' (first
    | with_reducible assumption
    | with_reducible apply State.modJob_kept
    | with_reducible apply State.abandonGen_kept
    | with_reducible apply State.zero_kept
    | with_reducible apply Kept.ite
    | (with_reducible refine Kept.foldl _ (fun _ _ _ => ?_) ?_))

theorem State.genDecided_kept {z : State} (s : State) (slot st dec : Nat) (loss : BitVec 32) (hk : Kept z s) : Kept z (State.genDecided s slot st dec loss) := by
  unfold State.genDecided
  repeat' (first
    | with_reducible assumption
    | with_reducible apply State.modJob_kept
    | with_reducible apply State.startGen_kept
    | with_reducible apply Kept.ite)

theorem State.copySet_kept {z : State} (s : State) (slot job : Nat) (g : Gen) (e : BankSet) (hk : Kept z s) : Kept z (State.copySet s slot job g e) := by
  unfold State.copySet
  repeat' (first
    | with_reducible assumption
    | with_reducible apply State.modJob_kept
    | with_reducible apply State.put_kept
    | with_reducible apply State.launch_kept
    | with_reducible apply State.askPeer_kept
    | (with_reducible refine Kept.foldl _ (fun _ _ _ => ?_) ?_)
    | split
    | dsimp only)

theorem State.copyGen_kept {z : State} (s : State) (slot st : Nat) (hk : Kept z s) : Kept z (State.copyGen s slot st) := by
  unfold State.copyGen
  repeat' (first
    | with_reducible assumption
    | with_reducible apply State.modJob_kept
    | with_reducible apply State.abandonGen_kept
    | with_reducible apply State.ownRead_kept
    | with_reducible apply State.copySet_kept
    | (with_reducible refine Kept.foldl _ (fun _ _ _ => ?_) ?_)
    | split)

theorem State.foldInto_kept {z : State} (s : State) (slot set addr : Nat) (p : Packet) (hk : Kept z s) : Kept z (State.foldInto s slot set addr p) := by
  unfold State.foldInto
  repeat' (first
    | with_reducible assumption
    | with_reducible apply State.modJob_kept
    | with_reducible apply State.put_kept
    | with_reducible apply State.ownRead_kept
    | (with_reducible refine Kept.foldl _ (fun _ _ _ => ?_) ?_)
    | split)

theorem State.sendGenComplete_kept {z : State} (s : State) (slot g next interval : Nat) (hk : Kept z s) : Kept z (State.sendGenComplete s slot g next interval) := by
  unfold State.sendGenComplete
  repeat' (first
    | with_reducible assumption
    | with_reducible apply State.peerWrite_kept
    | (with_reducible refine Kept.foldl _ (fun _ _ _ => ?_) ?_))

theorem State.genCompleted_kept {z : State} (s : State) (slot g next interval : Nat) (hk : Kept z s) : Kept z (State.genCompleted s slot g next interval) := by
  unfold State.genCompleted
  repeat' (first
    | with_reducible assumption
    | with_reducible apply State.setOb_kept
    | with_reducible apply State.bump_kept
    | with_reducible apply State.modJob_kept
    | with_reducible apply State.abandonGen_kept
    | with_reducible apply Kept.ite)

theorem State.rootComplete_kept {z : State} (s : State) (slot : Nat) (g : Gen) (failures cost : Nat) (hk : Kept z s) : Kept z (State.rootComplete s slot g failures cost) := by
  unfold State.rootComplete
  repeat' (first
    | with_reducible assumption
    | with_reducible apply State.sendGenComplete_kept
    | with_reducible apply State.genCompleted_kept)

theorem State.addDone_kept {z : State} (s : State) (slot n l i : Nat) (d : Nat × Nat × Nat) (hk : Kept z s) :
    Kept z (s.addDone slot n l i d) := by
  induction n generalizing s l i d with
  | zero => exact hk
  | succ n ih =>
    unfold State.addDone
    dsimp only
    repeat' (first
      | with_reducible assumption
      | with_reducible apply ih
      | with_reducible apply State.modJob_kept
      | with_reducible apply State.peerWrite_kept
      | with_reducible apply State.rootComplete_kept
      | split)

theorem State.sendGenDone_kept {z : State} (s : State) (slot : Nat) (g : Gen) (hk : Kept z s) : Kept z (State.sendGenDone s slot g) := by
  unfold State.sendGenDone
  repeat' (first
    | with_reducible assumption
    | with_reducible apply State.peerWrite_kept
    | with_reducible apply State.addDone_kept
    | (with_reducible refine Kept.foldl _ (fun _ _ _ => ?_) ?_)
    | split
    | dsimp only)

theorem State.readCommits_kept {z : State} (s : State) (slot g : Nat) (hk : Kept z s) : Kept z (State.readCommits s slot g) := by
  unfold State.readCommits
  repeat' (first
    | with_reducible assumption
    | with_reducible apply State.ownRead_kept
    | (with_reducible refine Kept.foldl _ (fun _ _ _ => ?_) ?_))

theorem State.verifyRestore_kept {z : State} (s : State) (slot dec : Nat) (loss : BitVec 32) (hk : Kept z s) : Kept z (State.verifyRestore s slot dec loss) := by
  unfold State.verifyRestore
  repeat' (first
    | with_reducible assumption
    | with_reducible apply State.setOb_kept
    | with_reducible apply State.bump_kept
    | with_reducible apply State.raise_kept
    | with_reducible apply State.calm_kept
    | with_reducible apply State.modJob_kept
    | with_reducible apply State.jobFault_kept
    | with_reducible apply State.readCommits_kept
    | split
    | dsimp only)

theorem State.modTodo_kept {z : State} (s : State) (slot : Nat) (f : Fetch → List Fetch) (hk : Kept z s) : Kept z (State.modTodo s slot f) := by
  unfold State.modTodo
  repeat' (first
    | with_reducible assumption
    | with_reducible apply State.modJob_kept)

theorem State.restoreRegion_kept {z : State} (s : State) (slot from_ g : Nat) (e : BankSet) (r : Region) (off : Nat) (eps : List Nat) (hk : Kept z s) : Kept z (State.restoreRegion s slot from_ g e r off eps) := by
  unfold State.restoreRegion
  repeat' (first
    | with_reducible assumption
    | with_reducible apply State.modJob_kept
    | with_reducible apply State.put_kept
    | with_reducible apply State.ownRead_kept
    | (with_reducible refine Kept.foldl _ (fun _ _ _ => ?_) ?_)
    | split
    | dsimp only)

theorem State.restoreStage_kept {z : State} (s : State) (slot stage : Nat) (r : Restore) (hk : Kept z s) : Kept z (State.restoreStage s slot stage r) := by
  unfold State.restoreStage
  repeat' (first
    | with_reducible assumption
    | with_reducible apply State.modJob_kept
    | with_reducible apply State.restoreRegion_kept
    | with_reducible apply State.stage_kept
    | (with_reducible refine Kept.foldl _ (fun _ _ _ => ?_) ?_))

theorem State.restoreHead_kept {z : State} (s : State) (slot h : Nat) (hk : Kept z s) : Kept z (State.restoreHead s slot h) := by
  unfold State.restoreHead
  repeat' (first
    | with_reducible assumption
    | with_reducible apply State.modJob_kept
    | with_reducible apply State.restoreStage_kept
    | (with_reducible refine Kept.foldl _ (fun _ _ _ => ?_) ?_)
    | split
    | dsimp only)

theorem State.respond_kept {z : State} (s : State) (v : Via) (m : DictMsg) (r : Reply) (hk : Kept z s) : Kept z (State.respond s v m r) := by
  unfold State.respond
  repeat' (first
    | with_reducible assumption
    | with_reducible apply State.bump_kept
    | with_reducible apply State.emit_kept
    | with_reducible apply State.answerI3c_kept
    | with_reducible apply State.msix_kept
    | with_reducible apply State.send_kept
    | split
    | with_reducible refine Kept.upd ?_ rfl ⟨rfl, rfl, rfl⟩ (List.prefix_refl _))

theorem State.dropDict_kept {z : State} (s : State) (p : Packet) (hk : Kept z s) : Kept z (State.dropDict s p) := by
  unfold State.dropDict
  repeat' (first
    | with_reducible assumption
    | with_reducible apply State.log_kept
    | with_reducible apply State.unbuffer_kept)

theorem State.takeRequest_kept {z : State} (s : State) (v : Via) (hk : Kept z s) : Kept z (State.takeRequest s v) := by
  unfold State.takeRequest
  repeat' (first
    | with_reducible assumption
    | with_reducible apply State.bump_kept
    | with_reducible apply State.heard_kept
    | with_reducible apply State.unbuffer_kept
    | with_reducible apply State.seePace_kept
    | with_reducible apply Kept.ite
    | split)

theorem State.enterPort_kept {z : State} (s : State) (n st cause : Nat) (hk : Kept z s) : Kept z (State.enterPort s n st cause) := by
  unfold State.enterPort
  repeat' (first
    | with_reducible assumption
    | with_reducible apply State.setOb_kept
    | with_reducible apply State.modPort_kept
    | with_reducible apply Kept.ite)

theorem State.pumpRestore_kept {z : State} (s : State) (slot n : Nat) (hk : Kept z s) : Kept z (s.pumpRestore slot n) := by
  induction n generalizing s with
  | zero => exact hk
  | succ n ih =>
    unfold State.pumpRestore
    dsimp only
    repeat' (first
      | with_reducible assumption
      | with_reducible apply ih
      | with_reducible apply State.setOb_kept
      | with_reducible apply State.bump_kept
      | with_reducible apply State.modTodo_kept
      | with_reducible apply State.modJob_kept
      | with_reducible apply State.restoreHead_kept
      | with_reducible apply State.put_kept
      | with_reducible apply State.ownRead_kept
      | with_reducible apply State.send_kept
      | with_reducible apply State.track_kept
      | with_reducible apply State.allocXfer_kept
      | split)

theorem State.restoreDone_kept {z : State} (s : State) (slot : Nat) (r : Restore) (hk : Kept z s) : Kept z (State.restoreDone s slot r) := by
  unfold State.restoreDone
  repeat' (first
    | with_reducible assumption
    | with_reducible apply State.setOb_kept
    | with_reducible apply State.modJob_kept)

theorem State.runRestore_kept {z : State} (s : State) (slot : Nat) (hk : Kept z s) : Kept z (s.runRestore slot) := by
  unfold State.runRestore
  generalize 4 = n
  induction n generalizing s with
  | zero => exact hk
  | succ n ih =>
    have h : Kept z (s.pumpRestore slot (s.restoreFuel slot)) := State.pumpRestore_kept _ _ _ hk
    unfold State.runStages
    dsimp only
    split
    · exact h
    · split
      · exact ih _ h
      · split
        · exact h
        · split
          · exact ih _ (State.restoreStage_kept _ _ _ _ h)
          · exact State.restoreDone_kept _ _ _ h

theorem State.runRestores_kept {z : State} (s : State) (hk : Kept z s) : Kept z (State.runRestores s) := by
  unfold State.runRestores
  repeat' (first
    | with_reducible assumption
    | with_reducible apply State.runRestore_kept
    | (with_reducible refine Kept.foldl _ (fun _ _ _ => ?_) ?_))

theorem State.settleXfer_kept {z : State} (s : State) (src xfer : Nat) (ok : Bool) (hk : Kept z s) : Kept z (State.settleXfer s src xfer ok) := by
  unfold State.settleXfer
  repeat' (first
    | with_reducible assumption
    | with_reducible apply State.modTask_kept
    | with_reducible apply State.abandonGen_kept
    | with_reducible apply State.abort_kept
    | with_reducible apply State.pumpLaunches_kept
    | with_reducible apply State.liveCopyDone_kept
    | with_reducible apply State.modTodo_kept
    | split
    | with_reducible refine Kept.upd ?_ rfl ⟨rfl, rfl, rfl⟩ (List.prefix_refl _))

theorem State.xferAnswer_kept {z : State} (s : State) (src xfer : Nat) (ok : Bool) (hk : Kept z s) : Kept z (State.xferAnswer s src xfer ok) := by
  unfold State.xferAnswer
  repeat' (first
    | with_reducible assumption
    | with_reducible apply State.runRestores_kept
    | with_reducible apply State.settleXfer_kept)

theorem State.noRoute_kept {z : State} (s : State) (p : Packet) (hk : Kept z s) : Kept z (State.noRoute s p) := by
  unfold State.noRoute
  repeat' (first
    | with_reducible assumption
    | with_reducible apply State.answerError_kept
    | with_reducible apply State.xferAnswer_kept
    | with_reducible apply Kept.ite)

theorem State.leaveUp_kept {z : State} (s : State) (n : Nat) (hk : Kept z s) : Kept z (State.leaveUp s n) := by
  unfold State.leaveUp
  repeat' (first
    | with_reducible assumption
    | with_reducible apply State.modPort_kept
    | with_reducible apply State.noRoute_kept
    | (with_reducible refine Kept.foldl _ (fun _ _ _ => ?_) ?_)
    | with_reducible refine Kept.upd ?_ rfl ⟨rfl, rfl, rfl⟩ (List.prefix_refl _))

theorem State.lengthen_kept {z : State} (s : State) (n : Nat) (hk : Kept z s) : Kept z (State.lengthen s n) := by
  unfold State.lengthen
  repeat' (first
    | with_reducible assumption
    | with_reducible apply State.modPort_kept)

theorem State.backoff_kept {z : State} (s : State) (n : Nat) (hk : Kept z s) : Kept z (State.backoff s n) := by
  unfold State.backoff
  repeat' (first
    | with_reducible assumption
    | with_reducible apply State.enterPort_kept
    | with_reducible apply State.lengthen_kept)

theorem State.countFlap_kept {z : State} (s : State) (n : Nat) (hk : Kept z s) : Kept z (State.countFlap s n) := by
  unfold State.countFlap
  repeat' (first
    | with_reducible assumption
    | with_reducible apply State.bump_kept
    | with_reducible apply State.log_kept
    | with_reducible apply State.modPort_kept
    | with_reducible apply State.leaveUp_kept)

theorem State.flap_kept {z : State} (s : State) (n : Nat) (hk : Kept z s) : Kept z (State.flap s n) := by
  unfold State.flap
  repeat' (first
    | with_reducible assumption
    | with_reducible apply State.enterPort_kept
    | with_reducible apply State.lengthen_kept
    | with_reducible apply State.backoff_kept
    | with_reducible apply State.countFlap_kept
    | split
    | dsimp only)

theorem State.train_kept {z : State} (s : State) (n : Nat) (hk : Kept z s) : Kept z (State.train s n) := by
  unfold State.train
  repeat' (first
    | with_reducible assumption
    | with_reducible apply State.enterPort_kept
    | with_reducible apply Kept.ite)

theorem State.enablePort_kept {z : State} (s : State) (n v : Nat) (hk : Kept z s) : Kept z (State.enablePort s n v) := by
  unfold State.enablePort
  repeat' (first
    | with_reducible assumption
    | with_reducible apply State.setOb_kept
    | with_reducible apply State.enterPort_kept
    | with_reducible apply State.leaveUp_kept
    | with_reducible apply State.train_kept
    | with_reducible apply Kept.ite)

theorem State.reenablePort_kept {z : State} (s : State) (n : Nat) (hk : Kept z s) : Kept z (State.reenablePort s n) := by
  unfold State.reenablePort
  repeat' (first
    | with_reducible assumption
    | with_reducible apply State.train_kept
    | with_reducible apply Kept.ite)

theorem State.retrain_kept {z : State} (s : State) (n : Nat) (hk : Kept z s) : Kept z (State.retrain s n) := by
  unfold State.retrain
  repeat' (first
    | with_reducible assumption
    | with_reducible apply State.enterPort_kept
    | with_reducible apply State.lengthen_kept
    | with_reducible apply State.countFlap_kept
    | with_reducible apply State.train_kept
    | split
    | dsimp only)

theorem State.comeUp_kept {z : State} (s : State) (n ep : Nat) (advertised : List Nat) (hk : Kept z s) : Kept z (State.comeUp s n ep advertised) := by
  unfold State.comeUp
  repeat' (first
    | with_reducible assumption
    | with_reducible apply State.setOb_kept
    | with_reducible apply State.relock_kept
    | with_reducible apply State.heard_kept
    | with_reducible apply State.modPort_kept
    | with_reducible apply State.enterPort_kept
    | split)

theorem State.replay_kept {z : State} (s : State) (n lastGood : Nat) (hk : Kept z s) : Kept z (State.replay s n lastGood) := by
  unfold State.replay
  repeat' (first
    | with_reducible assumption
    | with_reducible apply State.addOb_kept
    | with_reducible apply State.emit_kept
    | with_reducible apply State.setPort_kept
    | with_reducible apply State.flap_kept
    | (with_reducible refine Kept.foldl _ (fun _ _ _ => ?_) ?_)
    | split
    | dsimp only)

theorem State.unpack_kept {z : State} (s : State) (n : Nat) (p : Packet) (hk : Kept z s) : Kept z (State.unpack s n p) := by
  unfold State.unpack
  repeat' (first
    | with_reducible assumption
    | with_reducible apply State.modPort_kept
    | with_reducible apply State.returnCredits_kept
    | split
    | with_reducible refine Kept.upd ?_ rfl ⟨rfl, rfl, rfl⟩ (List.prefix_refl _))

theorem State.takeData_kept {z : State} (s : State) (port : Nat) (f : Flit) (hk : Kept z s) : Kept z (State.takeData s port f) := by
  unfold State.takeData
  repeat' (first
    | with_reducible assumption
    | with_reducible apply State.modPort_kept
    | with_reducible apply State.unpack_kept
    | (with_reducible refine Kept.foldl _ (fun _ _ _ => ?_) ?_)
    | split)

theorem State.answerFlit_kept {z : State} (s : State) (port : Nat) (f : Flit) (hk : Kept z s) : Kept z (s.answerFlit port f) := by
  unfold State.answerFlit
  exact Kept.ite (State.replay_kept _ _ _ hk) (State.pumpFlits_kept _ _ _ _ hk)

theorem State.noteWait_kept {z : State} (s : State) (n : Nat) (p : Packet) (hk : Kept z s) : Kept z (State.noteWait s n p) := by
  unfold State.noteWait
  repeat' (first
    | with_reducible assumption
    | with_reducible apply State.modPort_kept
    | split)

theorem State.sentTo_kept {z : State} (s : State) (ep : Nat) (hk : Kept z s) : Kept z (State.sentTo s ep) := by
  unfold State.sentTo
  repeat' (first
    | with_reducible assumption
    | split
    | with_reducible refine Kept.upd ?_ rfl ⟨rfl, rfl, rfl⟩ (List.prefix_refl _))

theorem State.onPort_kept {z : State} (s : State) (n : Nat) (p : Packet) (hk : Kept z s) : Kept z (s.onPort n p) := by
  unfold State.onPort
  exact State.pumpFlits_kept _ _ _ _ (State.emit_kept _ _ (State.sentTo_kept _ _ (State.sentTo_kept _ _ (State.modPort_kept _ _ _ hk))))

theorem State.hopOn_kept {z : State} (s : State) (n port : Nat) (p : Packet) (vc : Nat) (hk : Kept z s) : Kept z (State.hopOn s n port p vc) := by
  unfold State.hopOn
  repeat' (first
    | with_reducible assumption
    | with_reducible apply State.unbuffer_kept
    | with_reducible apply State.onPort_kept
    | with_reducible refine Kept.upd ?_ rfl ⟨rfl, rfl, rfl⟩ (List.prefix_refl _))

theorem State.setEpt_kept {z : State} (s : State) (v : Nat) (m : KMap EpEntry) (hk : Kept z s) : Kept z (State.setEpt s v m) := by
  unfold State.setEpt
  repeat' (first
    | with_reducible assumption
    | with_reducible refine Kept.upd ?_ rfl ⟨rfl, rfl, rfl⟩ (List.prefix_refl _))

theorem State.setPlots_kept {z : State} (s : State) (v slot : Nat) (l : List Nat) (hk : Kept z s) : Kept z (State.setPlots s v slot l) := by
  unfold State.setPlots
  repeat' (first
    | with_reducible assumption
    | with_reducible refine Kept.upd ?_ rfl ⟨rfl, rfl, rfl⟩ (List.prefix_refl _))

theorem State.commitTables_kept {z : State} (s : State) (ept : List EpEntry) (plots : List (List Nat)) (hk : Kept z s) : Kept z (State.commitTables s ept plots).1 := by
  unfold State.commitTables
  repeat' (first
    | with_reducible assumption
    | with_reducible apply State.setEpt_kept
    | with_reducible apply State.setPlots_kept
    | with_reducible apply Kept.ite_fst
    | (with_reducible refine Kept.foldl _ (fun _ _ _ => ?_) ?_)
    | with_reducible refine Kept.upd ?_ rfl ⟨rfl, rfl, rfl⟩ (List.prefix_refl _))

theorem State.commitEndpoint_kept {z : State} (s : State) (ep grove : Nat) (hk : Kept z s) : Kept z (State.commitEndpoint s ep grove).1 := by
  unfold State.commitEndpoint
  repeat' (first
    | with_reducible assumption
    | with_reducible apply State.setOb_kept
    | with_reducible apply State.train_kept
    | with_reducible apply State.retrain_kept
    | (with_reducible refine Kept.foldl _ (fun _ _ _ => ?_) ?_)
    | split)

theorem State.takeCtl_kept {z : State} (s : State) (src : Nat) (f : Ctl → Bool) (k : State → State)
    (h : ∀ a, Kept z a → Kept z (k a)) (hk : Kept z s) : Kept z (s.takeCtl src f k) := by
  unfold State.takeCtl
  split
  · split
    · exact h _ (State.heard_kept _ _ (State.unbuffer_kept _ _ hk))
    · exact State.log_kept _ _ (State.unbuffer_kept _ _ hk)
  · exact h _ (State.heard_kept _ _ hk)

theorem State.meetPeers_kept {z : State} (s : State) (hk : Kept z s) : Kept z (State.meetPeers s) := by
  unfold State.meetPeers
  repeat' (first
    | with_reducible assumption
    | (with_reducible refine Kept.foldl _ (fun _ _ _ => ?_) ?_)
    | split
    | with_reducible refine Kept.upd ?_ rfl ⟨rfl, rfl, rfl⟩ (List.prefix_refl _))

theorem State.plotsChanged_kept {z : State} (s : State) (slot : Nat) (old : List Nat) (hk : Kept z s) : Kept z (State.plotsChanged s slot old) := by
  unfold State.plotsChanged
  repeat' (first
    | with_reducible assumption
    | with_reducible apply State.modJob_kept
    | with_reducible apply State.abandonGen_kept
    | with_reducible apply Kept.ite)

theorem State.flipEpoch_kept {z : State} (s : State) (hk : Kept z s) : Kept z (State.flipEpoch s) := by
  unfold State.flipEpoch
  repeat' (first
    | with_reducible assumption
    | with_reducible apply State.setOb_kept
    | with_reducible apply State.meetPeers_kept
    | with_reducible apply State.plotsChanged_kept
    | (with_reducible refine Kept.foldl _ (fun _ _ _ => ?_) ?_)
    | with_reducible refine Kept.upd ?_ rfl ⟨rfl, rfl, rfl⟩ (List.prefix_refl _))

theorem State.sendFlip_kept {z : State} (s : State) (dest : Nat) (hk : Kept z s) : Kept z (State.sendFlip s dest) := by
  unfold State.sendFlip
  repeat' (first
    | with_reducible assumption
    | with_reducible refine Kept.upd ?_ rfl ⟨rfl, rfl, rfl⟩ (List.prefix_refl _))

theorem State.queriesAnswered_kept {z : State} (s : State) (hk : Kept z s) : Kept z (State.queriesAnswered s) := by
  unfold State.queriesAnswered
  repeat' (first
    | with_reducible assumption
    | with_reducible apply State.setOb_kept
    | with_reducible apply State.respond_kept
    | with_reducible apply State.flipEpoch_kept
    | with_reducible apply State.sendFlip_kept
    | (with_reducible refine Kept.foldl _ (fun _ _ _ => ?_) ?_)
    | split
    | with_reducible refine Kept.upd ?_ rfl ⟨rfl, rfl, rfl⟩ (List.prefix_refl _))

theorem State.startSwitch_kept {z : State} (s : State) (v : Via) (hk : Kept z s) : Kept z (State.startSwitch s v).1 := by
  unfold State.startSwitch
  repeat' (first
    | with_reducible assumption
    | with_reducible apply State.setOb_kept
    | with_reducible apply State.control_kept
    | with_reducible apply State.queriesAnswered_kept
    | (with_reducible refine Kept.foldl _ (fun _ _ _ => ?_) ?_)
    | split
    | with_reducible refine Kept.upd ?_ rfl ⟨rfl, rfl, rfl⟩ (List.prefix_refl _))

theorem State.retireOld_kept {z : State} (s : State) (hk : Kept z s) : Kept z (State.retireOld s) := by
  unfold State.retireOld
  repeat' (first
    | with_reducible assumption
    | with_reducible apply State.setOb_kept
    | with_reducible refine Kept.upd ?_ rfl ⟨rfl, rfl, rfl⟩ (List.prefix_refl _))

theorem State.setPath_kept {z : State} (s : State) (ep : Nat) (p : Path) (hk : Kept z s) : Kept z (State.setPath s ep p) := by
  unfold State.setPath
  repeat' (first
    | with_reducible assumption
    | with_reducible refine Kept.upd ?_ rfl ⟨rfl, rfl, rfl⟩ (List.prefix_refl _))

theorem State.frameOut_kept {z : State} (s : State) (u dest ptype : Nat) (pseq : BitVec 32) (pcred : Option Nat) (p : Option Packet) (hk : Kept z s) : Kept z (State.frameOut s u dest ptype pseq pcred p) := by
  unfold State.frameOut
  repeat' (first
    | with_reducible assumption
    | with_reducible apply State.emit_kept
    | with_reducible apply State.modPort_kept
    | with_reducible apply State.sentTo_kept
    | with_reducible apply State.setPath_kept)

theorem State.wantPath_kept {z : State} (s : State) (ep : Nat) {t : State} (e : s.wantPath ep = some t) (hk : Kept z s) : Kept z t := by
  unfold State.wantPath at e
  dsimp only at e
  repeat' split at e
  all_goals first | (injection e with e; subst e) | contradiction
  · exact hk
  · exact State.setPath_kept _ _ _ hk
  · exact State.setPath_kept _ _ _ (Kept.upd hk rfl ⟨rfl, rfl, rfl⟩ (List.prefix_refl _))

theorem State.waitPath_kept {z : State} (s : State) (p : Packet) (hk : Kept z s) : Kept z (State.waitPath s p) := by
  unfold State.waitPath
  repeat' (first
    | with_reducible assumption
    | with_reducible apply State.bump_kept
    | split
    | with_reducible refine Kept.upd ?_ rfl ⟨rfl, rfl, rfl⟩ (List.prefix_refl _))

theorem State.forestSend_kept {z : State} (s : State) (e : EpEntry) (p : Packet) (hk : Kept z s) : Kept z (State.forestSend s e p).2 := by
  unfold State.forestSend
  repeat' (first
    | with_reducible assumption
    | with_reducible apply State.setPath_kept
    | with_reducible apply State.frameOut_kept
    | with_reducible refine State.wantPath_kept _ _ (by assumption) ?_
    | with_reducible apply State.waitPath_kept
    | with_reducible apply Kept.ite_snd
    | split
    | with_reducible refine Kept.upd ?_ rfl ⟨rfl, rfl, rfl⟩ (List.prefix_refl _))

theorem State.grantTo_kept {z : State} (s : State) (src : Nat) {t : State} (e : s.grantTo src = some t) (hk : Kept z s) : Kept z t := by
  unfold State.grantTo at e
  dsimp only at e
  repeat' split at e
  all_goals first | (injection e with e; subst e) | contradiction
  exact State.frameOut_kept _ _ _ _ _ _ _ (State.setPath_kept _ _ _ (State.wantPath_kept _ _ (by assumption) hk))

theorem State.serveGrants_kept {z : State} (n : Nat) (s : State) (hk : Kept z s) : Kept z (State.serveGrants n s) := by
  induction n generalizing s with
  | zero => exact hk
  | succ n ih =>
    unfold State.serveGrants
    split
    · rename_i t h
      obtain ⟨src, -, e⟩ := List.exists_of_findSome?_eq_some h
      exact ih _ (State.grantTo_kept _ _ e (Kept.upd hk rfl ⟨rfl, rfl, rfl⟩ (List.prefix_refl _)))
    · exact hk

theorem State.requestGrant_kept {z : State} (s : State) (src : Nat) (hk : Kept z s) : Kept z (s.requestGrant src) := by
  unfold State.requestGrant
  have h := State.serveGrants_kept (s.fab.grantWait.length + 1) { s with fab := { s.fab with grantWait := s.fab.grantWait ++ [src] } }
    (Kept.upd hk rfl ⟨rfl, rfl, rfl⟩ (List.prefix_refl _))
  dsimp only
  split
  · exact State.serveGrants_kept _ _ hk
  · exact Kept.ite (State.bump_kept _ _ h) h

theorem State.giveBack_kept {z : State} (s : State) (src k : Nat) (hk : Kept z s) : Kept z (State.giveBack s src k) := by
  unfold State.giveBack
  repeat' (first
    | with_reducible assumption
    | with_reducible apply State.setPath_kept
    | with_reducible apply State.serveGrants_kept
    | split)

theorem State.frameBrings_kept {z : State} (s : State) (src : Nat) (f : Frame) (hk : Kept z s) : Kept z (State.frameBrings s src f) := by
  unfold State.frameBrings
  repeat' (first
    | with_reducible assumption
    | with_reducible apply State.setPath_kept
    | split)

theorem State.foreign_kept {z : State} (s : State) (f : Frame) {t : State} (e : s.foreign f = some t) (hk : Kept z s) : Kept z t := by
  unfold State.foreign at e
  repeat' split at e
  all_goals first | (injection e with e; subst e) | contradiction
  · exact hk
  · exact State.bump_kept _ _ hk

theorem State.withFrame_kept {z : State} (s : State) (f : Frame) (k : Nat → State → State)
    (h : ∀ n a, Kept z a → Kept z (k n a)) (hk : Kept z s) : Kept z (s.withFrame f k) := by
  unfold State.withFrame
  split
  · exact State.foreign_kept _ _ (by assumption) hk
  · split
    · exact h _ _ hk
    · exact hk

theorem State.packetFrame_kept {z : State} (s : State) (src : Nat) (f : Frame) (hk : Kept z s) : Kept z (State.packetFrame s src f) := by
  unfold State.packetFrame
  repeat' (first
    | with_reducible assumption
    | with_reducible apply State.setPath_kept
    | with_reducible refine State.wantPath_kept _ _ (by assumption) ?_
    | with_reducible apply State.frameBrings_kept
    | split
    | with_reducible refine Kept.upd ?_ rfl ⟨rfl, rfl, rfl⟩ (List.prefix_refl _))

theorem State.pathFailed_kept {z : State} (s : State) (dest : Nat) (hk : Kept z s) : Kept z (State.pathFailed s dest) := by
  unfold State.pathFailed
  repeat' (first
    | with_reducible assumption
    | with_reducible apply State.xferAnswer_kept
    | with_reducible apply State.serveGrants_kept
    | (with_reducible refine Kept.foldl _ (fun _ _ _ => ?_) ?_)
    | with_reducible refine Kept.upd ?_ rfl ⟨rfl, rfl, rfl⟩ (List.prefix_refl _))

theorem State.pull_kept {z : State} (s : State) (n : Nat) {p : Packet} {b : Bool} {t : State} (e : s.pull n = some (p, b, t)) (hk : Kept z s) :
    Kept z t := by
  unfold State.pull at e
  split at e <;> simp only [Option.map_eq_some_iff, Prod.mk.injEq] at e <;> obtain ⟨_, -, -, -, rfl⟩ := e <;>
    exact Kept.upd hk rfl ⟨rfl, rfl, rfl⟩ (List.prefix_refl _)

theorem State.broadcast_kept {z : State} (s : State) (p : Packet) (hk : Kept z s) : Kept z (State.broadcast s p) := by
  unfold State.broadcast
  repeat' (first
    | with_reducible assumption
    | with_reducible apply State.xferAnswer_kept
    | with_reducible apply State.onPort_kept
    | with_reducible apply Kept.ite
    | (with_reducible refine Kept.foldl _ (fun _ _ _ => ?_) ?_))

theorem State.trackIn_kept {z : State} (s : State) (p : Packet) (hk : Kept z s) : Kept z (State.trackIn s p) := by
  unfold State.trackIn
  repeat' (first
    | with_reducible assumption
    | split
    | with_reducible refine Kept.upd ?_ rfl ⟨rfl, rfl, rfl⟩ (List.prefix_refl _))

theorem State.refuseIn_kept {z : State} (s : State) (p : Packet) (code : Nat) (hk : Kept z s) : Kept z (State.refuseIn s p code) := by
  unfold State.refuseIn
  repeat' (first
    | with_reducible assumption
    | with_reducible apply State.answerError_kept
    | with_reducible apply State.dropIn_kept)

theorem State.refusePacket_kept {z : State} (s : State) (p : Packet) (hk : Kept z s) : Kept z (State.refusePacket s p) := by
  unfold State.refusePacket
  repeat' (first
    | with_reducible assumption
    | with_reducible apply State.bump_kept
    | with_reducible apply State.answer_kept)

theorem State.writePayload_kept {z : State} (s : State) (p : Packet) (hk : Kept z s) : Kept z (State.writePayload s p) := by
  unfold State.writePayload
  repeat' (first
    | with_reducible assumption
    | with_reducible apply State.noteCopy_kept
    | with_reducible apply State.countIn_kept
    | with_reducible apply State.partsWrite_kept
    | with_reducible apply State.refuseIn_kept
    | with_reducible refine Kept.of_fst (by assumption) ?_
    | split)

theorem State.jobWrite_kept {z : State} (s : State) (slot : Nat) (p : Packet) (hk : Kept z s) : Kept z (State.jobWrite s slot p) := by
  unfold State.jobWrite
  repeat' (first
    | with_reducible assumption
    | with_reducible apply State.bump_kept
    | with_reducible apply State.countIn_kept
    | with_reducible apply State.startGen_kept
    | with_reducible apply State.foldInto_kept
    | with_reducible apply State.trackIn_kept
    | with_reducible apply State.refuseIn_kept
    | with_reducible apply State.refusePacket_kept
    | with_reducible apply State.writePayload_kept
    | split
    | dsimp only)

theorem State.writeArrives_kept {z : State} (s : State) (p : Packet) (hk : Kept z s) : Kept z (State.writeArrives s p) := by
  unfold State.writeArrives
  repeat' (first
    | with_reducible assumption
    | with_reducible apply State.refuseIn_kept
    | with_reducible apply State.jobWrite_kept
    | split)

theorem State.countArrival_kept {z : State} (s : State) (x : InXfer) (a : Nat) (hk : Kept z s) : Kept z (State.countArrival s x a) := by
  unfold State.countArrival
  repeat' (first
    | with_reducible assumption
    | with_reducible apply State.endIn_kept
    | with_reducible apply State.sendDone_kept
    | with_reducible apply State.meet_kept
    | with_reducible apply State.waitRepair_kept
    | with_reducible apply State.ownWrite_kept
    | split
    | with_reducible refine Kept.upd ?_ rfl ⟨rfl, rfl, rfl⟩ (List.prefix_refl _))

theorem State.readResp_kept {z : State} (s : State) (p : Packet) (data : List Byte) (gen : Option Nat) (hk : Kept z s) : Kept z (State.readResp s p data gen) := by
  unfold State.readResp
  repeat' (first
    | with_reducible assumption
    | with_reducible apply State.send_kept)

theorem State.jobRead_kept {z : State} (s : State) (slot : Nat) (p : Packet) (hk : Kept z s) : Kept z (State.jobRead s slot p) := by
  unfold State.jobRead
  repeat' (first
    | with_reducible assumption
    | with_reducible apply State.answerError_kept
    | with_reducible apply State.ownRead_kept
    | with_reducible apply State.readResp_kept
    | split
    | dsimp only)

theorem State.repairData_kept {z : State} (s : State) (block xfer : Nat) (p : Packet) (hk : Kept z s) : Kept z (State.repairData s block xfer p) := by
  unfold State.repairData
  repeat' (first
    | with_reducible assumption
    | with_reducible refine Kept.upd ?_ rfl ⟨rfl, rfl, rfl⟩ (List.prefix_refl _))

theorem State.restoreData_kept {z : State} (s : State) (slot target xfer : Nat) (p : Packet) (hk : Kept z s) : Kept z (State.restoreData s slot target xfer p) := by
  unfold State.restoreData
  repeat' (first
    | with_reducible assumption
    | with_reducible apply State.modTodo_kept)

theorem State.schedule_kept {z : State} (s : State) (p : Packet) (hk : Kept z s) : Kept z (State.schedule s p) := by
  unfold State.schedule
  repeat' (first
    | with_reducible assumption
    | split
    | with_reducible refine Kept.upd ?_ rfl ⟨rfl, rfl, rfl⟩ (List.prefix_refl _))

theorem State.abandonFor_kept {z : State} (s : State) (peer : Nat) (hk : Kept z s) : Kept z (State.abandonFor s peer) := by
  unfold State.abandonFor
  repeat' (first
    | with_reducible assumption
    | with_reducible apply State.abandonGen_kept
    | with_reducible apply Kept.ite
    | (with_reducible refine Kept.foldl _ (fun _ _ _ => ?_) ?_)
    | split)

theorem State.loseLaunches_kept {z : State} (s : State) (peer : Nat) (hk : Kept z s) : Kept z (State.loseLaunches s peer) := by
  unfold State.loseLaunches
  repeat' (first
    | with_reducible assumption
    | with_reducible apply State.abandonGen_kept
    | with_reducible apply State.liveCopyDone_kept
    | (with_reducible refine Kept.foldl _ (fun _ _ _ => ?_) ?_)
    | split
    | with_reducible refine Kept.upd ?_ rfl ⟨rfl, rfl, rfl⟩ (List.prefix_refl _))

theorem State.losePeer_kept {z : State} (s : State) (peer : Nat) (p : Peer) (hk : Kept z s) : Kept z (State.losePeer s peer p) := by
  unfold State.losePeer
  repeat' (first
    | with_reducible assumption
    | with_reducible apply State.raise_kept
    | with_reducible apply State.log_kept
    | with_reducible apply State.xferAnswer_kept
    | with_reducible apply State.loseLaunches_kept
    | (with_reducible refine Kept.foldl _ (fun _ _ _ => ?_) ?_)
    | with_reducible refine Kept.upd ?_ rfl ⟨rfl, rfl, rfl⟩ (List.prefix_refl _))

theorem State.remap_kept {z : State} (s : State) (l : List (Nat × Nat)) (hk : Kept z s) : Kept z (State.remap s l) := by
  unfold State.remap
  repeat' (first
    | with_reducible assumption
    | with_reducible apply State.spoil_kept)

theorem State.commitRegions_kept {z : State} (s : State) (l : List Region) (hk : Kept z s) : Kept z (State.commitRegions s l).1 := by
  unfold State.commitRegions
  repeat' (first
    | with_reducible assumption
    | with_reducible apply State.remap_kept
    | split
    | with_reducible refine Kept.upd ?_ rfl ⟨rfl, rfl, rfl⟩ (List.prefix_refl _))

theorem State.hostWaits_kept {z : State} (s : State) (a n : Nat) (bad : List (Nat × BadKind)) (hk : Kept z s) : Kept z (State.hostWaits s a n bad) := by
  unfold State.hostWaits
  repeat' (first
    | with_reducible assumption
    | with_reducible apply State.meet_kept
    | with_reducible apply State.waitRepair_kept
    | (with_reducible refine Kept.foldl _ (fun _ _ _ => ?_) ?_)
    | with_reducible refine Kept.upd ?_ rfl ⟨rfl, rfl, rfl⟩ (List.prefix_refl _))

theorem State.dropRepairXfers_kept {z : State} (s : State) (b : Nat) (hk : Kept z s) : Kept z (State.dropRepairXfers s b) := by
  unfold State.dropRepairXfers
  repeat' (first
    | with_reducible assumption
    | with_reducible refine Kept.upd ?_ rfl ⟨rfl, rfl, rfl⟩ (List.prefix_refl _))

theorem State.scrubFound_kept {z : State} (s : State) (b : Nat) (k : BadKind) (hk : Kept z s) : Kept z (State.scrubFound s b k) := by
  unfold State.scrubFound
  repeat' (first
    | with_reducible assumption
    | with_reducible apply State.listBad_kept
    | with_reducible apply State.ownError_kept
    | split
    | dsimp only)

end Sys2Proof.Machine
end

