-- ==== Sys2Proof/Laws/KeptUnits.lean ====
section
/-! SUPPORT. The lemmas of `Kept` (Sys2Proof/Laws/Kept.lean) for the clearing, time slicing, firebreaks, the seedbank, resets and power. -/

namespace Sys2Proof.Machine

set_option Elab.async false

theorem State.releasePlots_kept {z : State} (s : State) (slot : Nat) (hk : Kept z s) : Kept z (State.releasePlots s slot) := by
  unfold State.releasePlots
  repeat' (first
    | with_reducible assumption
    | with_reducible apply State.modJob_kept
    | with_reducible apply State.abandonGen_kept
    | with_reducible apply Kept.ite)

theorem State.finishUnstarted_kept {z : State} (s : State) (job : Nat) (status : BitVec 8) (f : Task → Bool) (hk : Kept z s) : Kept z (State.finishUnstarted s job status f) := by
  unfold State.finishUnstarted
  repeat' (first
    | with_reducible assumption
    | with_reducible apply State.finishCore_kept
    | (with_reducible refine Kept.foldl _ (fun _ _ _ => ?_) ?_)
    | split)

theorem State.advance_kept {z : State} (s : State) (slot : Nat) (d : Decision) (hk : Kept z s) : Kept z (State.advance s slot d) := by
  unfold State.advance
  repeat' (first
    | with_reducible assumption
    | with_reducible apply State.setOb_kept
    | with_reducible apply State.bump_kept
    | with_reducible apply State.modJob_kept
    | split)

theorem State.confirmFailed_kept {z : State} (s : State) (slot : Nat) (hk : Kept z s) : Kept z (State.confirmFailed s slot) := by
  unfold State.confirmFailed
  repeat' (first
    | with_reducible assumption
    | with_reducible apply State.modJob_kept
    | with_reducible apply State.confirmTaint_kept
    | split
    | dsimp only)

theorem State.applyDecision_kept {z : State} (s : State) (slot : Nat) (d : Decision) (hk : Kept z s) : Kept z (State.applyDecision s slot d) := by
  unfold State.applyDecision
  repeat' (first
    | with_reducible assumption
    | with_reducible apply State.setOb_kept
    | with_reducible apply State.modJob_kept
    | with_reducible apply State.log_kept
    | with_reducible apply State.modChan_kept
    | with_reducible apply State.withdraw_kept
    | with_reducible apply State.jobFaultIn_kept
    | with_reducible apply State.finish_kept
    | with_reducible apply State.liveCopies_kept
    | with_reducible apply State.genDecided_kept
    | with_reducible apply State.verifyRestore_kept
    | with_reducible apply State.releasePlots_kept
    | with_reducible apply State.finishUnstarted_kept
    | with_reducible apply State.advance_kept
    | with_reducible apply State.confirmFailed_kept
    | with_reducible apply Kept.ite
    | (with_reducible refine Kept.foldl _ (fun _ _ _ => ?_) ?_)
    | split)

theorem State.takeDecision_kept {z : State} (s : State) (slot : Nat) (d : Decision) (hk : Kept z s) : Kept z (State.takeDecision s slot d) := by
  unfold State.takeDecision
  repeat' (first
    | with_reducible assumption
    | with_reducible apply State.passOn_kept
    | with_reducible apply State.applyDecision_kept
    | (with_reducible refine Kept.foldl _ (fun _ _ _ => ?_) ?_)
    | split
    | dsimp only)

theorem State.decideRoot_kept {z : State} (s : State) (slot : Nat) (hk : Kept z s) : Kept z (State.decideRoot s slot) := by
  unfold State.decideRoot
  repeat' (first
    | with_reducible assumption
    | with_reducible apply State.setJob_kept
    | with_reducible apply State.takeDecision_kept
    | split)

theorem State.castVote_kept {z : State} (s : State) (slot : Nat) (hk : Kept z s) : Kept z (State.castVote s slot) := by
  unfold State.castVote
  repeat' (first
    | with_reducible assumption
    | with_reducible apply State.modJob_kept
    | with_reducible apply State.sendRecord_kept
    | with_reducible apply State.addVote_kept
    | with_reducible apply Kept.ite
    | (with_reducible refine Kept.foldl _ (fun _ _ _ => ?_) ?_))

theorem State.voteArrives_kept {z : State} (s : State) (p : Packet) (hk : Kept z s) : Kept z (State.voteArrives s p) := by
  unfold State.voteArrives
  repeat' (first
    | with_reducible assumption
    | with_reducible apply State.bump_kept
    | with_reducible apply State.setJob_kept
    | with_reducible apply State.addVote_kept
    | with_reducible apply State.holdPlots_kept
    | with_reducible apply State.decideRoot_kept
    | split
    | dsimp only)

theorem State.decisionArrives_kept {z : State} (s : State) (p : Packet) (hk : Kept z s) : Kept z (State.decisionArrives s p) := by
  unfold State.decisionArrives
  repeat' (first
    | with_reducible assumption
    | with_reducible apply State.takeDecision_kept
    | split
    | dsimp only)

theorem State.compareReplicas_kept {z : State} (s : State) (slot set st members : Nat) (hk : Kept z s) : Kept z (State.compareReplicas s slot set st members) := by
  unfold State.compareReplicas
  repeat' (first
    | with_reducible assumption
    | with_reducible apply State.bump_kept
    | with_reducible apply State.modJob_kept
    | with_reducible apply State.log_kept
    | with_reducible apply State.sendFirebreak_kept
    | with_reducible apply State.confirmTaint_kept
    | with_reducible apply State.failure_kept
    | with_reducible apply State.jobFault_kept
    | with_reducible apply Kept.ite
    | (with_reducible refine Kept.foldl _ (fun _ _ _ => ?_) ?_)
    | split)

theorem State.digestArrives_kept {z : State} (s : State) (slot set st src : Nat) (d : BitVec 128) (hk : Kept z s) : Kept z (State.digestArrives s slot set st src d) := by
  unfold State.digestArrives
  repeat' (first
    | with_reducible assumption
    | with_reducible apply State.modJob_kept
    | with_reducible apply State.compareReplicas_kept
    | with_reducible apply State.replicas_kept
    | split)

theorem State.openComparison_kept {z : State} (s : State) (slot set st : Nat) (hk : Kept z s) : Kept z (State.openComparison s slot set st) := by
  unfold State.openComparison
  repeat' (first
    | with_reducible assumption
    | with_reducible apply State.modJob_kept)

theorem State.replicas_kept {z : State} (s : State) (slot st : Nat) (hk : Kept z s) : Kept z (State.replicas s slot st) := by
  unfold State.replicas
  repeat' (first
    | with_reducible assumption
    | with_reducible apply State.modJob_kept
    | with_reducible apply State.sendFirebreak_kept
    | with_reducible apply State.ownRead_kept
    | with_reducible apply State.digestArrives_kept
    | with_reducible apply State.openComparison_kept
    | (with_reducible refine Kept.foldl _ (fun _ _ _ => ?_) ?_)
    | split
    | dsimp only)

theorem State.saveOn_kept {z : State} (s : State) (t : Task) (g : Nat) (hk : Kept z s) : Kept z (State.saveOn s t g) := by
  unfold State.saveOn
  repeat' (first
    | with_reducible assumption
    | with_reducible apply State.drawn_kept
    | with_reducible apply State.modStand_kept
    | with_reducible apply State.put_kept
    | with_reducible apply State.modTask_kept
    | (with_reducible refine Kept.foldl _ (fun _ _ _ => ?_) ?_)
    | split)

theorem State.preempt_kept {z : State} (s : State) (t : Task) (hk : Kept z s) : Kept z (State.preempt s t) := by
  unfold State.preempt
  repeat' (first
    | with_reducible assumption
    | with_reducible apply State.modTask_kept
    | with_reducible apply State.saveOn_kept
    | (with_reducible refine Kept.foldl _ (fun _ _ _ => ?_) ?_))

theorem State.reload_kept {z : State} (s : State) (t : Task) (g : Nat) (hk : Kept z s) : Kept z (State.reload s t g) := by
  unfold State.reload
  repeat' (first
    | with_reducible assumption
    | with_reducible apply State.addOb_kept
    | with_reducible apply State.modTask_kept
    | with_reducible apply State.leaveTile_kept
    | split
    | dsimp only)

theorem State.needTest_kept {z : State} (s : State) (n : Nat) (why : TestReason) (hk : Kept z s) : Kept z (State.needTest s n why) := by
  unfold State.needTest
  repeat' (first
    | with_reducible assumption
    | with_reducible apply State.setOb_kept
    | with_reducible apply State.modStand_kept
    | split
    | dsimp only)

theorem State.suspectStand_kept {z : State} (s : State) (n : Nat) (x : Suspect) (hk : Kept z s) : Kept z (State.suspectStand s n x) := by
  unfold State.suspectStand
  repeat' (first
    | with_reducible assumption
    | with_reducible apply State.modStand_kept
    | split
    | dsimp only)

theorem State.boundary_kept {z : State} (s : State) (n : Nat) {t : State} (e : s.boundary n = some t) (hk : Kept z s) : Kept z t := by
  unfold State.boundary at e
  repeat' split at e
  all_goals first | (injection e with e; subst e) | contradiction
  · exact hk
  · exact State.preempt_kept _ _ hk

theorem State.settle_kept {z : State} (s : State) (c : Check) (hk : Kept z s) : Kept z (State.settle s c) := by
  unfold State.settle
  repeat' (first
    | with_reducible assumption
    | with_reducible refine Kept.upd ?_ rfl ⟨rfl, rfl, rfl⟩ (List.prefix_refl _))

theorem State.countRun_kept {z : State} (s : State) (n : Nat) (w : BlkWork) (hk : Kept z s) : Kept z (State.countRun s n w) := by
  unfold State.countRun
  repeat' (first
    | with_reducible assumption
    | with_reducible apply State.addOb_kept
    | with_reducible apply State.counted_kept
    | split
    | dsimp only)

theorem State.checkTaint_kept {z : State} (s : State) (c : Check) (reason majority : Nat) (hk : Kept z s) : Kept z (State.checkTaint s c reason majority) := by
  unfold State.checkTaint
  repeat' (first
    | with_reducible assumption
    | with_reducible apply State.confirmTaint_kept
    | split
    | dsimp only)

theorem State.unresolved_kept {z : State} (s : State) (c : Check) (hk : Kept z s) : Kept z (State.unresolved s c) := by
  unfold State.unresolved
  repeat' (first
    | with_reducible assumption
    | with_reducible apply State.logStand_kept
    | with_reducible apply State.needTest_kept
    | with_reducible apply State.settle_kept
    | with_reducible apply State.checkTaint_kept
    | (with_reducible refine Kept.foldl _ (fun _ _ _ => ?_) ?_)
    | dsimp only)

theorem State.thirdCheck_kept {z : State} (s : State) (c : Check) (other : Word64) (third : Digests) (hk : Kept z s) : Kept z (State.thirdCheck s c other third) := by
  unfold State.thirdCheck
  repeat' (first
    | with_reducible assumption
    | with_reducible apply State.suspectStand_kept
    | with_reducible apply State.settle_kept
    | with_reducible apply State.countRun_kept
    | with_reducible apply State.checkTaint_kept
    | with_reducible apply State.unresolved_kept
    | split
    | dsimp only)

theorem State.modUnit_kept {z : State} (s : State) (t : Task) (i : Nat) (f : OptUnit → OptUnit) (hk : Kept z s) : Kept z (State.modUnit s t i f) := by
  unfold State.modUnit
  repeat' (first
    | with_reducible assumption
    | with_reducible apply State.modTask_kept)

theorem State.writeUnit_kept {z : State} (s : State) (t : Task) (u : OptUnit) (ws : List MemWrite) (hk : Kept z s) : Kept z (State.writeUnit s t u ws) := by
  unfold State.writeUnit
  repeat' (first
    | with_reducible assumption
    | with_reducible apply State.modTask_kept
    | with_reducible apply State.taskFault_kept
    | with_reducible apply State.deliver_kept
    | with_reducible apply State.modUnit_kept
    | split)

theorem State.deadUnit_kept {z : State} (s : State) (t : Task) (u : OptUnit) (hk : Kept z s) : Kept z (State.deadUnit s t u) := by
  unfold State.deadUnit
  repeat' (first
    | with_reducible assumption
    | with_reducible apply State.logStand_kept
    | with_reducible apply State.abort_kept
    | with_reducible apply State.needTest_kept
    | with_reducible apply State.modUnit_kept
    | (with_reducible refine Kept.foldl _ (fun _ _ _ => ?_) ?_)
    | with_reducible refine Kept.upd ?_ rfl ⟨rfl, rfl, rfl⟩ (List.prefix_refl _))

theorem State.thirdUnit_kept {z : State} (s : State) (t : Task) (u : OptUnit) (other : Word64) (third : Digests) (out : List Byte) (hk : Kept z s) : Kept z (State.thirdUnit s t u other third out) := by
  unfold State.thirdUnit
  repeat' (first
    | with_reducible assumption
    | with_reducible apply State.suspectStand_kept
    | with_reducible apply State.countRun_kept
    | with_reducible apply State.writeUnit_kept
    | with_reducible apply State.deadUnit_kept
    | split)

theorem State.testSuspect_kept {z : State} (s : State) (n : Nat) (x : Suspect) (hk : Kept z s) : Kept z (State.testSuspect s n x) := by
  unfold State.testSuspect
  repeat' (first
    | with_reducible assumption
    | with_reducible apply State.modStand_kept
    | with_reducible apply State.needTest_kept
    | dsimp only)

theorem State.notLocalised_kept {z : State} (s : State) (n : Nat) (hk : Kept z s) : Kept z (State.notLocalised s n) := by
  unfold State.notLocalised
  repeat' (first
    | with_reducible assumption
    | with_reducible apply State.logStand_kept
    | split
    | dsimp only)

theorem State.judge_kept {z : State} (s : State) (n : Nat) (x : Suspect) (again : Digests) (hk : Kept z s) : Kept z (State.judge s n x again) := by
  unfold State.judge
  repeat' (first
    | with_reducible assumption
    | with_reducible apply State.bump_kept
    | with_reducible apply State.modStand_kept
    | with_reducible apply State.logStand_kept
    | with_reducible apply State.countRun_kept
    | with_reducible apply State.testSuspect_kept
    | split
    | dsimp only)

theorem State.finding_kept {z : State} (s : State) (n : Nat) (f : Finding) (hk : Kept z s) : Kept z (s.finding n f) := by
  cases f with
  | scratch line => exact State.scrubFound_kept _ _ _ (Kept.upd hk rfl ⟨rfl, rfl, rfl⟩ (List.prefix_refl _))
  | _ => exact State.decideStand_kept _ _ _ _ _ hk

theorem State.requestFence_kept {z : State} (s : State) (n v : Nat) (hk : Kept z s) : Kept z (State.requestFence s n v).1 := by
  unfold State.requestFence
  repeat' (first
    | with_reducible assumption
    | with_reducible apply State.fenceDecide_kept
    | with_reducible apply Kept.ite_fst)

theorem State.requestTest_kept {z : State} (s : State) (n v : Nat) (hk : Kept z s) : Kept z (State.requestTest s n v).1 := by
  unfold State.requestTest
  repeat' (first
    | with_reducible assumption
    | with_reducible apply State.needTest_kept
    | with_reducible apply State.request_kept
    | with_reducible apply Kept.ite_fst)

theorem State.firebreak_kept {z : State} (s : State) (p : Packet) (types : List Nat) (f : State → Firebreak → State)
    (hf : ∀ a x, Kept z a → Kept z (f a x)) (hk : Kept z s) : Kept z (s.firebreak p types f) := by
  unfold State.firebreak
  dsimp only
  repeat' (first
    | with_reducible assumption
    | with_reducible apply hf
    | (with_reducible refine State.receive_kept _ _ _ _ (fun _ _ => ?_) ?_)
    | split)

theorem State.ackRecord_kept {z : State} (s : State) (r : Nat) (hk : Kept z s) : Kept z (State.ackRecord s r).1 := by
  unfold State.ackRecord
  repeat' (first
    | with_reducible assumption
    | with_reducible refine Kept.upd ?_ rfl ⟨rfl, rfl, rfl⟩ (List.prefix_refl _))

theorem State.ackCper_kept {z : State} (s : State) (r : Nat) (hk : Kept z s) : Kept z (State.ackCper s r).1 := by
  unfold State.ackCper
  repeat' (first
    | with_reducible assumption
    | with_reducible refine Kept.upd ?_ rfl ⟨rfl, rfl, rfl⟩ (List.prefix_refl _))

theorem State.clearOverflow_kept {z : State} (s : State) (v : Nat) (hk : Kept z s) : Kept z (State.clearOverflow s v).1 := by
  unfold State.clearOverflow
  repeat' (first
    | with_reducible assumption
    | with_reducible apply State.setOb_kept
    | with_reducible apply State.calm_kept
    | with_reducible apply Kept.ite_fst)

theorem State.commitReplicas_kept {z : State} (s : State) (tables : List (List Replica)) (hk : Kept z s) : Kept z (State.commitReplicas s tables).1 := by
  unfold State.commitReplicas
  repeat' (first
    | with_reducible assumption
    | with_reducible apply State.replicas_kept
    | (with_reducible refine Kept.foldl _ (fun _ _ _ => ?_) ?_)
    | split
    | with_reducible refine Kept.upd ?_ rfl ⟨rfl, rfl, rfl⟩ (List.prefix_refl _))

theorem State.commitSets_kept {z : State} (s : State) (sets : List (List BankSet)) (folds : List (List FoldEntry)) (hk : Kept z s) : Kept z (State.commitSets s sets folds).1 := by
  unfold State.commitSets
  try dsimp only
  repeat' (first
    | with_reducible assumption
    | (with_reducible refine Kept.foldl _ (fun _ _ _ => ?_) ?_)
    | split
    | with_reducible refine Kept.upd ?_ rfl ⟨rfl, rfl, rfl⟩ (List.prefix_refl _))

theorem State.foldCheckArrives_kept {z : State} (s : State) (slot : Option Nat) (v : Via) (set gen : Nat) (value : Word64) (hk : Kept z s) : Kept z (State.foldCheckArrives s slot v set gen value).1 := by
  unfold State.foldCheckArrives
  repeat' (first
    | with_reducible assumption
    | with_reducible apply State.modJob_kept
    | split)

theorem State.answerFold_kept {z : State} (s : State) (g : Gen) (c : Nat × Nat × Word64 × Nat) (good : Bool) (hk : Kept z s) : Kept z (State.answerFold s g c good) := by
  unfold State.answerFold
  repeat' (first
    | with_reducible assumption
    | with_reducible apply State.respond_kept)

theorem State.twinSlotArrives_kept {z : State} (s : State) (slot job gen base size : Nat) (hk : Kept z s) : Kept z (State.twinSlotArrives s slot job gen base size).1 := by
  unfold State.twinSlotArrives
  try dsimp only
  repeat' (first
    | with_reducible assumption
    | with_reducible apply State.put_kept
    | with_reducible apply State.ownRead_kept
    | split
    | with_reducible refine Kept.upd ?_ rfl ⟨rfl, rfl, rfl⟩ (List.prefix_refl _))

theorem State.genDoneArrives_kept {z : State} (s : State) (slot : Nat) (v : Via) (gen plots failures cost : Nat) (hk : Kept z s) : Kept z (State.genDoneArrives s slot v gen plots failures cost).1 := by
  unfold State.genDoneArrives
  repeat' (first
    | with_reducible assumption
    | with_reducible apply State.addDone_kept
    | split)

theorem State.genCompleteArrives_kept {z : State} (s : State) (slot g next interval : Nat) (hk : Kept z s) : Kept z (State.genCompleteArrives s slot g next interval).1 := by
  unfold State.genCompleteArrives
  repeat' (first
    | with_reducible assumption
    | with_reducible apply State.sendGenComplete_kept
    | with_reducible apply State.genCompleted_kept
    | with_reducible apply Kept.ite_fst)

theorem State.beginRestore_kept {z : State} (s : State) (slot g from_ : Nat) (hk : Kept z s) : Kept z (State.beginRestore s slot g from_) := by
  unfold State.beginRestore
  repeat' (first
    | with_reducible assumption
    | with_reducible apply State.setOb_kept
    | with_reducible apply State.modJob_kept
    | with_reducible apply State.abandonGen_kept
    | with_reducible apply State.ownRead_kept
    | with_reducible apply State.restoreHead_kept
    | with_reducible apply State.runRestore_kept
    | (with_reducible refine Kept.foldl _ (fun _ _ _ => ?_) ?_)
    | split
    | dsimp only)

theorem State.requestRestore_kept {z : State} (s : State) (slot value : Nat) (hk : Kept z s) : Kept z (State.requestRestore s slot value).1 := by
  unfold State.requestRestore
  repeat' (first
    | with_reducible assumption
    | with_reducible apply State.readCommits_kept
    | with_reducible apply State.beginRestore_kept
    | with_reducible apply Kept.ite_fst
    | split)

theorem State.failSram_kept {z : State} (s : State) (h : Nat) (hk : Kept z s) : Kept z (State.failSram s h) := by
  unfold State.failSram
  repeat' (first
    | with_reducible assumption
    | (with_reducible refine Kept.foldl _ (fun _ _ _ => ?_) ?_)
    | with_reducible refine Kept.upd ?_ rfl ⟨rfl, rfl, rfl⟩ (List.prefix_refl _))

theorem State.failStacks_kept {z : State} (s : State) (h : Nat) (hk : Kept z s) : Kept z (State.failStacks s h) := by
  unfold State.failStacks
  repeat' (first
    | with_reducible assumption
    | (with_reducible refine Kept.foldl _ (fun _ _ _ => ?_) ?_)
    | with_reducible refine Kept.upd ?_ rfl ⟨rfl, rfl, rfl⟩ (List.prefix_refl _))

theorem State.resetHostLink_kept {z : State} (s : State) (hk : Kept z s) : Kept z (State.resetHostLink s) := by
  unfold State.resetHostLink
  repeat' (first
    | with_reducible assumption
    | with_reducible apply State.setOb_kept
    | with_reducible apply State.request_kept
    | (with_reducible refine Kept.foldl _ (fun _ _ _ => ?_) ?_)
    | split
    | with_reducible refine Kept.upd ?_ rfl ⟨rfl, rfl, rfl⟩ (List.prefix_refl _))

theorem State.hostLinkUp_kept {z : State} (s : State) (hk : Kept z s) : Kept z (State.hostLinkUp s) := by
  unfold State.hostLinkUp
  repeat' (first
    | with_reducible assumption
    | with_reducible apply State.msix_kept
    | with_reducible apply State.flushAll_kept
    | (with_reducible refine Kept.foldl _ (fun _ _ _ => ?_) ?_)
    | with_reducible refine Kept.upd ?_ rfl ⟨rfl, rfl, rfl⟩ (List.prefix_refl _))

theorem State.setGlade_kept {z : State} (s : State) (h : Nat) (v : Bool) (hk : Kept z s) : Kept z (State.setGlade s h v) := by
  unfold State.setGlade
  repeat' (first
    | with_reducible assumption
    | (with_reducible refine Kept.foldl _ (fun _ _ _ => ?_) ?_)
    | split
    | with_reducible refine Kept.upd ?_ rfl ⟨rfl, rfl, rfl⟩ (List.prefix_refl _))

theorem State.failover_kept {z : State} (s : State) (h : Nat) (hk : Kept z s) : Kept z (State.failover s h) := by
  unfold State.failover
  repeat' (first
    | with_reducible assumption
    | with_reducible apply State.setOb_kept
    | with_reducible apply State.faultN_kept
    | with_reducible apply State.log_kept
    | with_reducible apply State.failure_kept
    | with_reducible apply Kept.ite
    | (with_reducible refine Kept.foldl _ (fun _ _ _ => ?_) ?_)
    | with_reducible refine Kept.upd ?_ rfl ⟨rfl, rfl, rfl⟩ (List.prefix_refl _))

theorem State.failRestore_kept {z : State} (s : State) (slot : Nat) (hk : Kept z s) : Kept z (State.failRestore s slot) := by
  unfold State.failRestore
  repeat' (first
    | with_reducible assumption
    | with_reducible apply State.setOb_kept
    | with_reducible apply State.bump_kept
    | with_reducible apply State.modJob_kept
    | with_reducible apply Kept.ite)

theorem State.resetFabric_kept {z : State} (s : State) (hk : Kept z s) : Kept z (State.resetFabric s) := by
  unfold State.resetFabric
  repeat' (first
    | with_reducible assumption
    | with_reducible apply State.setOb_kept
    | with_reducible apply State.setPort_kept
    | with_reducible apply State.enterPort_kept
    | (with_reducible refine Kept.foldl _ (fun _ _ _ => ?_) ?_)
    | split
    | with_reducible refine Kept.upd ?_ rfl ⟨rfl, rfl, rfl⟩ (List.prefix_refl _))

theorem State.moduleReset_kept {z : State} (s : State) (hk : Kept z s) : Kept z (State.moduleReset s) := by
  unfold State.moduleReset
  repeat' (first
    | with_reducible assumption
    | with_reducible apply State.setOb_kept
    | with_reducible apply State.jobFault_kept
    | with_reducible apply State.spoil_kept
    | with_reducible apply State.start_kept
    | with_reducible apply State.failSram_kept
    | with_reducible apply State.resetHostLink_kept
    | with_reducible apply State.failRestore_kept
    | with_reducible apply State.resetFabric_kept
    | (with_reducible refine Kept.foldl _ (fun _ _ _ => ?_) ?_)
    | split
    | with_reducible refine Kept.upd ?_ rfl ⟨rfl, rfl, rfl⟩ (List.prefix_refl _))

theorem State.hostReadLost_kept {z : State} (s : State) (id : Nat) (hk : Kept z s) : Kept z (State.hostReadLost s id) := by
  unfold State.hostReadLost
  repeat' (first
    | with_reducible assumption
    | with_reducible apply State.emit_kept
    | with_reducible apply State.unmappedAccess_kept
    | (with_reducible refine Kept.foldl _ (fun _ _ _ => ?_) ?_)
    | split
    | with_reducible refine Kept.upd ?_ rfl ⟨rfl, rfl, rfl⟩ (List.prefix_refl _))

theorem State.loseRepair_kept {z : State} (s : State) (r : Repair) (hk : Kept z s) : Kept z (State.loseRepair s r) := by
  unfold State.loseRepair
  repeat' (first
    | with_reducible assumption
    | with_reducible apply State.unmappedAccess_kept
    | with_reducible apply State.dropIn_kept
    | with_reducible apply State.endXfer_kept
    | with_reducible apply State.hostWrite_kept
    | with_reducible apply State.answerError_kept
    | with_reducible apply State.fetchFailed_kept
    | with_reducible apply State.ownWrite_kept
    | with_reducible apply State.hostReadLost_kept
    | (with_reducible refine Kept.foldl _ (fun _ _ _ => ?_) ?_)
    | split
    | with_reducible refine Kept.upd ?_ rfl ⟨rfl, rfl, rfl⟩ (List.prefix_refl _))

theorem State.guestDown_kept {z : State} (s : State) (site : Nat) (hk : Kept z s) : Kept z (State.guestDown s site) := by
  unfold State.guestDown
  repeat' (first
    | with_reducible assumption
    | with_reducible apply State.setOb_kept
    | with_reducible apply State.abort_kept
    | with_reducible apply State.answerGuest_kept
    | (with_reducible refine Kept.foldl _ (fun _ _ _ => ?_) ?_)
    | split
    | with_reducible refine Kept.upd ?_ rfl ⟨rfl, rfl, rfl⟩ (List.prefix_refl _))

theorem State.dropHalf_kept {z : State} (s : State) (h : Nat) (hk : Kept z s) : Kept z (State.dropHalf s h) := by
  unfold State.dropHalf
  repeat' (first
    | with_reducible assumption
    | with_reducible apply State.setOb_kept
    | with_reducible apply State.logHalf_kept
    | with_reducible apply State.endIn_kept
    | with_reducible apply State.abandonGen_kept
    | with_reducible apply State.failure_kept
    | with_reducible apply State.abort_kept
    | with_reducible apply State.abandonChecks_kept
    | with_reducible apply State.leaveSets_kept
    | with_reducible apply State.modPort_kept
    | with_reducible apply State.enterPort_kept
    | with_reducible apply State.leaveUp_kept
    | with_reducible apply State.failSram_kept
    | with_reducible apply State.setGlade_kept
    | with_reducible apply State.failover_kept
    | with_reducible apply State.loseRepair_kept
    | with_reducible apply State.guestDown_kept
    | (with_reducible refine Kept.foldl _ (fun _ _ _ => ?_) ?_)
    | split
    | with_reducible refine Kept.upd ?_ rfl ⟨rfl, rfl, rfl⟩ (List.prefix_refl _))

theorem State.loseHalf_kept {z : State} (s : State) (h : Nat) (hk : Kept z s) : Kept z (State.loseHalf s h) := by
  unfold State.loseHalf
  repeat' (first
    | with_reducible assumption
    | with_reducible apply State.moduleReset_kept
    | with_reducible apply State.dropHalf_kept
    | with_reducible apply Kept.ite)

theorem State.applyRowRepairs_kept {z : State} (s : State) (h : Nat) (left : List (Nat × Nat)) (hk : Kept z s) : Kept z (State.applyRowRepairs s h left) := by
  unfold State.applyRowRepairs
  repeat' (first
    | with_reducible assumption
    | with_reducible apply State.setOb_kept
    | with_reducible apply State.logHalf_kept
    | (with_reducible refine Kept.foldl _ (fun _ _ _ => ?_) ?_)
    | split
    | with_reducible refine Kept.upd ?_ rfl ⟨rfl, rfl, rfl⟩ (List.prefix_refl _))

theorem State.startRails_kept {z : State} (s : State) (h : Nat) (hk : Kept z s) : Kept z (State.startRails s h) := by
  unfold State.startRails
  repeat' (first
    | with_reducible assumption
    | with_reducible apply State.modStand_kept
    | (with_reducible refine Kept.foldl _ (fun _ _ _ => ?_) ?_)
    | split
    | dsimp only)

theorem State.startPorts_kept {z : State} (s : State) (h : Nat) (hk : Kept z s) : Kept z (State.startPorts s h) := by
  unfold State.startPorts
  repeat' (first
    | with_reducible assumption
    | with_reducible apply State.modPort_kept
    | with_reducible apply State.train_kept
    | with_reducible apply Kept.ite
    | (with_reducible refine Kept.foldl _ (fun _ _ _ => ?_) ?_))

theorem State.flushCommits_kept {z : State} (s : State) (hk : Kept z s) : Kept z (State.flushCommits s) := by
  unfold State.flushCommits
  repeat' (first
    | with_reducible assumption
    | with_reducible apply State.ownWrite_kept
    | (with_reducible refine Kept.foldl _ (fun _ _ _ => ?_) ?_)
    | split
    | with_reducible refine Kept.upd ?_ rfl ⟨rfl, rfl, rfl⟩ (List.prefix_refl _))

theorem State.halfStart_kept {z : State} (s : State) (h : Nat) (left : List (Nat × Nat)) (hk : Kept z s) : Kept z (State.halfStart s h left) := by
  unfold State.halfStart
  repeat' (first
    | with_reducible assumption
    | with_reducible apply State.setOb_kept
    | with_reducible apply State.faultN_kept
    | with_reducible apply State.flushAll_kept
    | with_reducible apply State.failSram_kept
    | with_reducible apply State.failStacks_kept
    | with_reducible apply State.setGlade_kept
    | with_reducible apply State.applyRowRepairs_kept
    | with_reducible apply State.startRails_kept
    | with_reducible apply State.startPorts_kept
    | with_reducible apply State.flushCommits_kept
    | (with_reducible refine Kept.foldl _ (fun _ _ _ => ?_) ?_)
    | split
    | with_reducible refine Kept.upd ?_ rfl ⟨rfl, rfl, rfl⟩ (List.prefix_refl _))

theorem State.halvesOff_kept {z : State} (s : State) (hk : Kept z s) : Kept z (State.halvesOff s) := by
  unfold State.halvesOff
  repeat' (first
    | with_reducible assumption
    | with_reducible apply State.setOb_kept
    | with_reducible apply State.moduleReset_kept)

theorem State.orderlyOff_kept {z : State} (s : State) (hk : Kept z s) : Kept z (State.orderlyOff s) := by
  unfold State.orderlyOff
  repeat' (first
    | with_reducible assumption
    | with_reducible apply State.setOb_kept
    | with_reducible apply State.halvesOff_kept
    | (with_reducible refine Kept.foldl _ (fun _ _ _ => ?_) ?_)
    | with_reducible refine Kept.upd ?_ rfl ⟨rfl, rfl, rfl⟩ (List.prefix_refl _))

theorem State.modPower_kept {z : State} (s : State) (f : PowerSt → PowerSt) (hk : Kept z s) : Kept z (State.modPower s f) := by
  unfold State.modPower
  repeat' (first
    | with_reducible assumption
    | with_reducible refine Kept.upd ?_ rfl ⟨rfl, rfl, rfl⟩ (List.prefix_refl _))

theorem State.yieldSteps_kept {z : State} (s : State) (power budget : Nat) (hk : Kept z s) : Kept z (State.yieldSteps s power budget) := by
  unfold State.yieldSteps
  repeat' (first
    | with_reducible assumption
    | with_reducible apply State.modPower_kept)

theorem State.throttle_kept {z : State} (s : State) (l : List (Load × Nat)) (hk : Kept z s) : Kept z (State.throttle s l) := by
  unfold State.throttle
  repeat' (first
    | with_reducible assumption
    | with_reducible apply State.addOb_kept
    | with_reducible apply State.drawn_kept
    | with_reducible apply State.modStand_kept
    | with_reducible apply State.modPower_kept
    | (with_reducible refine Kept.foldl _ (fun _ _ _ => ?_) ?_))

theorem State.throttleIdle_kept {z : State} (s : State) (run : List Nat) (spare : Nat) (hk : Kept z s) : Kept z (State.throttleIdle s run spare) := by
  unfold State.throttleIdle
  repeat' (first
    | with_reducible assumption
    | with_reducible apply State.modStand_kept
    | (with_reducible refine Kept.foldl _ (fun _ _ _ => ?_) ?_))

theorem State.steadyLoad_kept {z : State} (s : State) (a : PowerSample) (power : Nat) (hk : Kept z s) : Kept z (State.steadyLoad s a power) := by
  unfold State.steadyLoad
  repeat' (first
    | with_reducible assumption
    | with_reducible apply State.addOb_kept
    | with_reducible apply State.bump_kept
    | with_reducible apply State.setBit_kept
    | with_reducible apply State.modPower_kept
    | split)

theorem State.meter_kept {z : State} (s : State) (raw power : Nat) (hk : Kept z s) : Kept z (State.meter s raw power) := by
  unfold State.meter
  repeat' (first
    | with_reducible assumption
    | with_reducible apply State.setOb_kept
    | with_reducible apply State.addOb_kept
    | with_reducible apply State.modPower_kept)

theorem State.adjustRail_kept {z : State} (s : State) (n : Nat) (hk : Kept z s) : Kept z (State.adjustRail s n) := by
  unfold State.adjustRail
  repeat' (first
    | with_reducible assumption
    | with_reducible apply State.modStand_kept)

theorem State.sendLoan_kept {z : State} (s : State) (peer type lender borrower watts : Nat) (hk : Kept z s) : Kept z (State.sendLoan s peer type lender borrower watts) := by
  unfold State.sendLoan
  repeat' (first
    | with_reducible assumption
    | with_reducible apply State.peerWrite_kept
    | with_reducible apply State.modPower_kept)

theorem State.returnAll_kept {z : State} (s : State) (hk : Kept z s) : Kept z (State.returnAll s) := by
  unfold State.returnAll
  repeat' (first
    | with_reducible assumption
    | with_reducible apply State.modPower_kept
    | with_reducible apply State.sendLoan_kept
    | (with_reducible refine Kept.foldl _ (fun _ _ _ => ?_) ?_))

theorem State.askLoan_kept {z : State} (s : State) (hk : Kept z s) : Kept z (State.askLoan s) := by
  unfold State.askLoan
  repeat' (first
    | with_reducible assumption
    | with_reducible apply State.modPower_kept
    | with_reducible apply State.sendLoan_kept
    | split
    | dsimp only)

theorem State.settleLoans_kept {z : State} (s : State) (peer : Nat) (hk : Kept z s) : Kept z (State.settleLoans s peer) := by
  unfold State.settleLoans
  repeat' (first
    | with_reducible assumption
    | with_reducible apply State.modPower_kept
    | with_reducible apply State.askLoan_kept
    | split
    | dsimp only)

theorem State.loanArrives_kept {z : State} (s : State) (src type : Nat) (m : LoanMsg) (hk : Kept z s) : Kept z (State.loanArrives s src type m).1 := by
  unfold State.loanArrives
  repeat' (first
    | with_reducible assumption
    | with_reducible apply State.bump_kept
    | with_reducible apply State.ticked_kept
    | with_reducible apply State.setBit_kept
    | with_reducible apply State.modPower_kept
    | with_reducible apply State.sendLoan_kept
    | with_reducible apply State.returnAll_kept
    | with_reducible apply State.askLoan_kept
    | with_reducible apply Kept.ite
    | with_reducible apply Kept.ite_fst)

theorem State.loanWritten_kept {z : State} (s : State) (src value : Nat) (hk : Kept z s) : Kept z (State.loanWritten s src value).1 := by
  unfold State.loanWritten
  repeat' (first
    | with_reducible assumption
    | with_reducible apply State.loanArrives_kept
    | with_reducible apply Kept.ite_fst)

theorem State.setPowerCap_kept {z : State} (s : State) (watts : Nat) (hk : Kept z s) : Kept z (State.setPowerCap s watts).1 := by
  unfold State.setPowerCap
  repeat' (first
    | with_reducible assumption
    | with_reducible apply State.setOb_kept
    | with_reducible apply State.setBit_kept
    | with_reducible apply State.raise_kept
    | with_reducible apply State.calm_kept
    | with_reducible apply State.log_kept
    | with_reducible apply State.returnAll_kept
    | with_reducible apply Kept.ite_fst)

theorem State.commitSteady_kept {z : State} (s : State) (on setpoint ramp : Nat) (hk : Kept z s) : Kept z (State.commitSteady s on setpoint ramp).1 := by
  unfold State.commitSteady
  repeat' (first
    | with_reducible assumption
    | with_reducible apply State.setOb_kept
    | with_reducible apply State.setBit_kept
    | with_reducible apply State.modPower_kept
    | with_reducible apply State.returnAll_kept
    | with_reducible apply Kept.ite
    | with_reducible apply Kept.ite_fst)

theorem State.readTj_kept {z : State} (s : State) (tj : Int) (hk : Kept z s) : Kept z (State.readTj s tj) := by
  unfold State.readTj
  repeat' (first
    | with_reducible assumption
    | with_reducible apply State.setOb_kept
    | with_reducible apply State.raise_kept
    | with_reducible apply State.calm_kept
    | with_reducible apply Kept.ite)

theorem State.estimateFlow_kept {z : State} (s : State) (hk : Kept z s) : Kept z (State.estimateFlow s) := by
  unfold State.estimateFlow
  repeat' (first
    | with_reducible assumption
    | with_reducible apply State.setOb_kept)

theorem State.enterShed_kept {z : State} (s : State) (level : Nat) (hk : Kept z s) : Kept z (State.enterShed s level) := by
  unfold State.enterShed
  repeat' (first
    | with_reducible assumption
    | with_reducible apply State.setOb_kept
    | with_reducible apply State.bump_kept
    | with_reducible apply State.setBit_kept
    | with_reducible apply State.log_kept
    | with_reducible apply State.abort_kept
    | with_reducible apply State.modPort_kept
    | with_reducible apply State.enterPort_kept
    | with_reducible apply State.leaveUp_kept
    | with_reducible apply State.orderlyOff_kept
    | with_reducible apply State.returnAll_kept
    | with_reducible apply Kept.ite
    | (with_reducible refine Kept.foldl _ (fun _ _ _ => ?_) ?_))

theorem State.replanStand_kept {z : State} (s : State) (n : Nat) (hk : Kept z s) : Kept z (State.replanStand s n) := by
  unfold State.replanStand
  repeat' (first
    | with_reducible assumption
    | with_reducible apply State.setOb_kept
    | with_reducible apply State.logStand_kept
    | with_reducible apply State.fenceDecide_kept
    | with_reducible apply Kept.ite)

theorem State.writeAges_kept {z : State} (s : State) (hk : Kept z s) : Kept z (State.writeAges s) := by
  unfold State.writeAges
  repeat' (first
    | with_reducible assumption
    | with_reducible apply State.modPower_kept)

theorem State.replan_kept {z : State} (s : State) (hk : Kept z s) : Kept z (State.replan s) := by
  unfold State.replan
  repeat' (first
    | with_reducible assumption
    | with_reducible apply State.modPower_kept
    | with_reducible apply State.replanStand_kept
    | with_reducible apply State.writeAges_kept
    | (with_reducible refine Kept.foldl _ (fun _ _ _ => ?_) ?_))

end Sys2Proof.Machine
end

