-- ==== Sys2Proof/Laws/KeptDict.lean ====
section
/-! SUPPORT. The lemmas of `Kept` (Sys2Proof/Laws/Kept.lean) for channels, the dictionary, the boundary, the guests and scrub. -/

namespace Sys2Proof.Machine

set_option Elab.async false

theorem State.saveContext_kept {z : State} (s : State) (h : Nat) (hk : Kept z s) : Kept z (State.saveContext s h) := by
  unfold State.saveContext
  repeat' (first
    | with_reducible assumption
    | with_reducible apply State.drawn_kept
    | with_reducible apply State.put_kept
    | (with_reducible refine Kept.foldl _ (fun _ _ _ => ?_) ?_)
    | split)

theorem State.swapOut_kept {z : State} (s : State) (h : Nat) (hk : Kept z s) : Kept z (State.swapOut s h) := by
  unfold State.swapOut
  repeat' (first
    | with_reducible assumption
    | with_reducible apply State.bump_kept
    | with_reducible apply State.modChan_kept
    | with_reducible apply State.saveContext_kept)

theorem State.readContext_kept {z : State} (s : State) (uid a : Nat) (hk : Kept z s) : Kept z (State.readContext s uid a) := by
  unfold State.readContext
  repeat' (first
    | with_reducible assumption
    | with_reducible apply State.abort_kept
    | with_reducible apply State.detect_kept
    | (with_reducible refine Kept.foldl _ (fun _ _ _ => ?_) ?_)
    | split)

theorem State.swapIn_kept {z : State} (s : State) (h : Nat) (hk : Kept z s) : Kept z (State.swapIn s h) := by
  unfold State.swapIn
  repeat' (first
    | with_reducible assumption
    | with_reducible apply State.modChan_kept
    | with_reducible apply State.readContext_kept
    | split)

theorem State.contextRoom_kept {z : State} (s : State) {t : State} (e : s.contextRoom = some t) (hk : Kept z s) : Kept z t := by
  unfold State.contextRoom at e
  split at e
  · injection e with e; subst e; exact hk
  · obtain ⟨_, -, rfl⟩ := Option.map_eq_some_iff.1 e
    exact State.swapOut_kept _ _ hk

theorem State.wantContext_kept {z : State} (s : State) (h : Nat) (hk : Kept z s) : Kept z (State.wantContext s h) := by
  unfold State.wantContext
  repeat' (first
    | with_reducible assumption
    | with_reducible apply State.modChan_kept
    | with_reducible apply State.swapIn_kept
    | with_reducible refine State.contextRoom_kept _ (by assumption) ?_
    | split)

theorem State.doorbellIgnored_kept {z : State} (s : State) (h v hcount : Nat) (hk : Kept z s) : Kept z (State.doorbellIgnored s h v hcount) := by
  unfold State.doorbellIgnored
  repeat' (first
    | with_reducible assumption
    | with_reducible apply State.bump_kept
    | with_reducible apply State.log_kept)

theorem State.joinGroup_kept {z : State} (s : State) (job uid : Nat) (id : BitVec 32) (d : Desc) {g : Option Nat} {t : State}
    (e : s.joinGroup job uid id d = some (g, t)) (hk : Kept z s) : Kept z t := by
  unfold State.joinGroup at e
  dsimp only at e
  repeat' split at e
  all_goals first | (injection e with e; injection e with _ e; subst e) | injection e
  · exact hk
  all_goals exact Kept.upd hk rfl ⟨rfl, rfl, rfl⟩ (List.prefix_refl _)

theorem State.keepExhausted_kept {z : State} (s : State) (h : Nat) (id : BitVec 32) (hk : Kept z s) : Kept z (State.keepExhausted s h id) := by
  unfold State.keepExhausted
  repeat' (first
    | with_reducible assumption
    | with_reducible apply State.modChan_kept)

theorem State.earlyRead_kept {z : State} (s : State) (t : Task) (hk : Kept z s) : Kept z (State.earlyRead s t) := by
  unfold State.earlyRead
  repeat' (first
    | with_reducible assumption
    | with_reducible apply State.modTask_kept
    | with_reducible apply State.meet_kept
    | with_reducible apply State.taskWaits_kept
    | (with_reducible refine Kept.foldl _ (fun _ _ _ => ?_) ?_)
    | split
    | dsimp only)

theorem State.admitDesc_kept {z : State} (s : State) (h : Nat) (c : Chan) (d : Desc) (hk : Kept z s) : Kept z (State.admitDesc s h c d) := by
  unfold State.admitDesc
  extract_lets slot exp deps u t
  have hu : Kept z u := State.setChan_kept _ _ _ hk
  split
  · exact State.finishCore_kept _ _ _ (Kept.ite (State.unmappedAccess_kept _ _ _ hu) hu)
  · split
    · exact State.keepExhausted_kept _ _ _ (State.finishCore_kept _ _ _ hu)
    · rename_i g v e
      have hv := State.setTasks_kept v (v.chan.tasks ++ [{ t with group := g, deps := deps }]) (State.joinGroup_kept _ _ _ _ _ e hu)
      exact Kept.ite (State.earlyRead_kept _ _ hv) hv

theorem State.swapWaiting_kept {z : State} (n : Nat) (s : State) (hk : Kept z s) : Kept z (State.swapWaiting n s) := by
  induction n generalizing s with
  | zero => exact hk
  | succ n ih =>
    unfold State.swapWaiting
    split
    · exact ih _ (State.swapIn_kept _ _ (State.contextRoom_kept _ (by assumption) hk))
    · exact hk

theorem State.markLongest_kept {z : State} (n : Nat) (s : State) (hk : Kept z s) : Kept z (State.markLongest n s) := by
  induction n generalizing s with
  | zero => exact hk
  | succ n ih =>
    unfold State.markLongest
    split
    · exact ih _ (State.modChan_kept _ _ _ hk)
    · exact hk

theorem State.discard_kept {z : State} (s : State) (role : Role) (index : Nat) (hk : Kept z s) : Kept z (State.discard s role index) := by
  unfold State.discard
  repeat' (first
    | with_reducible assumption
    | with_reducible refine Kept.upd ?_ rfl ⟨rfl, rfl, rfl⟩ (List.prefix_refl _))

theorem State.modStaged_kept {z : State} (s : State) (role : Role) (index : Nat) (f : Staged → Staged) (hk : Kept z s) : Kept z (State.modStaged s role index f) := by
  unfold State.modStaged
  repeat' (first
    | with_reducible assumption
    | with_reducible apply State.discard_kept
    | with_reducible refine Kept.upd ?_ rfl ⟨rfl, rfl, rfl⟩ (List.prefix_refl _))

theorem State.touchStaged_kept {z : State} (s : State) (role : Role) (index : Nat) (hk : Kept z s) : Kept z (State.touchStaged s role index) := by
  unfold State.touchStaged
  repeat' (first
    | with_reducible assumption
    | with_reducible apply Kept.ite
    | with_reducible refine Kept.upd ?_ rfl ⟨rfl, rfl, rfl⟩ (List.prefix_refl _))

theorem State.stage_kept {z : State} (s : State) (role : Role) (r : ObjRow) (m : DictMsg) (hk : Kept z s) : Kept z (State.stage s role r m).1 := by
  unfold State.stage
  repeat' (first
    | with_reducible assumption
    | with_reducible apply State.modStaged_kept
    | with_reducible apply Kept.ite_fst
    | split)

theorem State.takeValues_kept {z : State} (s : State) (role : Role) (index : Nat) (hk : Kept z s) : Kept z (State.takeValues s role index) := by
  unfold State.takeValues
  repeat' (first
    | with_reducible assumption
    | with_reducible apply State.setOb_kept
    | (with_reducible refine Kept.foldl _ (fun _ _ _ => ?_) ?_))

theorem State.takeHandle_kept {z : State} (s : State) {h : Nat} {t : State} (e : s.takeHandle = some (h, t)) (hk : Kept z s) : Kept z t := by
  unfold State.takeHandle at e
  repeat' split at e
  all_goals first | (simp only [Option.some.injEq, Prod.mk.injEq] at e; obtain ⟨-, rfl⟩ := e) | contradiction
  all_goals exact Kept.upd hk rfl ⟨rfl, rfl, rfl⟩ (List.prefix_refl _)

theorem State.commitChannel_kept {z : State} (s : State) (role : Role) (hk : Kept z s) : Kept z (State.commitChannel s role).1 := by
  unfold State.commitChannel
  try dsimp only
  repeat' (first
    | with_reducible assumption
    | with_reducible apply State.setOb_kept
    | with_reducible apply State.msix_kept
    | with_reducible apply State.setChan_kept
    | with_reducible apply State.saveContext_kept
    | with_reducible refine State.takeHandle_kept _ (by assumption) ?_
    | (with_reducible refine Kept.foldl _ (fun _ _ _ => ?_) ?_)
    | split
    | with_reducible refine Kept.upd ?_ rfl ⟨rfl, rfl, rfl⟩ (List.prefix_refl _))

theorem State.commitScratch_kept {z : State} (s : State) (role : Role) (hk : Kept z s) : Kept z (State.commitScratch s role).1 := by
  unfold State.commitScratch
  try dsimp only
  repeat' (first
    | with_reducible assumption
    | with_reducible apply State.takeValues_kept
    | split)

theorem State.commitProfile_kept {z : State} (s : State) (role : Role) (slot : Nat) (hk : Kept z s) : Kept z (State.commitProfile s role slot).1 := by
  unfold State.commitProfile
  try dsimp only
  repeat' (first
    | with_reducible assumption
    | with_reducible apply State.clearOb_kept
    | with_reducible apply State.setOb_kept
    | with_reducible apply State.modJob_kept
    | with_reducible apply State.abandonGen_kept
    | with_reducible apply State.takeValues_kept
    | (with_reducible refine Kept.foldl _ (fun _ _ _ => ?_) ?_)
    | split)

theorem State.commitGuest_kept {z : State} (s : State) (role : Role) (hk : Kept z s) : Kept z (State.commitGuest s role).1 := by
  unfold State.commitGuest
  repeat' (first
    | with_reducible assumption
    | with_reducible apply State.takeValues_kept
    | with_reducible apply Kept.ite_fst)

theorem State.commitIndex_kept {z : State} (s : State) (v : Via) (index : Nat) (hk : Kept z s) : Kept z (State.commitIndex s v index).1 := by
  unfold State.commitIndex
  repeat' (first
    | with_reducible assumption
    | with_reducible apply State.commitTables_kept
    | with_reducible apply State.commitEndpoint_kept
    | with_reducible apply State.commitRegions_kept
    | with_reducible apply State.commitReplicas_kept
    | with_reducible apply State.commitSets_kept
    | with_reducible apply State.commitSteady_kept
    | with_reducible apply State.commitChannel_kept
    | with_reducible apply State.commitScratch_kept
    | with_reducible apply State.commitProfile_kept
    | with_reducible apply State.commitGuest_kept
    | with_reducible apply Kept.ite_fst
    | (with_reducible refine Kept.foldl _ (fun _ _ _ => ?_) ?_)
    | split)

theorem State.persist_kept {z : State} (s old : State) (hk : Kept z s) : Kept z (s.persist old) := by
  unfold State.persist
  split
  · exact Kept.upd hk rfl ⟨rfl, rfl, rfl⟩ (List.prefix_refl _)
  · exact hk

theorem State.commit_kept {z : State} (s : State) (v : Via) (index value : Nat) (hk : Kept z s) : Kept z (State.commit s v index value).1 := by
  unfold State.commit
  repeat' (first
    | with_reducible assumption
    | with_reducible apply State.touchStaged_kept
    | with_reducible apply State.discard_kept
    | with_reducible apply State.commitIndex_kept
    | with_reducible apply Kept.ite_fst
    | (with_reducible refine Kept.foldl _ (fun _ _ _ => ?_) ?_))

theorem State.writeJobSlot_kept {z : State} (s : State) (slot id : Nat) (hk : Kept z s) : Kept z (State.writeJobSlot s slot id).1 := by
  unfold State.writeJobSlot
  repeat' (first
    | with_reducible assumption
    | with_reducible apply State.setOb_kept
    | with_reducible apply State.clearOb_kept
    | with_reducible apply State.setJob_kept
    | with_reducible apply State.abandonGen_kept
    | split)

theorem State.destroyChannel_kept {z : State} (s : State) (h : Nat) (hk : Kept z s) : Kept z (State.destroyChannel s h).1 := by
  unfold State.destroyChannel
  repeat' (first
    | with_reducible assumption
    | with_reducible apply State.setChan_kept
    | with_reducible apply State.freeChan_kept
    | with_reducible apply State.finishCore_kept
    | (with_reducible refine Kept.foldl _ (fun _ _ _ => ?_) ?_)
    | split)

theorem State.resumeChannel_kept {z : State} (s : State) (h : Nat) (hk : Kept z s) : Kept z (State.resumeChannel s h).1 := by
  unfold State.resumeChannel
  repeat' (first
    | with_reducible assumption
    | with_reducible apply State.setChan_kept
    | split)

theorem State.writeArrivalBase_kept {z : State} (s : State) (slot a : Nat) (hk : Kept z s) : Kept z (State.writeArrivalBase s slot a).1 := by
  unfold State.writeArrivalBase
  repeat' (first
    | with_reducible assumption
    | with_reducible apply State.setOb_kept
    | with_reducible apply Kept.ite_fst)

theorem State.restoreDefaults_kept {z : State} (s : State) (v : Nat) (hk : Kept z s) : Kept z (State.restoreDefaults s v).1 := by
  unfold State.restoreDefaults
  repeat' (first
    | with_reducible assumption
    | with_reducible apply State.setOb_kept
    | with_reducible apply State.enablePort_kept
    | with_reducible apply State.commitEndpoint_kept
    | with_reducible apply State.setPowerCap_kept
    | (with_reducible refine Kept.foldl _ (fun _ _ _ => ?_) ?_)
    | split
    | with_reducible refine Kept.upd ?_ rfl ⟨rfl, rfl, rfl⟩ (List.prefix_refl _))

theorem State.writeDiag_kept {z : State} (s : State) (v : Nat) (hk : Kept z s) : Kept z (State.writeDiag s v).1 := by
  unfold State.writeDiag
  repeat' (first
    | with_reducible assumption
    | with_reducible apply State.setOb_kept
    | with_reducible apply Kept.ite_fst)

theorem State.bankMessage_kept {z : State} (s : State) (v : Via) (sub value : Nat) (hint : Option Nat) (hk : Kept z s) : Kept z (State.bankMessage s v sub value hint).1 := by
  unfold State.bankMessage
  try dsimp only
  repeat' (first
    | with_reducible assumption
    | with_reducible apply State.foldCheckArrives_kept
    | with_reducible apply State.twinSlotArrives_kept
    | with_reducible apply State.genDoneArrives_kept
    | with_reducible apply State.genCompleteArrives_kept
    | split)

theorem writeOne_kept {z : State} (s : State) (v : Nat) (f : State → State × Reply) (hf : ∀ a, Kept z a → Kept z (f a).1) (hk : Kept z s) :
    Kept z (writeOne s v f).1 := by
  unfold writeOne
  repeat' (first
    | with_reducible assumption
    | with_reducible apply hf
    | split)

theorem State.writeObject_kept {z : State} (s : State) (v : Via) (hint : Option Nat) (r : ObjRow) (m : DictMsg) (hk : Kept z s) : Kept z (State.writeObject s v hint r m).1 := by
  unfold State.writeObject
  repeat' (first
    | with_reducible assumption
    | with_reducible apply State.setOb_kept
    | with_reducible apply State.enablePort_kept
    | with_reducible apply State.reenablePort_kept
    | with_reducible apply State.startSwitch_kept
    | with_reducible apply State.requestFence_kept
    | with_reducible apply State.requestTest_kept
    | with_reducible apply State.ackRecord_kept
    | with_reducible apply State.ackCper_kept
    | with_reducible apply State.clearOverflow_kept
    | with_reducible apply State.requestRestore_kept
    | with_reducible apply State.loanWritten_kept
    | with_reducible apply State.setPowerCap_kept
    | with_reducible apply State.replan_kept
    | with_reducible apply State.writeJobSlot_kept
    | with_reducible apply State.destroyChannel_kept
    | with_reducible apply State.resumeChannel_kept
    | with_reducible apply State.writeArrivalBase_kept
    | with_reducible apply State.restoreDefaults_kept
    | with_reducible apply State.writeDiag_kept
    | with_reducible apply State.bankMessage_kept
    | (with_reducible refine writeOne_kept _ _ _ (fun _ _ => ?_) ?_)
    | with_reducible apply Kept.ite_fst)

theorem State.execute_kept {z : State} (s : State) (v : Via) (hint : Option Nat) (m : DictMsg) (hk : Kept z s) : Kept z (State.execute s v hint m).1 := by
  unfold State.execute
  repeat' (first
    | with_reducible assumption
    | with_reducible apply State.touchStaged_kept
    | with_reducible apply State.stage_kept
    | with_reducible apply State.commit_kept
    | with_reducible apply State.writeObject_kept
    | split)

theorem State.requestFor_kept {z : State} (s : State) (v : Via) (hint : Option Nat) (m : DictMsg) (hk : Kept z s) : Kept z (State.requestFor s v hint m) := by
  unfold State.requestFor
  repeat' (first
    | with_reducible assumption
    | with_reducible apply State.bump_kept
    | with_reducible apply State.respond_kept
    | with_reducible apply State.dropDict_kept
    | with_reducible apply State.takeRequest_kept
    | with_reducible apply State.persist_kept
    | with_reducible apply State.execute_kept
    | split
    | with_reducible refine Kept.upd ?_ rfl ⟨rfl, rfl, rfl⟩ (List.prefix_refl _))

theorem State.serveHeld_kept {z : State} (s : State) (hk : Kept z s) : Kept z (State.serveHeld s) := by
  unfold State.serveHeld
  repeat' (first
    | with_reducible assumption
    | with_reducible apply State.requestFor_kept
    | (with_reducible refine Kept.foldl _ (fun _ _ _ => ?_) ?_)
    | split
    | with_reducible refine Kept.upd ?_ rfl ⟨rfl, rfl, rfl⟩ (List.prefix_refl _))

theorem State.request_kept {z : State} (s : State) (v : Via) (m : DictMsg) (hk : Kept z s) : Kept z (State.request s v m) := by
  unfold State.request
  repeat' (first
    | with_reducible assumption
    | with_reducible apply State.requestFor_kept)

theorem State.writeReq_kept {z : State} (s : State) (v : Via) (index sub x n : Nat) (hk : Kept z s) : Kept z (State.writeReq s v index sub x n) := by
  unfold State.writeReq
  repeat' (first
    | with_reducible assumption
    | with_reducible apply State.request_kept)

theorem State.commitReq_kept {z : State} (s : State) (v : Via) (index : Nat) (hk : Kept z s) : Kept z (State.commitReq s v index) := by
  unfold State.commitReq
  repeat' (first
    | with_reducible assumption
    | with_reducible apply State.request_kept)

theorem State.loanReq_kept {z : State} (s : State) (v : Via) (type : Nat) (m : LoanMsg) (hk : Kept z s) : Kept z (State.loanReq s v type m) := by
  unfold State.loanReq
  repeat' (first
    | with_reducible assumption
    | with_reducible apply State.request_kept)

theorem State.setPin_kept {z : State} (s : State) (p : Pin) (x : PinSt) (hk : Kept z s) : Kept z (State.setPin s p x) := by
  unfold State.setPin
  repeat' (first
    | with_reducible assumption
    | split
    | with_reducible refine Kept.upd ?_ rfl ⟨rfl, rfl, rfl⟩ (List.prefix_refl _))

theorem State.rejectToggle_kept {z : State} (s : State) (p : Pin) (hk : Kept z s) : Kept z (State.rejectToggle s p) := by
  unfold State.rejectToggle
  repeat' (first
    | with_reducible assumption
    | with_reducible apply State.bump_kept
    | with_reducible apply State.raise_kept
    | with_reducible apply State.log_kept
    | with_reducible apply State.setPin_kept
    | with_reducible apply Kept.ite)

theorem State.acceptLevel_kept {z : State} (s : State) (p : Pin) (level : Nat) (hk : Kept z s) : Kept z (State.acceptLevel s p level) := by
  unfold State.acceptLevel
  repeat' (first
    | with_reducible assumption
    | with_reducible apply State.setPin_kept)

theorem State.bare_kept {z : State} (s : State) (hk : Kept z s) : Kept z (State.bare s) := by
  unfold State.bare
  repeat' (first
    | with_reducible assumption
    | with_reducible apply State.orderlyOff_kept
    | with_reducible refine Kept.upd ?_ rfl ⟨rfl, rfl, rfl⟩ (List.prefix_refl _))

theorem State.logSettingsLost_kept {z : State} (s : State) (hk : Kept z s) : Kept z (State.logSettingsLost s) := by
  unfold State.logSettingsLost
  repeat' (first
    | with_reducible assumption
    | with_reducible apply State.enqueue_kept
    | with_reducible refine Kept.upd ?_ rfl ⟨rfl, rfl, rfl⟩ (List.prefix_refl _))

theorem State.retryLater_kept {z : State} (s : State) (hk : Kept z s) : Kept z (State.retryLater s) := by
  unfold State.retryLater
  repeat' (first
    | with_reducible assumption
    | with_reducible apply State.modJob_kept
    | with_reducible apply State.respond_kept
    | (with_reducible refine Kept.foldl _ (fun _ _ _ => ?_) ?_)
    | split
    | with_reducible refine Kept.upd ?_ rfl ⟨rfl, rfl, rfl⟩ (List.prefix_refl _))

theorem State.takenOver_kept {z : State} (s t : State) (ht : Kept z t) : Kept z (s.takenOver t) := by
  unfold State.takenOver
  exact Kept.ite ht (State.serveHeld_kept _ (State.retryLater_kept _ ht))

theorem State.halfLost_kept {z : State} (s : State) (h : Nat) (hk : Kept z s) : Kept z (s.halfLost h) :=
  State.takenOver_kept s _ (State.loseHalf_kept _ _ hk)

theorem State.bar0Write_kept {z : State} (s : State) (o : Nat) (v : BitVec 32) (hk : Kept z s) : Kept z (State.bar0Write s o v) := by
  unfold State.bar0Write
  repeat' (first
    | with_reducible assumption
    | with_reducible apply State.msix_kept
    | split
    | with_reducible refine Kept.upd ?_ rfl ⟨rfl, rfl, rfl⟩ (List.prefix_refl _))

theorem State.unlock_kept {z : State} (s : State) (c : Nat) (hk : Kept z s) : Kept z (State.unlock s c) := by
  unfold State.unlock
  repeat' (first
    | with_reducible assumption
    | with_reducible refine Kept.upd ?_ rfl ⟨rfl, rfl, rfl⟩ (List.prefix_refl _))

theorem State.answerRetry_kept {z : State} (s : State) (r : Option (Via × DictMsg)) (hk : Kept z s) : Kept z (State.answerRetry s r) := by
  unfold State.answerRetry
  repeat' (first
    | with_reducible assumption
    | with_reducible apply State.respond_kept
    | split
    | with_reducible refine Kept.upd ?_ rfl ⟨rfl, rfl, rfl⟩ (List.prefix_refl _))

theorem State.guestRefuse_kept {z : State} (s : State) (site tag a n : Nat) (hk : Kept z s) : Kept z (State.guestRefuse s site tag a n) := by
  unfold State.guestRefuse
  repeat' (first
    | with_reducible assumption
    | with_reducible apply State.log_kept
    | with_reducible apply State.toGuest_kept)

theorem State.forwardGuest_kept {z : State} (s : State) (site tag op addr len : Nat) (blocks : List GuestBlock) (hk : Kept z s) : Kept z (State.forwardGuest s site tag op addr len blocks) := by
  unfold State.forwardGuest
  repeat' (first
    | with_reducible assumption
    | with_reducible apply State.answer_kept
    | with_reducible apply State.sendGuest_kept)

theorem State.guestAnswered_kept {z : State} (s : State) (r : GuestReq) (hk : Kept z s) : Kept z (State.guestAnswered s r) := by
  unfold State.guestAnswered
  repeat' (first
    | with_reducible assumption
    | with_reducible apply State.modTask_kept
    | with_reducible apply State.pumpGuest_kept
    | split
    | with_reducible refine Kept.upd ?_ rfl ⟨rfl, rfl, rfl⟩ (List.prefix_refl _))

theorem State.guestFailed_kept {z : State} (s : State) (r : GuestReq) (a code : Nat) (hk : Kept z s) : Kept z (State.guestFailed s r a code) := by
  unfold State.guestFailed
  repeat' (first
    | with_reducible assumption
    | with_reducible apply State.abort_kept
    | with_reducible apply State.answerGuest_kept
    | with_reducible apply State.guestAnswered_kept
    | split)

theorem State.setSpdm_kept {z : State} (s : State) (n : Nat) (hk : Kept z s) : Kept z (State.setSpdm s n) := by
  unfold State.setSpdm
  repeat' (first
    | with_reducible assumption
    | with_reducible refine Kept.upd ?_ rfl ⟨rfl, rfl, rfl⟩ (List.prefix_refl _))

theorem State.spdmAnswer_kept {z : State} (s : State) (code p1 p2 : Nat) (body : List Byte) (hk : Kept z s) : Kept z (State.spdmAnswer s code p1 p2 body) := by
  unfold State.spdmAnswer
  repeat' (first
    | with_reducible assumption
    | with_reducible apply State.answerI3c_kept)

theorem State.spdmError_kept {z : State} (s : State) (code : Nat) (hk : Kept z s) : Kept z (State.spdmError s code) := by
  unfold State.spdmError
  repeat' (first
    | with_reducible assumption
    | with_reducible apply State.spdmAnswer_kept)

theorem State.recordVca_kept {z : State} (s : State) (l : List Byte) (hk : Kept z s) : Kept z (State.recordVca s l) := by
  unfold State.recordVca
  repeat' (first
    | with_reducible assumption
    | with_reducible refine Kept.upd ?_ rfl ⟨rfl, rfl, rfl⟩ (List.prefix_refl _))

theorem State.recordCert_kept {z : State} (s : State) (l : List Byte) (hk : Kept z s) : Kept z (State.recordCert s l) := by
  unfold State.recordCert
  repeat' (first
    | with_reducible assumption
    | with_reducible refine Kept.upd ?_ rfl ⟨rfl, rfl, rfl⟩ (List.prefix_refl _))

theorem State.beginSpdm_kept {z : State} (s : State) (hk : Kept z s) : Kept z (State.beginSpdm s) := by
  unfold State.beginSpdm
  repeat' (first
    | with_reducible assumption
    | with_reducible refine Kept.upd ?_ rfl ⟨rfl, rfl, rfl⟩ (List.prefix_refl _))

theorem State.answerCapabilities_kept {z : State} (s : State) (ask : List Byte) (hk : Kept z s) : Kept z (State.answerCapabilities s ask) := by
  unfold State.answerCapabilities
  repeat' (first
    | with_reducible assumption
    | with_reducible apply State.ask_kept
    | with_reducible apply State.setSpdm_kept
    | with_reducible apply State.spdmAnswer_kept
    | with_reducible apply State.recordVca_kept)

theorem State.answerAlgorithms_kept {z : State} (s : State) (offer : List Byte) (hk : Kept z s) : Kept z (State.answerAlgorithms s offer) := by
  unfold State.answerAlgorithms
  repeat' (first
    | with_reducible assumption
    | with_reducible apply State.setSpdm_kept
    | with_reducible apply State.spdmAnswer_kept
    | with_reducible apply State.recordVca_kept)

theorem State.attested_kept {z : State} (s : State) (ok : Bool) (f : State → State) (hf : ∀ a, Kept z a → Kept z (f a)) (hk : Kept z s) :
    Kept z (s.attested ok f) := by
  unfold State.attested
  repeat' (first
    | with_reducible assumption
    | with_reducible apply hf
    | with_reducible apply State.spdmError_kept
    | with_reducible apply State.setSpdm_kept
    | split)

theorem State.answerChallenge_kept {z : State} (s : State) (ask : ChallengeAsk) (own : List Byte) (hk : Kept z s) : Kept z (State.answerChallenge s ask own) := by
  unfold State.answerChallenge
  repeat' (first
    | with_reducible assumption
    | with_reducible apply State.sign_kept
    | with_reducible apply State.ask_kept
    | with_reducible apply State.spdmAnswer_kept
    | with_reducible refine Kept.upd ?_ rfl ⟨rfl, rfl, rfl⟩ (List.prefix_refl _))

theorem State.answerMeasurements_kept {z : State} (s : State) (index : Nat) (nonce own : List Byte) (hk : Kept z s) : Kept z (State.answerMeasurements s index nonce own) := by
  unfold State.answerMeasurements
  repeat' (first
    | with_reducible assumption
    | with_reducible apply State.sign_kept
    | with_reducible apply State.spdmAnswer_kept)

theorem State.setEid_kept {z : State} (s : State) (data : List Byte) (hk : Kept z s) : Kept z (State.setEid s data) := by
  unfold State.setEid
  repeat' (first
    | with_reducible assumption
    | with_reducible apply State.answerI3c_kept
    | split
    | with_reducible refine Kept.upd ?_ rfl ⟨rfl, rfl, rfl⟩ (List.prefix_refl _))

theorem State.vectorTask_kept {z : State} (s : State) (h : Nat) (t : BitVec 32) (p : Placement) (v : Nat) (items : State → Desc → Nat → List VItem) (hk : Kept z s) : Kept z (State.vectorTask s h t p v items) := by
  unfold State.vectorTask
  repeat' (first
    | with_reducible assumption
    | with_reducible apply State.startOn_kept)

theorem State.reproduce_kept {z : State} (s : State) (t : Task) (d : Desc) (hostAnswer : Option (List Byte)) (hk : Kept z s) : Kept z (State.reproduce s t d hostAnswer).1 := by
  unfold State.reproduce
  repeat' (first
    | with_reducible assumption
    | with_reducible apply State.setOb_kept
    | with_reducible apply State.put_kept
    | with_reducible apply State.abort_kept
    | with_reducible apply State.ownError_kept
    | with_reducible apply State.tally_kept
    | with_reducible apply Kept.ite_fst
    | (with_reducible refine Kept.foldl _ (fun _ _ _ => ?_) ?_)
    | split)

theorem State.contextFault_kept {z : State} (s : State) (b : Nat) (hk : Kept z s) : Kept z (State.contextFault s b) := by
  unfold State.contextFault
  repeat' (first
    | with_reducible assumption
    | with_reducible apply State.abort_kept
    | with_reducible apply State.detect_kept
    | (with_reducible refine Kept.foldl _ (fun _ _ _ => ?_) ?_))

theorem State.tableUpset_kept {z : State} (s : State) (b : Nat) (u : Upset) (hk : Kept z s) : Kept z (State.tableUpset s b u) := by
  unfold State.tableUpset
  repeat' (first
    | with_reducible assumption
    | with_reducible apply State.detect_kept
    | with_reducible apply State.halfLost_kept
    | split
    | with_reducible refine Kept.upd ?_ rfl ⟨rfl, rfl, rfl⟩ (List.prefix_refl _))

theorem State.upset_kept {z : State} (s : State) (b : Nat) (u : Upset) (hk : Kept z s) : Kept z (State.upset s b u) := by
  unfold State.upset
  repeat' (first
    | with_reducible assumption
    | with_reducible apply State.poke_kept
    | split
    | with_reducible refine Kept.upd ?_ rfl ⟨rfl, rfl, rfl⟩ (List.prefix_refl _)
    | dsimp only)

end Sys2Proof.Machine
end

