-- ==== Sys2Proof/Tests/Slice0.lean ====
section
/-! SUPPORT. Tests: ill-formed commands that WellFormed refuses; worked examples of the manual; and for every statement with
hypotheses a state and operands that meet them, at the boundary values of its clauses. -/

namespace Sys2Proof.Machine.Tests

set_option Elab.async false

/-- Objects set one after another. -/
def sets (l : List (Nat × Nat)) (s : State) : State := l.foldl (fun s x => s.setOb x.1 x.2) s

/-- An endpoint table entry: route, port, uplinks. -/
def ep (route port uplinks : Nat) : EpEntry := BitVec.ofNat 128 (pack [(126, 2, route), (123, 3, port), (121, 2, uplinks)])

/-- The first address of understory memory. -/
def under : Nat := 0x400000000000

/-- A region of job 7 in understory memory of a class, with its two twins at modules 2 and 3. -/
def region (cls : Nat) : Region :=
  BitVec.ofNat 256 (pack [(224, 32, under / 65536), (192, 32, 256), (180, 12, 7), (178, 2, cls), (176, 1, 1),
    (160, 16, if cls = 2 then 2 else 0), (144, 16, if cls = 2 then 3 else 0), (112, 32, 0x1000), (96, 16, 0xFFFF)])

/-- A module that serves: both halves and Glades run, the host link is up, it is endpoint 1 of a grove with 2 and 3, endpoint 9 is reached
through the forest, job 7 holds slot 0 and a region of class None, ports 0 and 7 are UP. -/
def up : State :=
  sets [(Obj.halfState 0, 2), (Obj.halfState 1, 2), (Obj.endpointId, 1), (Obj.groveId, 5), (Obj.jobSlotId 0, 7), (Obj.portState 0, 2),
      (Obj.portPeer 0, 2), (Obj.portState 7, 2), (Obj.plotCount 0, 2)]
    { State.reset with
      now := 100000000000000
      mem := { regions := [region 0], okBlocks := [under / 64, under / 64 + 1] }
      fab := { ept0 := [(1, ep 1 0 0), (2, ep 2 0 0), (3, ep 2 1 0), (9, ep 3 0 1)], plots0 := [(0, [1, 2])], peers := [(2, {}), (3, {})] }
      edge := { powered := true, glade0 := true, glade1 := true, ready := true, hostLink := true, perst := ⟨1, none, 0, [], 0⟩,
                perstHighAt := some 0, coldHalves := [] } }

def host : Via := { role := .host }
def peer2 : Via := { role := .peer, src := 2 }

/-- The host has unmasked a vector. -/
def unmasked (vector : Nat) : State := { up with edge := { up.edge with msixTable := [(vector, 0)] } }

/-- What the host has staged at an index, by subindex. -/
def staged (index : Nat) (values : KMap Nat) (s : State) : State :=
  { s with dict := { s.dict with staged := s.dict.staged ++ [{ role := .host, index := index, values := values }] } }

/-- A table the host has staged whole at a subindex. -/
def stagedBytes (index sub : Nat) (l : List Byte) (s : State) : State :=
  let t : Staged := { role := .host, index := index, tables := [(sub, ((upto l.length).zip l, some l.length))] }
  { s with dict := { s.dict with staged := s.dict.staged ++ [t] } }

/-- The state with some channels and tasks. -/
def withTasks (chans : KMap Chan) (tasks : List Task) (s : State) : State := { s with chan := { s.chan with chans := chans, tasks := tasks } }

theorem up_served : HostServed up host := by constructor <;> decide +kernel
theorem up_peer : PeerServed up peer2 := by constructor <;> decide +kernel



/-! ## Requests -/

def chan1 : Chan := { uid := 1, job := 7, ringBase := under, ringHost := false, ringEntries := 64, cplBase := under + 0x10000, cplHost := false, cplEntries := 64, msix := 0xFFFF }

/-- The host has staged a channel of job 7. -/
def staging : State := staged 0x4010 [(1, 7), (2, under), (4, 64), (5, under + 0x10000), (7, 64)] up

/-- Every handle has been used; 5 was freed first. -/
def usedUp : State := { staging with chan := { staging.chan with nextFresh := 65536, freed := [5, 4] } }

theorem witness_ChannelRequestsComplete :
    HostServed staging host ∧ (staging.takeRequest host).channelFailure ((staging.takeRequest host).stagedValue .host 0x4010) = none ∧
    staging.chan.nextFresh = 1 ∧ HostServed (withTasks [(65535, chan1)] [] up) host ∧
    (withTasks [(65535, chan1)] [] up).chanAt 65535 = some chan1 ∧ chan1.destroying = false ∧ chan1.held = [] ∧
    (65535 < usedUp.chan.nextFresh ∧ usedUp.chan.freed.head? = some 5 ∧
      (usedUp.takeRequest host).channelFailure ((usedUp.takeRequest host).stagedValue .host 0x4010) = none) :=
  ⟨by constructor <;> decide +kernel, by decide +kernel, rfl, by constructor <;> decide +kernel, by decide +kernel, rfl, rfl, by decide +kernel⟩

theorem witness_HostAnswerLeavesNothingElse : host.role = .host ∧ up.edge.hostLink = true ∧ up.msixMasked up.dict.msixVector = true ∧
    (unmasked 3).msixMasked 3 = false ∧ (unmasked 3).msixMasked 2047 = true := by decide

/-- Scratch ranges of two jobs that meet at line 16, staged. -/
def scratchStaged : State := staged 0x4015 [(1, 0x0010), (2, 0x1010)] up

theorem witness_JobRequestsComplete :
    (up.ob (Obj.jobSlotId 15) = 0xFFFF ∧ (∀ k, k < 16 → up.ob (Obj.jobSlotId k) ≠ 0xFFE) ∧ up.ob Obj.diagEnable = 0) ∧
    (up.jobOf 0 = some 7 ∧ up.jobChans 7 = []) ∧
    (let u := scratchStaged.takeRequest host
     HostServed scratchStaged host ∧
     (∀ k, k < 16 → u.stagedValue .host 0x4015 (k + 1) ≤ 0xFFFF ∧
        fld (u.stagedValue .host 0x4015 (k + 1)) 8 8 + fld (u.stagedValue .host 0x4015 (k + 1)) 0 8 ≤ 32) ∧
     (∀ a, a < 16 → ∀ b, b < a → overlaps (fld (u.stagedValue .host 0x4015 (a + 1)) 8 8) (fld (u.stagedValue .host 0x4015 (a + 1)) 0 8)
        (fld (u.stagedValue .host 0x4015 (b + 1)) 8 8) (fld (u.stagedValue .host 0x4015 (b + 1)) 0 8) = false) ∧ scratchStaged.chan.tasks = []) ∧
    (let u := up.takeRequest host
     u.rangeFailure .host 0x310F = none ∧ u.stagedValue .host 0x310F 9 ≤ u.stagedValue .host 0x310F 7 ∧
     u.stagedValue .host 0x310F 7 ≤ u.stagedValue .host 0x310F 10 ∧ up.chan.chans = [] ∧ (up.job 15).gen = none) :=
  ⟨by decide +kernel, by decide +kernel, ⟨by constructor <;> decide +kernel, by decide +kernel, by decide +kernel, rfl⟩, by decide +kernel⟩

/-- A region table, guest rights and steady load are staged. -/
def regionsStaged : State := stagedBytes 0x6100 1 (bytesOf (region 0).toNat 32) up
def guests : State := { up with edge := { up.edge with variantU := true } }
def steadyStaged (on : Nat) : State := staged 0x2004 [(1, on), (2, 1100), (3, 50)] up

theorem witness_TableAndRightsCommitsComplete :
    (HostServed regionsStaged host ∧ (let u := regionsStaged.takeRequest host
      ((u.stagedEntries .host 0x6100 1 32).map (fun x => x.map (BitVec.ofNat 256)) = some [region 0] ∧ regionTableOk (u.cap 4) [region 0] = true ∧
        u.regionBusy [region 0] = false))) ∧
    (HostServed guests host ∧ guests.cap 4 = true ∧ guests.chan.tasks = []) ∧
    (HostServed (steadyStaged 0) host ∧ (let u := (steadyStaged 0).takeRequest host
      u.stagedValue .host 0x2004 1 = 0 ∧ u.stagedValue .host 0x2004 2 = 1100 ∧ 1100 ≤ u.capNoSteady ∧ u.stagedValue .host 0x2004 3 = 50)) ∧
    (HostServed (steadyStaged 1) host ∧ (let u := (steadyStaged 1).takeRequest host
      u.stagedValue .host 0x2004 1 = 1 ∧ u.stagedValue .host 0x2004 2 = 1100 ∧ (steadyStaged 1).cap 2 = true ∧ u.stagedValue .host 0x2004 3 = 50 ∧
        (steadyStaged 1).power.borrowed = [])) :=
  ⟨⟨by constructor <;> decide +kernel, by decide +kernel⟩, ⟨by constructor <;> decide +kernel, by decide +kernel⟩,
   ⟨by constructor <;> decide +kernel, by decide +kernel⟩, ⟨by constructor <;> decide +kernel, by decide +kernel⟩⟩

/-- No job slot is in use, and no port is UP; a new endpoint is staged. -/
def joining : State := staged 0x5000 [(1, 0xFFFE), (2, 4095)] (sets [(Obj.jobSlotId 0, 0xFFFF), (Obj.portState 0, 0), (Obj.portState 7, 0)] up)
/-- A new endpoint table and plot tables are staged. -/
def tablesStaged : State :=
  stagedBytes 0x5011 1 (bytesOf 1 2 ++ bytesOf 1 2) (stagedBytes 0x5010 1 (bytesOf 0 16 ++ bytesOf (ep 1 0 0).toNat 16) up)
def switchReady : State := { up with fab := { up.fab with ready := true } }

theorem witness_FabricRequestsComplete :
    HostServed up host ∧
    (HostServed joining host ∧ (let u := joining.takeRequest host
      u.stagedValue .host 0x5000 1 = 0xFFFE ∧ u.stagedValue .host 0x5000 2 = 4095 ∧ (∀ k, k < 16 → joining.ob (Obj.jobSlotId k) = 0xFFFF) ∧
      (∀ n, n < 9 → joining.portUp n = false))) ∧
    (HostServed tablesStaged host ∧ (let u := tablesStaged.takeRequest host
      let e := [0, ep 1 0 0]
      let p := [1, 1] :: List.replicate 15 []
      (u.stagedEntries .host 0x5010 1 16).map (fun x => x.map (BitVec.ofNat 128)) = some e ∧
      e.all (fun x => !EpEntry.reservedSet x) = true ∧ endpointsOk tablesStaged.me ((upto e.length).zip e) = true ∧
      plotsOk ((upto e.length).zip e) (((upto p.length).zip p).map (fun x => (if (tablesStaged.jobOf x.1).isSome then tablesStaged.ob (Obj.plotCount x.1) else 0, x.2))) = true ∧
      tablesStaged.switching = false)) ∧
    (tablesStaged.takeRequest host).stagedTables .host 0x5011 2 = .ok ([1, 1] :: List.replicate 15 []) ∧
    (HostServed switchReady host ∧ switchReady.switching = false ∧ switchReady.coordinator = switchReady.me ∧ switchReady.me ≠ 0 ∧
      switchReady.fab.ready = true ∧ switchReady.liveGrove ≠ []) :=
  ⟨up_served, ⟨by constructor <;> decide +kernel, by decide +kernel⟩, ⟨by constructor <;> decide +kernel, by decide +kernel⟩, rfl,
   ⟨by constructor <;> decide +kernel, by decide +kernel⟩⟩

/-- Field diagnosis is enabled, with no job. -/
def diagnosing : State := sets [(Obj.diagEnable, 1), (Obj.jobSlotId 0, 0xFFFF)] up

theorem witness_FirebreakRequestsComplete :
    (up.fenced 191 = false ∧ up.runningOn 191 = none ∧ (up.stand 191).pendState = 0) ∧
    (HostServed diagnosing host ∧ diagnosing.ob Obj.diagEnable = 1 ∧ diagnosing.fenced 191 = false) ∧
    (up.takeRequest host).stagedTables .host 0x6041 16 = .ok (List.replicate 16 []) ∧
    (∀ slot, slot < 16 → ((((List.replicate 16 ([] : List Nat)).getD slot []).map (BitVec.ofNat 128)).all ((up.takeRequest host).replicaOk slot)) = true) :=
  ⟨by decide +kernel, ⟨by constructor <;> decide +kernel, by decide +kernel⟩, rfl, by decide +kernel⟩

/-- Generation 3 is the last complete one. -/
def banked : State := sets [(Obj.lastGen 0, 3)] up

theorem witness_SeedbankRequestsComplete :
    (up.takeRequest host).stagedTables .host 0x7010 32 = .ok (List.replicate 16 []) ∧
    (up.takeRequest host).stagedTables .host 0x7011 16 = .ok (List.replicate 16 []) ∧
    (∀ slot, slot < 16 → (up.takeRequest host).bankTableOk slot (((List.replicate 16 ([] : List Nat)).getD slot []).map (BitVec.ofNat 256)) = true) ∧
    (∀ slot, (up.job slot).gen = none) ∧
    (HostServed banked host ∧ (banked.takeRequest host).jobOf 0 = some 7 ∧ banked.chan.tasks = [] ∧ 3 ≠ 0 ∧ 3 = banked.ob (Obj.lastGen 0)) :=
  ⟨rfl, rfl, by decide +kernel, fun _ => rfl, ⟨by constructor <;> decide +kernel, by decide +kernel⟩⟩

theorem witness_PowerRequestsComplete :
    HostServed up host ∧ up.power.borrowed = [] ∧
    (HostServed joining host ∧ (∀ k, k < 16 → joining.ob (Obj.jobSlotId k) = 0xFFFF) ∧ (∀ n, n < 9 → joining.portUp n = false)) :=
  ⟨up_served, rfl, ⟨by constructor <;> decide +kernel, by decide +kernel⟩⟩

theorem witness_PowerCapTakesUpTo3400W : HostServed up host ∧ 3400 ≤ 3400 ∧ 3400 < 3401 ∧ 3401 < 65536 := ⟨up_served, by decide⟩

/-- A module that lends, with 100 W lent to module 2; and one that has borrowed 100 W from it. -/
def lending : State := let s := sets [(Obj.lendEnable, 1), (Obj.lendMax, 500)] up; { s with power := { s.power with lent := [⟨2, 100, 0⟩] } }
def thrifty : State := sets [(Obj.powerCap, 1099)] up
def borrowing : State := { up with power := { up.power with borrowed := [⟨2, 100, 0⟩] } }
def loanIn : LoanMsg := { lender := 1, borrower := 2, seq := 0, watts := 50 }
def loanOut (watts : Nat) : LoanMsg := { lender := 2, borrower := 1, seq := 0, watts := watts }

theorem witness_LoanMessagesComplete :
    (PeerServed thrifty peer2 ∧ loanIn.wf = true ∧ loanIn.lender = (thrifty.takeRequest peer2).me ∧ loanIn.borrower = peer2.src ∧
      (thrifty.takeRequest peer2).mayLend = false) ∧
    (PeerServed lending peer2 ∧ (let u := lending.takeRequest peer2
      u.mayLend = true ∧ min (min loanIn.watts (u.capInForce - u.mean100 - 200)) (min (u.ob Obj.lendMax - 100) (u.userCap - 1100)) / 50 * 50 = 50 ∧
      u.power.lent = [⟨2, 100, 0⟩])) ∧
    (PeerServed borrowing peer2 ∧ (let u := borrowing.takeRequest peer2
      (loanOut 100).wf = true ∧ (loanOut 100).borrower = u.me ∧ (loanOut 100).lender = peer2.src ∧ u.power.borrowed = [⟨2, 100, 0⟩])) :=
  ⟨⟨by constructor <;> decide +kernel, by decide +kernel⟩, ⟨by constructor <;> decide +kernel, by decide +kernel⟩, ⟨by constructor <;> decide +kernel, by decide +kernel⟩⟩

/-- A set of twin copies of one band, and a generation in progress whose parity this module holds. -/
def twinSet : BankSet := BitVec.ofNat 256 (pack [(240, 16, 4), (192, 32, 1)])
def gen3 : Gen := { gen := 3, step := 8, t0 := 0, grove := [1, 2] }
def generating : State :=
  { up with jobs := [(0, { gen := some gen3 })], bank := { up.bank with sets := [(0, [twinSet])], copies := [⟨under, 65536, 0, 3, 8, 0⟩] },
            mem := { up.mem with okBlocks := blocksOf under 65536 } }
theorem firstFault_none (s : State) (a n : Nat) (h : s.mem.okBlocks = blocksOf a n) (hw : s.mem.badWords = []) (hr : s.mem.repairs = []) : s.firstFault a n = none := by
  refine List.findSome?_eq_none_iff.mpr (fun b hb => ?_)
  have hc : b ∈ s.mem.okBlocks := h ▸ hb
  simp [State.readBad, State.pendingRepair, State.blockFault, hc, hw, hr, hasRead]

def twinVia : Via := { role := .peer, src := 2, tag := 5 }
/-- A packet with its header check. -/
def checked (p : Packet) : Packet := { p with hcheck := p.checkOf }
def twinPacket : Packet :=
  checked { dest := 1, src := 2, vc := 0, kind := 0xB, job := 7, payload := msgBytes { op := 2, tag := 5, index := 0x7030, sub := 4 } 0 0 }
def twinComes : State := { generating with fab := { generating.fab with rx := [(0, twinPacket)] } }

theorem witness_foldCheck :
    PeerServed generating peer2 ∧
    generating.hintOf peer2 (writeMsg peer2 0x7030 3 (bytesOf (4 * 2 ^ 112 + 3 * 2 ^ 64 + 0) 16)) = some 0 ∧
    ((generating.takeRequest peer2).job 0).gen = some gen3 ∧ gen3.abandoned = false ∧ gen3.grove.contains peer2.src = true ∧
    ((generating.takeRequest peer2).bankEntry 0 4).isSome = true ∧ gen3.checks = [] :=
  ⟨by constructor <;> decide +kernel, by decide +kernel⟩

theorem witness_twinSlot :
    PeerServed twinComes twinVia ∧
    ((twinComes.hintOf twinVia (writeMsg twinVia 0x7030 4 (bytesOf (3 * 2 ^ 96 + under / 65536 * 2 ^ 64 + 1 * 2 ^ 32) 16))).bind
      (twinComes.takeRequest twinVia).jobOf) = some 7 ∧
    (twinComes.takeRequest twinVia).liveWhole under 65536 = some 8 ∧
    ((((twinComes.takeRequest twinVia).job (((twinComes.takeRequest twinVia).slotOf 7).getD 16)).gen.map (fun g =>
      g.gen == 3 && (twinComes.takeRequest twinVia).copyOfStep (((twinComes.takeRequest twinVia).slotOf 7).getD 16) g.step 8)) == some true) = true ∧
    (twinComes.takeRequest twinVia).peerMay 7 under (3 * 65536) = true ∧ (twinComes.takeRequest twinVia).firstFault under 65536 = none :=
  ⟨by constructor <;> decide +kernel, by decide +kernel, by decide +kernel, by decide +kernel, by decide +kernel,
    firstFault_none _ _ _ (by decide +kernel) (by decide +kernel) (by decide +kernel)⟩

theorem witness_genDone :
    ((generating.takeRequest peer2).doneChildren 0 2).find? (fun x => x.2.2 == 1 && !gen3.sums.any (fun y => y.1 == x.1 && y.2.1 == x.2.1)) = some (0, 1, 1) ∧
    ((generating.takeRequest peer2).job 0).gen.isSome = true := by decide +kernel

def readCap : DictMsg := { op := 1, index := 0x2001, sub := 1 }
def writeFlap : DictMsg := { op := 2, index := 0x5005, sub := 1, length := 1, data := [16] }
def rowFor (index sub : Nat) : ObjRow := (rowOf index sub).getD { index := 0, lo := 0, hi := 0, type := .u8, acc := .ro }

theorem witness_DictionaryOperationsComplete :
    HostServed up host ∧
    (∀ op ∈ [1, 3, 4], let m : DictMsg := { readCap with op := op }
      badHeader m = false ∧ (up.takeRequest host).target m.index m.sub = some (rowFor 0x2001 1) ∧ fits (rowFor 0x2001 1) m = true ∧
      (up.takeRequest host).denied .host (rowFor 0x2001 1) op = false) ∧
    (let m := writeMsg host 0x5005 1 (bytesOf 16 (rowFor 0x5005 1).type.size)
     let u := up.takeRequest host
     badHeader m = false ∧ u.target m.index m.sub = some (rowFor 0x5005 1) ∧ fits (rowFor 0x5005 1) m = true ∧ u.denied .host (rowFor 0x5005 1) 2 = false ∧
     m.sub ≠ 0xFF ∧ (rowFor 0x5005 1).acc = .rw ∧ encodingFault (rowFor 0x5005 1) (ofBytes m.data) = false ∧ rangeFault (rowFor 0x5005 1) (ofBytes m.data) = false ∧
     u.refusedValue m.index m.sub (ofBytes m.data) = false ∧ m.index ∉ [0x2001, 0x4020, 0x5001, 0x5050, 0x6050, 0xF000]) ∧
    (let m := writeMsg host 0x4010 1 (bytesOf 7 2)
     let u := up.takeRequest host
     badHeader m = false ∧ u.target m.index m.sub = some (rowFor 0x4010 1) ∧ fits (rowFor 0x4010 1) m = true ∧ u.denied .host (rowFor 0x4010 1) 2 = false ∧
     (rowFor 0x4010 1).acc = .rwc ∧ encodingFault (rowFor 0x4010 1) (ofBytes m.data) = false) ∧
    ((rowsAt 0x4010).any (fun r => r.acc == .rwc) = true ∧ 0x4010 < 0xA000) :=
  ⟨up_served, by decide +kernel, by decide +kernel, by decide +kernel, by decide +kernel⟩

def changed : State := { up with dict := { up.dict with pendingSince := some 0, go := false } }

theorem witness_MailboxAndFlashEventsComplete :
    up.edge.ready = true ∧ up.edge.hostLink = true ∧ up.dict.go = false ∧ (65535 : Nat) < 65536 ∧ changed.edge.powered = true ∧
    changed.dict.pendingSince.isSome = true := by decide +kernel

/-- The host staged a value exactly STAGE_TIMEOUT ago. -/
def lapsed : State :=
  let t : Staged := { role := .host, index := 0x4010, at_ := up.now - up.ob Obj.stageTimeout * 1000000000 }
  { up with dict := { up.dict with staged := [t] } }

theorem witness_StagedValuesLapse :
    ((lapsed.stagedAt .host 0x4010).map (fun x => decide (x.at_ + lapsed.ob Obj.stageTimeout * 1000000000 ≤ lapsed.now))) = some true ∧
    (match (up.stage .host (rowFor 0x4010 1) (writeMsg host 0x4010 1 (bytesOf 7 2))).2 with
     | .ok _ => true
     | _ => false) = true := by decide +kernel

theorem witness_ARequestBeyondItsPathIsBusy :
    up.pathServes .host = true ∧ pathLimit .host ≤ 1 ∧ up.pathServes .peer = true ∧ pathLimit .peer ≤ 64 ∧ pathLimit .bmc ≤ 8 := by decide +kernel

/-! ## Channels and tasks -/

/-- The channel of Table 5-2's example (R156): H = 0xFFFF_FFF0, accepted TAIL 0xFFFF_FFF8, 256 entries. -/
def chanX : Chan := { chan1 with tail := 0xFFFFFFF8, fetched := 0xFFFFFFF0, ringEntries := 256, written := 3 }
def doors : State := withTasks [(1, chanX), (2, { chan1 with destroying := true })] [] up

theorem witness_ADoorbellWriteIsHandledByItsDifference :
    doors.chanAt 3 = none ∧ (doors.chanAt 2).map (·.destroying) = some true ∧ doors.chanAt 1 = some chanX ∧ chanX.destroying = false ∧
    (0xFFFFFFF8 - chanX.tail = 0) ∧ 2 ^ 31 ≤ ((0xFFFFFFFC : BitVec 32) - 4).toNat ∧ chanX.ringEntries < ((0x200 : BitVec 32) - chanX.fetched).toNat ∧
    ((4 : BitVec 32) - chanX.tail ≠ 0 ∧ ((4 : BitVec 32) - chanX.tail).toNat < 2 ^ 31 ∧ ((4 : BitVec 32) - chanX.fetched).toNat ≤ chanX.ringEntries) ∧
    ((3 : BitVec 32) - chanX.cplHead ≠ 0 ∧ ((3 : BitVec 32) - chanX.cplHead).toNat ≤ (chanX.written - chanX.cplHead).toNat) ∧
    (chanX.written - chanX.cplHead).toNat < ((4 : BitVec 32) - chanX.cplHead).toNat ∧ doorbellLegal 2 32 = false := by decide +kernel

/-- R156's worked example. -/
theorem test_doorbell_example :
    (match exec (.tailWrite 1 0x00000004) doors with
     | .next t => (t.chanAt 1).map (·.tail)
     | _ => none) = some 4 ∧
    exec (.tailWrite 1 0x00000200) doors = .next (doors.doorbellIgnored 1 0x200 0xFFFFFFF0) := ⟨by decide +kernel, rfl⟩

def fetching (hostRing : Bool) : State :=
  let m := { up.mem with okBlocks := [under / 64, under / 64 + 1] }
  withTasks [(1, { chan1 with tail := 1, ringHost := hostRing })] [] { up with mem := m }
def chanF (hostRing : Bool) : Chan := { chan1 with tail := 1, ringHost := hostRing }

/-- A WAIT task. -/
def waitDesc : Desc := BitVec.ofNat 1024 (pack [(1020, 4, kWait)])

theorem witness_DescriptorFetchAdmitsTheNextDescriptor :
    ((fetching true).chanAt 1 = some (chanF true) ∧ (chanF true).tail ≠ (chanF true).fetched ∧ (fetching true).ringRoom (chanF true) = true ∧
      (fetching true).edge.hostLink = true) ∧
    ((fetching false).ringRoom (chanF false) = true ∧ (fetching false).firstRefused 7 false (chanF false).descAddr 128 = none ∧
      (fetching false).touchesLost (chanF false).descAddr 128 = false ∧
      (fetching false).unreadFault (chanF false).early (chanF false).descAddr 128 = none) ∧
    ((((fetching false).setChan 1 { chanF false with fetched := 1, fetchTotal := 1, expected := 1 }).admissionFault 7 0 0 waitDesc).isNone = true ∧
      D.mcCount waitDesc = 0 ∧ D.earlyB waitDesc = false) := by decide +kernel

def taskOf (d : Desc) : Task := { uid := 1, handle := 1, id := 0, job := 7, desc := d }
def chanU : Chan := { chan1 with fetched := 1, expected := 1, tail := 1 }
/-- The module with one task of a descriptor, admitted and waiting. -/
def tasked (d : Desc) : State :=
  withTasks [(1, chanU)] [taskOf d] { up with mem := { up.mem with okBlocks := (upto 16).map (· + under / 64) } }
def runTask (d : Desc) (stands : List Nat) : Task := { taskOf d with phase := .running, started := true, startAt := up.now, stands := stands }

/-- Tasks of each kind without a stand, 64 bytes long, between the first blocks of the region. -/
def plainDesc (kind : Nat) : Desc :=
  BitVec.ofNat 1024 (pack [(1020, 4, kind), (792, 40, 64), (720, 48, under), (528, 48, under + 64), (48, 16, 2)])
/-- 64 lanes of 32 bits, one row, on stand 5. -/
def vecDesc (vop fmt : Nat) : Desc :=
  BitVec.ofNat 1024 (pack [(1020, 4, kVector), (1000, 8, 5), (868, 4, fmt), (864, 4, fmt), (860, 4, fmt), (856, 4, fmt), (835, 8, vop), (819, 13, 1), (806, 13, 64),
    (720, 48, under), (704, 16, 256), (656, 48, under), (640, 16, 256), (592, 48, under), (576, 16, 256), (528, 48, under + 512), (512, 16, 256)])

theorem cleanPlain (kind : Nat) (hk : kind ∈ [kCopy, kHostRead, kHostWrite, kFabric, kWait]) :
    (tasked (plainDesc kind)).taskAt 1 0 = some (taskOf (plainDesc kind)) ∧
    (tasked (plainDesc kind)).mayStart (taskOf (plainDesc kind)) = true ∧ D.kind (plainDesc kind) = kind ∧
    RunsClean (tasked (plainDesc kind)) (taskOf (plainDesc kind)) [] ((tasked (plainDesc kind)).begin (taskOf (plainDesc kind)) [])
      (runTask (plainDesc kind) []) := by
  simp only [List.mem_cons, List.not_mem_nil, or_false] at hk
  rcases hk with rfl | rfl | rfl | rfl | rfl <;> refine ⟨by decide +kernel, by decide +kernel, by decide +kernel, ?_⟩ <;> exact ⟨rfl, by decide +kernel, by decide +kernel, by decide +kernel, .inr (by decide +kernel), by decide +kernel⟩

theorem cleanCopy :
    (tasked (plainDesc kCopy)).place (taskOf (plainDesc kCopy)) { stand := 0 } = some [0] ∧
    RunsClean (tasked (plainDesc kCopy)) (taskOf (plainDesc kCopy)) [0] ((tasked (plainDesc kCopy)).begin (taskOf (plainDesc kCopy)) [0])
      (runTask (plainDesc kCopy) [0]) :=
  ⟨by decide +kernel, rfl, by decide +kernel, by decide +kernel, by decide +kernel, .inr (by decide +kernel), by decide +kernel⟩

theorem witness_TasksWithoutAStandComplete :
    (let u := (tasked (plainDesc kCopy)).begin (taskOf (plainDesc kCopy)) [0]
     u.writeFault [⟨under + 64, (u.withEarly (runTask (plainDesc kCopy) [0])).bytesAt under 64⟩] = none) ∧
    ((tasked (plainDesc kHostRead)).begin (taskOf (plainDesc kHostRead)) []).writeFault [⟨under + 64, List.replicate 64 1⟩] = none ∧
    (tasked (plainDesc kFabric)).xferRoom false = true ∧ D.remoteEp (plainDesc kFabric) ≠ 0xFFFF ∧
    (tasked (plainDesc kStepEnd)).taskAt 1 0 = some (taskOf (plainDesc kStepEnd)) ∧
    (tasked (plainDesc kStepEnd)).mayStart (taskOf (plainDesc kStepEnd)) = true ∧
    (((tasked (plainDesc kStepEnd)).begin (taskOf (plainDesc kStepEnd)) []).job ((tasked (plainDesc kStepEnd)).slotOfTask (taskOf (plainDesc kStepEnd)))).kept = [] := by
  decide +kernel

theorem cleanVector :
    (tasked (vecDesc 0x0B 3)).taskAt 1 0 = some (taskOf (vecDesc 0x0B 3)) ∧
    (tasked (vecDesc 0x0B 3)).mayStart (taskOf (vecDesc 0x0B 3)) = true ∧
    (tasked (vecDesc 0x0B 3)).place (taskOf (vecDesc 0x0B 3)) { stand := 5 } = some [5] ∧
    RunsClean (tasked (vecDesc 0x0B 3)) (taskOf (vecDesc 0x0B 3)) [5] ((tasked (vecDesc 0x0B 3)).begin (taskOf (vecDesc 0x0B 3)) [5])
      (runTask (vecDesc 0x0B 3) [5]) := by
  refine ⟨by decide +kernel, by decide +kernel, by decide +kernel, ?_⟩; exact ⟨rfl, by decide +kernel, by decide +kernel, by decide +kernel, .inr (by decide +kernel), by decide +kernel⟩

/-- A 1 × 1 × 16 product of FP16 on stand 5, out as FP32. -/
def matDesc : Desc :=
  BitVec.ofNat 1024 (pack [(1020, 4, kMatmul), (1000, 8, 5), (860, 4, 1), (856, 4, 1), (819, 13, 1), (806, 13, 1), (793, 13, 16),
    (720, 48, under), (704, 16, 32), (656, 48, under), (640, 16, 2), (592, 48, under), (576, 16, 4), (528, 48, under + 512), (512, 16, 4)])

theorem cleanMatmul :
    (tasked matDesc).taskAt 1 0 = some (taskOf matDesc) ∧ (tasked matDesc).mayStart (taskOf matDesc) = true ∧
    (tasked matDesc).place (taskOf matDesc) { stand := 5 } = some [5] ∧ (tasked matDesc).admissionFault 7 0 0 matDesc = none ∧
    RunsClean (tasked matDesc) (taskOf matDesc) [5] ((tasked matDesc).begin (taskOf matDesc) [5]) (runTask matDesc [5]) := by
  refine ⟨by decide +kernel, by decide +kernel, by decide +kernel, by decide +kernel, ?_⟩
  exact ⟨rfl, by decide +kernel, by decide +kernel, by decide +kernel, .inr (by decide +kernel), by decide +kernel⟩

theorem witness_StandTasksComplete :
    (let r := (((tasked matDesc).begin (taskOf matDesc) [5]).withEarly (runTask matDesc [5])).runMatmul { stand := 5 } (runTask matDesc [5])
     r.abort = none ∧ ((tasked matDesc).begin (taskOf matDesc) [5]).writeFault (joinWrites r.writes) = none) ∧
    (let d := vecDesc 0x0B 3
     let u := (tasked d).begin (taskOf d) [5]
     let e := u.withEarly (runTask d [5])
     let r := e.runVector { stand := 5 } (runTask d [5]) (e.itemsIaddOp d (e.seedOf (runTask d [5])))
     (tasked d).admissionFault 7 0 0 d = none ∧ r.abort = none ∧ u.writeFault (joinWrites r.writes) = none) := by decide +kernel

/-- A task on stand 5 in some phase, and the module with it. -/
def onStand (phase : Phase) (result : Option (BitVec 8)) : Task :=
  { runTask (vecDesc 0x0B 3) [5] with phase := phase, result := result, startAt := 0, pausedAt := if phase == .preempted then some 1 else none }
def with5 (t : Task) (s : State := tasked (vecDesc 0x0B 3)) : State := withTasks [(1, chanU)] [t] s

theorem witness_TaskEndsComplete :
    ((with5 (onStand .running (some 0))).taskAt 1 0 = some (onStand .running (some 0)) ∧
      (with5 (onStand .running (some 0))).dueStatus (onStand .running (some 0)) = some 0) ∧
    ((with5 (onStand .ended (some Status.stall))).taskAt 1 0 = some (onStand .ended (some Status.stall)) ∧ retryDue (onStand .ended (some Status.stall)) = true) ∧
    ((with5 (onStand .running none)).taskAt 1 0 = some (onStand .running none) ∧ D.kind (vecDesc 0x0B 3) ≠ kWait ∧ D.kind (vecDesc 0x0B 3) ≠ kStepEnd ∧
      (with5 (onStand .running none)).ob Obj.taskWatchdog * 1000000 ≤ up.now) ∧
    ((with5 (onStand .preempted none)).taskAt 1 0 = some (onStand .preempted none) ∧ (with5 (onStand .preempted none)).standIdle 5 = true ∧
      (with5 (onStand .preempted none)).turn 5 = some ((with5 (onStand .preempted none)).slotOfTask (onStand .preempted none)) ∧
      (with5 (onStand .preempted none)).saveFault (onStand .preempted none) = none ∧ (with5 (onStand .preempted none)).shed < 3) := by decide +kernel

/-- Two jobs want stand 5; the task of the first has run there since time 0, and its share is over. -/
def contested : State :=
  let other : Task := { taskOf (vecDesc 0x0B 3) with uid := 2, handle := 2, job := 8 }
  (withTasks [(1, chanU), (2, { chanU with uid := 2, job := 8 })] [onStand .running none, other]
    (sets [(Obj.jobSlotId 1, 8)] (tasked (vecDesc 0x0B 3)))).modStand 5 (fun x => { x with servesSlot := some 0 })
/-- Channels 2 and 3 wait for a context, channel 1 holds one and is marked. -/
def crowded (busy : Bool) : State :=
  withTasks [(1, { chanU with marked := true }), (2, { chanU with uid := 2, resident := false, waitingSince := some 5 }),
    (3, { chanU with uid := 3, resident := false, waitingSince := some 4 })] (if busy then [onStand .running none] else []) (tasked (vecDesc 0x0B 3))
def crowdedOne : State := withTasks [(1, chanU), (3, { chanU with uid := 3, resident := false, waitingSince := some 4 })] [] (tasked (vecDesc 0x0B 3))
/-- All contexts are held by channels with a started task, and some channels wait. -/
def packed (waiting : KMap Chan) : State :=
  withTasks ((List.range 16384).map (fun h => (h + 4, chanU)) ++ waiting) [onStand .running none] (tasked (vecDesc 0x0B 3))
def waits (h : Nat) : Nat × Chan := (h, { chanU with uid := h, resident := false, waitingSince := some h })

theorem packed_room (l : KMap Chan) (h : ∀ x ∈ l, x.2.resident = false) : (packed l).contextRoom = none := by
  have every : ∀ m : List Nat, m.filter (fun _ => true) = m := fun m => List.filter_eq_self.mpr (fun _ _ => rfl)
  have nothing : ∀ m : List Nat, m.filter (fun _ => false) = [] := fun m => List.filter_eq_nil_iff.mpr (fun _ _ => nofun)
  have hr : l.filter (fun x => x.2.resident) = [] := List.filter_eq_nil_iff.mpr (fun x hx => by simp [h x hx])
  have hi : l.filter (fun x => x.2.resident && (packed l).contextIdle x.2) = [] := List.filter_eq_nil_iff.mpr (fun x hx => by simp [h x hx])
  have hc : (packed l).residentCount = 16384 := by
    simp [State.residentCount, packed, withTasks, List.filter_map, hr, Function.comp_def, chanU, chan1, every]
  have hb : (packed l).contextIdle chanU = false := rfl
  simp only [State.contextRoom, hc, maxResident]
  simp [State.idlest]
  show leastBy _ (List.filter _ (List.map _ _ ++ l)) = none
  simp [List.filter_map, Function.comp_def, hb, leastBy, hi, nothing]

theorem ticked_room {s : State} (k : Nat) (h : s.contextRoom = none) : (s.ticked k).contextRoom = none := by
  have hc : (s.ticked k).residentCount = s.residentCount := rfl
  have hi : (s.ticked k).idlest = s.idlest := rfl
  simp only [State.contextRoom, hc, hi] at h ⊢
  split at h
  · cases h
  · rename_i hm
    rw [if_neg hm]
    cases e : s.idlest with
    | none => rfl
    | some x => rw [e] at h; cases h

/-- Two channels wait, and there is room. -/
def crowdedTwo : State := withTasks [(1, chanU), (2, { chanU with uid := 2, resident := false, waitingSince := some 5 }),
  (3, { chanU with uid := 3, resident := false, waitingSince := some 4 })] [] (tasked (vecDesc 0x0B 3))

theorem packed_waiting (l : KMap Chan) : (packed l).waitingCount = (l.filter (fun x => x.2.waitingSince.isSome)).length := by
  simp [State.waitingCount, packed, withTasks, List.filter_map, Function.comp_def, chanU, chan1]

theorem witness_TimeSlicingCompletes :
    (contested.runningOn 5 = some (onStand .running none) ∧ (onStand .running none).phase = .running ∧
      contested.slotsFree (onStand .running none) = true ∧ contested.turn 5 = some 1 ∧ 1 ≠ contested.slotOfTask (onStand .running none)) ∧
    (with5 (onStand .running none)).turn 5 = some ((with5 (onStand .running none)).slotOfTask (onStand .running none)) ∧
    (up.runningOn 5 = none ∧ up.turn 5 = none ∧ up.waitingCount = 0) ∧
    (up.due 8 2000000 = true ∧ (up.ticked 8).due 8 2000000 = false) ∧
    ((packed [waits 2]).waitingCount = 1 ∧ ((packed [waits 2]).ticked 8).contextRoom = none) ∧
    (2 ≤ (packed [waits 2, waits 3]).waitingCount ∧ ((packed [waits 2, waits 3]).ticked 8).contextRoom = none) ∧
    (crowdedOne.waitingCount = 1 ∧ (crowdedOne.ticked 8).oldestWaiting = some 3 ∧
      ((crowdedOne.ticked 8).contextRoom.map (fun t => (t.swapIn 3).waitingCount)) = some 0) ∧
    (crowdedTwo.waitingCount = 2 ∧ (crowdedTwo.ticked 8).oldestWaiting = some 3 ∧
      ((crowdedTwo.ticked 8).contextRoom.map (fun t => ((t.swapIn 3).oldestWaiting, (t.swapIn 3).contextRoom.map (fun w => (w.swapIn 2).waitingCount)))) =
        some (some 2, some 0)) ∧
    ((crowded false).chanAt 1 = some { chanU with marked := true } ∧ (crowded false).contextIdle { chanU with marked := true } = true ∧
      (crowded false).oldestWaiting = some 3) ∧
    ((crowded true).contextIdle { chanU with marked := true } = false ∧ crowdedOne.chanAt 1 = some chanU ∧ chanU.marked = false ∧
      up.oldestWaiting = none) :=
  ⟨by decide +kernel, by decide +kernel, by decide +kernel, by decide +kernel, ⟨packed_waiting _, ticked_room 8 (packed_room _ (by decide))⟩,
    ⟨Nat.le_of_eq (packed_waiting [waits 2, waits 3]).symm, ticked_room 8 (packed_room _ (by decide))⟩, by decide +kernel, by decide +kernel,
    by decide +kernel, by decide +kernel⟩

/-- A bypass, and a fence, decided on stand 191. -/
def bypassing : State := up.modStand 191 (fun x => { x with pendBypass := 2 ^ 255 })
def fencing : State := up.modStand 191 (fun x => { x with pendState := 8 })
def testing : State := up.modStand 191 (fun x => { x with selfTest := some .request })

theorem witness_StandStopsComplete :
    ((with5 (onStand .running none)).runningOn 5 = some (onStand .running none) ∧ (with5 (onStand .running none)).halfRuns 0 = true ∧
      (with5 (onStand .running none)).fenced 5 = false ∧ (onStand .running none).startAt + 10000 ≤ (with5 (onStand .running none)).now) ∧
    ((with5 (runTask (vecDesc 0x0B 3) [5])).runningOn 5 = some (runTask (vecDesc 0x0B 3) [5]) ∧
      (with5 (runTask (vecDesc 0x0B 3) [5])).now < (runTask (vecDesc 0x0B 3) [5]).startAt + 10000) ∧
    (up.runningOn 191 = none ∧ up.halfRuns 1 = true ∧ up.fenced 191 = false ∧ up.worksFor 191 = false) ∧
    (testing.runningOn 191 = none ∧ testing.halfRuns 1 = true ∧ testing.fenced 191 = false ∧ testing.worksFor 191 = true ∧
      testing.worksFrom 191 + 10000 ≤ testing.now) ∧
    (bypassing.runningOn 191 = none ∧ bypassing.fenced 191 = false ∧ (bypassing.stand 191).pendFence = 0 ∧ (bypassing.stand 191).pendState = 0 ∧
      (bypassing.stand 191).pendBypass ≠ 0 ∧ bypassing.ob (Obj.arrayFence 191) = 0 ∧
      (∀ a, a < 4 → bitsIn (bypassing.ob (Obj.bypassed 191) ||| (bypassing.stand 191).pendBypass) (64 * a) 64 ≤ 8)) ∧
    (fencing.runningOn 191 = none ∧ fencing.fenced 191 = false ∧ 2 ≤ (fencing.stand 191).pendState ∧ (fencing.stand 191).saved = [] ∧ fencing.fire.trios = []) := by decide +kernel

/-- Task 1 waits for the re-run of its producer, a COPY that completed. -/
def reader (d : Desc) (addr : Nat) : Task :=
  { taskOf d with id := 1, phase := .held, started := true, faultDetail := 1, faultAddr := addr, deps := [⟨1, 0, .met⟩], pausedAt := some 0 }
def rerunning (ok : Bool) : State :=
  let s := withTasks [(1, { chanU with history := [(0, plainDesc kCopy, 0)] })] [reader (plainDesc kCopy) (under + 64)] (tasked (plainDesc kCopy))
  if ok then s else { s with mem := { s.mem with okBlocks := [] } }

theorem witness_RecomputeRerunCompletes :
    (rerunning true).taskAt 1 1 = some (reader (plainDesc kCopy) (under + 64)) ∧
    (rerunning true).producer (reader (plainDesc kCopy) (under + 64)) (under + 64) = some (plainDesc kCopy) ∧
    ((rerunning true).reproduce (reader (plainDesc kCopy) (under + 64)) (plainDesc kCopy) none).2 = true ∧
    ((rerunning false).reproduce (reader (plainDesc kCopy) (under + 64)) (plainDesc kCopy) none).2 = false := by decide +kernel

/-! ## Memory -/

/-- The module with its window at understory memory, and with the region of a class. -/
def mapped (cls : Nat) : State :=
  { up with edge := { up.edge with window := 0x400000000000 }, mem := { up.mem with regions := [region cls] } }

theorem witness_HostReadsComplete :
    up.edge.hostLink = true ∧ (mapped 0).bar2Addr 0 = under ∧ (mapped 0).inBar2 0 8 = true ∧ (mapped 0).inBar2 (2 ^ 64) 1 = false ∧ (mapped 0).inBar2 0x70000000 8 = true ∧
    (mapped 0).hostMay ((mapped 0).bar2Addr 0x70000000) 8 = false ∧
    ((mapped 0).hostMay under 8 = true ∧ (mapped 0).badBlocksOf under 8 = []) ∧
    ((mapped 0).hostMay (under + 128) 64 = true ∧ (mapped 0).badBlocksOf (under + 128) 64 = [(under / 64 + 2, .line)] ∧
      ((mapped 0).meet (under / 64 + 2) .line).repairable (under / 64 + 2) = false) ∧
    ((mapped 2).badBlocksOf (under + 128) 64 = [(under / 64 + 2, .line)] ∧ (mapped 2).repairable (under / 64 + 2) = true) ∧
    ((mapped 2).badBlocksOf (under + 128) 128 = [(under / 64 + 2, .line), (under / 64 + 3, .line)] ∧ (mapped 2).repairable (under / 64 + 3) = true ∧
      (mapped 0).repairable (under / 64 + 2) = false) := by decide +kernel

/-- The last word of the first block fails its parity. -/
def wordBad : State := { mapped 0 with mem := { (mapped 0).mem with badWords := [under / 4 + 15] } }
/-- A repair of the third block of a region of class Twin. -/
def repair (data : Option (List Byte)) (failed : Bool) (missing t0 : Nat) : Repair :=
  { block := under / 64 + 2, cls := 2, t0 := t0, data := data, failed := failed, missing := missing, second := 3, copyAt := under }
def repairing (r : Repair) : State := { mapped 2 with mem := { (mapped 2).mem with repairs := [r] } }
def goodRepair : Repair := repair (some (List.replicate 64 1)) false 0 up.now
def lateRepair : Repair := repair (some (List.replicate 64 1)) false 0 (up.now - 1000001)

theorem witness_HostWritesComplete :
    (mapped 0).edge.hostLink = true ∧ (mapped 0).hostMay ((mapped 0).bar2Addr 0x70000000) 8 = false ∧
    ((mapped 0).hostMay (under + 128) 64 = true ∧ (under + 128) % 64 = 0 ∧ (mapped 0).pendingRepair ((under + 128) / 64) = false) ∧
    ((mapped 0).hostMay (under + 1) 63 = true ∧ (under + 1) / 64 = (under + 1 + 63 - 1) / 64 ∧
      (mapped 0).writeBad ((under + 1) / 64) (under + 1) 63 = none) ∧
    (wordBad.hostMay under 4 = true ∧ wordBad.writeBad (under / 64) under 4 = some .parity ∧
      (wordBad.meet (under / 64) .parity).repairable (under / 64) = false) ∧
    ((repairing goodRepair).hostMay (under + 128) 8 = true ∧ (repairing goodRepair).writeBad (under / 64 + 2) (under + 128) 8 = some .line ∧
      ((repairing goodRepair).meet (under / 64 + 2) .line).repairable (under / 64 + 2) = true) := by decide +kernel

theorem witness_RepairsComplete :
    ((repairing goodRepair).mem.repairs.find? (fun x => x.block == under / 64 + 2) = some goodRepair ∧ goodRepair.accesses = [] ∧ goodRepair.waiters = [] ∧
      (repairing goodRepair).now ≤ goodRepair.t0 + goodRepair.bound) ∧
    (lateRepair.t0 + lateRepair.bound < (repairing lateRepair).now ∧ (repairing lateRepair).mem.repairs = [lateRepair]) ∧
    ((repairing (repair none true 1 up.now)).mem.repairs = [repair none true 1 up.now] ∧ (repair none true 1 up.now).second ≠ 0) ∧
    ((repairing (repair none false 1 (up.now - 400000))).mem.repairs = [repair none false 1 (up.now - 400000)]) ∧
    ((repairing (repair none false 1 (up.now - 1000000))).repairOver (repair none false 1 (up.now - 1000000)) = true) := by decide +kernel

def scrubbing (b : Nat) : State := let s := sets [(Obj.scrubEnable, 1)] up; { s with mem := { s.mem with scrubAt := [(memCode .understory, b)] } }
/-- The last block of the first half's understory memory, and the first that is not mapped. -/
def gap : Nat := 0x400034000000 / 64
/-- An upset of a line; with the check that passes when it happens to come out right. -/
def upsetTo (b : Nat) (d : BitVec 16) : Upset :=
  { data := 1 :: List.replicate 63 0, check := ((lineCheck b (1 :: List.replicate 63 0)) + d).setWidth 32 }
theorem witness_ScrubAndPollComplete :
    ((scrubbing (under / 64)).ob Obj.scrubEnable ≠ 0 ∧ (scrubbing (under / 64)).shed < 2) ∧
    ((sets [(Obj.halfState 0, 1)] (scrubbing (under / 64))).homeOf under).map (sets [(Obj.halfState 0, 1)] (scrubbing (under / 64))).halfRuns = some false ∧
    ((scrubbing (under / 64)).mapped under = true ∧ (((scrubbing (under / 64)).homeOf under).map (scrubbing (under / 64)).halfRuns).getD false = true ∧
      reservedArea under = false ∧ (scrubbing (under / 64)).blockFault (under / 64) under 64 = none ∧
      ((scrubbing (under / 64)).upset (under / 64) (upsetTo (under / 64) 1)).blockFault (under / 64) under 64 = some .line ∧
      ((scrubbing (under / 64)).upset (under / 64) (upsetTo (under / 64) 0)).blockFault (under / 64) under 64 = none) ∧
    ((scrubbing (0x400032000000 / 64)).mapped 0x400032000000 = true ∧ reservedArea 0x400032000000 = true ∧ isStack 0x400032000000 = false ∧
      (scrubbing (0x400032000000 / 64)).upsetPasses (0x400032000000 / 64) (upsetTo (0x400032000000 / 64) 0) = true ∧
      (scrubbing (0x400032000000 / 64)).upsetPasses (0x400032000000 / 64) (upsetTo (0x400032000000 / 64) 1) = false) ∧
    (reservedArea 0x023F00000000 = true ∧ isStack 0x023F00000000 = true ∧ up.mapped 0x023F00000000 = true ∧
      up.blockFault (0x023F00000000 / 64) 0x023F00000000 64 = some .stackCheck) ∧
    (up.due 7 100000000 = true ∧ (up.ticked 7).due 7 100000000 = false) ∧
    (scrubbing (under / 64 + 5)).blockFault (under / 64 + 5) (under + 320) 64 = some .line := by decide +kernel

/-! ## The clearing -/

def stepping : State := { up with jobs := [(0, { stepEnd := some (1, 0, 0, 0), toCommit := [] })] }
def committing : State := { up with jobs := [(0, { toCommit := [5] })] }
/-- A packet of a kind from module 2 for this module, in the buffer of port 0. -/
def packetOf (kind : Nat) (payload : List Byte) (addr : Nat := 0) : Packet :=
  ({ dest := 1, src := 2, vc := 0, kind := kind, job := 7, payload := payload, length := payload.length, addr := addr } : Packet).seal
def arriving (p : Packet) (s : State := up) : State := { s with fab := { s.fab with rx := [(0, p)] } }

theorem arrives (kind : Nat) (hk : kind ∈ [1, 2, 3, 4, 5, 6, 7, 8, 9, 0xA]) : Arrives (arriving (packetOf kind (List.replicate 64 0))) (packetOf kind (List.replicate 64 0)) kind := by
  simp only [List.mem_cons, List.not_mem_nil, or_false] at hk
  rcases hk with rfl | rfl | rfl | rfl | rfl | rfl | rfl | rfl | rfl | rfl <;> constructor <;> decide +kernel

theorem witness_ClearingCompletes :
    stepping.mayVote 0 = true ∧ (committing.job 0).toCommit.find? (committing.optimisersDone 0) = some 5 ∧
    (stepping.job 0).stepEnd = some (1, 0, 0, 0) ∧ stepping.ob Obj.clearingTimeout * 1000000000 ≤ stepping.now ∧
    Arrives (arriving (packetOf 8 (List.replicate 64 0))) (packetOf 8 (List.replicate 64 0)) 8 ∧
    Arrives (arriving (packetOf 9 (List.replicate 64 0))) (packetOf 9 (List.replicate 64 0)) 9 :=
  ⟨by decide +kernel, by decide +kernel, by decide +kernel, by decide +kernel, arrives 8 (by decide), arrives 9 (by decide)⟩

/-- Decisions of each value, the greatest valid one among them; the growth of the loss scale at its clean step, and before it. -/
theorem witness_DecisionMovesTheCounters :
    (15 : Nat) < 16 ∧ (∀ d ∈ [0, 1, 2], ({ step := 0, job := 7, attempt := 0, decision := d } : Decision).decision ≤ 2) ∧
    (let s := sets [(Obj.scaleGrowth 15, 2), (Obj.cleanSteps 15, 1)] up
     s.ob (Obj.cleanSteps 15) + 1 = s.ob (Obj.scaleGrowth 15)) ∧ up.ob (Obj.cleanSteps 15) + 1 ≠ up.ob (Obj.scaleGrowth 15) := by decide +kernel

/-! ## Transfers, ports and links -/

def writePacket (addr : Nat) (total : Nat := 1) : Packet := ({ packetOf 1 (List.replicate 64 1) addr with total := total } : Packet).seal
/-- Its transfer is known, with some of its two packets counted. -/
def partWay (count : Nat) : State := { up with fab := { up.fab with inXfers := [{ src := 2, xfer := 0, job := 7, total := 2, count := count, arrival := 0, epoch := 0 }] } }
/-- A packet of no job here. -/
def strayPacket (kind : Nat) : Packet := ({ dest := 1, src := 2, vc := 0, kind := kind, job := 9 } : Packet).seal
def asking (use : XferUse) : State :=
  { arriving (packetOf 3 (List.replicate 64 1)) with fab := { (arriving (packetOf 3 (List.replicate 64 1))).fab with
      outXfers := [{ xfer := 0, dest := 2, job := 7, use := use, awaiting := [2] }] } }
def heartbeat : Packet := ({ dest := 1, src := 2, vc := 0, kind := 0xC, ctl := .heartbeat } : Packet).seal

theorem witness_ReceivedPacketsComplete :
    (((arriving (packetOf 1 (List.replicate 64 0))).arrived (packetOf 1 (List.replicate 64 0))).slotOf (packetOf 1 (List.replicate 64 0)).job = some 0 ∧
      Arrives (arriving (packetOf 1 (List.replicate 64 0))) (packetOf 1 (List.replicate 64 0)) 1) ∧
    (((arriving (strayPacket 2)).arrived (strayPacket 2)).slotOf (strayPacket 2).job = none ∧ Arrives (arriving (strayPacket 2)) (strayPacket 2) 2) ∧
    (∀ use ∈ [XferUse.repair 0, XferUse.restore 0 0], (((asking use).arrived (packetOf 3 (List.replicate 64 1))).fab.outXfers.find?
        (fun o => o.xfer == (packetOf 3 (List.replicate 64 1)).xfer && o.awaiting.contains (packetOf 3 (List.replicate 64 1)).src)).map (·.use) = some use) ∧
    Arrives (asking (.repair 0)) (packetOf 3 (List.replicate 64 1)) 3 ∧
    (Arrives (arriving heartbeat) heartbeat 0xC ∧ heartbeat.ctl = .heartbeat) := by
  refine ⟨⟨by decide +kernel, arrives 1 (by decide)⟩, ⟨by decide +kernel, ?_⟩, by decide +kernel, ?_, ?_, rfl⟩ <;> constructor <;> decide +kernel

theorem witness_PeerWritesStoreTheirPayload :
    ((writePacket under).sbCopy = false ∧ (writePacket under).gen = none ∧ up.peerMay 7 under 64 = true ∧ up.touchesLost under 64 = false ∧
      up.fab.inXfers = [] ∧ up.mem.repairs = [] ∧ under % 64 = 0 ∧ (writePacket under).payload.length = 64 ∧ (writePacket under).total = 1) ∧
    ((partWay 1).fab.inXfers.find? (fun x => x.src == (writePacket under 2).src && x.xfer == (writePacket under 2).xfer)).map (fun x =>
      decide (x.total = (writePacket under 2).total ∧ x.count < x.total)) = some true ∧
    ((partWay 2).fab.inXfers.find? (fun x => x.src == 2 && x.xfer == 0)).map (fun x => decide (x.total ≤ x.count)) = some true ∧
    ((partWay 1).fab.inXfers.find? (fun x => x.src == 2 && x.xfer == 0)).map (fun x => decide (x.total ≠ (writePacket under 3).total)) = some true ∧
    (writePacket under 0).total = 0 ∧ up.slotOf (strayPacket 1).job = none ∧ up.peerMay (writePacket 0).job 0 64 = false := by decide +kernel

/-- A complete transfer, a refused packet whose wait is over, module 3 not heard for a second. -/
def transferred : State :=
  let p : Packet := { dest := 2, src := 1, vc := 0, kind := 1, offset := 5 }
  { up with fab := { up.fab with inXfers := [⟨2, 4, 7, 3, 3, 0, 0, under, false⟩], resends := [⟨2, { p with xfer := 4 }, 1, some up.now⟩] } }

/-- The arrival counters of slot 0 lie in the region; their first block is whole, the third fails its check and can be repaired or not. -/
def counting (block cls : Nat) : State :=
  let s := sets [(Obj.arrivalBase 0, under + 64 * block)] transferred
  { s with mem := { s.mem with regions := [region cls] } }
/-- A FABRIC task waits for module 3. -/
def fabricTask : Task := runTask (plainDesc kFabric) []
def abandoned : State :=
  let s := withTasks [(1, chanU)] [fabricTask] up
  { s with fab := { s.fab with outXfers := [{ xfer := 0, dest := 3, job := 7, use := .task 1 0, awaiting := [3] }] } }

theorem witness_TransferAndPeerEventsComplete :
    (transferred.counterOf ⟨2, 4, 7, 3, 3, 0, 0, under, false⟩ = none ∧
      (counting 0 0).counterOf ⟨2, 4, 7, 3, 3, 0, 0, under, false⟩ = some under ∧ (counting 0 0).firstFault under 8 = none ∧
      (∀ c ∈ [0, 2], (counting 2 c).counterOf ⟨2, 4, 7, 3, 3, 0, 0, under, false⟩ = some (under + 128) ∧
        (counting 2 c).firstFault (under + 128) 8 = some (under / 64 + 2, .parity) ∧
        ((counting 2 c).meet (under / 64 + 2) .parity).repairable (under / 64 + 2) = (c == 2))) ∧
    (abandoned.fab.outXfers.map (fun o => (o.awaiting, o.use)) = [([3], .task 1 0)] ∧ abandoned.taskBy 1 0 = some fabricTask ∧
      fabricTask.phase = .running ∧ D.kind fabricTask.desc = kFabric) ∧
    (transferred.fab.inXfers.find? (fun x => x.src == 2 && x.xfer == 4)).map (fun x => x.count == x.total) = some true ∧
    ((transferred.fab.resends.find? (fun r => r.dest == 2 && r.packet.xfer == 4 && r.packet.offset == 5)).map (·.due) = some (some up.now)) ∧
    (up.grovePeers.contains 3 = true ∧ (kget up.fab.peers {} 3).sentAt + 100000000 ≤ up.now) ∧
    (kget? up.fab.peers 3 = some {} ∧ ({} : Peer).lost = false ∧ ({} : Peer).heardAt + 1000000000 ≤ up.now ∧ up.fab.launches = [] ∧
      up.ob Obj.drainState ≠ 1 ∧ up.fab.outXfers = [] ∧ (∀ slot, (up.job slot).gen = none ∧ (up.job slot).restore = none)) :=
  ⟨by decide +kernel, by decide +kernel, by decide +kernel, by decide +kernel, by decide +kernel, by decide +kernel, rfl, by decide +kernel, rfl,
    by decide +kernel, rfl, fun _ => ⟨rfl, rfl⟩⟩

/-- Every port trains; port 0 waits in BACKOFF; ports 6 and 8 are UP for exactly 60 s. -/
def training : State :=
  (upto 9).foldl (fun s n => s.modPort n (fun p => { p with since := up.now - 100000000 })) (sets ((upto 9).map (fun n => (Obj.portState n, 1))) up)
/-- Port 5 has trained too long. -/
def overdue : State := training.modPort 5 (fun p => { p with since := up.now - 100000001 })
def waiting : State := (sets [(Obj.portState 0, 3)] up).modPort 0 (fun p => { p with wait := 4, since := up.now - 4000000 })
def steady : State := up.modPort 7 (fun p => { p with since := up.now - 60000000000, backoff := 8 })

theorem witness_PortEventsComplete :
    (training.portSt 0 = 1 ∧ training.portSt 6 = 1 ∧ training.portSt 7 = 1 ∧ training.portSt 8 = 1 ∧ training.me ≠ 0 ∧
      training.peerRefused 6 ⟨2, 5, fullCredits⟩ = none ∧ training.peerRefused 0 ⟨0, 5, fullCredits⟩ = some 2 ∧
      training.peerRefused 0 ⟨2, 4, fullCredits⟩ = some 3 ∧ training.now ≤ (training.port 6).since + 100000000 ∧ training.now ≤ (training.port 0).since + 100000000 ∧
      training.now ≤ (training.port 8).since + 100000000) ∧
    (overdue.portSt 5 = 1 ∧ (overdue.port 5).since + 100000000 < overdue.now) ∧
    up.portUp 0 = true ∧ (waiting.portSt 0 = 3 ∧ (waiting.port 0).since + (waiting.port 0).wait * 1000000 ≤ waiting.now) ∧
    (steady.portUp 7 = true ∧ (steady.port 7).since + 60000000000 ≤ steady.now) := by decide +kernel

/-- Port 0 has flapped once less than FLAP_LIMIT in the window. -/
def flapping : State := up.modPort 0 (fun p => { p with flapTimes := List.replicate 15 (up.now - 1), backoff := 4000, retry := [(0, writePacket under)] })

theorem witness_AFlapBacksOffOrHoldsDown :
    (up.portUp 0 = true ∧ (up.port 0).retry = [] ∧ (up.port 0).flapTimes = [] ∧ 0 + 1 < up.ob Obj.flapLimit) ∧
    (flapping.portUp 0 = true ∧ (flapping.port 0).retry ≠ [] ∧ (∀ x ∈ (flapping.port 0).retry, x.2.hop = false ∧ x.2.dest ≠ 0xFFFF) ∧
      flapping.ob Obj.flapLimit ≤ ((flapping.port 0).flapTimes.filter (fun t => flapping.now - t < flapping.ob Obj.flapWindow * 1000000000)).length + 1) := by
  decide +kernel

/-- Port 0 has no credits left for a waiting packet. -/
def starved : State :=
  let s := up.modPort 0 (fun p => { p with credits := [0, 0, 0, 0, 0, 0], waitAt := [none, none, none, none, none, some 0], creditAt := List.replicate 6 (up.now - 50000) })
  { s with fab := { s.fab with
      sendQ := [{ dest := 2, src := 1, vc := 5, kind := 1 }] } }
/-- A flit whose data hold packets and then zeros, with its CRC or a wrong one. -/
def flit (seq : Nat) (packets : List Packet) (d : BitVec 32) : Flit :=
  let l := packets.flatMap Packet.octets
  let f : Flit := { fseq := seq, ackseq := 0, data := l ++ List.replicate (244 - l.length) 0, crc := 0, packets := packets }
  { f with crc := f.check + d }
/-- R219: the packets of a flit are read from its data bytes. -/
theorem test_unpack : (flit 0 [writePacket under, heartbeat] 0).unpack [] = ([writePacket under, heartbeat], []) := by decide +kernel
theorem flit_whole (seq : Nat) (l : List Packet) : (flit seq l 0).crc = (flit seq l 0).check := BitVec.add_zero _
theorem witness_FlitsAndCreditsComplete :
    up.portUp 0 = true ∧ (flit 0 [] 1).crc ≠ (flit 0 [] 1).check ∧ (flit 4095 [] 0).fseq ≠ (up.port 0).rxNext ∧
    ((flit 0 [writePacket under] 0).fseq = (up.port 0).rxNext ∧
      (flit 0 [writePacket under] 0).nak = false ∧ (flit 0 [writePacket under] 0).type = 0) ∧
    (starved.portUp 0 = true ∧ starved.waitsCredits 0 5 = true ∧ (starved.port 0).waitFrom 5 = some (starved.now - 50000)) ∧
    ((up.port 0).lastPacket + 20000 ≤ up.now ∧ (up.port 0).lastAudit = none) ∧ (up.port 0).credits.length = 6 := by decide +kernel

/-- One packet waits to be sent to an endpoint. -/
def sending (dest : Nat) : State := { up with fab := { up.fab with sendQ := [{ dest := dest, src := 1, vc := 1, kind := 4 }], paths := [(9, { credits := 128 })] } }
def stamped (dest : Nat) : Packet := (sending dest).stamp { dest := dest, src := 1, vc := 1, kind := 4 }
/-- A packet on its way from 3 to 2 through this module, which waits since ESCAPE_WAIT. -/
def passing (hop : Bool) : Packet := { dest := 2, src := 3, vc := 1, kind := 4, hop := hop }
def intermediate : State :=
  { arriving (passing false) with fab := { (arriving (passing false)).fab with waitingFwd := [⟨0, passing false, up.now - up.ob Obj.escapeWait * 1000⟩] } }
def emptied : State := let s := up.modPort 0 (fun p => { p with credits := [0, 0, 0, 0, 0, 0] }); { s with fab := { s.fab with rx := [(0, passing false)] } }

/-- No path credits are left for endpoint 9. -/
def penniless : State := { sending 9 with fab := { (sending 9).fab with paths := [(9, {})] } }

theorem witness_PacketMovesComplete :
    (∀ dest ∈ [1, 2, 9, 4, 0xFFFF], ((sending dest).pull 0).isSome = true ∧ (sending dest).me ≠ 0 ∧ (sending dest).suspended (stamped dest) = false) ∧
    (∀ ep ∈ (sending 0xFFFF).grovePeers, (sending 0xFFFF).directUp ((sending 0xFFFF).epEntry (stamped 0xFFFF).epoch ep) ep = true →
      (sending 0xFFFF).portReady ((sending 0xFFFF).epEntry (stamped 0xFFFF).epoch ep).port (stamped 0xFFFF) = true) ∧
    (EpEntry.route ((sending 2).routeOf (stamped 2)) = 2 ∧ (sending 2).groveRoute ((sending 2).routeOf (stamped 2)) (stamped 2) [] = some 0 ∧ (sending 2).portReady 0 (stamped 2) = true) ∧
    (((sending 2).modPort 0 (fun p => { p with credits := List.replicate 6 0 })).portReady 0 (stamped 2) = false) ∧
    (let s := (sending 0xFFFF).modPort 0 (fun p => { p with credits := List.replicate 6 0 })
     s.grovePeers.any (fun ep => s.directUp (s.epEntry (s.stamp (stamped 0xFFFF)).epoch ep) ep &&
       !s.portReady (s.epEntry (s.stamp (stamped 0xFFFF)).epoch ep).port (stamped 0xFFFF)) = true) ∧
    (EpEntry.route ((sending 3).routeOf (stamped 3)) = 2 ∧ (sending 3).groveRoute ((sending 3).routeOf (stamped 3)) (stamped 3) [] = none ∧
      (sending 3).uplinksFor ((sending 3).routeOf (stamped 3)) = []) ∧
    (((penniless.pull 0).map (fun x => (x.2.2.forestSend (penniless.routeOf (stamped 9)) (stamped 9)).1)) = some false) ∧
    (EpEntry.route ((sending 9).routeOf (stamped 9)) = 3 ∧ (sending 9).uplinksFor ((sending 9).routeOf (stamped 9)) ≠ [] ∧ (((sending 9).pull 0).map (fun x => (x.2.2.forestSend ((sending 9).routeOf (stamped 9)) (stamped 9)).1)) = some true) ∧
    (EpEntry.route ((sending 4).routeOf (stamped 4)) = 0) ∧
    ((arriving (passing false)).forMe (passing false) = false ∧ (arriving (passing false)).fab.rx.contains (0, passing false) = true ∧
      (arriving (passing false)).directUp ((arriving (passing false)).routeOf (passing false)) 2 = true ∧ (arriving (passing false)).portReady 0 (passing false) = true) ∧
    (emptied.portReady 0 (passing false) = false ∧ emptied.fab.waitingFwd = [] ∧ emptied.fab.rx.contains (0, passing false) = true) ∧
    ((arriving (passing true)).fab.rx.contains (0, passing true) = true ∧ (passing true).hop = true) ∧
    (intermediate.fab.waitingFwd[0]? = some ⟨0, passing false, up.now - up.ob Obj.escapeWait * 1000⟩ ∧
      up.now - up.ob Obj.escapeWait * 1000 + intermediate.ob Obj.escapeWait * 1000 ≤ intermediate.now ∧
      intermediate.portReady 0 { passing false with vc := 5 } = true) := by decide +kernel

/-- A switch under way at the coordinator: answers of all are in and nothing old is left, or a count is still out. -/
def draining (settled : Bool) : State :=
  let w : Switch := { queries := [2], flips := if settled then [] else [(2, 0)], counts := [(2, 0), (3, 0)] }
  { switchReady with fab := { switchReady.fab with oldEpoch := some 1, switch := w } }

/-- A RETIRE whose check is wrong. -/
def retiring : State := arriving { heartbeat with ctl := .retire, hcheck := heartbeat.hcheck + 1 }

theorem witness_EpochMessagesComplete :
    ((draining false).ctlArrived 2 (· == .readyAnswer true)).map (·.fab.switch.queries.contains 2) = some true ∧
    ((up.ctlArrived 2 (· == .flip)).map (·.fab.ready) = some false) ∧ ((switchReady.ctlArrived 2 (· == .flip)).map (·.fab.ready) = some true) ∧
    ((retiring.fab.rx.find? (fun x => x.2.kind == 0xC && x.2.src == 2 && x.2.ctl == .retire)).map (fun x => (x.1, x.2.checkOk)) = some (0, false)) ∧
    ((draining false).fab.switch.flips.find? (fun x => x.1 == 2) = some (2, 0) ∧ 100000 ≤ (draining false).now ∧ (kget (draining false).fab.peers {} 2).lost = false) ∧
    ((draining true).fab.oldEpoch.isSome = true ∧ (draining true).drains = true ∧ (draining true).fab.switch.pollAt + 10000 ≤ (draining true).now ∧
      (draining true).fab.switch.flips = [] ∧ (∀ e ∈ (draining true).drainGrove, kget? (draining true).fab.switch.counts e = some 0) ∧ (draining true).drainCount = 0) ∧
    (draining false).fab.switch.flips ≠ [] ∧
    (∀ b, ((draining b).ctlArrived 2 (· == .retire)).map (fun u => decide (u.fab.switch.flips = [])) = some b) ∧
    (up.ctlArrived 2 (· == .drainPoll)).isSome = true ∧ (up.ctlArrived 2 (· == .drainReport 65535)).isSome = true := by decide +kernel

/-- A path to endpoint 9: it expects frame 5, owes an acknowledgement, and has frame 3 sent 2 times without an answer. -/
def path9 (n : Nat) : Path := { expected := 5, early := [7], credits := 8, unacked := [(3, 0, n, { dest := 9, src := 1, vc := 1, kind := 4 })], ackDue := some 0 }
/-- The entry of endpoint 9, with its MAC. -/
def ep9 : EpEntry := ep 3 0 1 ||| BitVec.ofNat 128 (pack [(48, 48, 0x020000000009)])
def forested (n : Nat) : State := { up with fab := { up.fab with paths := [(9, path9 n)], ept0 := [(1, ep 1 0 0), (9, ep9)] } }
/-- A frame from it, whole or with a wrong FCS, and one without a packet. -/
def frame (pseq : BitVec 32) : Frame :=
  Frame.seal { dst := up.mac, src := 0x020000000009, etherType := BitVec.ofNat 16 (up.ob 0x500005), ptype := 1, pseq := pseq, pack := 3,
               packet := some { dest := 1, src := 9, vc := 1, kind := 4 } }
def bare9 (pcred : Nat) : Frame :=
  Frame.seal { dst := up.mac, src := 0x020000000009, etherType := BitVec.ofNat 16 (up.ob 0x500005), ptype := 3, pseq := 0, pack := 3, pcred := pcred }
def broken : Frame := { frame 5 with fcs := (frame 5).fcs + 1 }
/-- Every unit of the pool is held by another source. -/
def poolFull : State := { up with fab := { up.fab with paths := [(8, { granted := 262144 })] } }
/-- Endpoint 9 holds its whole share. -/
def shareFull : State := { up with fab := { up.fab with paths := [(9, { granted := 8192 })] } }

theorem witness_ForestEventsComplete :
    (up.fab.grantWait = [] ∧ (up.grantTo 9).isSome = true ∧ (poolFull.grantTo 9).isNone = true ∧ poolFull.poolEmpty = true ∧
      (shareFull.grantTo 9).isNone = true ∧ shareFull.poolEmpty = false) ∧ (forested 0).path? 9 = some (path9 0) ∧
    (((forested 0).foreign broken).isSome = true ∧ ((forested 0).foreign { frame 5 with dst := 1, fcs := ({ frame 5 with dst := 1 } : Frame).check }).isSome = true) ∧
    (∀ c ∈ [0, 8], ((forested 0).foreign (bare9 c)).isNone = true ∧ (forested 0).senderOf (bare9 c) = some 9 ∧ (bare9 c).pcred = c ∧ (bare9 c).granting c = bare9 c) ∧
    (((forested 0).foreign (frame 5)).isNone = true ∧ (forested 0).senderOf (frame 5) = some 9 ∧ ((frame 260).pseq - (path9 0).expected).toNat = 255 ∧
      (path9 0).early.contains (5 : BitVec 32) = false ∧ (forested 0).forMe { dest := 1, src := 9, vc := 1, kind := 4 } = true) ∧
    (256 ≤ ((frame 261).pseq - (path9 0).expected).toNat ∧ 256 ≤ ((frame 4).pseq - (path9 0).expected).toNat ∧ (path9 0).early.contains (7 : BitVec 32) = true) ∧
    ((forested 0).pickUplink ((forested 0).epEntry (forested 0).epoch 9) = some 0 ∧ (path9 0).lastSent + 100000 ≤ (forested 0).now) ∧
    ((path9 7).unacked.find? (fun y => y.1 == 3) = some (3, 0, 7, { dest := 9, src := 1, vc := 1, kind := 4 }) ∧
      (forested 7).ob Obj.forestRetransmit * 1000 ≤ (forested 7).now ∧ 7 < (forested 7).ob Obj.forestRetries ∧ (forested 7).vcHeld 1 = false ∧ (forested 7).shed < 3 ∧
      (sets [(Obj.shedLevel, 3)] (forested 7)).vcHeld 1 = true ∧ (forested 8).ob Obj.forestRetries ≤ 8) := by decide +kernel

/-! ## Silent errors -/

def check1 (out : Digests) (other : Option (Word64 × Nat)) : Check :=
  { handle := 1, uid := 1, id := 0, slot := 0, step := 0, attempt := 0, block := 3, orig := 5, checker := 6, digests := out, other := other, third := 7 }
def checking (other : Option (Word64 × Nat)) : State := { up with fire := { up.fire with checks := [check1 ⟨1, 2⟩ other] } }
/-- An optimiser task with one unit that waits for its second run, or for its third. -/
def unit1 (second : Option Word64) : OptUnit := { index := 3, writes := [], digests := ⟨1, 2⟩, second := second, orig := 5, checker := 6, third := 191, at_ := up.now - 10000000 }
def optTask (second : Option Word64) : Task := { onStand .running none with units := [unit1 second] }

theorem witness_ChecksAndThirdRunsComplete :
    ((checking none).checkAt 1 0 3 = some (check1 ⟨1, 2⟩ none) ∧ ((⟨1, 2⟩ : Digests).out = (check1 ⟨1, 2⟩ none).digests.out) ∧
      (⟨1, 4⟩ : Digests).out ≠ (check1 ⟨1, 2⟩ none).digests.out) ∧
    ((checking (some (4, up.now - 10000000))).checkAt 1 0 3 = some (check1 ⟨1, 2⟩ (some (4, up.now - 10000000))) ∧
      (checking (some (4, up.now - 10000000))).standEnabled (check1 ⟨1, 2⟩ none).third = true ∧ up.now - 10000000 + 10000000 = up.now) ∧
    ((with5 (optTask none)).taskAt 1 0 = some (optTask none) ∧
      (optTask none).units.find? (fun u => u.index == 3 && !u.done && !u.dead && u.second.isNone) = some (unit1 none)) ∧
    ((with5 (optTask (some 4))).taskAt 1 0 = some (optTask (some 4)) ∧ (with5 (optTask (some 4))).checkAt 1 0 3 = none ∧
      (optTask (some 4)).units.find? (fun u => u.index == 3 && u.second.isSome && !u.dead) = some (unit1 (some 4)) ∧
      (with5 (optTask (some 4))).standEnabled (unit1 (some 4)).third = true ∧ ([] : List Byte).length = ((unit1 (some 4)).writes.map (fun w => w.data.length)).sum ∧ (unit1 (some 4)).at_ + 10000000 = (with5 (optTask (some 4))).now) := by decide +kernel

/-- Stand 191 has a suspect, TRANSIENT_LIMIT less one transient faults, and in the second state its suite runs. -/
def suspect : Suspect := { uid := 1, id := 0, block := 3, inp := 1, majority := 2 }
def suspected (transients : Nat) : State := up.modStand 191 (fun x => { x with suspects := [suspect], transients := List.replicate transients (up.now - 5) })

theorem witness_SuspectsAndSelfTestsComplete :
    ((suspected 1).runningOn 191 = none ∧ (suspected 1).fenced 191 = false ∧ (suspected 1).halfRuns 1 = true ∧
      ((suspected 1).stand 191).suspects = [suspect] ∧ ((⟨1, 2⟩ : Digests).inp = suspect.inp ∧ (⟨1, 2⟩ : Digests).out = suspect.majority) ∧
      (((suspected 1).stand 191).transients.filter (fun t => (suspected 1).now - t < 86400000000000)).length < (suspected 1).ob Obj.transientLimit) ∧
    (suspected 8).ob Obj.transientLimit ≤ (((suspected 8).stand 191).transients.filter (fun t => (suspected 8).now - t < 86400000000000)).length ∧
    (testing.runningOn 191 = none ∧ (testing.stand 191).selfTest = some .request ∧ testing.fire.trios = [] ∧ (testing.stand 191).pendState = 0 ∧
      (testing.stand 191).pendFence = 0 ∧ (testing.stand 191).pendBypass = 0 ∧ testing.ob (Obj.arrayFence 191) = 0 ∧ testing.ob (Obj.bypassed 191) = 0) := by decide +kernel

def message (m : Firebreak) : Packet := packetOf 0xA (bytesOf m.toNat 32)
def notice (step : Nat) : Firebreak := { type := 1, step := step, job := 7, attempt := 0, source := 2, reason := 1 }
def expels (ep : Nat) : Firebreak := { type := 3, step := 0, job := 7, attempt := 0, source := 2, reason := 0, digest := ep }
def digests : Firebreak := { type := 2, step := 0, job := 7, attempt := 0, source := 2, reason := 0, digest := 5 }
/-- Two records wait at stand 3: the second has the higher severity. -/
def recorded : State :=
  { up with fire := { up.fire with queues := [(3, { records := [{ errRec 0x0101 with id := 1, severity := 1 }, { errRec 0x0102 with id := 2, severity := 2 }] })] } }

theorem arrives_message (m : Firebreak) (hm : m ∈ [notice 0, notice 1, expels 1, expels 3, digests]) : Arrives (arriving (message m)) (message m) 0xA := by
  simp only [List.mem_cons, List.not_mem_nil, or_false] at hm
  rcases hm with rfl | rfl | rfl | rfl | rfl <;> constructor <;> decide +kernel

theorem witness_FirebreakMessagesComplete :
    (∀ m ∈ [notice 0, notice 1, expels 1, expels 3, digests], (let u := (arriving (message m)).arrived (message m)
      Firebreak.ofNat (ofBytes (message m).payload) = m ∧ u.slotOf m.job = some 0 ∧ u.step 0 = 0 ∧ u.att 0 = 0 ∧ u.me = 1)) ∧
    ((nextHandled (kget recorded.fire.queues {} 3).records).map (·.id) = some 2 ∧
      (kget recorded.fire.queues {} (aboveUnit 3)).used (aboveUnit 3) < 63) := by decide +kernel

/-! ## The seedbank -/

/-- The parity's holder has the one source's check, and its bands. -/
def genChecked : Gen := { gen3 with checks := [(2, 4, 0, 5)], folded := [(2, 4, 65536)] }
def genVerified : Gen := { gen3 with verify := some (0, 0), copied := true }
def genAsked : Gen := { gen3 with awaiting := [(2, 5)] }
/-- The table's set has its regions: those of job 7 marked with set 4. -/
def withGen (g : Gen) : State := { generating with jobs := [(0, { gen := some g })] }
def answering (what : PeerAsk) : State := { withGen genAsked with fab := { (withGen genAsked).fab with asks := [(2, 5, what)] } }

/-- The header of the generation reads well. -/
def headed : State := let s := withGen genVerified; { s with mem := { s.mem with okBlocks := [BankSet.copyOf twinSet 3 / 64] } }

theorem witness_SeedbankEventsComplete :
    (((withGen genChecked).job 0).gen = some genChecked ∧ (withGen genChecked).bankEntry 0 4 = some twinSet ∧ genChecked.checks.any (fun c => c.2.1 == 4) = true ∧
      (withGen genChecked).foldReady genChecked twinSet = true) ∧
    (((withGen genVerified).job 0).gen = some genVerified ∧ (withGen genVerified).stacksAsleep = false ∧
      genVerified.slots = [] ∧ genVerified.awaiting = [] ∧ genVerified.committed = false ∧ genVerified.abandoned = false ∧
      (sets [(Obj.shedLevel, 3)] (withGen genVerified)).stacksAsleep = true ∧ (withGen genVerified).bank.heldCommits = [] ∧ (withGen genVerified).bankSets 0 ≠ [] ∧
      ((withGen genVerified).bankSets 0).any (fun e => ((withGen genVerified).firstFault (BankSet.copyOf e 3) 64).isSome) = true ∧
      (headed.bankSets 0).all (fun e => (headed.firstFault (BankSet.copyOf e 3) 64).isNone) = true) ∧
    ((withGen gen3).rootHost 0 = (withGen gen3).me ∧ gen3.t0 + (withGen gen3).ob Obj.generationTimeout * 1000000000 ≤ (withGen gen3).now) ∧
    (∀ what ∈ [PeerAsk.fold 0, PeerAsk.twin 0], (answering what).fab.asks.find? (fun x => x.1 == 2 && x.2.1 == 5) = some (2, 5, what) ∧
      genAsked.awaiting.contains (2, 5) = true ∧ (answering what).dictPacket 2 5 = none ∧ ((answering what).job 0).gen = some genAsked) := by decide +kernel

/-! ## Power, heat, supply and ageing -/

def corrected : State := up.modPower (fun p => { p with rawMw := 5 })
/-- The periodic event k occurred p ns ago. -/
def tickedAgo (k p : Nat) : State := up.modPower (fun x => { x with ticks := [(k, up.now - p)] })
/-- Periodic events are due when none has occurred, and again once the period is over; not before. -/
theorem witness_periods_due : ([(0, 10000), (1, 100000000), (2, 1000000), (3, 1000000), (4, 100000000), (5, 10000), (6, 1000000000), (7, 100000000)].all (fun (k, p) =>
    up.due k p && (tickedAgo k p).due k p && !(tickedAgo k (p - 1)).due k p)) = true := by decide +kernel

theorem witness_PowerTicksComplete :
    up.edge.powered = true ∧ corrected.power.rawMw ≠ 0 ∧ up.standEnabled 191 = true ∧ (sets [(Obj.standState 191, 8)] up).standEnabled 191 = false ∧
    up.runningOn 191 = none ∧ ((with5 (onStand .running none)).loads {}).map (·.stand) = [5] := by decide +kernel

def borrows : State := (sets [(Obj.lendEnable, 1)] up).modPower (fun p => { p with paceSince := some (up.now - 10000000) })
def returns : State := borrowing.modPower (fun p => { p with idleSince := some (up.now - 1000000000) })
/-- Power so high that less than 50 W are to spare. -/
def recalls : State := lending.modPower (fun p => { p with means := [2990000] })
theorem witness_LendingEventsComplete :
    (borrows.power.paceSince = some (up.now - 10000000) ∧ borrows.mayBorrow = true ∧ borrows.budget = borrows.capInForce * 1000 ∧ borrows.power.shortfall = 0) ∧
    (returns.power.idleSince = some (up.now - 1000000000) ∧ returns.power.borrowed.getLast? = some ⟨2, 100, 0⟩ ∧ returns.mean100 + 100 ≤ returns.capInForce) ∧
    (recalls.power.lent.getLast? = some ⟨2, 100, 0⟩ ∧ recalls.capInForce ≤ recalls.mean100 + 50) ∧
    up.due 6 1000000000 = true := by decide +kernel

def limited : State := up.modPower (fun p => { p with thermal := some 1200000, outlet := some 1200000 })
theorem witness_HeatEventsComplete :
    limited.edge.powered = true ∧ limited.power.thermal = some 1200000 ∧ toInt32 (limited.ob Obj.throttleTj) ≤ 1250 ∧
    (1029 : Int) < toInt32 (limited.ob Obj.throttleTj) ∧ toInt32 (limited.ob Obj.outletLimit) ≤ 1000 ∧ (0 : Int) < toInt32 (limited.ob Obj.outletLimit) - 20 ∧
    limited.power.outlet = some 1200000 ∧
    up.power.thermal = none ∧ up.power.outlet = none := by decide +kernel

def shed (n since : Nat) : State := (sets [(Obj.shedLevel, n)] up).modPower (fun p => { p with exitSince := [(n, since)] })
theorem witness_SupplyEventsComplete :
    (shedTarget 39999 30000 = 3 ∧ shedTarget 38000 30000 = 3 ∧ (shed 2 0).shed = 2 ∧ shedTarget 37999 30000 = 4 ∧ shedTarget 36000 30000 = 4 ∧
      (shed 3 0).shed = 3 ∧ shedTarget 35999 30000 = 5 ∧ shedTarget 63000 29999 = 5 ∧ (shed 4 0).shed < 5 ∧ up.due 5 10000 = true) ∧
    (shedTarget 44000 30000 = 0 ∧ shedTarget 63000 30000 = 0 ∧ up.shed = 0 ∧ up.power.samples = [] ∧ up.power.borrowed = []) ∧
    (shedTarget 42000 30000 = 1 ∧ shedTarget 43999 30000 = 1 ∧ shedTarget 41999 30000 = 2 ∧ shedTarget 40000 30000 = 2 ∧ (shed 1 0).shed = 1) ∧
    (∀ n ∈ [1, 2, 3, 4], (shed n (up.now - 100000000)).shed = n ∧ kget? (shed n (up.now - 100000000)).power.exitSince n = some (up.now - 100000000)) := by decide +kernel

/-- R362's example: the a through 4.10 % at 12,000 h is 0.3917 %, and the fit reaches 18.00 % about 4,446,000 h later; R361's: 4.10 % takes one
step of 5 mV. -/
theorem test_fit : (fitThrough (12000, 410) + 500000) / 1000000 = 3917 ∧ ((1800 * 10 ^ 8) ^ 4 / fitThrough (12000, 410) ^ 4 - 12000 + 500) / 1000 = 4446 ∧
    offsetFor 410 = 5 := by decide +kernel

theorem witness_AgeingEventsComplete :
    (up.standEnabled 191 = true ∧ up.standIdle 191 = true ∧ (up.stand 191).measuredAt + 3600000000000 ≤ up.now) ∧
    up.power.replanAt + up.ob Obj.replanInterval ≤ (sets [(Obj.operatingHours, 1000)] up).hours ∧
    max (up.ob (Obj.voltageOffset 191)) (offsetFor (up.ob (Obj.slowdown 191))) ≤ up.ob Obj.offsetLimit := by decide +kernel

/-! ## The boundary -/

def pinned (p : Pin) (level : Nat) : State := up.setPin p { level := 1 - level, pending := some (level, up.now - 20000) }
def toggled : State := { up.setPin .perst { level := 1, lastToggle := up.now - 10000000000 } with edge := { (up.setPin .perst { level := 1, lastToggle := up.now - 10000000000 }).edge with
  alerts := [.toggles (pinNo .perst)] } }

theorem witness_SidebandEventsComplete :
    State.reset.edge.powered = false ∧ ((0 : Nat) ≠ (up.pin .perst).level ∧ (up.pin .perst).pending = none) ∧
    (1 - 0 = ((pinned .perst 0).pin .perst).level ∧ ((pinned .perst 0).pin .perst).pending ≠ none) ∧
    (Alert.toggles (pinNo .perst) ∈ toggled.edge.alerts ∧ (toggled.pin .perst).lastToggle + 10000000000 ≤ toggled.now) ∧
    (∀ p ∈ [Pin.perst, .pwrbrk], ∀ level ∈ [0, 1], (pinned p level).mayAccept p level = true) := by decide +kernel

theorem witness_AModuleResetLeaves : (withTasks [(1, chanU)] [] up).edge.powered = true ∧ (withTasks [(1, chanU)] [] up).chan.tasks = [] ∧
    up.staysOff = false ∧ (shed 4 0).staysOff = true ∧ isStack 0 = true := by decide +kernel

/-- 48 V has been good for 100 ms; the flash holds a signed image, or one without a signature. -/
def supplied (signed : Bool) : State :=
  { (State.reset.modPower (fun p => { p with onSince := some 0 })) with now := 100000000, edge := { State.reset.edge with images := [⟨1, signed, []⟩] } }
/-- Half 1 has not started; it runs beside steppings from a lowest one on. -/
def starting (lowest : Nat) : State :=
  let s := sets [(Obj.halfState 1, 1)] up
  { s with edge := { s.edge with fuses1 := { s.edge.fuses1 with lowest := lowest } } }
/-- Both halves run, the host link does not yet. -/
def readying (ready : Bool) : State := { up with edge := { up.edge with ready := ready, hostLink := false } }

/-- Vector 3 waits for the host link, masked or not. -/
def interrupted (masked : Bool) : State :=
  let s := readying true
  { s with edge := { s.edge with msixPending := [3], msixTable := if masked then [] else [(3, 0)] } }

/-- Half 1 is given up. -/
def halfGone : State := let s := sets [(Obj.halfState 1, 3)] (readying false); { s with edge := { s.edge with deadHalves := [1] } }

theorem witness_StartingEventsComplete :
    ((supplied true).mayPowerOn = true ∧ takeImage (supplied true).edge.minVersion (supplied true).edge.images = some ⟨1, true, []⟩) ∧
    ((supplied false).mayPowerOn = true ∧ takeImage (supplied false).edge.minVersion (supplied false).edge.images = none) ∧
    ((starting 0x10).mayStartHalf 1 = true ∧ (starting 0x10).pairRefused = false ∧ (starting 0x11).mayStartHalf 1 = true ∧ (starting 0x11).pairRefused = true ∧
      (starting 0x10).bank.heldCommits = [] ∧ (starting 0x10).mem.rowRepairs = [] ∧ (starting 0x10).chan.chans = []) ∧
    ((readying false).edge.powered = true ∧ (readying false).halfRuns 0 = true ∧ (readying false).halfRuns 1 = true ∧ (readying false).edge.perstHighAt = some 0 ∧ (readying false).edge.ready = false ∧
      (∀ b ∈ [true, false], ((interrupted b).edge.msixPending.all (fun v => (interrupted b).msixMasked v == b && v != 0xFFFF)) = true) ∧
      ((halfGone.halfRuns 1 || halfGone.halfDead 1) && halfGone.halfRuns 0) = true ∧
      0 + 100000000 ≤ (readying false).now) ∧
    ((readying true).edge.ready = true ∧ (readying true).edge.hostLink = false ∧ (readying true).edge.perst.level = 1) := by decide +kernel

/-- Half 1 is lost, was once reset again or not. -/
def halfLost (again : Bool) : State :=
  let s := sets [(Obj.halfState 1, 1)] up
  { s with edge := { s.edge with lostAt := [(1, up.now - 2000000000)], retriedHalf := if again then [1] else [] } }
def oneGlade : State := { up with edge := { up.edge with glade1 := false } }

theorem witness_HalfAndGladeEventsComplete :
    (up.halfRuns 1 = true ∧ up.halfRuns 0 = true ∧ (halfLost false).halfRuns 0 = true ∧ (halfLost false).halfRuns 1 = false) ∧
    (∀ again ∈ [true, false], kget? (halfLost again).edge.lostAt 1 = some (up.now - 2000000000) ∧ (halfLost again).edge.retriedHalf.contains 1 = again) ∧
    ((sets [(Obj.gladeActive, 1)] up).ob Obj.gladeActive ≠ up.ob Obj.gladeActive ∧ (shed 1 0).ob Obj.gladeActive = up.ob Obj.gladeActive) ∧
    up.ob Obj.gladeActive < 2 ∧ (up.edge.powered = true ∧ up.portUp 7 = true) ∧
    (FaultCause.noImage ∉ up.edge.faults ∧ up.ob Obj.gladeActive = 0 ∧ up.gladeRuns 1 = true ∧ oneGlade.gladeRuns 1 = false ∧ oneGlade.ob Obj.gladeActive = 0) := by decide +kernel

/-- Guest site 0 is up and may read and write for job 7. -/
def guested (link : Nat) : State := sets [(Obj.guestLink 0, link), (Obj.guestRights 0, 7 * 2 ^ 20 + 0xC)] guests
def asked (op : Nat) : GuestReq := { site := 0, tag := 3, op := op, addr := under, len := 64, at_ := up.now - 1000000, uid := 1, id := 0 }
def awaitingGuest (op : Nat) : State := { guested 2 with edge := { (guested 2).edge with guestReqs := [asked op] } }
def block0 : List GuestBlock := guestBlocks under (List.replicate 64 9)

/-- The other site's window, with a region of job 7 in it. -/
def other : Nat := 0x501000000000
def neighbour : State :=
  let r : Region := BitVec.ofNat 256 (pack [(224, 32, other / 65536), (192, 32, 256), (180, 12, 7), (176, 1, 1), (112, 32, 0x1000), (96, 16, 0xFFFF)])
  let s := sets [(Obj.guestLink 1, 2)] (guested 2)
  { s with mem := { s.mem with regions := [r] } }
def forwarded : State := { guested 2 with edge := { (guested 2).edge with guestReqs := [{ asked 1 with answer := some (1, 9) }] } }

theorem witness_GuestEventsComplete :
    ((guested 0).cap 4 = true ∧ (guested 0).halfRuns 0 = true ∧ (guested 0).guestUp 0 = false) ∧ (guested 2).guestHears 0 = true ∧
    ((guested 2).guestMay 0 2 under 65 = false ∧ (guested 2).guestMay 0 2 under 64 = true ∧ isGuest under = false ∧ (guested 2).touchesLost under 64 = false ∧
      (guested 2).badBlocksOf under 64 = []) ∧
    ((guested 2).guestMay 0 2 0x500000000000 64 = true ∧ ownWindow 0 0x500000000000 64 = true) ∧
    (neighbour.guestMay 0 2 other 64 = true ∧ neighbour.guestMay 0 3 other 64 = true ∧ ownWindow 0 other 64 = false ∧ isGuest other = true ∧ neighbour.touchesLost other 64 = false ∧ neighbour.guestHears 0 = true ∧
      badGuestBlock other (guestBlocks other (List.replicate 64 9)) = none) ∧
    ((forwarded.guestReq 0 3).map (fun r => decide (r.answer ≠ none ∧ r.op = 1)) = some true ∧ (asked 1).answer = none) ∧
    (badGuestBlock under block0 = none ∧ (guested 2).guestMay 0 3 under (64 * block0.length) = true ∧ ownWindow 0 under (64 * block0.length) = false) ∧
    (∀ op ∈ [1, 2], (awaitingGuest op).guestHears 0 = true ∧ (awaitingGuest op).guestReq 0 3 = some (asked op)) ∧ 64 * block0.length = (asked 1).len ∧
    badGuestBlock (asked 1).addr [{ data := List.replicate 64 9, check := 0 }] = some under ∧ (asked 1).at_ + 1000000 ≤ (awaitingGuest 1).now := by decide +kernel

def negotiated (n : Nat) : State := up.setSpdm n
theorem witness_AttestationAndManagementComplete : (∀ n ∈ [0, 1, 2, 3], (negotiated n).manages = true ∧ (negotiated n).edge.spdm = n) ∧
    (0xFF : Nat) ∈ [0, 1, 0xFF] ∧ (0xFF : Nat) ≤ 5 ∨ (0xFF : Nat) = 0xFF := by decide +kernel

/-! ## All commands -/

theorem witness_IntegerOperationsWorkLaneByLane : (up.itemsInt (vecDesc 0x0B 3) 0).isEmpty = false := by decide +kernel
theorem witness_AStepRunsTheFrontCommand : State.reset.pending = [] := rfl
theorem witness_CommandsKeepQueueClockOutputAndFuses : exec .persistWrite State.reset = .next State.reset := rfl
theorem witness_EveryStepKeepsMemoryInForm : Memory.wf State.reset.mem.cells = true ∧ step State.reset = .next { State.reset with now := State.reset.now + 1000 } := ⟨rfl, rfl⟩

theorem witness_SeedbankMessagesComplete :
    ((generating.takeRequest peer2).job 0).gen.isSome = true ∧ ((up.takeRequest peer2).ob (Obj.lastGen 0) ≠ 4) := by decide +kernel
theorem witness_ATaskChangesOnlyWhatItWrites : (tasked (plainDesc kCopy)).mem.repairs = [] := rfl

/-! ## Ill-formed commands: one for each check of WellFormed -/

def via0 : Via := { role := .host }
def vec0 : List Byte := List.replicate 32 0

theorem test_wellformed_refuses_channels_and_stands :
    ([.tailWrite 65536 0, .cplHeadWrite 65536 0, .doorbellIllegalAccess 65536 0 8, .doorbellIllegalAccess 0 65536 8, .doorbellIllegalAccess 0 0 65,
      .fetchDescriptor 65536 none, .copy 65536 ⟨0, { stand := 0 }⟩, .copy 0 ⟨0, { stand := 192 }⟩, .hostRead 65536 0 none, .matmul 0 0 { stand := 192 }, .iadd 0 0 { stand := 0, checker := 192 },
      .softnorm 65536 0 { stand := 0 }, .taskComplete 65536 0, .recomputeRerun 65536 0 none, .contextEvict 65536, .handshakeStall 192, .fenceApply 192,
      .channelCreate { via0 with src := 65536 }, .channelCreate { via0 with tag := 65536 }, .channelDestroy via0 65536, .jobSlotIdWrite via0 16 0,
      .jobSlotIdWrite via0 0 65536, .profileCommit via0 16, .bar2Read (2 ^ 36) 8, .bar2Read 0 4097, .bar2Write (2 ^ 36) [], .twinFetchRetry (2 ^ 42),
      .stackEcsPoll [(32, 0)], .voteSend 16, .checkCompare 65536 0 0 ⟨0, 0⟩, .checkCompare 0 0 (2 ^ 32) ⟨0, 0⟩, .thirdRunDone 0 0 0 192 ⟨⟨0, 0⟩, []⟩, .scrubRead .stack (some { data := [], check := 0 }),
      .suspectRepeatDone 192 ⟨0, 0⟩, .selfTestDone 192 [], .selfTestDone 0 [.column 4 0], .selfTestDone 0 [.column 0 64], .selfTestDone 0 [.array 4],
      .selfTestDone 0 [.scratch 32768], .standFence via0 192 1, .standFence via0 0 256, .errorRecordHandle 3 0, .errorRecordHandle 0 192,
      .errorAck via0 (2 ^ 32), .replanNow via0 256].all (fun i : Instr => !i.wf)) = true := by decide +kernel

theorem test_wellformed_refuses_packets_and_ports :
    (let p : Packet := { dest := 1, src := 2, vc := 0, kind := 1 }
     let g : Flit := flit 0 [] 0
     let f : Frame := bare9 0
     [{ p with dest := 65536 }, { p with src := 65536 }, { p with epoch := 2 }, { p with vc := 6 }, { p with kind := 16 }, { p with xfer := 2 ^ 20 },
      { p with offset := 65536 }, { p with total := 65536 }, { p with plot := 65536 }, { p with stepLo := 65536 }, { p with pace := 256 }, { p with job := 4096 },
      { p with level := 32 }, { p with length := 8192 }, { p with addr := 2 ^ 48 }, { p with arrival := 2048 }].all (fun q : Packet => !(Instr.writeReceive q).wf) &&
     !({ p with payload := List.replicate 4097 0 } : Packet).wf && p.wf &&
     [.portEnableWrite via0 9 0, .portEnableWrite via0 0 256, .trainingDone 9 none, .trainingDone 0 (some ⟨65536, 0, []⟩), .trainingDone 0 (some ⟨1, 4096, [0, 0, 0, 0, 0, 0]⟩), .trainingDone 0 (some ⟨1, 0, [0]⟩), .linkLoss 9,
      .flitReceive 7 g, .flitReceive 0 { g with fseq := 4096 }, .flitReceive 0 { g with ackseq := 4096 }, .flitReceive 0 { g with type := 4 },
      .flitReceive 0 { g with credits := [(0, 1), (0, 1), (0, 1)] }, .flitReceive 0 { g with credits := [(6, 1)] }, .flitReceive 0 { g with credits := [(0, 256)] },
      .flitReceive 0 { g with data := [] }, .flitReceive 0 { g with packets := [{ p with vc := 6 }] }, .nakReceive 7 0, .nakReceive 0 4096, .creditReturnTimeout 7 0, .creditReturnTimeout 0 6,
      .creditAuditIdle 7, .auditFlitReceive 7 [0, 0, 0, 0, 0, 0], .auditFlitReceive 0 [0], .packetForward 7 p, .packetForward 0 { p with vc := 6 },
      .refuseResendExpiry (2 ^ 20) 0 0, .refuseResendExpiry 0 65536 0, .refuseResendExpiry 0 0 65536, .transferComplete 65536 0, .transferComplete 0 (2 ^ 20),
      .heartbeatTimer 65536, .epochSwitch via0 256, .flip 65536, .drainCountReport 65536 none, .grant { f with ptype := 256 } 0, .grant f 65536, .grantRequest { f with pcred := 65536 },
      .forestPacketFrame { f with packet := some { p with vc := 6 } }, .forestRetransmit 65536 0].all (fun i : Instr => !i.wf)) = true := by
  decide +kernel

theorem test_wellformed_refuses_the_rest :
    (let m : DictMsg := { op := 1, index := 0, sub := 0 }
     let l : LoanMsg := { lender := 1, borrower := 2, seq := 0, watts := 0 }
     [{ m with version := 256 }, { m with op := 256 }, { m with tag := 65536 }, { m with index := 65536 }, { m with sub := 256 }, { m with offset := 2 ^ 32 },
      { m with length := 65536 }].all (fun q : DictMsg => !(Instr.read via0 q).wf) && (Instr.read via0 m).wf &&
     [{ l with lender := 65536 }, { l with borrower := 65536 }, { l with seq := 2 ^ 32 }, { l with watts := 2 ^ 32 }].all (fun q : LoanMsg => !(Instr.loanGrant via0 q).wf) &&
     [.foldCheck via0 65536 0 0, .foldCheck via0 0 (2 ^ 32) 0, .foldCheckCompare 16 0, .foldCheckCompare 0 65536, .twinSlot via0 (2 ^ 32) 0 0, .twinSlot via0 0 (2 ^ 32) 0,
      .twinSlot via0 0 0 (2 ^ 32), .genDone via0 16 0 0 0 0, .genDone via0 0 (2 ^ 32) 0 0 0, .genDone via0 0 0 (2 ^ 32) 0 0, .genDone via0 0 0 0 (2 ^ 32) 0,
      .genDone via0 0 0 0 0 (2 ^ 32), .genComplete via0 16 0 0 0, .genComplete via0 0 (2 ^ 32) 0 0, .genComplete via0 0 0 (2 ^ 48) 0, .genComplete via0 0 0 0 65536,
      .restore via0 16 0 0, .restore via0 0 (2 ^ 32) 0, .restore via0 0 0 65536, .powerModelTick { stands := [{ stand := 192 }] }, .powerCapWrite via0 (2 ^ 32),
      .sentinelMeasure 192 (List.replicate 8 1) 0, .sentinelMeasure 0 (List.replicate 7 1) 0,
      .mailboxGo 2 m, .mailboxDoneClear 1, .stageDiscard via0 65536, .stageTimeout .host 65536, .gladeTimeout 2 none,
      .gladeTimeout 0 (some ({ via0 with src := 65536 }, m)), .gladeTimeout 0 (some (via0, { m with op := 256 })), .sidebandInputChange .slotId 8, .sidebandInputChange .perst 2, .halfStart 2 [], .halfStart 0 [(32, 0)], .halfTimeout 2,
      .bridgeHeartbeatMiss 2 0 0, .bridgeHeartbeatMiss 0 9 0, .bridgeHeartbeatMiss 0 0 9, .islandLockLoss (.stackPhy 32), .islandLockLoss (.portSerdes 9),
      .islandLockLoss (.guestPhy 2), .islandLockLoss (.mgmtClock 2), .guestLinkTrainingDone 2 none, .guestRead 2 0 0 0, .guestRead 0 256 0 0, .guestRead 0 0 (2 ^ 48) 0,
      .guestRead 0 0 0 4097, .guestWrite 0 0 0 [⟨[], 0⟩], .guestWriteAck 0 256, .guestError 0 0 256, .getCertificate 16 0 0, .getCertificate 0 65536 0,
      .getCertificate 0 0 65536, 
      .challenge 16 { nonce := vec0 }, .challenge 0 { nonce := [] }, .challenge 0 { nonce := vec0, summary := 256 }, .getMeasurements 256 vec0, .getMeasurements 1 [], .peerDictionaryResponse 65536 0 0,
      .peerDictionaryResponse 0 65536 0, .peerDictionaryResponse 0 0 256, .stackTemperatureLimit 32 0, .dynamicAddressAssignment 128, .mctpControlMessage 256 [],
      .mctpControlMessage 0 (List.replicate 65 0)].all (fun i : Instr => !i.wf)) = true := by decide +kernel

/-! ## Worked examples of the manual -/

/-- The example after R43: FP16 0x6800 is 2,048, FP32 0x4100_0000 is 8. -/
theorem test_decoding : (decodeF fp16 0x6800 = .fin false 0x400 1 ∧ decodeF fp32 0x41000000 = .fin false 0x800000 (-20)) := by decide +kernel

def term32 (h : Heart) (x : Nat × Nat) : Heart := h.addProduct (decodeF fp32 x.1) (decodeF fp32 x.2)
/-- The example of Table 2-9. -/
theorem test_table_2_9 :
    ((([(0x7F000000, 0x41000000), (0x7FC00001, 0x3F800000), (0xFF000000, 0x41000000), (0x3FC00000, 0x40000000)].foldl term32 {}).round fp32 {}) = (0x7FC00000, fNI)) ∧
    ((([(0x7F000000, 0x41000000), (0x7FC00001, 0x3F800000), (0xFF000000, 0x41000000), (0x3FC00000, 0x40000000)].foldl term32 {}).sideband) = 8) ∧
    ((([(0x7F000000, 0x41000000), (0x3F800000, 0x3E800000), (0xFF000000, 0x41000000), (0x3FC00000, 0x40000000)].foldl term32 {}).round fp32 {}) = (0x40500000, 0)) ∧
    ((([(0x7F000000, 0x41000000), (0x3F800000, 0x3E800000), (0x3FC00000, 0x40000000)].foldl term32 {}).round fp32 {}) = (0x7F800000, fOF ||| fIX)) := by decide +kernel

def term16 (h : Heart) (x : Nat × Nat) : Heart := h.addProduct (decodeF fp16 x.1) (decodeF fp16 x.2)
/-- The examples after R54: −0 from terms that are all −0, and the sum 65,520 with and without saturation. -/
theorem test_final_rounding :
    (([(0x8000, 0x4000), (0x0000, 0xBC00)].foldl term16 {}).round fp16 {} = (0x8000, 0)) ∧
    (([(0x8000, 0x4000), (0x0000, 0xBC00), (0x0000, 0x4000)].foldl term16 {}).round fp16 {} = (0x0000, 0)) ∧
    (([(0x7BFF, 0x3C00), (0x4C00, 0x3C00)].foldl term16 {}).round fp16 {} = (0x7C00, fOF ||| fIX)) ∧
    (([(0x7BFF, 0x3C00), (0x4C00, 0x3C00)].foldl term16 {}).round fp16 { sat := true } = (0x7BFF, fOF ||| fIX ||| fSA)) := by decide +kernel

/-- The example after R57: word 0 of Philox on zeros, and 1 + 2^-12 rounded with its bits. -/
theorem test_stochastic_rounding :
    philox 0 0 = 0x6627E8D5 ∧
    finish fp16 { mode := .sr 0xE8D5 } (exactInt (2 ^ 298 + 2 ^ 286) (-298) false) = (0x3C01, fIX) ∧
    finish fp16 {} (exactInt (2 ^ 298 + 2 ^ 286) (-298) false) = (0x3C00, fIX) := by decide +kernel

/-- The example of the arithmetic report: two events, reported out of their order. -/
theorem test_report : (((({} : Report).addEvent 9 3 100).addEvent 5 12 2731).addFlags fIV).toNat = 0x00000500000C00000AAB000000020008 := by decide +kernel

/-- The examples of spill records: 1.0 in Heartwood-112, and its merge with a fresh record. -/
theorem test_spill_records :
    (term16 {} (0x3C00, 0x3C00)).toRecord .h112 = 0x01000000000000000001000000000000 ∧ ({} : Heart).toRecord .h112 = 0x09000000000000000000000000000000 ∧
    ((term16 {} (0x3C00, 0x3C00)).merge {}).toRecord .h112 = 0x01000000000000000001000000000000 := by decide +kernel

/-- The examples of interleave: whole-module, and half-local. -/
theorem test_interleave : wholeLoc 0x12345678 = (15, 0x91A678) ∧ halfLoc 0x100000000 2048 0x108001800 = (19, 0x8000000) := by decide +kernel

/-- The example of array fences: stand 40 presents 61 columns. -/
theorem test_presented_width :
    (sets [(Obj.arrayFence 40, 8), (Obj.bypassed 40, 7 * 2 ^ 64 + 511 * 2 ^ 192)] up).width 40 = 61 := by decide +kernel

/-- The example of the stripe: band 9 at position 2 of eight has its parity at position 5, in parity band 1, with bands 11, 10, 9, 8, 7, 13 and 12. -/
theorem test_stripe :
    holderOf 2 8 9 = 5 ∧ parityBand 8 9 = 1 ∧ ([0, 1, 2, 3, 4, 6, 7].map (fun p => stripeBand p 5 8 1)) = [11, 10, 9, 8, 7, 13, 12] := by decide +kernel

/-- The example of the interval: 12 failures, a cost of 1,800 ms and steps of 0.9 s give 980 steps. -/
theorem test_interval : ({ up with jobs := [(0, { decidedAt := [900000000, 0] })] } : State).interval 0 1800 12 = 980 := by decide +kernel

/-- The example of the header: a vote from 0x0013 to 0x0011. -/
theorem test_header :
    ({ dest := 0x11, src := 0x13, vc := 0, kind := 8, xfer := 0xA31, plot := 16, level := 1, stepLo := 0xA21C, job := 5, length := 32 } : Packet).headerBits / 2 ^ 32 =
      0x001100130800A31000000010010A21C00000A10100000000000007FF := by decide +kernel

/-- The example of offsets: 4.10 % calls for 5 mV; 3.00 % for none. -/
theorem test_offset : offsetFor 410 = 5 ∧ offsetFor 300 = 0 ∧ offsetFor 301 = 5 ∧ offsetFor 1800 = 60 := by decide +kernel

/-- The example of steppings: the pair is accepted and shows the AND of the capability words, here on the variant with guest sites. -/
def paired : State :=
  { guests with edge := { guests.edge with fuses0 := { stepping := 0x11, caps := 0x1F, lowest := 0x10 }, fuses1 := { stepping := 0x10, caps := 0x17, lowest := 0x10 } } }
theorem test_capabilities : paired.pairRefused = false ∧ paired.caps = 0x17 ∧ paired.cap 3 = false := by decide +kernel

/-- The example of a cap below the floor: written as 900, held at 1,100, reported and logged. -/
theorem test_cap_below_the_floor :
    (match exec (.powerCapWrite host 900) up with
     | .next t => decide (t.ob Obj.powerCap = 900) && decide (t.capInForce = 1100) && decide (t.ob Obj.powerStatus % 2 = 1) && t.alertN &&
         (kget t.fire.queues {} moduleUnit).records.any (fun r => r.code == 0x0502)
     | _ => false) = true := by decide +kernel

/-- The example of a commit: a set point above the cap in force is refused, naming subindex 2, and stays staged; the bytes of request and response (with the
role of the tray). -/
theorem test_commit_refused :
    (match exec (.steadyLoadCommit host) (staged 0x2004 [(1, 1), (2, 3200)] up) with
     | .next t => decide ((t.dict.responseBuf.1.data, t.dict.responseBuf.2) = ([2], 1)) && decide (t.ob Obj.steadyEnable = 0) && (t.stagedAt .host 0x2004).isSome
     | _ => false) = true ∧
    (match exec (.steadyLoadCommit host) (staged 0x2004 [(1, 1), (2, 2800)] up) with
     | .next t => decide ((t.dict.responseBuf.1.data, t.dict.responseBuf.2) = ([], 0)) && t.steady && decide (t.ob Obj.rampLimit = 200)
     | _ => false) = true ∧
    ofBytes ((msgBytes { op := 2, tag := 7, index := 0x2004, sub := 0xFF, length := 1, data := [1] } 0 0).take 16) = 0x12000007_2004FF00_00000000_00010000 ∧
    ofBytes ((msgBytes { op := 2, resp := true, tag := 7, index := 0x2004, sub := 0xFF, length := 1, data := [2] } 2 1).take 16) = 0x12A00007_2004FF01_00000000_00010000 := by
  decide +kernel

/-- CRC-32C of the nine digits (R123, the code's published check value). -/
theorem test_crc32c : crc32c [0x31, 0x32, 0x33, 0x34, 0x35, 0x36, 0x37, 0x38, 0x39] = 0xE3069283 ∧
    crc64 [0x31, 0x32, 0x33, 0x34, 0x35, 0x36, 0x37, 0x38, 0x39] = 0x995DC9BBDF1939FA := by decide +kernel

/-- FCS and line check of the nine digits (R124, R227, the codes' published check values). -/
theorem test_crc : crc32 [0x31, 0x32, 0x33, 0x34, 0x35, 0x36, 0x37, 0x38, 0x39] = 0xCBF43926 ∧
    crc16 [0x31, 0x32, 0x33, 0x34, 0x35, 0x36, 0x37, 0x38, 0x39] = 0x29B1 := by decide +kernel

/-- Rows of Table 3-3 with K = 64: beats when the tile changes and when it is kept. -/
theorem test_table_3_3 :
    (let tile : Tile := { addr := 0, pitch := 0, fmt := 1, k := 64, n := 64, data := [] }
     let beats (rows c load : Nat) : Nat × Nat :=
       let x : Native := { row := ceilDiv rows 4 * c, load := load, gen := 0, tile := tile, fresh := false, run := 0 }
       (x.beats none, x.beats (some tile))
     [beats 256 1 16, beats 32 1 16, beats 16 1 16, beats 256 4 32, beats 16 4 32, beats 16 32 64]) =
    [(64, 64), (16, 8), (16, 4), (256, 256), (32, 16), (128, 128)] := by decide +kernel

/-- R89: with columns 0 and 5 bypassed, logical columns 0, 4 and 61 are physical columns 1, 6 and 63. -/
theorem test_columns : (let c := (sets [(Obj.bypassed 40, 33)] up).physCols 40 0
    [0, 4, 61].map (fun j => c.getD j 64)) = [1, 6, 63] := by decide +kernel

/-- Table 12-3: an unpowered module's READY and THERMTRIP_N follow the resistor; in reset READY is low; running it is released. -/
theorem test_output_lines :
    State.reset.outputHigh .ready .puA false true = true ∧ State.reset.outputHigh .ready .puS false true = false ∧
    State.reset.outputHigh .thermtripN .puS false true = false ∧ State.reset.outputHigh .alertN .puS true true = true ∧
    State.reset.outputHigh .alertN .pd false true = false ∧
    ({ up with edge := { up.edge with ready := false } }).outputHigh .ready .puA false true = false ∧
    ({ up with edge := { up.edge with ready := true } }).outputHigh .ready .puA false true = true := by decide

end Sys2Proof.Machine.Tests
end

section
/-! PROOFS. Error records (R290 to R295) and doorbells (R155, R156): what logging a record leaves as it was, what it puts in its
queue, and how a doorbell write is decided; with them O13. -/

namespace Sys2Proof.Machine

/-! ## What the logging of an error record changes -/

/-- `t` is `s` but for the state of error records, the output lines and the dictionary, of whose objects only the counter of
the unit's lost records, ERROR_OVERFLOW and the count of lost signatures may differ. -/
structure RecordsOnly (unit : Nat) (s t : State) : Prop where
  rest : t = { s with fire := t.fire, dict := t.dict, edge := t.edge }
  ob : ∀ k, k ≠ lostCounter unit → k ≠ Obj.errorOverflow → k ≠ Obj.cperLost → t.ob k = s.ob k

namespace RecordsOnly

variable {unit : Nat} {s t u : State}

theorem refl (unit : Nat) (s : State) : RecordsOnly unit s s := ⟨rfl, fun _ _ _ _ => rfl⟩

theorem trans (a : RecordsOnly unit s t) (b : RecordsOnly unit t u) : RecordsOnly unit s u where
  rest := b.rest.trans (congrArg (fun x : State => { x with fire := u.fire, dict := u.dict, edge := u.edge }) a.rest)
  ob k hl ho hc := (b.ob k hl ho hc).trans (a.ob k hl ho hc)

theorem mem (a : RecordsOnly unit s t) : t.mem = s.mem := (congrArg State.mem a.rest :)
theorem chan (a : RecordsOnly unit s t) : t.chan = s.chan := (congrArg State.chan a.rest :)
theorem jobs (a : RecordsOnly unit s t) : t.jobs = s.jobs := (congrArg State.jobs a.rest :)
theorem fab (a : RecordsOnly unit s t) : t.fab = s.fab := (congrArg State.fab a.rest :)
theorem out (a : RecordsOnly unit s t) : t.out = s.out := (congrArg State.out a.rest :)

end RecordsOnly

/-- A new state of the error records changes nothing else. -/
theorem recordsOnly_setFire (unit : Nat) (s : State) (f : FireSt) : RecordsOnly unit s { s with fire := f } :=
  ⟨rfl, fun _ _ _ _ => rfl⟩

theorem recordsOnly_raise (unit : Nat) (s : State) (a : Alert) : RecordsOnly unit s (s.raise a) := by
  unfold State.raise
  split <;> exact ⟨rfl, fun _ _ _ _ => rfl⟩

/-- A lost record: the state of the queue first, then its counter, then ERROR_OVERFLOW and ALERT_N for the module's queue. -/
theorem recordsOnly_loseRecord (s : State) (unit : Nat) (lost : ErrRec) (q : ErrQueue) :
    RecordsOnly unit s (s.loseRecord unit lost q) := by
  have counted (u : State) : RecordsOnly unit u (u.bump (lostCounter unit)) :=
    ⟨rfl, fun k hl _ _ => u.bump_other _ k hl⟩
  have flagged (u : State) : RecordsOnly unit u (u.setOb Obj.errorOverflow 1) :=
    ⟨rfl, fun k _ ho _ => u.setOb_other _ _ k ho⟩
  unfold State.loseRecord
  dsimp only
  split
  · exact (((recordsOnly_setFire ..).trans (counted _)).trans (flagged _)).trans (recordsOnly_raise ..)
  · exact (recordsOnly_setFire ..).trans (counted _)

theorem recordsOnly_enqueue (s : State) (unit : Nat) (r : ErrRec) : RecordsOnly unit s (s.enqueue unit r) := by
  unfold State.enqueue
  dsimp only
  split
  · exact recordsOnly_setFire ..
  · split
    · split <;> exact recordsOnly_loseRecord ..
    · exact recordsOnly_loseRecord ..

theorem recordsOnly_sign (unit : Nat) (s : State) (r : ErrRec) (info : SigInfo) : RecordsOnly unit s (s.sign r info) := by
  unfold State.sign
  split
  · split
    · exact recordsOnly_setFire ..
    · exact ⟨rfl, fun k _ _ hc => s.bump_other _ k hc⟩
  · exact .refl unit s

theorem recordsOnly_logAt (s : State) (unit : Nat) (r : ErrRec) (info : SigInfo) : RecordsOnly unit s (s.logAt unit r info) :=
  ((recordsOnly_setFire ..).trans (recordsOnly_enqueue ..)).trans (recordsOnly_sign ..)

/-! ## The record that a queue with room takes -/

/-- The record of the unit's own that enters its queue: with its ID, its time, its level and the LOST of the queue. -/
def State.stamped (s : State) (unit : Nat) (r : ErrRec) : ErrRec :=
  { r with id := s.fire.nextRecord, time := s.clock, level := levelOf unit, lost := (kget s.fire.queues {} unit).lostSince }

/-- Only the codes of firebreak findings and of bad blocks leave a failure signature (R295). -/
theorem State.sign_of_unsigned (s : State) (r : ErrRec) (info : SigInfo) (below : r.code < 0x0701) (other : r.code ≠ 0x0204) :
    s.sign r info = s := by
  unfold State.sign
  rw [if_neg (by simp [Nat.not_le.2 below, other])]

/-- An unsigned record logged while its queue has room changes only the state of the records, and enters the queue. -/
theorem State.logAt_of_room (s : State) (unit : Nat) (r : ErrRec) (info : SigInfo)
    (room : (kget s.fire.queues {} unit).used unit < 63) (below : r.code < 0x0701) (other : r.code ≠ 0x0204) :
    ∃ f : FireSt, s.logAt unit r info = { s with fire := f } ∧
      (kget f.queues {} unit).records = insRecord (s.stamped unit r) (kget s.fire.queues {} unit).records := by
  unfold State.logAt
  simp only [State.sign_of_unsigned, State.enqueue, room, below, other, ne_eq, not_false_eq_true, if_true, beq_self_eq_true]
  exact ⟨_, rfl, congrArg ErrQueue.records (kget_kset_same ..)⟩

/-! ## Contexts -/

theorem State.wantContext_of_resident {s : State} {h : Nat} {c : Chan} (hc : s.chanAt h = some c) (hr : c.resident = true) :
    s.wantContext h = s := by
  simp [State.wantContext, hc, hr]

/-! ## Doorbells -/

/-- No doorbell of the handle is accepted: it is not open, or its destruction has begun. -/
def State.doorClosed (s : State) (h : Nat) : Prop := s.chanAt h = none ∨ ∃ c, s.chanAt h = some c ∧ c.destroying = true

/-- The rule of R156 that both fields share: a written value `v` against the accepted value `T`; `span` is how far `v` is ahead
of the count it may not run from by more than `limit`, `count` the module's count H, `c` the channel with `v` accepted. -/
def State.doorbell (s : State) (h : Nat) (v T : BitVec 32) (span limit count : Nat) (c : Chan) : Host.Outcome State Fault Refusal :=
  if (v - T).toNat == 0 || decide (2 ^ 31 ≤ (v - T).toNat) then .next s
  else if span > limit then .next (s.doorbellIgnored h v.toNat count)
  else .next ((s.setChan h c).wantContext h)

section
variable {s : State} {h : Nat} {v T : BitVec 32} {span limit count : Nat} {c : Chan}

theorem State.doorbell_stale (hs : v - T = 0 ∨ 2 ^ 31 ≤ (v - T).toNat) : s.doorbell h v T span limit count c = .next s := by
  unfold State.doorbell
  rcases hs with hs | hs
  · rw [hs]; rfl
  · rw [if_pos (by simp only [hs, decide_true, Bool.or_true])]

/-- A step forward is judged by the limit alone. -/
theorem State.doorbell_forward (h0 : v - T ≠ 0) (hs : (v - T).toNat < 2 ^ 31) :
    s.doorbell h v T span limit count c =
      if span > limit then .next (s.doorbellIgnored h v.toNat count) else .next ((s.setChan h c).wantContext h) := by
  have nonzero : (v - T).toNat ≠ 0 := fun e => h0 (BitVec.eq_of_toNat_eq e)
  unfold State.doorbell
  rw [if_neg (by simp only [Bool.or_eq_true, beq_iff_eq, decide_eq_true_eq]; omega)]

theorem State.doorbell_beyond (h0 : v - T ≠ 0) (hs : (v - T).toNat < 2 ^ 31) (hl : limit < span) :
    s.doorbell h v T span limit count c = .next (s.doorbellIgnored h v.toNat count) := by
  rw [State.doorbell_forward h0 hs, if_pos hl]

theorem State.doorbell_accepted (h0 : v - T ≠ 0) (hs : (v - T).toNat < 2 ^ 31) (hl : span ≤ limit) :
    s.doorbell h v T span limit count c = .next ((s.setChan h c).wantContext h) ∧
      (c.resident = true → s.doorbell h v T span limit count c = .next (s.setChan h c)) := by
  rw [State.doorbell_forward h0 hs, if_neg (Nat.not_lt.2 hl)]
  exact ⟨rfl, fun hr => by rw [State.wantContext_of_resident (s.setChan_same h c) hr]⟩

theorem exec_tailWrite_open (hc : s.chanAt h = some c) (hd : c.destroying = false) :
    exec (.tailWrite h v) s =
      s.doorbell h v c.tail (v - c.fetched).toNat c.ringEntries c.fetched.toNat { c with tail := v } := by
  change execTailWrite h v s = _
  simp only [execTailWrite, hc, hd]
  rfl

theorem exec_cplHeadWrite_open (hc : s.chanAt h = some c) (hd : c.destroying = false) :
    exec (.cplHeadWrite h v) s =
      s.doorbell h v c.cplHead (v - c.cplHead).toNat (c.written - c.cplHead).toNat c.written.toNat { c with cplHead := v } := by
  change execCplHeadWrite h v s = _
  simp only [execCplHeadWrite, hc, hd]
  rfl

theorem exec_tailWrite_closed (closed : s.doorClosed h) : exec (.tailWrite h v) s = .next (s.doorbellIgnored h v.toNat 0) := by
  change execTailWrite h v s = _
  rcases closed with hc | ⟨c, hc, hd⟩
  · simp only [execTailWrite, hc]
  · simp only [execTailWrite, hc, hd, if_true]

theorem exec_cplHeadWrite_closed (closed : s.doorClosed h) :
    exec (.cplHeadWrite h v) s = .next (s.doorbellIgnored h v.toNat 0) := by
  change execCplHeadWrite h v s = _
  rcases closed with hc | ⟨c, hc, hd⟩
  · simp only [execCplHeadWrite, hc]
  · simp only [execCplHeadWrite, hc, hd, if_true]

end

/-- An access at a closed handle, or of a width or place that R155 gives no effect, is ignored. -/
theorem exec_doorbellIllegalAccess (s : State) (h offset width : Nat)
    (illegal : s.chanAt h = none ∨ (∃ c, s.chanAt h = some c ∧ c.destroying = true) ∨ doorbellLegal offset width = false) :
    exec (.doorbellIllegalAccess h offset width) s = .next (s.doorbellIgnored h 0 0) := by
  change execDoorbellIllegalAccess h offset width s = _
  unfold execDoorbellIllegalAccess
  rcases illegal with hc | ⟨c, hc, hd⟩ | hl
  · simp only [hc, Bool.true_or, if_true]
  · simp only [hc, hd, Bool.true_or, if_true]
  · simp only [hl, Bool.not_false, Bool.or_true, if_true]

/-! ## An ignored doorbell write -/

/-- It counts one event, then logs a record of the module's own. -/
theorem State.doorbellIgnored_recordsOnly (s : State) (h x y : Nat) :
    RecordsOnly moduleUnit (s.bump Obj.doorbellsIgnored) (s.doorbellIgnored h x y) := by
  unfold State.doorbellIgnored State.log
  exact recordsOnly_logAt ..

theorem State.doorbellIgnored_counted (s : State) (h x y : Nat) :
    (s.doorbellIgnored h x y).ob Obj.doorbellsIgnored = s.ob Obj.doorbellsIgnored + 1 :=
  ((s.doorbellIgnored_recordsOnly h x y).ob _ (by decide) (by decide) (by decide)).trans (s.bump_same _)

/-- While the module's queue has room, the counter is the only object that changes, and the record stands in the queue. -/
theorem State.doorbellIgnored_of_room (s : State) (h x y : Nat) (room : (kget s.fire.queues {} moduleUnit).used moduleUnit < 63) :
    (∀ k, k ≠ Obj.doorbellsIgnored → (s.doorbellIgnored h x y).ob k = s.ob k) ∧
      ∃ r, (kget (s.doorbellIgnored h x y).fire.queues {} moduleUnit).records =
          insRecord r (kget s.fire.queues {} moduleUnit).records ∧
        r.code = 0x0105 ∧ r.handle = h ∧ r.id = s.fire.nextRecord := by
  obtain ⟨f, logged, entered⟩ := (s.bump Obj.doorbellsIgnored).logAt_of_room moduleUnit
    { errRec 0x0105 with handle := h, detail0 := x, detail1 := y } {} room (by decide : 0x0105 < 0x0701) (by decide : 0x0105 ≠ 0x0204)
  have ignored : s.doorbellIgnored h x y = { s.bump Obj.doorbellsIgnored with fire := f } := logged
  rw [ignored]
  exact ⟨fun k other => s.bump_other _ k other, _, entered, rfl, rfl, rfl⟩

/-- Settles O13: R156 on both fields is `State.doorbell`, whose three cases are its clauses; an ignored write is one count and
one record. -/
theorem aDoorbellWriteIsHandledByItsDifference : Obligations.ADoorbellWriteIsHandledByItsDifference := by
  unfold Obligations.ADoorbellWriteIsHandledByItsDifference
  intro s h v
  refine ⟨fun closed => ⟨exec_tailWrite_closed closed, exec_cplHeadWrite_closed closed⟩, fun c hc hd => ?_,
    fun offset width illegal => ⟨0, 0, exec_doorbellIllegalAccess s h offset width illegal⟩, fun x y => ?_⟩
  · rw [exec_tailWrite_open hc hd, exec_cplHeadWrite_open hc hd]
    exact ⟨State.doorbell_stale, State.doorbell_stale,
      fun h0 hs => ⟨State.doorbell_beyond h0 hs, State.doorbell_accepted h0 hs⟩,
      fun h0 hs => ⟨State.doorbell_beyond h0 hs, State.doorbell_accepted h0 hs⟩⟩
  · have only := s.doorbellIgnored_recordsOnly h x y
    exact ⟨s.doorbellIgnored_counted h x y, only.chan, only.mem, only.out, only.fab, only.jobs, s.doorbellIgnored_of_room h x y⟩

end Sys2Proof.Machine
end

section
/-! PROOFS. The path of a mailbox request whatever its answer (R365, R373, R374), and POWER_CAP (R325): which values a write of
it takes, and what a refused one leaves; with them O52. -/

namespace Sys2Proof.Machine

/-! ## A mailbox request and its answer -/

/-- A mailbox request that is served is answered with what its execution comes to, a refusal included. -/
theorem requestFor_host_answer {s u : State} {v : Via} {m : DictMsg} {r : Reply} (hint : Option Nat) (served : HostServed s v)
    (executed : (s.takeRequest v).execute { v with tag := m.tag } (hint.orElse fun _ => s.hintOf v m) m = (u, r)) :
    s.requestFor v hint m = (u.persist (s.takeRequest v)).respond v m r := by
  have noFailover : s.failoverDue v.role = false := by simp [State.failoverDue, served.glade]
  have serves : s.pathServes v.role = true := by
    simp [State.pathServes, served.role, served.powered, served.glade, served.ready, served.link]
  have own : s.foreignMsg v = false := by simp [State.foreignMsg, served.role]
  have room : ¬ pathLimit v.role ≤ v.ahead := by simp [served.role, served.ahead, pathLimit]
  have notPeer : (v.role == Role.peer) = false := by rw [served.role]; rfl
  have notShed : ¬ 4 ≤ (s.takeRequest v).shed := by
    have same : (s.takeRequest v).shed = s.shed := by
      rw [takeRequest_host s v served.role]
      exact s.bump_other _ _ (by decide)
    rw [same]
    exact Nat.not_le.2 served.shed
  unfold State.requestFor
  simp only [noFailover, serves, own, room, notPeer, notShed, executed, Bool.not_true, Bool.false_eq_true, if_false, decide_false,
    Bool.and_false, Bool.false_and]

@[simp] theorem State.persist_ob (s old : State) (k : Nat) : (s.persist old).ob k = s.ob k := by
  unfold State.persist
  split <;> rfl

/-- Where no persistent object changed, nothing waits to be written to flash (R388). -/
@[simp] theorem State.persist_self (s : State) : s.persist s = s := by
  simp [State.persist]

@[simp] theorem State.msix_dict (s : State) (vector : Nat) : (s.msix vector).dict = s.dict := by
  unfold State.msix
  split
  · rfl
  · split <;> rfl

/-- The mailbox shows the status of the answer. -/
theorem State.respond_host_code {s : State} {v : Via} {m : DictMsg} {r : Reply} (host : v.role = .host) (now : r ≠ .later) :
    (s.respond v m r).dict.responseBuf.2 = r.code := by
  simp [State.respond, host, now]

/-- An answer over the mailbox changes no object but the count of refusals. -/
theorem State.respond_host_ob {s : State} {v : Via} {m : DictMsg} {r : Reply} {k : Nat} (host : v.role = .host)
    (other : k ≠ Obj.dictRefused) : (s.respond v m r).ob k = s.ob k := by
  unfold State.respond
  rw [host]
  split
  · rfl
  · refine (State.ob_congr (congrArg DictSt.objs (State.msix_dict ..)) k).trans ?_
    split
    · rfl
    · exact s.bump_other _ k other

/-! ## The return of borrowed tokens -/

@[simp] theorem State.peerWrite_dict (s : State) (dest job index sub : Nat) (data : List Byte) (ask : Option PeerAsk) :
    (s.peerWrite dest job index sub data ask).dict = s.dict := rfl

@[simp] theorem State.sendLoan_dict (s : State) (peer type lender borrower watts : Nat) :
    (s.sendLoan peer type lender borrower watts).dict = s.dict := rfl

/-- A pass over a list whose steps leave the dictionary leaves it. -/
theorem foldl_dict {α : Type} {f : State → α → State} (keeps : ∀ u x, (f u x).dict = u.dict) (l : List α) (s : State) :
    (l.foldl f s).dict = s.dict := by
  induction l generalizing s with
  | nil => rfl
  | cons x l ih => exact (ih _).trans (keeps s x)

/-- The loans go back in messages, and no object changes. -/
@[simp] theorem State.returnAll_dict (s : State) : s.returnAll.dict = s.dict := by
  unfold State.returnAll
  exact foldl_dict (fun u _ => u.sendLoan_dict ..) ..

/-! ## POWER_CAP -/

theorem State.setPowerCap_refused {watts : Nat} (s : State) (above : 3400 < watts) : s.setPowerCap watts = (s, .invalid) :=
  if_pos above

/-- A cap the module can hold: POWER_STATUS bit 0 and the cause of ALERT_N are cleared (R328). -/
theorem State.setPowerCap_attainable {watts : Nat} (s : State) (floor : 1100 ≤ watts) (top : watts ≤ 3400) :
    s.setPowerCap watts = (((s.setOb Obj.powerCap watts).setBit Obj.powerStatus 0 false).calm .capUnattainable, .ok) := by
  simp [State.setPowerCap, Nat.not_lt.2 floor, Nat.not_lt.2 top]

/-- A cap below 1,100 W is taken too: it is shown, alerted and logged (R328), and what is borrowed goes back (R341). -/
theorem State.setPowerCap_unattainable {watts : Nat} (s : State) (below : watts < 1100) :
    s.setPowerCap watts = (((((s.setOb Obj.powerCap watts).setBit Obj.powerStatus 0 true).raise .capUnattainable).log
      { errRec 0x0502 with detail0 := watts }).returnAll, .ok) := by
  have top : ¬ 3400 < watts := by omega
  simp [State.setPowerCap, below, top]

/-- Every value up to 3,400 W is taken (R325). -/
theorem State.setPowerCap_accepted {watts : Nat} (s : State) (top : watts ≤ 3400) :
    (s.setPowerCap watts).2 = .ok ∧ (s.setPowerCap watts).1.ob Obj.powerCap = watts := by
  have shown (b : Bool) : ((s.setOb Obj.powerCap watts).setBit Obj.powerStatus 0 b).ob Obj.powerCap = watts :=
    (State.setOb_other _ _ _ _ (by decide)).trans (s.setOb_same _ _)
  rcases Nat.lt_or_ge watts 1100 with below | floor
  · rw [s.setPowerCap_unattainable below]
    refine ⟨rfl, (State.ob_congr (congrArg DictSt.objs (State.returnAll_dict _)) _).trans ?_⟩
    have logged := recordsOnly_logAt (((s.setOb Obj.powerCap watts).setBit Obj.powerStatus 0 true).raise .capUnattainable)
      moduleUnit { errRec 0x0502 with detail0 := watts } {}
    have raised := recordsOnly_raise moduleUnit ((s.setOb Obj.powerCap watts).setBit Obj.powerStatus 0 true) .capUnattainable
    exact ((raised.trans logged).ob _ (by decide) (by decide) (by decide)).trans (shown true)
  · rw [s.setPowerCap_attainable floor top]
    exact ⟨rfl, shown false⟩

/-- The row of POWER_CAP (Table 10-10). -/
def powerCapRow : ObjRow := { index := 0x2001, lo := 1, hi := 1, type := .u32, acc := .rw, default := 3000, max := 3400 }

theorem rowOf_powerCap : rowOf 0x2001 1 = some powerCapRow := by decide

/-- The host's WRITE of a U32 value passes the checks of R373 and comes to `State.setPowerCap`, which decides the range. -/
theorem State.execute_powerCap {s : State} {v w : Via} {hint : Option Nat} {watts : Nat} (host : v.role = .host)
    (u32 : watts < 2 ^ 32) : s.execute v hint (writeMsg w 0x2001 1 (bytesOf watts 4)) = s.setPowerCap watts := by
  have value : ofBytes (bytesOf watts 4) = watts := by
    rw [ofBytes_bytesOf]
    exact Nat.mod_eq_of_lt u32
  have row : s.target 0x2001 1 = some powerCapRow := rowOf_powerCap
  have allowed : s.denied v.role powerCapRow 2 = false := by rw [host]; rfl
  have unstaged : s.touchStaged v.role 0x2001 = s := rfl
  have reached : s.execute v hint (writeMsg w 0x2001 1 (bytesOf watts 4)) =
      (s.touchStaged v.role 0x2001).writeObject v hint powerCapRow (writeMsg w 0x2001 1 (bytesOf watts 4)) :=
    execute_write rfl row rfl allowed rfl (show 1 ≠ 0xFF by decide) (by decide)
  rw [reached, unstaged]
  unfold State.writeObject
  simp only [writeMsg, value]
  by_cases above : 3400 < watts
  · simp [above, rangeFault, powerCapRow, s.setPowerCap_refused above]
  · simp [above, rangeFault, encodingFault, powerCapRow, State.refusedValue]

/-- POWER_CAP_WRITE of a U32 value, served: what `State.setPowerCap` comes to, answered. -/
theorem exec_powerCapWrite {s : State} {v : Via} {watts : Nat} (served : HostServed s v) (u32 : watts < 2 ^ 32) :
    exec (.powerCapWrite v watts) s = .next ((((s.takeRequest v).setPowerCap watts).1.persist (s.takeRequest v)).respond v
      (valueMsg v 0x2001 1 watts 4) ((s.takeRequest v).setPowerCap watts).2) :=
  congrArg Host.Outcome.next (requestFor_host_answer none served (State.execute_powerCap served.role u32))

/-- A refused value: the request is counted and answered, and nothing else happens (R325). -/
theorem exec_powerCapWrite_refused {s : State} {v : Via} {watts : Nat} (served : HostServed s v) (u32 : watts < 2 ^ 32)
    (above : 3400 < watts) :
    exec (.powerCapWrite v watts) s = .next ((s.takeRequest v).respond v (valueMsg v 0x2001 1 watts 4) .invalid) := by
  rw [exec_powerCapWrite served u32, State.setPowerCap_refused _ above, State.persist_self]

/-- Settles O52: the value comes whole to `State.setPowerCap`, and the answer leaves POWER_CAP as that left it. -/
theorem powerCapTakesUpTo3400W : Obligations.PowerCapTakesUpTo3400W := by
  unfold Obligations.PowerCapTakesUpTo3400W
  refine ⟨congrArg (fun r => (r.map ObjRow.default).getD 0) rowOf_powerCap, fun s v watts served small => ?_⟩
  have u32 : watts < 2 ^ 32 := by omega
  rcases Nat.lt_or_ge 3400 watts with above | top
  · refine ⟨_, exec_powerCapWrite_refused served u32 above, fun top => by omega, fun _ => ⟨?_, ?_⟩⟩
    · rw [State.respond_host_ob served.role (by decide), takeRequest_host s v served.role]
      exact s.bump_other _ _ (by decide)
    · exact State.respond_host_code served.role (by decide)
  · obtain ⟨ok, taken⟩ := (s.takeRequest v).setPowerCap_accepted top
    refine ⟨_, exec_powerCapWrite served u32, fun _ => ⟨?_, ?_⟩, fun above => by omega⟩
    · rw [State.respond_host_ob served.role (by decide), State.persist_ob, taken]
    · rw [ok]
      exact State.respond_host_code served.role (by decide)

end Sys2Proof.Machine
end

section
/-! PROOFS. Staged values (R382, R385, R386): what a role has staged at an index after a discard and after a write to it; with
them O53. -/

namespace Sys2Proof.Machine

/-! ## What is staged -/

/-- What is staged at an index carries its role and its index. -/
theorem State.stagedAt_owner {s : State} {role : Role} {index : Nat} {x : Staged} (staged : s.stagedAt role index = some x) :
    x.role = role ∧ x.index = index := by
  simpa using List.find?_some staged

/-- A role has nothing staged at an index once it is discarded. -/
theorem State.stagedAt_discard_same (s : State) (role : Role) (index : Nat) : (s.discard role index).stagedAt role index = none :=
  List.find?_eq_none.2 fun x kept => by
    simpa only [Bool.not_eq_true', Bool.not_eq_true] using (List.mem_filter.1 kept).2

/-- A discard leaves what other roles have staged there, and what is staged at other indices. -/
theorem State.stagedAt_discard_other {r role : Role} {i index : Nat} (s : State) (other : r ≠ role ∨ i ≠ index) :
    (s.discard role index).stagedAt r i = s.stagedAt r i := by
  unfold State.stagedAt State.discard
  rw [List.find?_filter]
  congr 1
  funext x
  by_cases mine : x.role = r ∧ x.index = i
  · obtain ⟨rfl, rfl⟩ := mine
    rcases other with other | other <;> simp [other]
  · have unmatched : (x.role == r && x.index == i) = false := by simpa using mine
    simp only [unmatched, Bool.false_eq_true, and_false, decide_false]

/-- A change of what a role has staged at an index dates it anew. -/
theorem State.stagedAt_modStaged (s : State) (role : Role) (index : Nat) {f : Staged → Staged}
    (owner : ∀ x, (f x).role = x.role ∧ (f x).index = x.index) :
    (s.modStaged role index f).stagedAt role index =
      some { f ((s.stagedAt role index).getD { role := role, index := index }) with at_ := s.now } := by
  have old : ((s.stagedAt role index).getD { role := role, index := index }).role = role ∧
      ((s.stagedAt role index).getD { role := role, index := index }).index = index := by
    cases staged : s.stagedAt role index with
    | none => exact ⟨rfl, rfl⟩
    | some x => exact State.stagedAt_owner staged
  have gone := s.stagedAt_discard_same role index
  unfold State.modStaged
  generalize (s.stagedAt role index).getD { role := role, index := index } = x at old ⊢
  unfold State.stagedAt at gone ⊢
  simp [List.find?_append, gone, owner, old]

/-- A WRITE that is staged changes what its role has staged at the index, and only its content. -/
theorem State.stage_ok {s t : State} {role : Role} {r : ObjRow} {m : DictMsg} {d : List Byte} (ok : s.stage role r m = (t, .ok d)) :
    ∃ f : Staged → Staged, t = s.modStaged role m.index f ∧ ∀ x, (f x).role = x.role ∧ (f x).index = x.index := by
  unfold State.stage at ok
  split at ok
  · split at ok
    · simp at ok
    · exact ⟨_, (Prod.mk.inj ok).1.symm, fun _ => ⟨rfl, rfl⟩⟩
  · dsimp only at ok
    split at ok
    · simp at ok
    · exact ⟨_, (Prod.mk.inj ok).1.symm, fun _ => ⟨rfl, rfl⟩⟩

/-! ## The lapse -/

/-- Once STAGE_TIMEOUT has passed since the role's last write to the index, its values there are discarded (R385). -/
theorem exec_stageTimeout_lapsed {s : State} {role : Role} {index : Nat} {x : Staged} (staged : s.stagedAt role index = some x)
    (lapsed : x.at_ + s.ob Obj.stageTimeout * 1000000000 ≤ s.now) :
    exec (.stageTimeout role index) s = .next (s.discard role index) := by
  change execStageTimeout role index s = _
  simp only [execStageTimeout, staged, lapsed, if_true]

/-- Settles O53: the lapse is a discard, which takes the values of one role at one index; a staged write dates them with the
time of the write. -/
theorem stagedValuesLapse : Obligations.StagedValuesLapse := by
  unfold Obligations.StagedValuesLapse
  constructor
  · intro s role index x staged lapsed
    exact ⟨_, exec_stageTimeout_lapsed staged lapsed, s.stagedAt_discard_same role index,
      fun _ _ other => s.stagedAt_discard_other other, s.discard_ob role index, rfl, rfl⟩
  · intro s t role r m d ok
    obtain ⟨f, rfl, owner⟩ := State.stage_ok ok
    exact ⟨_, s.stagedAt_modStaged role m.index owner, rfl⟩

end Sys2Proof.Machine
end

section
/-! PROOFS. The number of requests a path may have outstanding (R366, Table 11-1): what taking up and answering a request changes
besides its counts, and the BUSY of a request beyond that number; with them O54. -/

namespace Sys2Proof.Machine

/-! ## What receiving and sending change -/

/-- `t` is `s` but for the fabric, what is kept of jobs, the edge, and what has been sent: no memory, channel, task, object or
staged value differs. -/
def TrafficOnly (s t : State) : Prop := t = { s with fab := t.fab, jobs := t.jobs, edge := t.edge, out := t.out }

namespace TrafficOnly

variable {s t u : State}

theorem refl (s : State) : TrafficOnly s s := rfl

theorem trans (a : TrafficOnly s t) (b : TrafficOnly t u) : TrafficOnly s u :=
  Eq.trans b (congrArg (fun x : State => { x with fab := u.fab, jobs := u.jobs, edge := u.edge, out := u.out }) a)

theorem mem (a : TrafficOnly s t) : t.mem = s.mem := (congrArg State.mem a :)
theorem chan (a : TrafficOnly s t) : t.chan = s.chan := (congrArg State.chan a :)
theorem dict (a : TrafficOnly s t) : t.dict = s.dict := (congrArg State.dict a :)

end TrafficOnly

theorem trafficOnly_sendFlit (s : State) (n : Nat) : TrafficOnly s (s.sendFlit n) := rfl

theorem trafficOnly_pumpFlits (n : Nat) (flush : Bool) (k : Nat) (s : State) : TrafficOnly s (s.pumpFlits n flush k) := by
  induction k generalizing s with
  | zero => exact .refl s
  | succ k ih =>
    unfold State.pumpFlits
    dsimp only
    split
    · exact (trafficOnly_sendFlit s n).trans (ih _)
    · exact .refl s

theorem trafficOnly_modPort (s : State) (n : Nat) (f : Port → Port) : TrafficOnly s (s.modPort n f) := rfl

theorem trafficOnly_returnCredits (s : State) (n vc k : Nat) : TrafficOnly s (s.returnCredits n vc k) := by
  unfold State.returnCredits
  split
  · exact .refl s
  · exact (trafficOnly_modPort s n _).trans (trafficOnly_pumpFlits ..)

/-- A packet that leaves the receive buffers gives its credits back, and nothing else. -/
theorem trafficOnly_unbuffer (s : State) (p : Packet) : TrafficOnly s (s.unbuffer p) := by
  have taken (rx : List (Nat × Packet)) : TrafficOnly s { s with fab := { s.fab with rx := rx } } := rfl
  unfold State.unbuffer
  split
  · dsimp only
    split
    · exact ((taken _).trans (trafficOnly_modPort ..)).trans (trafficOnly_returnCredits ..)
    · split
      · exact taken _
      · rfl
  · exact .refl s

theorem trafficOnly_heard (s : State) (ep : Nat) : TrafficOnly s (s.heard ep) := by
  unfold State.heard
  split
  · exact .refl s
  · dsimp only
    split <;> rfl

theorem trafficOnly_seePace (s : State) (p : Packet) : TrafficOnly s (s.seePace p) := by
  unfold State.seePace
  split <;> rfl

theorem trafficOnly_msix (s : State) (vector : Nat) : TrafficOnly s (s.msix vector) := by
  unfold State.msix
  split
  · exact .refl s
  · split <;> rfl

theorem trafficOnly_answerI3c (s : State) (o : Out) : TrafficOnly s (s.answerI3c o) := by
  unfold State.answerI3c
  split <;> rfl

/-! ## A request taken up, and a refusal -/

/-- A request that arrives is counted for its role; what a peer's packet brings besides is traffic. -/
theorem trafficOnly_takeRequest (s : State) (v : Via) :
    TrafficOnly (s.bump (Obj.dictRequests (roleCode v.role))) (s.takeRequest v) := by
  unfold State.takeRequest
  dsimp only
  split
  · split
    · exact ((trafficOnly_unbuffer ..).trans (trafficOnly_heard ..)).trans (trafficOnly_seePace ..)
    · exact trafficOnly_heard ..
  · exact .refl _

/-- The dictionary once a refusal has left: it is counted, and the mailbox shows it if the host asked. -/
def State.dictRefusing (s : State) (v : Via) (m : DictMsg) (r : Reply) : DictSt :=
  let d := (s.bump Obj.dictRefused).dict
  if v.role = .host then
    { d with responseBuf := ({ m with resp := true, length := r.data.length, data := r.data }, r.code), done := true, go := false }
  else d

/-- A refusal changes the dictionary so, and is traffic besides. -/
theorem trafficOnly_respond_refusal {s : State} {v : Via} {m : DictMsg} {r : Reply} (refused : r.code ≠ 0) :
    TrafficOnly { s with dict := s.dictRefusing v m r } (s.respond v m r) := by
  have now : r ≠ .later := fun later => refused (by rw [later]; rfl)
  unfold State.respond State.dictRefusing
  simp only [beq_iff_eq, now, refused, if_false]
  cases v.role with
  | host => exact trafficOnly_msix ..
  | bmc => exact trafficOnly_answerI3c ..
  | tray => rfl
  | peer => rfl

@[simp] theorem State.dictRefusing_objs (s : State) (v : Via) (m : DictMsg) (r : Reply) :
    (s.dictRefusing v m r).objs = (s.bump Obj.dictRefused).dict.objs := by
  unfold State.dictRefusing
  split <;> rfl

@[simp] theorem State.dictRefusing_staged (s : State) (v : Via) (m : DictMsg) (r : Reply) :
    (s.dictRefusing v m r).staged = s.dict.staged := by
  unfold State.dictRefusing
  split <;> rfl

@[simp] theorem State.dictRefusing_responseBuf {s : State} {v : Via} {m : DictMsg} {r : Reply} (host : v.role = .host) :
    (s.dictRefusing v m r).responseBuf = ({ m with resp := true, length := r.data.length, data := r.data }, r.code) := by
  simp [State.dictRefusing, host]

/-! ## Beyond the path's number -/

/-- A request beyond its path's number is taken up and answered BUSY, whatever it asks for (R366). -/
theorem requestFor_beyond_limit {s : State} {v : Via} {m : DictMsg} (hint : Option Nat) (serves : s.pathServes v.role = true)
    (noFailover : s.failoverDue v.role = false) (own : s.foreignMsg v = false) (beyond : pathLimit v.role ≤ v.ahead)
    (sound : v.role = .peer → s.badDict v.src v.tag = none) :
    s.requestFor v hint m = (s.takeRequest v).respond v m .busy := by
  have passes : (if v.role == .peer then s.badDict v.src v.tag else none) = none :=
    ite_eq_right_iff.2 fun peer => sound (beq_iff_eq.1 peer)
  unfold State.requestFor
  simp only [noFailover, serves, own, passes, beyond, if_true, Bool.not_true, Bool.false_eq_true, if_false, State.persist_self]

/-- A message with the operation of its row belongs to the row. -/
theorem opIs_own {m : DictMsg} {op : Nat} (same : m.op = op) : opIs m op = true := by
  simp [opIs, same]

/-- The five generic rows of the dictionary are each the request of their message. -/
theorem exec_genericRequest {s : State} {v : Via} {m : DictMsg} {i : Instr}
    (row : (i = .read v m ∧ m.op = 1) ∨ (i = .write v m ∧ m.op = 2) ∨ (i = .stageWrite v m ∧ m.op = 2) ∨
      (i = .readStaged v m ∧ m.op = 3) ∨ (i = .describe v m ∧ m.op = 4)) :
    exec i s = .next (s.request v m) := by
  rcases row with ⟨rfl, op⟩ | ⟨rfl, op⟩ | ⟨rfl, op⟩ | ⟨rfl, op⟩ | ⟨rfl, op⟩ <;>
    exact congrArg Host.Outcome.next (if_pos (opIs_own op))

/-- Settles O54: the request is taken up and refused, and both are traffic but for their counts and the mailbox. -/
theorem aRequestBeyondItsPathIsBusy : Obligations.ARequestBeyondItsPathIsBusy := by
  unfold Obligations.ARequestBeyondItsPathIsBusy
  intro s v m i serves noFailover own beyond sound row
  have taken := trafficOnly_takeRequest s v
  have answered := trafficOnly_respond_refusal (s := s.takeRequest v) (v := v) (m := m) (r := .busy) (by decide)
  refine ⟨_, (exec_genericRequest row).trans (congrArg _ (requestFor_beyond_limit none serves noFailover own beyond sound)), rfl,
    fun k notRequests notRefused => ?_, ?_, answered.mem.trans taken.mem, congrArg ChanSt.tasks (answered.chan.trans taken.chan),
    congrArg ChanSt.chans (answered.chan.trans taken.chan), fun host => ?_⟩
  · calc ((s.takeRequest v).respond v m .busy).ob k
        = ((s.takeRequest v).bump Obj.dictRefused).ob k :=
          State.ob_congr ((congrArg DictSt.objs answered.dict).trans (State.dictRefusing_objs ..)) k
      _ = (s.takeRequest v).ob k := State.bump_other _ _ _ notRefused
      _ = (s.bump (Obj.dictRequests (roleCode v.role))).ob k := State.ob_congr (congrArg DictSt.objs taken.dict) k
      _ = s.ob k := State.bump_other _ _ _ notRequests
  · calc ((s.takeRequest v).respond v m .busy).dict.staged
        = (s.takeRequest v).dict.staged := (congrArg DictSt.staged answered.dict).trans (State.dictRefusing_staged ..)
      _ = s.dict.staged := (congrArg DictSt.staged taken.dict :)
  · rw [answered.dict, State.dictRefusing_responseBuf host]
    rfl

end Sys2Proof.Machine
end

section
/-! PROOFS. Every command answers a next state that keeps what no command changes (`Kept`), from the lemmas of `Kept` for the operations it is made
of; what a step does; the state after reset. With them O56, O57, O58, O59 and O60. -/

namespace Sys2Proof.Machine


/-! ## The outcome of a command -/

/-- The outcome of a command is a next state, which keeps what no command changes since `z`. -/
inductive Answers (z : State) : Host.Outcome State Fault Refusal → Prop
  | next {t : State} (kept : Kept z t) : Answers z (.next t)

theorem Answers.of_eq {z t : State} {o : Host.Outcome State Fault Refusal} (a : Answers z o) (e : o = .next t) : Kept z t := by
  subst e
  cases a with
  | next kept => exact kept

theorem Answers.exists_next {z : State} {o : Host.Outcome State Fault Refusal} (a : Answers z o) : ∃ t, o = .next t := by
  cases a with
  | next _ => exact ⟨_, rfl⟩

theorem State.byForest_answers {z : State} (s t : State) (e : EpEntry) (p : Packet) (hs : Kept z s) (ht : Kept z t) :
    Answers z (s.byForest t e p) := by
  unfold State.byForest
  split
  · exact .next (State.noRoute_kept _ _ ht)
  · split
    · exact .next (State.forestSend_kept _ _ _ ht)
    · exact .next (State.forestSend_kept _ _ _ hs)

/-! ## Each command -/

theorem execTailWrite_answers (h : Nat) (v : BitVec 32) (s : State) : Answers s (execTailWrite h v s) := by
  unfold execTailWrite
  dsimp only
  repeat' first
    | with_reducible first
      | assumption | exact Kept.refl _ | apply Answers.next | apply State.doorbellIgnored_kept | apply State.setChan_kept
      | apply State.wantContext_kept
    | split

theorem execCplHeadWrite_answers (h : Nat) (v : BitVec 32) (s : State) : Answers s (execCplHeadWrite h v s) := by
  unfold execCplHeadWrite
  dsimp only
  repeat' first
    | with_reducible first
      | assumption | exact Kept.refl _ | apply Answers.next | apply State.doorbellIgnored_kept | apply State.setChan_kept
      | apply State.wantContext_kept
    | split

theorem execDoorbellIllegalAccess_answers (h offset width : Nat) (s : State) : Answers s (execDoorbellIllegalAccess h offset width s) := by
  unfold execDoorbellIllegalAccess
  dsimp only
  repeat' first
    | with_reducible first
      | assumption | exact Kept.refl _ | apply Answers.next | apply State.doorbellIgnored_kept
    | split

theorem execFetchDescriptor_answers (h : Nat) (hostAnswer : Option (BitVec 1024)) (s : State) : Answers s (execFetchDescriptor h hostAnswer s) := by
  unfold execFetchDescriptor
  dsimp only
  repeat' first
    | with_reducible first
      | assumption | exact Kept.refl _ | apply Answers.next | apply State.admitDesc_kept | apply State.fetchFailed_kept
      | apply State.unmappedAccess_kept | apply State.poke_kept | apply State.meet_kept | apply State.waitRepair_kept
      | refine Kept.foldl _ (fun _ _ _ => ?_) ?_
    | split

theorem execQuantumBoundary_answers (s : State) : Answers s (execQuantumBoundary s) := by
  unfold execQuantumBoundary
  dsimp only
  repeat' first
    | with_reducible first
      | assumption | exact Kept.refl _ | apply Answers.next | apply State.ticked_kept | apply State.swapWaiting_kept
      | apply State.markLongest_kept
    | split

theorem execContextEvict_answers (h : Nat) (s : State) : Answers s (execContextEvict h s) := by
  unfold execContextEvict
  dsimp only
  repeat' first
    | with_reducible first
      | assumption | exact Kept.refl _ | apply Answers.next | apply State.swapOut_kept | apply State.swapIn_kept
    | split

theorem execTrainingDone_answers (port : Nat) (peer : Option PeerReport) (s : State) : Answers s (execTrainingDone port peer s) := by
  unfold execTrainingDone
  repeat' first
    | with_reducible first
      | assumption | exact Kept.refl _ | apply Answers.next | apply State.backoff_kept | apply State.comeUp_kept
      | apply State.enterPort_kept | apply State.lengthen_kept | apply State.log_kept
    | split

theorem execLinkLoss_answers (port : Nat) (s : State) : Answers s (execLinkLoss port s) := by
  unfold execLinkLoss
  repeat' first
    | with_reducible first
      | assumption | exact Kept.refl _ | apply Answers.next | apply State.flap_kept
    | split

theorem execBackoffExpiry_answers (port : Nat) (s : State) : Answers s (execBackoffExpiry port s) := by
  unfold execBackoffExpiry
  repeat' first
    | with_reducible first
      | assumption | exact Kept.refl _ | apply Answers.next | apply State.train_kept
    | split

theorem execBackoffReset_answers (port : Nat) (s : State) : Answers s (execBackoffReset port s) := by
  unfold execBackoffReset
  repeat' first
    | with_reducible first
      | assumption | exact Kept.refl _ | apply Answers.next | apply State.modPort_kept
    | split

theorem execFlitReceive_answers (port : Nat) (f : Flit) (s : State) : Answers s (execFlitReceive port f s) := by
  unfold execFlitReceive
  dsimp only
  repeat' first
    | with_reducible first
      | assumption | exact Kept.refl _ | apply Answers.next | apply State.emit_kept | apply State.setPort_kept
      | apply State.heard_kept | apply State.takeData_kept | apply State.answerFlit_kept
      | refine Kept.foldl _ (fun _ _ _ => ?_) ?_
    | split

theorem execNakReceive_answers (port lastGood : Nat) (s : State) : Answers s (execNakReceive port lastGood s) := by
  unfold execNakReceive
  repeat' first
    | with_reducible first
      | assumption | exact Kept.refl _ | apply Answers.next | apply State.replay_kept
    | split

theorem execPacketForward_answers (port : Nat) (p : Packet) (s : State) : Answers s (execPacketForward port p s) := by
  unfold execPacketForward
  dsimp only
  repeat' first
    | with_reducible first
      | assumption | exact Kept.refl _ | apply Answers.next | apply State.unbuffer_kept | apply State.noRoute_kept
      | apply State.hopOn_kept | apply State.noteWait_kept
    | split
    | with_reducible refine Kept.upd ?_ rfl ⟨rfl, rfl, rfl⟩ (List.prefix_refl _)

theorem execEscapeWaitExpiry_answers (n : Nat) (s : State) : Answers s (execEscapeWaitExpiry n s) := by
  unfold execEscapeWaitExpiry
  dsimp only
  repeat' first
    | with_reducible first
      | assumption | exact Kept.refl _ | apply Answers.next | apply State.hopOn_kept | apply State.bump_kept
    | split

theorem execCreditReturnTimeout_answers (port vc : Nat) (s : State) : Answers s (execCreditReturnTimeout port vc s) := by
  unfold execCreditReturnTimeout
  repeat' first
    | with_reducible first
      | assumption | exact Kept.refl _ | apply Answers.next | apply State.flap_kept
    | split

theorem execCreditAuditIdle_answers (port : Nat) (s : State) : Answers s (execCreditAuditIdle port s) := by
  unfold execCreditAuditIdle
  dsimp only
  repeat' first
    | with_reducible first
      | assumption | exact Kept.refl _ | apply Answers.next | apply State.pumpFlits_kept | apply State.modPort_kept
      | apply State.emit_kept
    | split

theorem execAuditFlitReceive_answers (port : Nat) (free : List Nat) (s : State) : Answers s (execAuditFlitReceive port free s) := by
  unfold execAuditFlitReceive
  dsimp only
  repeat' first
    | with_reducible first
      | assumption | exact Kept.refl _ | apply Answers.next | apply State.modPort_kept | apply State.log_kept
      | apply State.bump_kept | refine Kept.foldl _ (fun _ _ _ => ?_) ?_
    | split

theorem execEpochReadyQuery_answers (src : Nat) (s : State) : Answers s (execEpochReadyQuery src s) := by
  unfold execEpochReadyQuery
  repeat' with_reducible first
    | assumption | exact Kept.refl _ | apply Answers.next | (intro _ _) | apply State.takeCtl_kept
    | apply State.control_kept

theorem execEpochReadyAnswer_answers (src : Nat) (ready : Bool) (s : State) : Answers s (execEpochReadyAnswer src ready s) := by
  unfold execEpochReadyAnswer
  repeat' first
    | with_reducible first
      | assumption | exact Kept.refl _ | apply Answers.next | (intro _ _) | apply State.takeCtl_kept
      | apply State.queriesAnswered_kept
    | split
    | with_reducible refine Kept.upd ?_ rfl ⟨rfl, rfl, rfl⟩ (List.prefix_refl _)

theorem execFlip_answers (src : Nat) (s : State) : Answers s (execFlip src s) := by
  unfold execFlip
  repeat' first
    | with_reducible first
      | assumption | exact Kept.refl _ | apply Answers.next | (intro _ _) | apply State.takeCtl_kept
      | apply State.flipEpoch_kept | apply State.control_kept
    | split

theorem execFlipAnswer_answers (src : Nat) (s : State) : Answers s (execFlipAnswer src s) := by
  unfold execFlipAnswer
  repeat' first
    | with_reducible first
      | assumption | exact Kept.refl _ | apply Answers.next | (intro _ _) | apply State.takeCtl_kept
    | with_reducible refine Kept.upd ?_ rfl ⟨rfl, rfl, rfl⟩ (List.prefix_refl _)

theorem execFlipRetry_answers (peer : Nat) (s : State) : Answers s (execFlipRetry peer s) := by
  unfold execFlipRetry
  repeat' first
    | with_reducible first
      | assumption | exact Kept.refl _ | apply Answers.next | apply State.control_kept
    | split
    | with_reducible refine Kept.upd ?_ rfl ⟨rfl, rfl, rfl⟩ (List.prefix_refl _)

theorem execDrainPoll_answers (s : State) : Answers s (execDrainPoll s) := by
  unfold execDrainPoll
  dsimp only
  repeat' first
    | with_reducible first
      | assumption | exact Kept.refl _ | apply Answers.next | apply State.control_kept | apply State.retireOld_kept
      | apply State.setOb_kept | refine Kept.foldl _ (fun _ _ _ => ?_) ?_
    | split
    | with_reducible refine Kept.upd ?_ rfl ⟨rfl, rfl, rfl⟩ (List.prefix_refl _)

theorem execDrainCountReport_answers (src : Nat) (count : Option Nat) (s : State) : Answers s (execDrainCountReport src count s) := by
  unfold execDrainCountReport
  repeat' first
    | with_reducible first
      | assumption | exact Kept.refl _ | apply Answers.next | (intro _ _) | apply State.takeCtl_kept
      | apply State.control_kept
    | split
    | with_reducible refine Kept.upd ?_ rfl ⟨rfl, rfl, rfl⟩ (List.prefix_refl _)

theorem execRetire_answers (src : Nat) (s : State) : Answers s (execRetire src s) := by
  unfold execRetire
  repeat' first
    | with_reducible first
      | assumption | exact Kept.refl _ | apply Answers.next | (intro _ _) | apply State.takeCtl_kept
      | apply State.retireOld_kept
    | split

theorem execCopy_answers (h : Nat) (t : PlacedTask) (s : State) : Answers s (execCopy h t s) := by
  unfold execCopy
  repeat' with_reducible first
    | assumption | exact Kept.refl _ | apply Answers.next | (intro _ _) | apply State.startOn_kept

theorem execWait_answers (h : Nat) (t : BitVec 32) (s : State) : Answers s (execWait h t s) := by
  unfold execWait
  repeat' with_reducible first
    | assumption | exact Kept.refl _ | apply Answers.next | (intro _ _) | apply State.startBare_kept

theorem execHostRead_answers (h : Nat) (t : BitVec 32) (hostAnswer : Option (List Byte)) (s : State) : Answers s (execHostRead h t hostAnswer s) := by
  unfold execHostRead
  repeat' first
    | with_reducible first
      | assumption | exact Kept.refl _ | apply Answers.next | (intro _ _) | apply State.startBare_kept

theorem execHostWrite_answers (h : Nat) (t : BitVec 32) (s : State) : Answers s (execHostWrite h t s) := by
  unfold execHostWrite
  repeat' with_reducible first
    | assumption | exact Kept.refl _ | apply Answers.next | (intro _ _) | apply State.startBare_kept

theorem execStepEnd_answers (h : Nat) (t : BitVec 32) (s : State) : Answers s (execStepEnd h t s) := by
  unfold execStepEnd
  dsimp only
  repeat' first
    | with_reducible first
      | assumption | exact Kept.refl _ | apply Answers.next | apply State.begin_kept | apply State.finish_kept
      | apply State.modJob_kept
    | split

theorem execTaskComplete_answers (h : Nat) (t : BitVec 32) (s : State) : Answers s (execTaskComplete h t s) := by
  unfold execTaskComplete
  repeat' first
    | with_reducible first
      | assumption | exact Kept.refl _ | apply Answers.next | apply State.learnClass_kept | apply State.finish_kept
      | apply State.release_kept
    | split

theorem execTaskRetry_answers (h : Nat) (t : BitVec 32) (s : State) : Answers s (execTaskRetry h t s) := by
  unfold execTaskRetry
  dsimp only
  repeat' first
    | with_reducible first
      | assumption | exact Kept.refl _ | apply Answers.next | apply State.logStand_kept | apply State.log_kept
      | apply State.bump_kept | apply State.modTask_kept
    | split

theorem execTaskWatchdogExpiry_answers (h : Nat) (t : BitVec 32) (s : State) : Answers s (execTaskWatchdogExpiry h t s) := by
  unfold execTaskWatchdogExpiry
  dsimp only
  repeat' first
    | with_reducible first
      | assumption | exact Kept.refl _ | apply Answers.next | apply State.logStand_kept | apply State.log_kept
      | apply State.abort_kept | apply State.resetStands_kept
    | split

theorem execStandTimeout_answers (stand : Nat) (s : State) : Answers s (execStandTimeout stand s) := by
  unfold execStandTimeout
  repeat' first
    | with_reducible first
      | assumption | exact Kept.refl _ | apply Answers.next | apply State.standReset_kept | apply State.stallStand_kept
    | split

theorem execHandshakeStall_answers (stand : Nat) (s : State) : Answers s (execHandshakeStall stand s) := by
  unfold execHandshakeStall
  dsimp only
  repeat' first
    | with_reducible first
      | assumption | exact Kept.refl _ | apply Answers.next | apply State.logStand_kept | apply State.stallStand_kept
      | apply State.stallUnits_kept | apply State.standReset_kept | apply State.abandonChecks_kept
    | split

theorem execVoteSend_answers (slot : Nat) (s : State) : Answers s (execVoteSend slot s) := by
  unfold execVoteSend
  repeat' first
    | with_reducible first
      | assumption | exact Kept.refl _ | apply Answers.next | apply State.castVote_kept | apply State.decideRoot_kept
    | split

theorem execVoteReceive_answers (p : Packet) (s : State) : Answers s (execVoteReceive p s) := by
  unfold execVoteReceive
  repeat' with_reducible first
    | assumption | exact Kept.refl _ | apply Answers.next | (intro _ _) | apply State.receive_kept
    | apply State.voteArrives_kept

theorem execDecisionReceive_answers (p : Packet) (s : State) : Answers s (execDecisionReceive p s) := by
  unfold execDecisionReceive
  repeat' with_reducible first
    | assumption | exact Kept.refl _ | apply Answers.next | (intro _ _) | apply State.receive_kept
    | apply State.decisionArrives_kept

theorem execStepCommit_answers (slot : Nat) (s : State) : Answers s (execStepCommit slot s) := by
  unfold execStepCommit
  dsimp only
  repeat' first
    | with_reducible first
      | assumption | exact Kept.refl _ | apply Answers.next | apply State.modJob_kept | apply State.setOb_kept
      | apply State.replicas_kept | apply State.copyGen_kept | apply State.liveCopies_kept
    | split

theorem execClearingTimeout_answers (slot : Nat) (s : State) : Answers s (execClearingTimeout slot s) := by
  unfold execClearingTimeout
  repeat' first
    | with_reducible first
      | assumption | exact Kept.refl _ | apply Answers.next | apply State.log_kept | apply State.jobFault_kept
    | split

theorem execGrantRequest_answers (f : Frame) (s : State) : Answers s (execGrantRequest f s) := by
  unfold execGrantRequest
  dsimp only
  repeat' first
    | with_reducible first
      | assumption | exact Kept.refl _ | apply Answers.next | (intro _ _ _) | apply State.withFrame_kept
      | apply State.setPath_kept | apply State.requestGrant_kept | apply State.giveBack_kept
    | split

theorem execGrant_answers (f : Frame) (units : Nat) (s : State) : Answers s (execGrant f units s) := by
  unfold execGrant
  dsimp only
  repeat' first
    | with_reducible first
      | assumption | exact Kept.refl _ | apply Answers.next | (intro _ _ _) | apply State.withFrame_kept
      | apply State.setPath_kept
    | split

theorem execForestPacketFrame_answers (f : Frame) (s : State) : Answers s (execForestPacketFrame f s) := by
  unfold execForestPacketFrame
  repeat' with_reducible first
    | assumption | exact Kept.refl _ | apply Answers.next | (intro _ _ _) | apply State.withFrame_kept
    | apply State.packetFrame_kept

theorem execAcknowledgementFrame_answers (f : Frame) (s : State) : Answers s (execAcknowledgementFrame f s) := by
  unfold execAcknowledgementFrame
  repeat' with_reducible first
    | assumption | exact Kept.refl _ | apply Answers.next | (intro _ _ _) | apply State.withFrame_kept
    | apply State.frameBrings_kept

theorem execAckTimer_answers (src : Nat) (s : State) : Answers s (execAckTimer src s) := by
  unfold execAckTimer
  repeat' first
    | with_reducible first
      | assumption | exact Kept.refl _ | apply Answers.next | apply State.frameOut_kept
    | split

theorem execForestRetransmit_answers (dest : Nat) (pseq : BitVec 32) (s : State) : Answers s (execForestRetransmit dest pseq s) := by
  unfold execForestRetransmit
  dsimp only
  repeat' first
    | with_reducible first
      | assumption | exact Kept.refl _ | apply Answers.next | apply State.pathFailed_kept | apply State.setPath_kept
      | apply State.frameOut_kept
    | split

theorem execPathCreditGiveBack_answers (dest : Nat) (s : State) : Answers s (execPathCreditGiveBack dest s) := by
  unfold execPathCreditGiveBack
  repeat' first
    | with_reducible first
      | assumption | exact Kept.refl _ | apply Answers.next | apply State.setPath_kept | apply State.frameOut_kept
    | split

theorem execFabric_answers (h : Nat) (t : BitVec 32) (s : State) : Answers s (execFabric h t s) := by
  unfold execFabric
  dsimp only
  repeat' first
    | with_reducible first
      | assumption | exact Kept.refl _ | apply Answers.next | apply State.modTask_kept | apply State.bump_kept
      | apply State.start_kept | apply State.allocXfer_kept | apply State.track_kept
    | split
    | with_reducible refine Kept.upd ?_ rfl ⟨rfl, rfl, rfl⟩ (List.prefix_refl _)

theorem execPacketSend_answers (n : Nat) (viaUp : List Nat) (s : State) : Answers s (execPacketSend n viaUp s) := by
  unfold execPacketSend
  dsimp only
  repeat' first
    | with_reducible first
      | assumption | exact Kept.refl _ | apply Answers.next | refine State.pull_kept _ _ ‹_› ?_ | apply State.broadcast_kept
      | apply State.noteWait_kept | apply State.onPort_kept | apply State.noRoute_kept | apply State.byForest_answers
      | refine Kept.foldl _ (fun _ _ _ => ?_) ?_
    | split
    | with_reducible refine Kept.upd ?_ rfl ⟨rfl, rfl, rfl⟩ (List.prefix_refl _)

theorem execWriteReceive_answers (p : Packet) (s : State) : Answers s (execWriteReceive p s) := by
  unfold execWriteReceive
  repeat' with_reducible first
    | assumption | exact Kept.refl _ | apply Answers.next | (intro _ _) | apply State.receive_kept
    | apply State.writeArrives_kept

theorem execCollectiveReceive_answers (p : Packet) (s : State) : Answers s (execCollectiveReceive p s) := by
  unfold execCollectiveReceive
  repeat' with_reducible first
    | assumption | exact Kept.refl _ | apply Answers.next | (intro _ _) | apply State.receive_kept
    | apply State.writeArrives_kept

theorem execTransferComplete_answers (src xfer : Nat) (s : State) : Answers s (execTransferComplete src xfer s) := by
  unfold execTransferComplete
  repeat' first
    | with_reducible first
      | assumption | exact Kept.refl _ | apply Answers.next | apply State.countArrival_kept | apply State.sendDone_kept
    | split

theorem execReadReqReceive_answers (p : Packet) (s : State) : Answers s (execReadReqReceive p s) := by
  unfold execReadReqReceive
  repeat' first
    | with_reducible first
      | assumption | exact Kept.refl _ | apply Answers.next | (intro _ _) | apply State.receive_kept
      | apply State.answerError_kept | apply State.jobRead_kept
    | split

theorem execReadRespReceive_answers (p : Packet) (s : State) : Answers s (execReadRespReceive p s) := by
  unfold execReadRespReceive
  dsimp only
  repeat' first
    | with_reducible first
      | assumption | exact Kept.refl _ | apply Answers.next | (intro _ _) | apply State.receive_kept
      | apply State.pumpLaunches_kept | apply State.repairData_kept | apply State.restoreData_kept
      | apply State.runRestores_kept
    | split
    | with_reducible refine Kept.upd ?_ rfl ⟨rfl, rfl, rfl⟩ (List.prefix_refl _)

theorem execDoneReceive_answers (p : Packet) (s : State) : Answers s (execDoneReceive p s) := by
  unfold execDoneReceive
  repeat' with_reducible first
    | assumption | exact Kept.refl _ | apply Answers.next | (intro _ _) | apply State.receive_kept
    | apply State.xferAnswer_kept

theorem execErrorReceive_answers (p : Packet) (s : State) : Answers s (execErrorReceive p s) := by
  unfold execErrorReceive
  repeat' with_reducible first
    | assumption | exact Kept.refl _ | apply Answers.next | (intro _ _) | apply State.receive_kept
    | apply State.xferAnswer_kept

theorem execRefuseReceive_answers (p : Packet) (s : State) : Answers s (execRefuseReceive p s) := by
  unfold execRefuseReceive
  repeat' with_reducible first
    | assumption | exact Kept.refl _ | apply Answers.next | (intro _ _) | apply State.receive_kept
    | apply State.schedule_kept

theorem execRefuseResendExpiry_answers (xfer offset dest : Nat) (s : State) : Answers s (execRefuseResendExpiry xfer offset dest s) := by
  unfold execRefuseResendExpiry
  repeat' first
    | with_reducible first
      | assumption | exact Kept.refl _ | apply Answers.next | apply State.send_kept
    | split
    | with_reducible refine Kept.upd ?_ rfl ⟨rfl, rfl, rfl⟩ (List.prefix_refl _)

theorem execHeartbeatTimer_answers (peer : Nat) (s : State) : Answers s (execHeartbeatTimer peer s) := by
  unfold execHeartbeatTimer
  dsimp only
  repeat' first
    | with_reducible first
      | assumption | exact Kept.refl _ | apply Answers.next | apply State.control_kept
    | split
    | with_reducible refine Kept.upd ?_ rfl ⟨rfl, rfl, rfl⟩ (List.prefix_refl _)

theorem execHeartbeatReceive_answers (p : Packet) (s : State) : Answers s (execHeartbeatReceive p s) := by
  unfold execHeartbeatReceive
  repeat' first
    | with_reducible first
      | assumption | exact Kept.refl _ | apply Answers.next | (intro _ _) | apply State.receive_kept
    | split

theorem execBar2Read_answers (offset len : Nat) (s : State) : Answers s (execBar2Read offset len s) := by
  unfold execBar2Read
  dsimp only
  repeat' first
    | with_reducible first
      | assumption | exact Kept.refl _ | apply Answers.next | apply State.unmappedAccess_kept | apply State.emit_kept
      | apply State.hostWaits_kept | apply State.ownError_kept | refine Kept.foldl _ (fun _ _ _ => ?_) ?_
    | split

theorem execBar2Write_answers (offset : Nat) (data : List Byte) (s : State) : Answers s (execBar2Write offset data s) := by
  unfold execBar2Write
  dsimp only
  repeat' first
    | with_reducible first
      | assumption | exact Kept.refl _ | apply Answers.next | apply State.unmappedAccess_kept | apply State.partsWrite_kept
      | apply State.hostWrite_kept
    | split

theorem execTwinFetchRetry_answers (block : Nat) (s : State) : Answers s (execTwinFetchRetry block s) := by
  unfold execTwinFetchRetry
  dsimp only
  repeat' first
    | with_reducible first
      | assumption | exact Kept.refl _ | apply Answers.next | apply State.dropRepairXfers_kept | apply State.ask_kept
    | split
    | with_reducible refine Kept.upd ?_ rfl ⟨rfl, rfl, rfl⟩ (List.prefix_refl _)

theorem execRepairDone_answers (block : Nat) (s : State) : Answers s (execRepairDone block s) := by
  unfold execRepairDone
  repeat' first
    | with_reducible first
      | assumption | exact Kept.refl _ | apply Answers.next | apply State.dropRepairXfers_kept | apply State.poke_kept
      | apply State.mended_kept | apply State.bump_kept
    | split

theorem execRepairTimeout_answers (block : Nat) (s : State) : Answers s (execRepairTimeout block s) := by
  unfold execRepairTimeout
  repeat' first
    | with_reducible first
      | assumption | exact Kept.refl _ | apply Answers.next | apply State.dropRepairXfers_kept
      | apply State.repairFailed_kept
    | split

theorem execStackEcsPoll_answers (events : List (Nat × Nat)) (s : State) : Answers s (execStackEcsPoll events s) := by
  unfold execStackEcsPoll
  repeat' first
    | with_reducible first
      | assumption | exact Kept.refl _ | apply Answers.next | apply State.setOb_kept | apply State.ticked_kept
      | refine Kept.foldl _ (fun _ _ _ => ?_) ?_
    | split

theorem execMatmul_answers (h : Nat) (t : BitVec 32) (p : Placement) (s : State) : Answers s (execMatmul h t p s) := by
  unfold execMatmul
  repeat' with_reducible first
    | assumption | exact Kept.refl _ | apply Answers.next | (intro _ _) | apply State.startOn_kept

theorem execJobWeightExpiry_answers (stand : Nat) (s : State) : Answers s (execJobWeightExpiry stand s) := by
  unfold execJobWeightExpiry
  repeat' first
    | with_reducible first
      | assumption | exact Kept.refl _ | apply Answers.next | apply State.preempt_kept
    | split

theorem execTaskResume_answers (h : Nat) (t : BitVec 32) (s : State) : Answers s (execTaskResume h t s) := by
  unfold execTaskResume
  dsimp only
  repeat' first
    | with_reducible first
      | assumption | exact Kept.refl _ | apply Answers.next | apply State.detect_kept | apply State.abort_kept
      | apply State.unsave_kept | apply State.modTask_kept | apply State.reload_kept | apply State.serve_kept
      | refine Kept.foldl _ (fun _ _ _ => ?_) ?_
    | split

theorem execCheckCompare_answers (h : Nat) (t : BitVec 32) (block : Nat) (second : Digests) (s : State) : Answers s (execCheckCompare h t block second s) := by
  unfold execCheckCompare
  dsimp only
  repeat' first
    | with_reducible first
      | assumption | exact Kept.refl _ | apply Answers.next | apply State.bump_kept | apply State.settle_kept
      | apply State.logStand_kept | apply State.engage_kept
    | split
    | with_reducible refine Kept.upd ?_ rfl ⟨rfl, rfl, rfl⟩ (List.prefix_refl _)

theorem execOptimiserUnitCompare_answers (h : Nat) (t : BitVec 32) (unit : Nat) (second : Digests) (s : State) : Answers s (execOptimiserUnitCompare h t unit second s) := by
  unfold execOptimiserUnitCompare
  dsimp only
  repeat' first
    | with_reducible first
      | assumption | exact Kept.refl _ | apply Answers.next | apply State.bump_kept | apply State.writeUnit_kept
      | apply State.logStand_kept | apply State.modUnit_kept | apply State.engage_kept
    | split

theorem execThirdRunDone_answers (h : Nat) (t : BitVec 32) (block stand : Nat) (third : ThirdRun) (s : State) : Answers s (execThirdRunDone h t block stand third s) := by
  unfold execThirdRunDone
  repeat' first
    | with_reducible first
      | assumption | exact Kept.refl _ | apply Answers.next | apply State.thirdCheck_kept | apply State.thirdUnit_kept
    | split

theorem execThirdRunTimeout_answers (h : Nat) (t : BitVec 32) (block : Nat) (s : State) : Answers s (execThirdRunTimeout h t block s) := by
  unfold execThirdRunTimeout
  repeat' first
    | with_reducible first
      | assumption | exact Kept.refl _ | apply Answers.next | apply State.unresolved_kept | apply State.deadUnit_kept
    | split

theorem execSuspectRepeatDone_answers (stand : Nat) (again : Digests) (s : State) : Answers s (execSuspectRepeatDone stand again s) := by
  unfold execSuspectRepeatDone
  repeat' first
    | with_reducible first
      | assumption | exact Kept.refl _ | apply Answers.next | refine State.boundary_kept _ _ ‹_› ?_
      | apply State.modStand_kept | apply State.judge_kept
    | split

theorem execSelfTestDone_answers (stand : Nat) (findings : List Finding) (s : State) : Answers s (execSelfTestDone stand findings s) := by
  unfold execSelfTestDone
  dsimp only
  repeat' first
    | with_reducible first
      | assumption | exact Kept.refl _ | apply Answers.next | refine State.boundary_kept _ _ ‹_› ?_
      | apply State.modStand_kept | apply State.setOb_kept | apply State.finding_kept | apply State.notLocalised_kept
      | apply State.applyFence_kept | apply State.dropTrio_kept | refine Kept.foldl _ (fun _ _ _ => ?_) ?_
    | split
    | with_reducible refine Kept.upd ?_ rfl ⟨rfl, rfl, rfl⟩ (List.prefix_refl _)

theorem execTaintNotice_answers (p : Packet) (s : State) : Answers s (execTaintNotice p s) := by
  unfold execTaintNotice
  repeat' first
    | with_reducible first
      | assumption | exact Kept.refl _ | apply Answers.next | (intro _ _ _) | apply State.firebreak_kept
      | apply State.bump_kept | apply State.modJob_kept
    | split

theorem execReplicaDigest_answers (p : Packet) (s : State) : Answers s (execReplicaDigest p s) := by
  unfold execReplicaDigest
  repeat' first
    | with_reducible first
      | assumption | exact Kept.refl _ | apply Answers.next | (intro _ _ _) | apply State.firebreak_kept
      | apply State.digestArrives_kept
    | split

theorem execExpulsion_answers (p : Packet) (s : State) : Answers s (execExpulsion p s) := by
  unfold execExpulsion
  dsimp only
  repeat' first
    | with_reducible first
      | assumption | exact Kept.refl _ | apply Answers.next | (intro _ _ _) | apply State.firebreak_kept
      | apply State.modJob_kept | apply State.bump_kept | apply State.failure_kept
    | split

theorem execErrorRecordHandle_answers (level unit : Nat) (s : State) : Answers s (execErrorRecordHandle level unit s) := by
  unfold execErrorRecordHandle
  dsimp only
  repeat' first
    | with_reducible first
      | assumption | exact Kept.refl _ | apply Answers.next | apply State.enqueue_kept
    | split
    | with_reducible refine Kept.upd ?_ rfl ⟨rfl, rfl, rfl⟩ (List.prefix_refl _)

theorem execFoldCheckCompare_answers (slot set : Nat) (s : State) : Answers s (execFoldCheckCompare slot set s) := by
  unfold execFoldCheckCompare
  dsimp only
  repeat' first
    | with_reducible first
      | assumption | exact Kept.refl _ | apply Answers.next | apply State.ownRead_kept | apply State.modJob_kept
      | apply State.answerFold_kept | apply State.abandonGen_kept | refine Kept.foldl _ (fun _ _ _ => ?_) ?_
    | split

theorem execGenerationCommit_answers (slot : Nat) (s : State) : Answers s (execGenerationCommit slot s) := by
  unfold execGenerationCommit
  dsimp only
  repeat' first
    | with_reducible first
      | assumption | exact Kept.refl _ | apply Answers.next | apply State.ownRead_kept | apply State.abandonGen_kept
      | apply State.ownWrite_kept | apply State.setOb_kept | apply State.modJob_kept | apply State.sendGenDone_kept
      | refine Kept.foldl _ (fun _ _ _ => ?_) ?_
    | split
    | with_reducible refine Kept.upd ?_ rfl ⟨rfl, rfl, rfl⟩ (List.prefix_refl _)

theorem execGenerationTimeout_answers (slot : Nat) (s : State) : Answers s (execGenerationTimeout slot s) := by
  unfold execGenerationTimeout
  dsimp only
  repeat' first
    | with_reducible first
      | assumption | exact Kept.refl _ | apply Answers.next | apply State.genCompleted_kept
      | apply State.sendGenComplete_kept
    | split

theorem execPowerModelTick_answers (a : PowerSample) (s : State) : Answers s (execPowerModelTick a s) := by
  unfold execPowerModelTick
  dsimp only
  repeat' first
    | with_reducible first
      | assumption | exact Kept.refl _ | apply Answers.next | apply State.ticked_kept | apply State.throttle_kept
      | apply State.throttleIdle_kept | apply State.yieldSteps_kept | apply State.steadyLoad_kept | apply State.setBit_kept
      | apply State.meter_kept
    | split

theorem execModelCorrectionTick_answers (measuredMj : Nat) (s : State) : Answers s (execModelCorrectionTick measuredMj s) := by
  unfold execModelCorrectionTick
  dsimp only
  repeat' first
    | with_reducible first
      | assumption | exact Kept.refl _ | apply Answers.next | apply State.ticked_kept | apply State.setOb_kept
      | apply State.modPower_kept | apply State.setBit_kept
    | split

theorem execRailAdjustTick_answers (s : State) : Answers s (execRailAdjustTick s) := by
  unfold execRailAdjustTick
  dsimp only
  repeat' first
    | with_reducible first
      | assumption | exact Kept.refl _ | apply Answers.next | apply State.ticked_kept | apply State.adjustRail_kept
      | apply State.setOb_kept | apply State.modPower_kept | apply State.modJob_kept
      | refine Kept.foldl _ (fun _ _ _ => ?_) ?_
    | split

theorem execBorrowTrigger_answers (s : State) : Answers s (execBorrowTrigger s) := by
  unfold execBorrowTrigger
  dsimp only
  repeat' first
    | with_reducible first
      | assumption | exact Kept.refl _ | apply Answers.next | apply State.modPower_kept | apply State.askLoan_kept
    | split

theorem execLoanReturnTrigger_answers (s : State) : Answers s (execLoanReturnTrigger s) := by
  unfold execLoanReturnTrigger
  dsimp only
  repeat' first
    | with_reducible first
      | assumption | exact Kept.refl _ | apply Answers.next | apply State.modPower_kept | apply State.sendLoan_kept
    | split

theorem execLoanRecallTrigger_answers (s : State) : Answers s (execLoanRecallTrigger s) := by
  unfold execLoanRecallTrigger
  repeat' first
    | with_reducible first
      | assumption | exact Kept.refl _ | apply Answers.next | apply State.sendLoan_kept
    | split

theorem execLoanAuditTimer_answers (s : State) : Answers s (execLoanAuditTimer s) := by
  unfold execLoanAuditTimer
  repeat' first
    | with_reducible first
      | assumption | exact Kept.refl _ | apply Answers.next | apply State.sendLoan_kept | apply State.ticked_kept
      | refine Kept.foldl _ (fun _ _ _ => ?_) ?_
    | split

theorem execPeerLost_answers (peer : Nat) (s : State) : Answers s (execPeerLost peer s) := by
  unfold execPeerLost
  repeat' first
    | with_reducible first
      | assumption | exact Kept.refl _ | apply Answers.next | apply State.losePeer_kept | apply State.settleLoans_kept
      | apply State.abandonFor_kept | apply State.runRestores_kept | apply State.queriesAnswered_kept
    | split

theorem execPeerDictionaryResponse_answers (src tag status : Nat) (s : State) : Answers s (execPeerDictionaryResponse src tag status s) := by
  unfold execPeerDictionaryResponse
  dsimp only
  repeat' first
    | with_reducible first
      | assumption | exact Kept.refl _ | apply Answers.next | apply State.dropDict_kept | apply State.unbuffer_kept
      | apply State.heard_kept | apply State.seePace_kept | apply State.abandonGen_kept | apply State.modJob_kept
      | apply State.askLoan_kept
    | split
    | with_reducible refine Kept.upd ?_ rfl ⟨rfl, rfl, rfl⟩ (List.prefix_refl _)

theorem execThermalLimiterTick_answers (tj : Int) (s : State) : Answers s (execThermalLimiterTick tj s) := by
  unfold execThermalLimiterTick
  dsimp only
  repeat' first
    | with_reducible first
      | assumption | exact Kept.refl _ | apply Answers.next | apply State.ticked_kept | apply State.readTj_kept
      | apply State.log_kept | apply State.bump_kept | apply State.modPower_kept | apply State.setBit_kept
    | split

theorem execOutletLimiterTick_answers (outlet : Int) (s : State) : Answers s (execOutletLimiterTick outlet s) := by
  unfold execOutletLimiterTick
  dsimp only
  repeat' first
    | with_reducible first
      | assumption | exact Kept.refl _ | apply Answers.next | apply State.ticked_kept | apply State.setOb_kept
      | apply State.estimateFlow_kept | apply State.modPower_kept | apply State.setBit_kept
    | split

theorem execTjAlert_answers (tj : Int) (s : State) : Answers s (execTjAlert tj s) := by
  unfold execTjAlert
  repeat' first
    | with_reducible first
      | assumption | exact Kept.refl _ | apply Answers.next | apply State.readTj_kept
    | split

theorem execInletOutOfRange_answers (inlet : Int) (s : State) : Answers s (execInletOutOfRange inlet s) := by
  unfold execInletOutOfRange
  dsimp only
  repeat' first
    | with_reducible first
      | assumption | exact Kept.refl _ | apply Answers.next | apply State.setOb_kept | apply State.estimateFlow_kept
      | apply State.setBit_kept | apply State.raise_kept | apply State.calm_kept
    | split

theorem execStackTemperatureLimit_answers (stack : Nat) (temp : Int) (s : State) : Answers s (execStackTemperatureLimit stack temp s) := by
  unfold execStackTemperatureLimit
  repeat' first
    | with_reducible first
      | assumption | exact Kept.refl _ | apply Answers.next | apply State.modPower_kept
    | split

theorem execThermtrip_answers (tj : Int) (s : State) : Answers s (execThermtrip tj s) := by
  unfold execThermtrip
  dsimp only
  repeat' first
    | with_reducible first
      | assumption | exact Kept.refl _ | apply Answers.next | apply State.readTj_kept | apply State.halvesOff_kept
    | split
    | with_reducible refine Kept.upd ?_ rfl ⟨rfl, rfl, rfl⟩ (List.prefix_refl _)

theorem execSupplySample_answers (mv holdUpMv : Nat) (s : State) : Answers s (execSupplySample mv holdUpMv s) := by
  unfold execSupplySample
  dsimp only
  repeat' first
    | with_reducible first
      | assumption | exact Kept.refl _ | apply Answers.next | apply State.ticked_kept | apply State.modPower_kept
      | apply State.setOb_kept | apply State.setBit_kept | apply State.raise_kept | apply State.calm_kept
      | apply State.orderlyOff_kept | apply State.enterShed_kept | refine Kept.foldl _ (fun _ _ _ => ?_) ?_
    | split
    | with_reducible refine Kept.upd ?_ rfl ⟨rfl, rfl, rfl⟩ (List.prefix_refl _)

theorem execShedLevelExit_answers (s : State) : Answers s (execShedLevelExit s) := by
  unfold execShedLevelExit
  dsimp only
  repeat' first
    | with_reducible first
      | assumption | exact Kept.refl _ | apply Answers.next | apply State.setOb_kept | apply State.moduleReset_kept
      | apply State.flushCommits_kept | apply State.setBit_kept
    | split

theorem execSentinelMeasure_answers (stand : Nat) (counts : List Nat) (tj : Int) (s : State) : Answers s (execSentinelMeasure stand counts tj s) := by
  unfold execSentinelMeasure
  dsimp only
  repeat' first
    | with_reducible first
      | assumption | exact Kept.refl _ | apply Answers.next | apply State.modStand_kept | apply State.setOb_kept
    | split

theorem execSentinelGap_answers (stand : Nat) (s : State) : Answers s (execSentinelGap stand s) := by
  unfold execSentinelGap
  repeat' first
    | with_reducible first
      | assumption | exact Kept.refl _ | apply Answers.next | apply State.modStand_kept
    | split

theorem execMarginReplan_answers (s : State) : Answers s (execMarginReplan s) := by
  unfold execMarginReplan
  repeat' first
    | with_reducible first
      | assumption | exact Kept.refl _ | apply Answers.next | apply State.replan_kept
    | split

theorem execRead_answers (v : Via) (m : DictMsg) (s : State) : Answers s (execRead v m s) := by
  unfold execRead
  repeat' first
    | with_reducible first
      | assumption | exact Kept.refl _ | apply Answers.next | apply State.request_kept
    | split

theorem execWrite_answers (v : Via) (m : DictMsg) (s : State) : Answers s (execWrite v m s) := by
  unfold execWrite
  repeat' first
    | with_reducible first
      | assumption | exact Kept.refl _ | apply Answers.next | apply State.request_kept
    | split

theorem execStageWrite_answers (v : Via) (m : DictMsg) (s : State) : Answers s (execStageWrite v m s) := by
  unfold execStageWrite
  repeat' first
    | with_reducible first
      | assumption | exact Kept.refl _ | apply Answers.next | apply State.request_kept
    | split

theorem execReadStaged_answers (v : Via) (m : DictMsg) (s : State) : Answers s (execReadStaged v m s) := by
  unfold execReadStaged
  repeat' first
    | with_reducible first
      | assumption | exact Kept.refl _ | apply Answers.next | apply State.request_kept
    | split

theorem execDescribe_answers (v : Via) (m : DictMsg) (s : State) : Answers s (execDescribe v m s) := by
  unfold execDescribe
  repeat' first
    | with_reducible first
      | assumption | exact Kept.refl _ | apply Answers.next | apply State.request_kept
    | split

theorem execMailboxGo_answers (vector : BitVec 32) (m : DictMsg) (s : State) : Answers s (execMailboxGo vector m s) := by
  unfold execMailboxGo
  repeat' first
    | with_reducible first
      | assumption | exact Kept.refl _ | apply Answers.next | apply State.control_kept | apply State.request_kept
    | split
    | with_reducible refine Kept.upd ?_ rfl ⟨rfl, rfl, rfl⟩ (List.prefix_refl _)

theorem execMailboxDoneClear_answers (vector : BitVec 32) (s : State) : Answers s (execMailboxDoneClear vector s) := by
  unfold execMailboxDoneClear
  repeat' first
    | with_reducible first
      | assumption | exact Kept.refl _ | apply Answers.next | apply State.control_kept
    | split
    | with_reducible refine Kept.upd ?_ rfl ⟨rfl, rfl, rfl⟩ (List.prefix_refl _)

theorem execStageTimeout_answers (role : Role) (index : Nat) (s : State) : Answers s (execStageTimeout role index s) := by
  unfold execStageTimeout
  repeat' first
    | with_reducible first
      | assumption | exact Kept.refl _ | apply Answers.next | apply State.discard_kept
    | split

theorem execPersistWrite_answers (s : State) : Answers s (execPersistWrite s) := by
  unfold execPersistWrite
  dsimp only
  repeat' first
    | with_reducible first
      | assumption | exact Kept.refl _ | apply Answers.next | refine Kept.foldl _ (fun _ _ _ => ?_) ?_
    | split
    | with_reducible refine Kept.upd ?_ rfl ⟨rfl, rfl, rfl⟩ (List.prefix_refl _)

theorem execWindowRegisterWrite_answers (v : BitVec 64) (s : State) : Answers s (execWindowRegisterWrite v s) := by
  unfold execWindowRegisterWrite
  repeat' first
    | with_reducible first
      | assumption | exact Kept.refl _ | apply Answers.next
    | split
    | with_reducible refine Kept.upd ?_ rfl ⟨rfl, rfl, rfl⟩ (List.prefix_refl _)

theorem execSidebandInputChange_answers (pin : Pin) (level : Nat) (s : State) : Answers s (execSidebandInputChange pin level s) := by
  unfold execSidebandInputChange
  dsimp only
  repeat' first
    | with_reducible first
      | assumption | exact Kept.refl _ | apply Answers.next | apply State.setPin_kept | apply State.rejectToggle_kept
    | split

theorem execToggleAlertClear_answers (pin : Pin) (s : State) : Answers s (execToggleAlertClear pin s) := by
  unfold execToggleAlertClear
  repeat' first
    | with_reducible first
      | assumption | exact Kept.refl _ | apply Answers.next | apply State.calm_kept
    | split

theorem execPerstNFall_answers (s : State) : Answers s (execPerstNFall s) := by
  unfold execPerstNFall
  dsimp only
  repeat' first
    | with_reducible first
      | assumption | exact Kept.refl _ | apply Answers.next | apply State.acceptLevel_kept | apply State.moduleReset_kept
    | split
    | with_reducible refine Kept.upd ?_ rfl ⟨rfl, rfl, rfl⟩ (List.prefix_refl _)

theorem execPerstNRise_answers (s : State) : Answers s (execPerstNRise s) := by
  unfold execPerstNRise
  dsimp only
  repeat' first
    | with_reducible first
      | assumption | exact Kept.refl _ | apply Answers.next | apply State.acceptLevel_kept
    | split
    | with_reducible refine Kept.upd ?_ rfl ⟨rfl, rfl, rfl⟩ (List.prefix_refl _)

theorem execPwrbrkNFall_answers (s : State) : Answers s (execPwrbrkNFall s) := by
  unfold execPwrbrkNFall
  repeat' first
    | with_reducible first
      | assumption | exact Kept.refl _ | apply Answers.next | apply State.acceptLevel_kept | apply State.setBit_kept
      | apply State.returnAll_kept
    | split

theorem execPwrbrkNRise_answers (s : State) : Answers s (execPwrbrkNRise s) := by
  unfold execPwrbrkNRise
  repeat' first
    | with_reducible first
      | assumption | exact Kept.refl _ | apply Answers.next | apply State.acceptLevel_kept | apply State.setBit_kept
    | split

theorem execPowerOn_answers (s : State) : Answers s (execPowerOn s) := by
  unfold execPowerOn
  dsimp only
  repeat' first
    | with_reducible first
      | assumption | exact Kept.refl _ | apply Answers.next | apply State.orderlyOff_kept | apply State.bare_kept
      | apply State.bump_kept | apply State.setOb_kept | apply State.failure_kept | apply State.faultN_kept
      | apply State.logSettingsLost_kept | apply State.setBit_kept | apply State.raise_kept | apply State.log_kept
    | split
    | with_reducible refine Kept.upd ?_ rfl ⟨rfl, rfl, rfl⟩ (List.prefix_refl _)

theorem execHalfRejoinTimeout_answers (half : Nat) (s : State) : Answers s (execHalfRejoinTimeout half s) := by
  unfold execHalfRejoinTimeout
  dsimp only
  repeat' first
    | with_reducible first
      | assumption | exact Kept.refl _ | apply Answers.next | apply State.setOb_kept | apply State.faultN_kept
    | split
    | with_reducible refine Kept.upd ?_ rfl ⟨rfl, rfl, rfl⟩ (List.prefix_refl _)

theorem execBridgeHeartbeatMiss_answers (half mainMissed sideMissed : Nat) (s : State) : Answers s (execBridgeHeartbeatMiss half mainMissed sideMissed s) := by
  unfold execBridgeHeartbeatMiss
  repeat' first
    | with_reducible first
      | assumption | exact Kept.refl _ | apply Answers.next | apply State.halfLost_kept
    | split

theorem execPcieReady_answers (s : State) : Answers s (execPcieReady s) := by
  unfold execPcieReady
  dsimp only
  repeat' first
    | with_reducible first
      | assumption | exact Kept.refl _ | apply Answers.next | apply State.setOb_kept | apply State.drawn_kept
      | apply State.hostLinkUp_kept
    | split
    | with_reducible refine Kept.upd ?_ rfl ⟨rfl, rfl, rfl⟩ (List.prefix_refl _)

theorem execPcieHotReset_answers (s : State) : Answers s (execPcieHotReset s) := by
  unfold execPcieHotReset
  repeat' first
    | with_reducible first
      | assumption | exact Kept.refl _ | apply Answers.next | apply State.moduleReset_kept
    | split

theorem execHostLinkDown_answers (s : State) : Answers s (execHostLinkDown s) := by
  unfold execHostLinkDown
  repeat' first
    | with_reducible first
      | assumption | exact Kept.refl _ | apply Answers.next | apply State.resetHostLink_kept
    | split

theorem execHostLinkUp_answers (s : State) : Answers s (execHostLinkUp s) := by
  unfold execHostLinkUp
  dsimp only
  repeat' first
    | with_reducible first
      | assumption | exact Kept.refl _ | apply Answers.next | apply State.setOb_kept | apply State.drawn_kept
      | apply State.hostLinkUp_kept
    | split
    | with_reducible refine Kept.upd ?_ rfl ⟨rfl, rfl, rfl⟩ (List.prefix_refl _)

theorem execIslandLockLoss_answers (i : Island) (s : State) : Answers s (execIslandLockLoss i s) := by
  unfold execIslandLockLoss
  dsimp only
  repeat' first
    | with_reducible first
      | assumption | exact Kept.refl _ | apply Answers.next | apply State.log_kept | apply State.unlock_kept
      | apply State.halfLost_kept | apply State.flap_kept | apply State.resetHostLink_kept | apply State.guestDown_kept
      | apply State.setGlade_kept | apply State.faultN_kept
    | split

theorem execGladeTimeout_answers (half : Nat) (inProgress : Option (Via × DictMsg)) (s : State) : Answers s (execGladeTimeout half inProgress s) := by
  unfold execGladeTimeout
  dsimp only
  repeat' first
    | with_reducible first
      | assumption | exact Kept.refl _ | apply Answers.next | apply State.setGlade_kept | apply State.faultN_kept
      | apply State.failover_kept | apply State.answerRetry_kept | apply State.retryLater_kept | apply State.serveHeld_kept
    | split

theorem execGuestLinkTrainingDone_answers (site : Nat) (rate32 : Option Bool) (s : State) : Answers s (execGuestLinkTrainingDone site rate32 s) := by
  unfold execGuestLinkTrainingDone
  repeat' first
    | with_reducible first
      | assumption | exact Kept.refl _ | apply Answers.next | apply State.setOb_kept | apply State.relock_kept
      | apply State.guestDown_kept
    | split

theorem execGuestRead_answers (site tag addr len : Nat) (s : State) : Answers s (execGuestRead site tag addr len s) := by
  unfold execGuestRead
  dsimp only
  repeat' first
    | with_reducible first
      | assumption | exact Kept.refl _ | apply Answers.next | apply State.guestRefuse_kept | apply State.toGuest_kept
      | apply State.drawn_kept | apply State.forwardGuest_kept | apply State.ownError_kept
      | refine Kept.foldl _ (fun _ _ _ => ?_) ?_
    | split

theorem execGuestWrite_answers (site tag addr : Nat) (blocks : List GuestBlock) (s : State) : Answers s (execGuestWrite site tag addr blocks s) := by
  unfold execGuestWrite
  dsimp only
  repeat' first
    | with_reducible first
      | assumption | exact Kept.refl _ | apply Answers.next | apply State.guestRefuse_kept | apply State.log_kept
      | apply State.toGuest_kept | apply State.forwardGuest_kept | apply State.put_kept
    | split

theorem execGuestReadResp_answers (site tag : Nat) (blocks : List GuestBlock) (s : State) : Answers s (execGuestReadResp site tag blocks s) := by
  unfold execGuestReadResp
  repeat' first
    | with_reducible first
      | assumption | exact Kept.refl _ | apply Answers.next | apply State.guestFailed_kept | apply State.log_kept
      | apply State.answer_kept | apply State.poke_kept | apply State.answerGuest_kept | apply State.guestAnswered_kept
    | split

theorem execGuestWriteAck_answers (site tag : Nat) (s : State) : Answers s (execGuestWriteAck site tag s) := by
  unfold execGuestWriteAck
  repeat' first
    | with_reducible first
      | assumption | exact Kept.refl _ | apply Answers.next | apply State.answerGuest_kept | apply State.guestAnswered_kept
    | split

theorem execGuestError_answers (site tag code : Nat) (s : State) : Answers s (execGuestError site tag code s) := by
  unfold execGuestError
  repeat' first
    | with_reducible first
      | assumption | exact Kept.refl _ | apply Answers.next | apply State.guestFailed_kept
    | split

theorem execGuestRequestTimeout_answers (site tag : Nat) (s : State) : Answers s (execGuestRequestTimeout site tag s) := by
  unfold execGuestRequestTimeout
  repeat' first
    | with_reducible first
      | assumption | exact Kept.refl _ | apply Answers.next | apply State.guestFailed_kept
    | split

theorem execRecomputeRerun_answers (h : Nat) (t : BitVec 32) (hostAnswer : Option (List Byte)) (s : State) : Answers s (execRecomputeRerun h t hostAnswer s) := by
  unfold execRecomputeRerun
  dsimp only
  repeat' first
    | with_reducible first
      | assumption | exact Kept.refl _ | apply Answers.next | apply State.reproduce_kept | apply State.modTask_kept
      | apply State.bump_kept | apply State.logAt_kept | apply State.abort_kept
    | split

theorem execScrubRead_answers (m : MemKind) (upset : Option Upset) (s : State) : Answers s (execScrubRead m upset s) := by
  unfold execScrubRead
  dsimp only
  repeat' first
    | with_reducible first
      | assumption | exact Kept.refl _ | apply Answers.next | apply State.tableUpset_kept | apply State.upset_kept
      | apply State.contextFault_kept | apply State.scrubFound_kept
    | split
    | with_reducible refine Kept.upd ?_ rfl ⟨rfl, rfl, rfl⟩ (List.prefix_refl _)

theorem execGetVersion_answers (s : State) : Answers s (execGetVersion s) := by
  unfold execGetVersion
  repeat' first
    | with_reducible first
      | assumption | exact Kept.refl _ | apply Answers.next | apply State.beginSpdm_kept | apply State.spdmAnswer_kept
    | split

theorem execGetCapabilities_answers (s : State) : Answers s (execGetCapabilities s) := by
  unfold execGetCapabilities
  repeat' first
    | with_reducible first
      | assumption | exact Kept.refl _ | apply Answers.next | apply State.spdmError_kept
      | apply State.answerCapabilities_kept | apply State.drawn_kept
    | split

theorem execNegotiateAlgorithms_answers (s : State) : Answers s (execNegotiateAlgorithms s) := by
  unfold execNegotiateAlgorithms
  repeat' first
    | with_reducible first
      | assumption | exact Kept.refl _ | apply Answers.next | apply State.spdmError_kept | apply State.answerAlgorithms_kept
      | apply State.drawn_kept
    | split

theorem execGetDigests_answers (s : State) : Answers s (execGetDigests s) := by
  unfold execGetDigests
  dsimp only
  repeat' with_reducible first
    | assumption | exact Kept.refl _ | apply Answers.next | (intro _ _) | apply State.attested_kept
    | apply State.recordCert_kept | apply State.spdmAnswer_kept

theorem execGetCertificate_answers (slot offset len : Nat) (s : State) : Answers s (execGetCertificate slot offset len s) := by
  unfold execGetCertificate
  repeat' with_reducible first
    | assumption | exact Kept.refl _ | apply Answers.next | (intro _ _) | apply State.attested_kept
    | apply State.recordCert_kept | apply State.spdmAnswer_kept

theorem execChallenge_answers (slot : Nat) (ask : ChallengeAsk) (s : State) : Answers s (execChallenge slot ask s) := by
  unfold execChallenge
  repeat' with_reducible first
    | assumption | exact Kept.refl _ | apply Answers.next | (intro _ _) | apply State.attested_kept
    | apply State.answerChallenge_kept | apply State.drawn_kept

theorem execGetMeasurements_answers (index : Nat) (nonce : List Byte) (s : State) : Answers s (execGetMeasurements index nonce s) := by
  unfold execGetMeasurements
  repeat' with_reducible first
    | assumption | exact Kept.refl _ | apply Answers.next | (intro _ _) | apply State.attested_kept
    | apply State.answerMeasurements_kept | apply State.drawn_kept

theorem execDynamicAddressAssignment_answers (addr : Nat) (s : State) : Answers s (execDynamicAddressAssignment addr s) := by
  unfold execDynamicAddressAssignment
  repeat' first
    | with_reducible first
      | assumption | exact Kept.refl _ | apply Answers.next
    | split
    | with_reducible refine Kept.upd ?_ rfl ⟨rfl, rfl, rfl⟩ (List.prefix_refl _)

theorem execMctpControlMessage_answers (code : Nat) (data : List Byte) (s : State) : Answers s (execMctpControlMessage code data s) := by
  unfold execMctpControlMessage
  repeat' first
    | with_reducible first
      | assumption | exact Kept.refl _ | apply Answers.next | apply State.setEid_kept | apply State.answerI3c_kept
    | split

/-! ## All commands -/

/-- Every command answers a next state that keeps what no command changes: a request and a vector operation by the one operation
they are, any other by its own lemma. -/
theorem exec_answers (c : Instr) (s : State) : Answers s (exec c s) := by
  cases c with
  | fenceApply => exact .next (State.applyFence_kept _ _ (.refl s))
  | channelCreate | jobScratchCommit | profileCommit | regionTableCommit | endpointTableCommit | endpointIdCommit
  | replicaSetsCommit | seedbankSetsCommit | steadyLoadCommit | guestRightsCommit => exact .next (State.commitReq_kept _ _ _ (.refl s))
  | channelDestroy | channelResume | jobSlotIdWrite | portEnableWrite | portReenable | epochSwitch | standFence
  | selfTestNow | errorAck | cperAck | errorOverflowClear | foldCheck | twinSlot | restore | powerCapWrite | replanNow
  | restoreDefaults | diagEnableWrite => exact .next (State.writeReq_kept _ _ _ _ _ _ (.refl s))
  | genDone | genComplete => exact .next (State.requestFor_kept _ _ _ _ (.refl s))
  | loanRequest | loanGrant | loanRefuse | loanReturn | loanRecall | loanAudit => exact .next (State.loanReq_kept _ _ _ _ (.refl s))
  | stageDiscard => exact .next (State.request_kept _ _ _ (.refl s))
  | halfStart => exact .next (State.halfStart_kept _ _ _ (.refl s))
  | halfTimeout | halfReset => exact .next (State.halfLost_kept _ _ (.refl s))
  | fadd | fsub | fmul | fma | fmin | fmax | fcmpEqual | fcmpLessThan | fcmpLessOrEqual | cvt | iadd | iand | ior | ixor
  | ishl | ishr | fdiv | fsqrt | exp2 | log2 | rcp | rsqrt | relu | gelu | sigmoid | silu | tanh | rowmax | rowsum | recadd
  | recrnd | softnorm => exact .next (State.vectorTask_kept _ _ _ _ _ _ (.refl s))
  | tailWrite => exact execTailWrite_answers ..
  | cplHeadWrite => exact execCplHeadWrite_answers ..
  | doorbellIllegalAccess => exact execDoorbellIllegalAccess_answers ..
  | fetchDescriptor => exact execFetchDescriptor_answers ..
  | quantumBoundary => exact execQuantumBoundary_answers ..
  | contextEvict => exact execContextEvict_answers ..
  | trainingDone => exact execTrainingDone_answers ..
  | linkLoss => exact execLinkLoss_answers ..
  | backoffExpiry => exact execBackoffExpiry_answers ..
  | backoffReset => exact execBackoffReset_answers ..
  | flitReceive => exact execFlitReceive_answers ..
  | nakReceive => exact execNakReceive_answers ..
  | packetForward => exact execPacketForward_answers ..
  | escapeWaitExpiry => exact execEscapeWaitExpiry_answers ..
  | creditReturnTimeout => exact execCreditReturnTimeout_answers ..
  | creditAuditIdle => exact execCreditAuditIdle_answers ..
  | auditFlitReceive => exact execAuditFlitReceive_answers ..
  | epochReadyQuery => exact execEpochReadyQuery_answers ..
  | epochReadyAnswer => exact execEpochReadyAnswer_answers ..
  | flip => exact execFlip_answers ..
  | flipAnswer => exact execFlipAnswer_answers ..
  | flipRetry => exact execFlipRetry_answers ..
  | drainPoll => exact execDrainPoll_answers ..
  | drainCountReport => exact execDrainCountReport_answers ..
  | retire => exact execRetire_answers ..
  | copy => exact execCopy_answers ..
  | wait => exact execWait_answers ..
  | hostRead => exact execHostRead_answers ..
  | hostWrite => exact execHostWrite_answers ..
  | stepEnd => exact execStepEnd_answers ..
  | taskComplete => exact execTaskComplete_answers ..
  | taskRetry => exact execTaskRetry_answers ..
  | taskWatchdogExpiry => exact execTaskWatchdogExpiry_answers ..
  | standTimeout => exact execStandTimeout_answers ..
  | handshakeStall => exact execHandshakeStall_answers ..
  | voteSend => exact execVoteSend_answers ..
  | voteReceive => exact execVoteReceive_answers ..
  | decisionReceive => exact execDecisionReceive_answers ..
  | stepCommit => exact execStepCommit_answers ..
  | clearingTimeout => exact execClearingTimeout_answers ..
  | grantRequest => exact execGrantRequest_answers ..
  | grant => exact execGrant_answers ..
  | forestPacketFrame => exact execForestPacketFrame_answers ..
  | acknowledgementFrame => exact execAcknowledgementFrame_answers ..
  | ackTimer => exact execAckTimer_answers ..
  | forestRetransmit => exact execForestRetransmit_answers ..
  | pathCreditGiveBack => exact execPathCreditGiveBack_answers ..
  | fabric => exact execFabric_answers ..
  | packetSend => exact execPacketSend_answers ..
  | writeReceive => exact execWriteReceive_answers ..
  | collectiveReceive => exact execCollectiveReceive_answers ..
  | transferComplete => exact execTransferComplete_answers ..
  | readReqReceive => exact execReadReqReceive_answers ..
  | readRespReceive => exact execReadRespReceive_answers ..
  | doneReceive => exact execDoneReceive_answers ..
  | errorReceive => exact execErrorReceive_answers ..
  | refuseReceive => exact execRefuseReceive_answers ..
  | refuseResendExpiry => exact execRefuseResendExpiry_answers ..
  | heartbeatTimer => exact execHeartbeatTimer_answers ..
  | heartbeatReceive => exact execHeartbeatReceive_answers ..
  | bar2Read => exact execBar2Read_answers ..
  | bar2Write => exact execBar2Write_answers ..
  | twinFetchRetry => exact execTwinFetchRetry_answers ..
  | repairDone => exact execRepairDone_answers ..
  | repairTimeout => exact execRepairTimeout_answers ..
  | stackEcsPoll => exact execStackEcsPoll_answers ..
  | matmul => exact execMatmul_answers ..
  | jobWeightExpiry => exact execJobWeightExpiry_answers ..
  | taskResume => exact execTaskResume_answers ..
  | checkCompare => exact execCheckCompare_answers ..
  | optimiserUnitCompare => exact execOptimiserUnitCompare_answers ..
  | thirdRunDone => exact execThirdRunDone_answers ..
  | thirdRunTimeout => exact execThirdRunTimeout_answers ..
  | suspectRepeatDone => exact execSuspectRepeatDone_answers ..
  | selfTestDone => exact execSelfTestDone_answers ..
  | taintNotice => exact execTaintNotice_answers ..
  | replicaDigest => exact execReplicaDigest_answers ..
  | expulsion => exact execExpulsion_answers ..
  | errorRecordHandle => exact execErrorRecordHandle_answers ..
  | foldCheckCompare => exact execFoldCheckCompare_answers ..
  | generationCommit => exact execGenerationCommit_answers ..
  | generationTimeout => exact execGenerationTimeout_answers ..
  | powerModelTick => exact execPowerModelTick_answers ..
  | modelCorrectionTick => exact execModelCorrectionTick_answers ..
  | railAdjustTick => exact execRailAdjustTick_answers ..
  | borrowTrigger => exact execBorrowTrigger_answers ..
  | loanReturnTrigger => exact execLoanReturnTrigger_answers ..
  | loanRecallTrigger => exact execLoanRecallTrigger_answers ..
  | loanAuditTimer => exact execLoanAuditTimer_answers ..
  | peerLost => exact execPeerLost_answers ..
  | peerDictionaryResponse => exact execPeerDictionaryResponse_answers ..
  | thermalLimiterTick => exact execThermalLimiterTick_answers ..
  | outletLimiterTick => exact execOutletLimiterTick_answers ..
  | tjAlert => exact execTjAlert_answers ..
  | inletOutOfRange => exact execInletOutOfRange_answers ..
  | stackTemperatureLimit => exact execStackTemperatureLimit_answers ..
  | thermtrip => exact execThermtrip_answers ..
  | supplySample => exact execSupplySample_answers ..
  | shedLevelExit => exact execShedLevelExit_answers ..
  | sentinelMeasure => exact execSentinelMeasure_answers ..
  | sentinelGap => exact execSentinelGap_answers ..
  | marginReplan => exact execMarginReplan_answers ..
  | read => exact execRead_answers ..
  | write => exact execWrite_answers ..
  | stageWrite => exact execStageWrite_answers ..
  | readStaged => exact execReadStaged_answers ..
  | describe => exact execDescribe_answers ..
  | mailboxGo => exact execMailboxGo_answers ..
  | mailboxDoneClear => exact execMailboxDoneClear_answers ..
  | stageTimeout => exact execStageTimeout_answers ..
  | persistWrite => exact execPersistWrite_answers ..
  | windowRegisterWrite => exact execWindowRegisterWrite_answers ..
  | sidebandInputChange => exact execSidebandInputChange_answers ..
  | toggleAlertClear => exact execToggleAlertClear_answers ..
  | perstNFall => exact execPerstNFall_answers ..
  | perstNRise => exact execPerstNRise_answers ..
  | pwrbrkNFall => exact execPwrbrkNFall_answers ..
  | pwrbrkNRise => exact execPwrbrkNRise_answers ..
  | powerOn => exact execPowerOn_answers ..
  | halfRejoinTimeout => exact execHalfRejoinTimeout_answers ..
  | bridgeHeartbeatMiss => exact execBridgeHeartbeatMiss_answers ..
  | pcieReady => exact execPcieReady_answers ..
  | pcieHotReset => exact execPcieHotReset_answers ..
  | hostLinkDown => exact execHostLinkDown_answers ..
  | hostLinkUp => exact execHostLinkUp_answers ..
  | islandLockLoss => exact execIslandLockLoss_answers ..
  | gladeTimeout => exact execGladeTimeout_answers ..
  | guestLinkTrainingDone => exact execGuestLinkTrainingDone_answers ..
  | guestRead => exact execGuestRead_answers ..
  | guestWrite => exact execGuestWrite_answers ..
  | guestReadResp => exact execGuestReadResp_answers ..
  | guestWriteAck => exact execGuestWriteAck_answers ..
  | guestError => exact execGuestError_answers ..
  | guestRequestTimeout => exact execGuestRequestTimeout_answers ..
  | recomputeRerun => exact execRecomputeRerun_answers ..
  | scrubRead => exact execScrubRead_answers ..
  | getVersion => exact execGetVersion_answers ..
  | getCapabilities => exact execGetCapabilities_answers ..
  | negotiateAlgorithms => exact execNegotiateAlgorithms_answers ..
  | getDigests => exact execGetDigests_answers ..
  | getCertificate => exact execGetCertificate_answers ..
  | challenge => exact execChallenge_answers ..
  | getMeasurements => exact execGetMeasurements_answers ..
  | dynamicAddressAssignment => exact execDynamicAddressAssignment_answers ..
  | mctpControlMessage => exact execMctpControlMessage_answers ..

/-- Settles O57: every command answers, by `exec_answers`. -/
theorem everyCommandAnswers : Obligations.EveryCommandAnswers := by
  unfold Obligations.EveryCommandAnswers
  exact fun c s => (exec_answers c s).exists_next

/-- Settles O58: the next state is `Kept`. -/
theorem commandsKeepQueueClockOutputAndFuses : Obligations.CommandsKeepQueueClockOutputAndFuses := by
  unfold Obligations.CommandsKeepQueueClockOutputAndFuses
  intro c s t answered
  have kept := (exec_answers c s).of_eq answered
  exact ⟨kept.pending, kept.now, kept.out, kept.fuses⟩

/-! ## A step -/

/-- A step with a command waiting runs it with the rest of the queue. -/
theorem step_of_pending {s : State} {c : Instr} {rest : List Instr} (waiting : s.pending = c :: rest) :
    step s = exec c { s with pending := rest } := by
  unfold step
  rw [waiting]

/-- A step with none waiting moves the clock on by 1 µs (log entry 2). -/
theorem step_of_idle {s : State} (idle : s.pending = []) : step s = .next { s with now := s.now + 1000 } := by
  unfold step
  rw [idle]

/-- Settles O56, by the two cases of a step. -/
theorem aStepRunsTheFrontCommand : Obligations.AStepRunsTheFrontCommand := by
  unfold Obligations.AStepRunsTheFrontCommand
  exact fun s => ⟨fun c rest => step_of_pending (s := { s with pending := c :: rest }) rfl, step_of_idle⟩

/-- Settles O59: a step is a command, which is `Kept`, or a tick of the clock, which touches neither memory nor the output. -/
theorem everyStepKeepsMemoryInForm : Obligations.EveryStepKeepsMemoryInForm := by
  unfold Obligations.EveryStepKeepsMemoryInForm
  intro s t form stepped
  cases waiting : s.pending with
  | nil =>
    rw [step_of_idle waiting, Host.Outcome.next.injEq] at stepped
    subst stepped
    exact ⟨form, Nat.le_add_right .., List.prefix_refl _, waiting⟩
  | cons c rest =>
    rw [step_of_pending waiting] at stepped
    have kept := (exec_answers c _).of_eq stepped
    exact ⟨kept.form form, Nat.le_of_eq kept.now.symm, kept.out, kept.pending⟩

/-! ## The state after reset -/

/-- After reset every object is at its default (R388, log entry 7). -/
theorem reset_ob (k : Nat) : State.reset.ob k = objDefault k := rfl

/-- After reset every port is DISABLED (Table 7-2). -/
theorem reset_portSt {n : Nat} (port : n < 9) : State.reset.portSt n = 0 := by
  have default : ∀ n < 9, objDefault (Obj.portState n) % 256 = 0 := by decide
  exact default n port

/-- Settles O60: the fields of the reset state, and the defaults of the rows the statement names. -/
theorem resetLeaves : Obligations.ResetLeaves := by
  unfold Obligations.ResetLeaves
  refine ⟨rfl, rfl, rfl, rfl, rfl, rfl, rfl, rfl, rfl, rfl, rfl, rfl, ?_, ?_, ?_, ?_, ?_, ?_, ?_, ?_, ?_,
    fun n port => reset_portSt port, reset_ob⟩
  all_goals
    rw [reset_ob]
    decide

end Sys2Proof.Machine
end

section
/-! PROOFS. What an executed mailbox request leaves (R367, R374), and how a WRITE and a commit of the host come to their effect
(R373, R383); with them O1. -/

namespace Sys2Proof.Machine

/-! ## What an MSI-X message changes -/

/-- An MSI-X message of a vector that is not masked leaves, or nothing does for 0xFFFF (R367). -/
theorem State.msix_of_unmasked {s : State} {vector : Nat} (link : s.edge.hostLink = true) (unmasked : s.msixMasked vector = false) :
    (s.msix vector).edge = s.edge ∧ (s.msix vector).out = s.out ++ (if vector = 0xFFFF then [] else [.msix vector]) := by
  unfold State.msix
  by_cases none : vector = 0xFFFF
  · simp [none]
  · simp [none, link, unmasked]

/-- A masked vector becomes a pending bit (Table 12-8). -/
theorem State.msix_of_masked {s : State} {vector : Nat} (masked : s.msixMasked vector = true) (used : vector ≠ 0xFFFF) :
    s.msix vector = { s with edge := { s.edge with msixPending := nins s.edge.msixPending vector } } := by
  simp [State.msix, masked, used]

/-- An MSI-X message changes the edge and the output. -/
theorem State.msix_rest (s : State) (vector : Nat) :
    s.msix vector = { s with edge := (s.msix vector).edge, out := (s.msix vector).out } := by
  unfold State.msix
  split
  · rfl
  · split <;> rfl

/-! ## The answer of a mailbox request -/

/-- What waits to be written to flash is kept in one field of the dictionary (R388). -/
theorem State.persist_rest (s old : State) :
    s.persist old = { s with dict := { s.dict with pendingSince := (s.persist old).dict.pendingSince } } := by
  unfold State.persist
  split <;> rfl

/-- The dictionary once the mailbox shows an OK with its data. -/
def State.dictAnswered (s u : State) (v : Via) (m : DictMsg) (d : List Byte) : DictSt :=
  { u.dict with
    pendingSince := (u.persist (s.takeRequest v)).dict.pendingSince
    responseBuf := ({ m with resp := true, length := d.length, data := d }, 0), done := true, go := false }

/-- An answer over the mailbox shows the response and sends the MSI-X message. -/
theorem State.answered_eq {s u : State} {v : Via} {m : DictMsg} {d : List Byte} (host : v.role = .host) :
    s.answered u v m d = ({ u with dict := s.dictAnswered u v m d } : State).msix u.dict.msixVector := by
  rw [answered_host s u v m d host, u.persist_rest]
  rfl

section
variable {s u : State} {v : Via} {m : DictMsg} {d : List Byte} (host : v.role = .host)
include host

/-- It changes the dictionary, the edge and the output. -/
theorem State.answered_rest :
    s.answered u v m d = { u with dict := s.dictAnswered u v m d, edge := (s.answered u v m d).edge, out := (s.answered u v m d).out } := by
  rw [State.answered_eq host]
  exact State.msix_rest _ _

theorem State.answered_dict : (s.answered u v m d).dict = s.dictAnswered u v m d := (congrArg State.dict (State.answered_rest host) :)
theorem State.answered_mem : (s.answered u v m d).mem = u.mem := (congrArg State.mem (State.answered_rest host) :)
theorem State.answered_chan : (s.answered u v m d).chan = u.chan := (congrArg State.chan (State.answered_rest host) :)
theorem State.answered_jobs : (s.answered u v m d).jobs = u.jobs := (congrArg State.jobs (State.answered_rest host) :)
theorem State.answered_stands : (s.answered u v m d).stands = u.stands := (congrArg State.stands (State.answered_rest host) :)
theorem State.answered_fab : (s.answered u v m d).fab = u.fab := (congrArg State.fab (State.answered_rest host) :)
theorem State.answered_fire : (s.answered u v m d).fire = u.fire := (congrArg State.fire (State.answered_rest host) :)
theorem State.answered_bank : (s.answered u v m d).bank = u.bank := (congrArg State.bank (State.answered_rest host) :)
theorem State.answered_power : (s.answered u v m d).power = u.power := (congrArg State.power (State.answered_rest host) :)

theorem State.answered_ob (k : Nat) : (s.answered u v m d).ob k = u.ob k :=
  State.ob_congr (by rw [State.answered_dict host]; rfl) k

theorem State.answered_stagedAt (role : Role) (index : Nat) : (s.answered u v m d).stagedAt role index = u.stagedAt role index := by
  unfold State.stagedAt
  rw [State.answered_dict host]
  rfl

/-- The response holds the data and STATUS OK. -/
theorem State.answered_response :
    (s.answered u v m d).dict.responseBuf = ({ m with resp := true, length := d.length, data := d }, 0) := by
  rw [State.answered_dict host]
  rfl

theorem State.answered_ok : (s.answered u v m d).dict.responseBuf.2 = 0 := by
  rw [State.answered_response host]

theorem State.answered_alerts : (s.answered u v m d).edge.alerts = u.edge.alerts := by
  rw [State.answered_eq host]
  unfold State.msix
  split
  · rfl
  · split <;> rfl

end

/-- Settles O1: the answer is a new dictionary and one MSI-X message. -/
theorem hostAnswerLeavesNothingElse : Obligations.HostAnswerLeavesNothingElse := by
  unfold Obligations.HostAnswerLeavesNothingElse
  intro s u v m d host link
  have dict := State.answered_dict (s := s) (u := u) (m := m) (d := d) host
  refine ⟨State.answered_response host, by rw [dict]; rfl, by rw [dict]; rfl, by rw [dict]; rfl, State.answered_ob host,
    State.answered_mem host, State.answered_chan host, State.answered_jobs host, State.answered_stands host, State.answered_fab host,
    State.answered_fire host, State.answered_bank host, State.answered_power host, fun unmasked => ?_, fun masked used => ?_⟩
  · rw [State.answered_eq host]
    exact State.msix_of_unmasked (s := { u with dict := s.dictAnswered u v m d }) link unmasked
  · rw [State.answered_eq host, State.msix_of_masked (s := { u with dict := s.dictAnswered u v m d }) masked used]
    exact ⟨rfl, rfl⟩

end Sys2Proof.Machine
end

section
/-! PROOFS. How a WRITE and a commit of the host come to their effect (R373, R383): a request that passes the checks of R373 is the
effect of its object or of its index, answered. -/

namespace Sys2Proof.Machine

/-! ## A request that arrives -/

section
variable {s : State} {v : Via} (served : HostServed s v)
include served

theorem HostServed.take : s.takeRequest v = s.bump (Obj.dictRequests 0) := takeRequest_host s v served.role

/-- A request that arrives changes one object, the count of requests. -/
theorem HostServed.take_ob {k : Nat} (other : k ≠ Obj.dictRequests 0) : (s.takeRequest v).ob k = s.ob k := by
  rw [served.take]
  exact s.bump_other _ _ other

/-- A request that is executed is answered with what its execution comes to. -/
theorem HostServed.request {w : State} {m : DictMsg} {d : List Byte} (tag : m.tag = v.tag)
    (executed : ∀ hint, (s.takeRequest v).execute v hint m = (w, .ok d)) : s.request v m = s.answered w v m d := by
  refine requestFor_host none served ?_
  have same : { v with tag := m.tag } = v := by rw [tag]
  rw [same]
  exact executed _

end

/-! ## A WRITE -/

/-- A value in the bytes of its type fits its object. -/
theorem fits_value {r : ObjRow} {v : Via} {index sub x n : Nat} (sized : r.type.size = n) (some_ : 0 < n) :
    fits r (valueMsg v index sub x n) = true := by
  unfold fits valueMsg writeMsg
  split
  · next type => simp [type, OType.size] at sized; omega
  · simp [sized]

/-- A value in at most 1,024 bytes makes a good message. -/
theorem badHeader_value {v : Via} {index sub x n : Nat} (short : n ≤ 1024) : badHeader (valueMsg v index sub x n) = false := by
  simp [badHeader, valueMsg, writeMsg, short]

/-- The object that a WRITE of a value names, with what R373 asks of the request before the right and the value. -/
structure WritesValue (index sub n : Nat) (r : ObjRow) : Prop where
  row : ∀ u : State, u.target index sub = some r
  sized : r.type.size = n
  some_ : 0 < n
  short : n ≤ 1024
  notCommit : sub ≠ 0xFF
  unstaged : r.acc ≠ .rwc
  noneStaged : (rowsAt index).any (fun r => r.acc == .rwc) = false

/-- The same of an object that the host may write at any time. -/
structure HostWrites (index sub n : Nat) (r : ObjRow) : Prop extends WritesValue index sub n r where
  allowed : ∀ u : State, u.denied .host r 2 = false

/-- The bytes of a value read back as the value. -/
theorem ofBytes_value {x n : Nat} (small : x < 256 ^ n) : ofBytes (bytesOf x n) = x := by
  rw [ofBytes_bytesOf]
  exact Nat.mod_eq_of_lt small

/-- A WRITE of a value by the host, whatever its answer. -/
theorem HostServed.writeReq_reply {s w : State} {v : Via} {index sub x n : Nat} {r : ObjRow} {reply : Reply} (served : HostServed s v)
    (writes : WritesValue index sub n r) (allowed : (s.takeRequest v).denied .host r 2 = false)
    (wrote : ∀ hint, (s.takeRequest v).writeObject v hint r (valueMsg v index sub x n) = (w, reply)) :
    s.writeReq v index sub x n = (w.persist (s.takeRequest v)).respond v (valueMsg v index sub x n) reply := by
  refine requestFor_host_answer none served ?_
  have reached := execute_write (s := s.takeRequest v) (v := v) (hint := (none : Option Nat).orElse fun _ => s.hintOf v (valueMsg v index sub x n))
    (m := valueMsg v index sub x n) (badHeader_value writes.short) (writes.row _) (fits_value writes.sized writes.some_)
    (by rw [served.role]; exact allowed) rfl writes.notCommit writes.unstaged
  have untouched : (s.takeRequest v).touchStaged v.role (valueMsg v index sub x n).index = s.takeRequest v := by
    unfold State.touchStaged
    rw [if_pos]
    rw [Bool.not_eq_true']
    exact writes.noneStaged
  refine reached.trans ?_
  rw [untouched, wrote]

/-- A WRITE of a value that the host may write now, accepted. -/
theorem HostServed.writeReq_ok {s w : State} {v : Via} {index sub x n : Nat} {r : ObjRow} {d : List Byte} (served : HostServed s v)
    (writes : WritesValue index sub n r) (allowed : (s.takeRequest v).denied .host r 2 = false)
    (wrote : ∀ hint, (s.takeRequest v).writeObject v hint r (valueMsg v index sub x n) = (w, .ok d)) :
    s.writeReq v index sub x n = s.answered w v (valueMsg v index sub x n) d :=
  served.writeReq_reply writes allowed wrote

/-- A WRITE of a value by the host is what `State.writeObject` comes to, answered. -/
theorem HostServed.writeReq {s w : State} {v : Via} {index sub x n : Nat} {r : ObjRow} {d : List Byte} (served : HostServed s v)
    (writes : HostWrites index sub n r)
    (wrote : ∀ hint, (s.takeRequest v).writeObject v hint r (valueMsg v index sub x n) = (w, .ok d)) :
    s.writeReq v index sub x n = s.answered w v (valueMsg v index sub x n) d :=
  served.writeReq_ok writes.toWritesValue (writes.allowed _) wrote

/-- An object of the table of rows is the object a request names (R376). -/
theorem State.target_of_rowOf {s : State} {index sub : Nat} {r : ObjRow} (plain : index ≠ 0x9020 ∧ index ≠ 0x9021) (some_ : sub ≠ 0)
    (notAll : sub ≠ 0xFF) (row : rowOf index sub = some r) : s.target index sub = some r := by
  have notEmpty : (rowsAt index).isEmpty = false := by
    cases rows : rowsAt index with
    | nil => simp [rowOf, rows] at row
    | cons _ _ => rfl
  unfold State.target
  simp only [Bool.or_self, Bool.false_and, Bool.false_eq_true, if_false, notEmpty, some_, notAll,
    beq_eq_false_iff_ne.2 plain.1, beq_eq_false_iff_ne.2 plain.2]
  exact row

/-- One run of subindices makes up an index. -/
theorem rowOf_of_run {index sub : Nat} {r : ObjRow} (rows : rowsAt index = [r]) (low : r.lo ≤ sub) (high : sub ≤ r.hi) :
    rowOf index sub = some r := by
  simp [rowOf, rows, low, high]

/-- A value that passes the checks of its object. -/
def State.takes (s : State) (r : ObjRow) (index sub x : Nat) : Prop :=
  encodingFault r x = false ∧ rangeFault r x = false ∧ s.refusedValue index sub x = false

theorem State.takes.passes {s : State} {r : ObjRow} {index sub x : Nat} (takes : s.takes r index sub x) :
    ¬ (encodingFault r x || rangeFault r x || s.refusedValue index sub x) = true := by
  obtain ⟨encoded, ranged, allowed⟩ := takes
  simp [encoded, ranged, allowed]

/-- A value between the least and the greatest is in range. -/
theorem rangeFault_of_mem {r : ObjRow} {x : Nat} (low : r.min ≤ x) (high : x ≤ r.max) : rangeFault r x = false := by
  unfold rangeFault
  split
  · rfl
  · rfl
  · rfl
  · rw [decide_eq_false (Nat.not_lt.2 low), decide_eq_false (Nat.not_lt.2 high)]
    rfl

/-! ## A commit -/

/-- The row of subindex 0xFF of an index (R376). -/
def commitRow (index : Nat) : ObjRow := { index := index, lo := 0xFF, hi := 0xFF, type := .u8, acc := .rw }

/-- The host may commit an index of this module. -/
structure HostCommits (s : State) (index : Nat) : Prop where
  row : s.target index 0xFF = some (commitRow index)
  allowed : ∀ u : State, u.denied .host (commitRow index) 2 = false

/-- The host may commit and discard at an index with staged objects, below the counters. -/
theorem hostCommits_of_staged {s : State} {index : Nat} (staged : (rowsAt index).any (fun r => r.acc == .rwc) = true)
    (present : index ≠ 0x9020 ∨ s.cap 4 = true) (below : index < 0xA000) : HostCommits s index := by
  have other : index ≠ 0x9021 := by
    rintro rfl
    exact absurd staged (by decide)
  have above : 0x2000 ≤ index := by
    refine Nat.le_of_not_lt fun low => ?_
    have identity : rowsAt index = identityRows.filter (fun r => r.index == index) := by
      unfold rowsAt
      rw [if_neg (by omega), if_neg (by omega), if_pos (by omega)]
    rw [identity] at staged
    obtain ⟨r, mem, acc⟩ := List.any_eq_true.1 staged
    have none_ : ∀ r ∈ identityRows, (r.acc == .rwc) = false := by decide
    exact absurd acc (by rw [none_ r (List.mem_filter.1 mem).1]; decide)
  have filled : (rowsAt index).isEmpty = false := by
    cases rows : rowsAt index with
    | nil => simp [rows] at staged
    | cons _ _ => rfl
  constructor
  · have here : ((index == 0x9020 || index == 0x9021) && !s.cap 4) = false := by
      rcases present with apart | sites
      · simp [apart, other]
      · simp [sites]
    unfold State.target
    simp only [here, Bool.false_eq_true, if_false, filled, staged, if_true, show (0xFF : Nat) ≠ 0 by decide]
    rfl
  · intro u
    have notTest : (index == 0xF001) = false := by
      rw [beq_eq_false_iff_ne]
      omega
    have notLoan : (index == 0x2050) = false := by
      rw [beq_eq_false_iff_ne]
      rintro rfl
      exact absurd staged (by decide)
    have writable : tableWrite .host index = true := by
      have notIdentity : index / 0x1000 ≠ 1 := by omega
      have notCounter : index / 0x1000 ≠ 0xA := by omega
      simp [tableWrite, notIdentity, notCounter]
    have right : mayWrite u .host (commitRow index) = true := by
      simp [mayWrite, commitRow, writable, bne, notLoan]
    have other : ((commitRow index).index == 0xF001) = false := notTest
    simp [State.denied, right, other]

/-- A commit by the host that passes its checks is its effect, with the staged values of the index gone, answered. -/
theorem HostServed.commitReq {s w : State} {v : Via} {index : Nat} {d : List Byte} (served : HostServed s v) (commits : HostCommits s index)
    (committed : (s.takeRequest v).commitIndex v index = (w, .ok d)) :
    s.commitReq v index = s.answered ((index :: alsoCommits index).foldl (fun t i => t.discard .host i) w) v (commitMsg v index) d := by
  have same : (s.takeRequest v).target index 0xFF = some (commitRow index) := by
    rw [served.take]
    exact commits.row
  refine served.request rfl fun hint => ?_
  rw [execute_commit same rfl (by rw [served.role]; exact commits.allowed _) committed, served.role]

end Sys2Proof.Machine
end

section
/-! PROOFS. CHANNEL_CREATE while every context is taken (R151, R180, R183): the new context goes to its save area, and a whole write of a
block under repair serves the accesses that waited for it (R120, R138); with it the refutation of O2. -/

namespace Sys2Proof.Machine

/-- The channel that a role's commit of the staged parameters creates in `t`, the state that gave its handle (R150, R153, R180). -/
def State.stagedChan (s t : State) (role : Role) : Chan :=
  let v (k : Nat) : Nat := s.stagedValue role 0x4010 k
  { uid := t.chan.nextUid, job := v 1, ringBase := v 2, ringHost := v 3 == 1, ringEntries := v 4
    cplBase := v 5, cplHost := v 6 == 1, cplEntries := v 7, msix := v 8
    resident := decide (t.residentCount < maxResident), residentSince := t.now, idleSince := t.now }

/-- The state with that channel open at its handle and the parameters of the role in force. -/
def State.opened (s t : State) (role : Role) (h : Nat) : State :=
  (rwcRows 0x4010).foldl (fun u x => u.setOb (okey 0x4010 x.2) (s.stagedValue role 0x4010 x.2))
    ((({ t with chan := { t.chan with nextUid := t.chan.nextUid + 1 } } : State).setChan h (s.stagedChan t role)).setOb Obj.lastHandle h)

/-- Where every context is taken, the context of the channel created is saved. -/
theorem State.commitChannel_of_full {s t : State} {role : Role} {h : Nat} (sound : s.channelFailure (s.stagedValue role 0x4010) = none)
    (free : s.takeHandle = some (h, t)) (full : ¬ t.residentCount < maxResident) :
    s.commitChannel role = ((s.opened t role h).saveContext h, .ok (bytesOf h 2)) := by
  have failure : s.channelFailure (fun k => s.stagedValue role 0x4010 k) = none := sound
  unfold State.commitChannel State.opened State.stagedChan
  simp only [failure, free, full, decide_false, Bool.false_eq_true, if_false]

theorem State.commitIndex_channel (s : State) (v : Via) : s.commitIndex v 0x4010 = s.commitChannel v.role := rfl

theorem exec_channelCreate (s : State) (v : Via) : exec (.channelCreate v) s = .next (s.commitReq v 0x4010) := rfl

namespace CrowdedModule

/-- A channel that holds its context. -/
def holder : Chan :=
  { uid := 1, job := 7, ringBase := 0, ringHost := true, ringEntries := 64, cplBase := 0, cplHost := true, cplEntries := 64, msix := 0xFFFF }

/-- Every context is taken and half 0 runs; the block to which the context of handle 1 is to be saved is under repair, and a task's read
waits for it; the host has staged a channel of job 7 with both rings in host memory. -/
def crowded : State where
  edge := { powered := true, glade0 := true, ready := true, hostLink := true }
  chan := { chans := List.replicate maxResident (2, holder), tasks := [{ uid := 1, handle := 2, id := 0, job := 7, desc := 0 }] }
  mem := { repairs := [{ block := contextAt 0 1 / 64, cls := 2, accesses := [.task 1 0], t0 := 0 }] }
  dict := { objs := [(Obj.jobSlotId 0, 7), (Obj.halfState 0, 2)]
            staged := [{ role := .host, index := 0x4010, values := [(1, 7), (3, 1), (4, 64), (6, 1), (7, 64)] }] }

def host : Via := { role := .host }

/-- How many blocks each task has read while it waits. -/
def readBlocks (s : State) : List Nat := s.chan.tasks.map (fun t => t.early.length)

theorem crowded_served : HostServed crowded host := by constructor <;> decide +kernel

theorem crowded_sound : (crowded.takeRequest host).channelFailure ((crowded.takeRequest host).stagedValue .host 0x4010) = none := by
  decide +kernel

theorem crowded_full : ¬ crowded.residentCount < maxResident := by
  have all : crowded.residentCount = maxResident := by simp [State.residentCount, crowded, holder]
  omega

/-- CHANNEL_CREATE saves the context of handle 1, and the task has read a block. -/
theorem crowded_create :
    ∃ w, exec (.channelCreate host) crowded = .next (crowded.answered w host (commitMsg host 0x4010) (bytesOf 1 2)) ∧ readBlocks w = [1] := by
  have committed := State.commitChannel_of_full crowded_sound (h := 1) rfl crowded_full
  rw [← show host.role = .host from rfl, ← State.commitIndex_channel] at committed
  rw [exec_channelCreate]
  refine ⟨_, congrArg Host.Outcome.next (crowded_served.commitReq ⟨rfl, fun _ => rfl⟩ committed), ?_⟩
  decide +kernel

end CrowdedModule

open CrowdedModule in
/-- Refutes O2: the create of `crowded_create` changes a task, where the statement has the tasks as they were. -/
theorem not_channelRequestsComplete : ¬ Obligations.ChannelRequestsComplete := by
  unfold Obligations.ChannelRequestsComplete
  intro claim
  obtain ⟨create, -⟩ := claim crowded host crowded_served
  obtain ⟨t, ran, -, -, -, -, -, tasks, -⟩ := create 1 crowded_sound (.inl ⟨rfl, by decide⟩)
  obtain ⟨w, ran', read⟩ := crowded_create
  obtain rfl : t = _ := Host.Outcome.next.inj (ran.symm.trans ran')
  have same : w.chan.tasks = crowded.chan.tasks := by
    rw [← tasks, State.answered_chan rfl]
  rw [readBlocks, same] at read
  exact absurd read (by decide)

end Sys2Proof.Machine
end

section
/-! PROOFS. What changes objects only (R383): a set of values taken together, and what a commit of a profile, of scratch ranges and
a write of JOB_SLOT_ID leave (R149, R182, R205); with them O3. -/

namespace Sys2Proof.Machine

/-! ## Changes of objects alone -/

/-- `t` is `s` but for the values of objects. -/
def ObjectsOnly (s t : State) : Prop := t = { s with dict := { s.dict with objs := t.dict.objs } }

namespace ObjectsOnly

variable {s t u : State}

theorem refl (s : State) : ObjectsOnly s s := rfl

theorem trans (a : ObjectsOnly s t) (b : ObjectsOnly t u) : ObjectsOnly s u :=
  Eq.trans b (congrArg (fun x : State => { x with dict := { x.dict with objs := u.dict.objs } }) a)

theorem mem (a : ObjectsOnly s t) : t.mem = s.mem := (congrArg State.mem a :)
theorem chan (a : ObjectsOnly s t) : t.chan = s.chan := (congrArg State.chan a :)
theorem jobs (a : ObjectsOnly s t) : t.jobs = s.jobs := (congrArg State.jobs a :)
theorem stands (a : ObjectsOnly s t) : t.stands = s.stands := (congrArg State.stands a :)
theorem fab (a : ObjectsOnly s t) : t.fab = s.fab := (congrArg State.fab a :)

theorem job (a : ObjectsOnly s t) (slot : Nat) : t.job slot = s.job slot := by
  unfold State.job
  rw [a.jobs]

theorem setOb (s : State) (k x : Nat) : ObjectsOnly s (s.setOb k x) := rfl
theorem clearOb (s : State) (k : Nat) : ObjectsOnly s (s.clearOb k) := rfl

/-- A pass over a list whose steps change objects alone. -/
theorem foldl {α : Type} {f : State → α → State} (step : ∀ u x, ObjectsOnly u (f u x)) (l : List α) (s : State) :
    ObjectsOnly s (l.foldl f s) := by
  induction l generalizing s with
  | nil => exact refl s
  | cons x l ih => exact (step s x).trans (ih _)

end ObjectsOnly

theorem State.clearOb_other (s : State) (k j : Nat) (e : j ≠ k) : (s.clearOb k).ob j = s.ob j := by
  simp [State.ob, State.clearOb, kget?_kdel_other _ _ _ e]

/-! ## Values set one after another -/

/-- Keys set one after another, each to a value of its own, leave every other key. -/
theorem foldl_setOb_other {α : Type} (key value : α → Nat) (l : List α) (s : State) {k : Nat} (other : ∀ x ∈ l, k ≠ key x) :
    (l.foldl (fun t x => t.setOb (key x) (value x)) s).ob k = s.ob k := by
  induction l generalizing s with
  | nil => rfl
  | cons x l ih =>
    exact (ih _ fun y mem => other y (List.mem_cons_of_mem _ mem)).trans (s.setOb_other _ _ _ (other x List.mem_cons_self))

/-- A key that is set has the value of its entry, where entries of one key agree. -/
theorem foldl_setOb_mem {α : Type} (key value : α → Nat) (l : List α) (s : State) {x : α} (mem : x ∈ l)
    (agree : ∀ y ∈ l, key y = key x → value y = value x) :
    (l.foldl (fun t x => t.setOb (key x) (value x)) s).ob (key x) = value x := by
  induction l generalizing s x with
  | nil => simp at mem
  | cons y l ih =>
    rw [List.foldl_cons]
    by_cases later : ∃ z ∈ l, key z = key x
    · obtain ⟨z, inTail, same⟩ := later
      have value_z : value z = value x := agree z (List.mem_cons_of_mem _ inTail) same
      have := ih (x := z) (s.setOb (key y) (value y)) inTail fun w inTail' same' => by
        rw [value_z]
        exact agree w (List.mem_cons_of_mem _ inTail') (same'.trans same)
      rwa [same, value_z] at this
    · have apart : ∀ z ∈ l, key x ≠ key z := fun z inTail same => later ⟨z, inTail, same.symm⟩
      rw [foldl_setOb_other key value l _ apart]
      rcases List.mem_cons.1 mem with rfl | inTail
      · exact s.setOb_same _ _
      · exact absurd ⟨x, inTail, rfl⟩ later

theorem objectsOnly_takeValues (s : State) (role : Role) (index : Nat) : ObjectsOnly s (s.takeValues role index) :=
  .foldl (fun u _ => .setOb u _ _) _ _

/-- A value of an index takes what is staged for it. -/
theorem State.takeValues_ob {s : State} {role : Role} {index k : Nat} (taken : k ∈ (rwcRows index).map (·.2)) :
    (s.takeValues role index).ob (okey index k) = s.stagedValue role index k := by
  obtain ⟨x, mem, rfl⟩ := List.mem_map.1 taken
  exact foldl_setOb_mem (fun x : ObjRow × Nat => okey index x.2) (fun x => s.stagedValue role index x.2) _ s mem fun y _ same => by
    rw [Nat.add_left_cancel same]

/-! ## JOB_SLOT_ID -/

/-- A slot that takes another ID, or none, starts afresh where no generation is left to abandon and no channel of its job is open. -/
theorem State.writeJobSlot_ok {s : State} {slot id : Nat} (range : id ≤ 0xFFF ∨ id = 0xFFFF)
    (free : ∀ k, k < 16 → id = 0xFFFF ∨ s.ob (Obj.jobSlotId k) ≠ id) (noDiagnosis : s.ob Obj.diagEnable = 0)
    (closed : ∀ job, s.jobOf slot = some job → s.jobChans job = []) (other : id ≠ s.ob (Obj.jobSlotId slot)) :
    s.writeJobSlot slot id = (((((s.abandonGen slot).setOb (Obj.jobSlotId slot) id).setOb (Obj.lastGen slot) 0).clearOb
      (Obj.nextGenStep slot)).setJob slot {}, .ok) := by
  have inRange : ¬ (0xFFF < id ∧ id ≠ 0xFFFF) := by omega
  have unique : ¬ (id ≠ 0xFFFF ∧ (upto 16).any (fun k => k != slot && s.ob (Obj.jobSlotId k) == id) = true) := by
    rintro ⟨used, taken⟩
    obtain ⟨k, mem, same⟩ := List.any_eq_true.1 taken
    simp only [Bool.and_eq_true, beq_iff_eq] at same
    exact (free k (by simpa [upto] using mem)).elim used fun differs => differs same.2
  unfold State.writeJobSlot
  rw [if_neg inRange, if_neg unique, if_neg (by simp [noDiagnosis]), if_neg, if_neg other]
  split
  · next job held => simp [closed job held]
  · simp

/-- The abandoned generation of a slot changes that slot's state and one count. -/
theorem State.abandonGen_rest (s : State) (slot : Nat) : (s.abandonGen slot).mem = s.mem ∧ (s.abandonGen slot).chan = s.chan ∧
    (∀ k, k ≠ slot → (s.abandonGen slot).job k = s.job k) ∧ ∀ k, k ≠ Obj.gensAbandoned → (s.abandonGen slot).ob k = s.ob k := by
  unfold State.abandonGen
  split
  · split
    · exact ⟨rfl, rfl, fun _ _ => rfl, fun _ _ => rfl⟩
    · exact ⟨rfl, rfl, fun k other => s.setJob_other slot k _ other, fun k other => State.bump_other _ _ _ other⟩
  · exact ⟨rfl, rfl, fun _ _ => rfl, fun _ _ => rfl⟩

/-- What the slot that starts afresh leaves. -/
theorem State.freshSlot_leaves {s : State} {slot id : Nat} (inRange : slot < 16) :
    let w := ((((s.abandonGen slot).setOb (Obj.jobSlotId slot) id).setOb (Obj.lastGen slot) 0).clearOb (Obj.nextGenStep slot)).setJob slot {}
    w.ob (Obj.jobSlotId slot) = id ∧ w.job slot = {} ∧
      (∀ k, k < 16 → k ≠ slot → w.ob (Obj.jobSlotId k) = s.ob (Obj.jobSlotId k) ∧ w.job k = s.job k) ∧ w.mem = s.mem ∧ w.chan = s.chan := by
  obtain ⟨mem, chan, jobs, objs⟩ := s.abandonGen_rest slot
  have apart (k : Nat) (small : k < 16) :
      Obj.jobSlotId k ≠ Obj.nextGenStep slot ∧ Obj.jobSlotId k ≠ Obj.lastGen slot ∧ Obj.jobSlotId k ≠ Obj.gensAbandoned := by
    simp only [Obj.jobSlotId, Obj.nextGenStep, Obj.lastGen, Obj.gensAbandoned]
    omega
  refine ⟨?_, State.setJob_same .., fun k small other => ⟨?_, (State.setJob_other _ slot k _ other).trans (jobs k other)⟩, mem, chan⟩
  · obtain ⟨next, last, -⟩ := apart slot inRange
    rw [State.setJob_ob, State.clearOb_other _ _ _ next, State.setOb_other _ _ _ _ last, State.setOb_same]
  · obtain ⟨next, last, count⟩ := apart k small
    have mine : Obj.jobSlotId k ≠ Obj.jobSlotId slot := by
      simp only [Obj.jobSlotId]
      omega
    rw [State.setJob_ob, State.clearOb_other _ _ _ next, State.setOb_other _ _ _ _ last, State.setOb_other _ _ _ _ mine, objs _ count]

/-- The row of JOB_SLOT_ID (Table 5-1). -/
def jobSlotRow : ObjRow := { index := 0x4020, lo := 1, hi := 16, type := .u16, acc := .rw, default := 0xFFFF }

theorem hostWrites_jobSlot {slot : Nat} (inRange : slot < 16) : HostWrites 0x4020 (slot + 1) 2 jobSlotRow where
  row _ := State.target_of_rowOf (by decide) (by omega) (by omega)
    (rowOf_of_run rfl (Nat.le_add_left ..) (show slot + 1 ≤ 16 by omega))
  allowed _ := rfl
  sized := rfl
  some_ := by decide
  short := by decide
  notCommit := by omega
  unstaged := by decide
  noneStaged := rfl

theorem State.writeObject_jobSlot {s : State} {v : Via} {hint : Option Nat} {slot id : Nat} (small : id < 65536) :
    s.writeObject v hint jobSlotRow (valueMsg v 0x4020 (slot + 1) id 2) = s.writeJobSlot slot id := by
  have value : ofBytes (valueMsg v 0x4020 (slot + 1) id 2).data = id := ofBytes_value small
  have takes : s.takes jobSlotRow 0x4020 (slot + 1) id :=
    ⟨rfl, rangeFault_of_mem (Nat.zero_le _) (show id ≤ 2 ^ 64 - 1 by omega), rfl⟩
  unfold State.writeObject
  simp only [value]
  exact (if_neg takes.passes).trans rfl

/-- What JOB_SLOT_ID_WRITE leaves where the slot starts afresh (R149, log entry 24). -/
theorem exec_jobSlotIdWrite {s : State} {v : Via} {slot id : Nat} (served : HostServed s v) (inRange : slot < 16) (range : id ≤ 0xFFF ∨ id = 0xFFFF)
    (free : ∀ k, k < 16 → id = 0xFFFF ∨ s.ob (Obj.jobSlotId k) ≠ id) (noDiagnosis : s.ob Obj.diagEnable = 0)
    (closed : ∀ job, s.jobOf slot = some job → s.jobChans job = []) (other : id ≠ s.ob (Obj.jobSlotId slot)) :
    ∃ t, exec (.jobSlotIdWrite v slot id) s = .next t ∧ t.ob (Obj.jobSlotId slot) = id ∧ t.job slot = {} ∧
      (∀ k, k < 16 → k ≠ slot → t.ob (Obj.jobSlotId k) = s.ob (Obj.jobSlotId k) ∧ t.job k = s.job k) ∧
      t.dict.responseBuf.2 = 0 ∧ t.mem = s.mem ∧ t.chan = s.chan := by
  have unread (k : Nat) (small : k < 16) : (s.takeRequest v).ob (Obj.jobSlotId k) = s.ob (Obj.jobSlotId k) :=
    served.take_ob (by simp only [Obj.jobSlotId, Obj.dictRequests]; omega)
  have jobOf : (s.takeRequest v).jobOf slot = s.jobOf slot := by
    unfold State.jobOf
    rw [unread slot inRange]
  have wrote : (s.takeRequest v).writeJobSlot slot id = _ := State.writeJobSlot_ok range
    (fun k small => by rw [unread k small]; exact free k small) (by rw [served.take_ob (by decide)]; exact noDiagnosis)
    (by rw [jobOf, served.take]; exact closed) (by rw [unread slot inRange]; exact other)
  obtain ⟨set, fresh, rest, mem, chan⟩ := (s.takeRequest v).freshSlot_leaves (slot := slot) (id := id) inRange
  have job (w : State) (k : Nat) : (s.answered w v (valueMsg v 0x4020 (slot + 1) id 2) []).job k = w.job k := by
    unfold State.job
    rw [State.answered_jobs served.role]
  refine ⟨_, congrArg Host.Outcome.next (served.writeReq (hostWrites_jobSlot inRange)
    fun _ => (State.writeObject_jobSlot (by omega)).trans wrote), ?_⟩
  refine ⟨by rw [State.answered_ob served.role, set], by rw [job, fresh], fun k small other => ?_, State.answered_ok served.role,
    by rw [State.answered_mem served.role, mem, served.take]; rfl, by rw [State.answered_chan served.role, chan, served.take]; rfl⟩
  obtain ⟨ob, same⟩ := rest k small other
  rw [State.answered_ob served.role, job, ob, same, unread k small, served.take]
  exact ⟨rfl, rfl⟩

/-! ## JOB_SCRATCH -/

theorem State.commitIndex_scratch (s : State) (v : Via) : s.commitIndex v 0x4015 = s.commitScratch v.role := rfl

/-- Ranges that fit, do not overlap and disturb no task take effect (R182). -/
theorem State.commitScratch_ok {s : State} {role : Role}
    (fit : ∀ k, k < 16 → s.stagedValue role 0x4015 (k + 1) ≤ 0xFFFF ∧
      fld (s.stagedValue role 0x4015 (k + 1)) 8 8 + fld (s.stagedValue role 0x4015 (k + 1)) 0 8 ≤ 32)
    (apart : ∀ a b, a < 16 → b < a → overlaps (fld (s.stagedValue role 0x4015 (a + 1)) 8 8) (fld (s.stagedValue role 0x4015 (a + 1)) 0 8)
      (fld (s.stagedValue role 0x4015 (b + 1)) 8 8) (fld (s.stagedValue role 0x4015 (b + 1)) 0 8) = false)
    (idle : s.chan.tasks = []) : s.commitScratch role = (s.takeValues role 0x4015, .ok) := by
  have narrow : (upto 16).find? (fun k => decide (0xFFFF < s.stagedValue role 0x4015 (k + 1)) ||
      decide (32 < fld (s.stagedValue role 0x4015 (k + 1)) 8 8 + fld (s.stagedValue role 0x4015 (k + 1)) 0 8)) = none := by
    refine List.find?_eq_none.2 fun k mem => ?_
    obtain ⟨small, inside⟩ := fit k (by simpa [upto] using mem)
    simp [small, inside]
  have clear : (upto 16).any (fun a => (upto a).any fun b =>
      overlaps (fld (s.stagedValue role 0x4015 (a + 1)) 8 8) (fld (s.stagedValue role 0x4015 (a + 1)) 0 8)
        (fld (s.stagedValue role 0x4015 (b + 1)) 8 8) (fld (s.stagedValue role 0x4015 (b + 1)) 0 8) &&
      fld (s.stagedValue role 0x4015 (a + 1)) 0 8 != 0 && fld (s.stagedValue role 0x4015 (b + 1)) 0 8 != 0) = false := by
    refine List.any_eq_false.2 fun a memA => ?_
    simp only [Bool.not_eq_true]
    refine List.any_eq_false.2 fun b memB => ?_
    simp [apart a b (by simpa [upto] using memA) (by simpa [upto] using memB)]
  unfold State.commitScratch
  simp only [narrow, clear, idle, List.any_nil, Bool.and_false, Bool.false_eq_true, if_false]
  rw [if_neg (by simp)]

theorem rwcRows_scratch : (rwcRows 0x4015).map (·.2) = List.range' 1 16 := by decide

theorem exec_jobScratchCommit (s : State) (v : Via) : exec (.jobScratchCommit v) s = .next (s.commitReq v 0x4015) := rfl

/-! ## Numerics profiles -/

theorem State.commitIndex_profile {s : State} {v : Via} {slot : Nat} (inRange : slot < 16) :
    s.commitIndex v (0x3100 + slot) = s.commitProfile v.role slot := by
  have apart (i : Nat) (other : i < 0x3100 ∨ 0x3110 ≤ i) : (0x3100 + slot == i) = false := by
    rw [beq_eq_false_iff_ne]
    omega
  unfold State.commitIndex
  simp only [apart 0x2004 (by decide), apart 0x4010 (by decide), apart 0x4015 (by decide), Bool.false_eq_true, if_false]
  rw [if_pos ⟨by omega, by omega⟩, Nat.add_sub_cancel_left]

theorem hostCommits_profile {s : State} {slot : Nat} (inRange : slot < 16) : HostCommits s (0x3100 + slot) := by
  have staged : ∀ n < 16, (rowsAt (0x3100 + n)).any (fun r => r.acc == .rwc) = true := by decide
  exact hostCommits_of_staged (staged slot inRange) (.inl (by omega)) (by omega)

theorem rwcRows_profile {slot : Nat} (inRange : slot < 16) : (rwcRows (0x3100 + slot)).map (·.2) = List.range' 1 11 := by
  have rows : ∀ n < 16, (rwcRows (0x3100 + n)).map (·.2) = List.range' 1 11 := by decide
  exact rows slot inRange

theorem alsoCommits_profile {slot : Nat} (inRange : slot < 16) : alsoCommits (0x3100 + slot) = [] := by
  have none_ : ∀ n < 16, alsoCommits (0x3100 + n) = [] := by decide
  exact none_ slot inRange

/-- The value that a new profile gives to subindex `k` of the slot's step state: START_STEP to CURRENT_STEP, all ones to
LAST_COMMITTED, the initial loss scale to LOSS_SCALE_EXP, else 0 (Table 6-6, R205). -/
def State.stepStart (s : State) (role : Role) (slot k : Nat) : Nat :=
  if k == 1 then s.stagedValue role (0x3100 + slot) 5 else if k == 3 then 2 ^ 64 - 1
  else if k == 4 then s.stagedValue role (0x3100 + slot) 7 else 0

/-- The objects once a new profile of a slot is in force. -/
def State.profiled (s : State) (role : Role) (slot : Nat) : State :=
  (List.range' 1 10).foldl (fun t k => t.setOb (okey (0x3200 + slot) k) (s.stepStart role slot k))
    (((s.takeValues role (0x3100 + slot)).abandonGen slot).clearOb (Obj.nextGenStep slot))

/-- What a slot keeps of its own state under a new profile: what belongs to the module's standing in the job (log entry 24). -/
def JobSt.profiled (j : JobSt) : JobSt :=
  { expelled := j.expelled, expelledEps := j.expelledEps, gen := j.gen, copySeq := j.copySeq, liveSent := j.liveSent, liveDone := j.liveDone,
    earlyChecks := j.earlyChecks }

theorem State.commitProfile_ok {s : State} {role : Role} {slot : Nat} (ranged : s.rangeFailure role (0x3100 + slot) = none)
    (low : s.stagedValue role (0x3100 + slot) 9 ≤ s.stagedValue role (0x3100 + slot) 7)
    (high : s.stagedValue role (0x3100 + slot) 7 ≤ s.stagedValue role (0x3100 + slot) 10) (closed : s.chan.chans = []) :
    s.commitProfile role slot = ((s.profiled role slot).modJob slot JobSt.profiled, .ok) := by
  have scale : ¬ (s.stagedValue role (0x3100 + slot) 7 < s.stagedValue role (0x3100 + slot) 9 ∨
      s.stagedValue role (0x3100 + slot) 10 < s.stagedValue role (0x3100 + slot) 7) := by omega
  unfold State.commitProfile
  simp only [ranged, scale, if_false]
  rw [if_neg]
  · rfl
  · split
    · simp [State.jobChans, closed]
    · simp

theorem State.abandonGen_of_none {s : State} {slot : Nat} (none_ : (s.job slot).gen = none) : s.abandonGen slot = s := by
  unfold State.abandonGen
  rw [none_]

theorem objectsOnly_profiled {s : State} {role : Role} {slot : Nat} (none_ : (s.job slot).gen = none) :
    ObjectsOnly s (s.profiled role slot) := by
  have taken := objectsOnly_takeValues s role (0x3100 + slot)
  have kept : (s.takeValues role (0x3100 + slot)).abandonGen slot = s.takeValues role (0x3100 + slot) :=
    State.abandonGen_of_none (by rw [taken.job]; exact none_)
  unfold State.profiled
  rw [kept]
  exact (taken.trans (.clearOb ..)).trans (.foldl (fun u _ => .setOb u _ _) _ _)

/-- The step state of the slot takes its start values. -/
theorem State.profiled_stepState {s : State} {role : Role} {slot k : Nat} (first : 1 ≤ k) (last : k ≤ 10) :
    (s.profiled role slot).ob (okey (0x3200 + slot) k) = s.stepStart role slot k :=
  foldl_setOb_mem (fun k => okey (0x3200 + slot) k) (fun k => s.stepStart role slot k) _ _ (by simp; omega)
    fun _ _ same => by rw [Nat.add_left_cancel same]

/-- The profile takes what is staged for it. -/
theorem State.profiled_profile {s : State} {role : Role} {slot k : Nat} (inRange : slot < 16) (none_ : (s.job slot).gen = none)
    (first : 1 ≤ k) (last : k ≤ 11) :
    (s.profiled role slot).ob (okey (0x3100 + slot) k) = s.stagedValue role (0x3100 + slot) k := by
  have kept : (s.takeValues role (0x3100 + slot)).abandonGen slot = s.takeValues role (0x3100 + slot) :=
    State.abandonGen_of_none (by rw [(objectsOnly_takeValues ..).job]; exact none_)
  unfold State.profiled
  rw [foldl_setOb_other (fun k => okey (0x3200 + slot) k) (fun k => s.stepStart role slot k), kept, State.clearOb_other, State.takeValues_ob]
  · rw [rwcRows_profile inRange]
    simp
    omega
  · simp only [okey, Obj.nextGenStep]
    omega
  · intro j mem
    have := List.mem_range'.1 mem
    simp only [okey]
    omega

/-- What JOB_SCRATCH_COMMIT leaves (R182). -/
theorem exec_jobScratchCommit_ok {s : State} {v : Via} (served : HostServed s v)
    (committed : (s.takeRequest v).commitScratch .host = ((s.takeRequest v).takeValues .host 0x4015, .ok)) :
    ∃ t, exec (.jobScratchCommit v) s = .next t ∧
      (∀ k, k < 16 → t.ob (Obj.jobScratch k) = (s.takeRequest v).stagedValue .host 0x4015 (k + 1)) ∧
      t.stagedAt .host 0x4015 = none ∧ t.dict.responseBuf.2 = 0 ∧ t.mem = s.mem ∧ t.chan = s.chan ∧ t.jobs = s.jobs := by
  have host := served.role
  have only := objectsOnly_takeValues (s.takeRequest v) .host 0x4015
  have index : (s.takeRequest v).commitIndex v 0x4015 = ((s.takeRequest v).takeValues .host 0x4015, .ok) := by
    rw [State.commitIndex_scratch, host, committed]
  have ran := served.commitReq ⟨rfl, fun _ => rfl⟩ index
  rw [show alsoCommits 0x4015 = [] from rfl, List.foldl_cons, List.foldl_nil] at ran
  refine ⟨_, (exec_jobScratchCommit s v).trans (congrArg Host.Outcome.next ran), fun k small => ?_, ?_, State.answered_ok host, ?_, ?_, ?_⟩
  · have key : Obj.jobScratch k = okey 0x4015 (k + 1) := by
      simp only [Obj.jobScratch, okey]
      omega
    rw [State.answered_ob host, State.discard_ob, key]
    exact State.takeValues_ob (k := k + 1) (by rw [rwcRows_scratch]; simp; omega)
  · rw [State.answered_stagedAt host, State.stagedAt_discard_same]
  · rw [State.answered_mem host, State.discard_mem]
    exact only.mem.trans (by rw [served.take]; rfl)
  · rw [State.answered_chan host, State.discard_chan]
    exact only.chan.trans (by rw [served.take]; rfl)
  · rw [State.answered_jobs host, State.discard_jobs]
    exact only.jobs.trans (by rw [served.take]; rfl)

/-- PROFILE_COMMIT of a profile that passes its checks, answered. -/
theorem exec_profileCommit {s : State} {v : Via} {slot : Nat} (served : HostServed s v) (inRange : slot < 16)
    (committed : (s.takeRequest v).commitProfile .host slot = (((s.takeRequest v).profiled .host slot).modJob slot JobSt.profiled, .ok)) :
    exec (.profileCommit v slot) s = .next (s.answered ((((s.takeRequest v).profiled .host slot).modJob slot JobSt.profiled).discard .host
      (0x3100 + slot)) v (commitMsg v (0x3100 + slot)) []) := by
  have index : (s.takeRequest v).commitIndex v (0x3100 + slot) = (((s.takeRequest v).profiled .host slot).modJob slot JobSt.profiled, .ok) := by
    rw [State.commitIndex_profile inRange, served.role, committed]
  have ran := served.commitReq (hostCommits_profile inRange) index
  rw [alsoCommits_profile inRange] at ran
  exact congrArg Host.Outcome.next ran

/-- What an accepted PROFILE_COMMIT leaves (R205, Table 6-6). -/
theorem State.profiled_leaves {s : State} {v : Via} {slot : Nat} (served : HostServed s v) (inRange : slot < 16) (noGen : (s.job slot).gen = none) :
    let u := s.takeRequest v
    let t := s.answered (((u.profiled .host slot).modJob slot JobSt.profiled).discard .host (0x3100 + slot)) v (commitMsg v (0x3100 + slot)) []
    (∀ k, 1 ≤ k → k ≤ 11 → t.ob (okey (0x3100 + slot) k) = u.stagedValue .host (0x3100 + slot) k) ∧
      (∀ k, 1 ≤ k → k ≤ 10 → t.ob (okey (0x3200 + slot) k) = u.stepStart .host slot k) ∧
      t.job slot = ((u.profiled .host slot).job slot).profiled ∧ t.stagedAt .host (0x3100 + slot) = none ∧ t.mem = s.mem ∧ t.chan = s.chan := by
  have host := served.role
  have noGen' : ((s.takeRequest v).job slot).gen = none := by
    rw [served.take]
    exact noGen
  have only := objectsOnly_profiled (role := .host) noGen'
  refine ⟨fun k first last => ?_, fun k first last => ?_, ?_, ?_, ?_, ?_⟩
  · rw [State.answered_ob host, State.discard_ob, State.modJob_ob]
    exact State.profiled_profile inRange noGen' first last
  · rw [State.answered_ob host, State.discard_ob, State.modJob_ob]
    exact State.profiled_stepState first last
  · unfold State.job
    rw [State.answered_jobs host]
    exact State.setJob_same ..
  · rw [State.answered_stagedAt host, State.stagedAt_discard_same]
  · rw [State.answered_mem host, State.discard_mem, State.modJob_mem]
    exact only.mem.trans (by rw [served.take]; rfl)
  · rw [State.answered_chan host, State.discard_chan, State.modJob_chan]
    exact only.chan.trans (by rw [served.take]; rfl)

/-- Settles O3: a slot that starts afresh, ranges taken together, and a profile with the step state it starts. -/
theorem jobRequestsComplete : Obligations.JobRequestsComplete := by
  unfold Obligations.JobRequestsComplete
  intro s v served
  have chan : (s.takeRequest v).chan = s.chan := by rw [served.take]; rfl
  refine ⟨fun slot id inRange range empty used free noDiagnosis => ?_, fun slot job inRange held closed noDiagnosis => ?_,
    fun fit apart idle => ?_, fun slot inRange ranged low high closed noGen => ?_⟩
  · exact exec_jobSlotIdWrite served inRange range (fun k small => .inr (free k small)) noDiagnosis
      (fun job held => by simp [State.jobOf, empty] at held) (by omega)
  · have number : s.ob (Obj.jobSlotId slot) < 4096 := by
      simp only [State.jobOf] at held
      split at held
      · next small => exact small.2
      · simp at held
    obtain ⟨t, ran, set, rest⟩ := exec_jobSlotIdWrite (id := 0xFFFF) served inRange (.inr rfl) (fun _ _ => .inl rfl) noDiagnosis
      (fun job' held' => Option.some.inj (held.symm.trans held') ▸ closed) (by omega)
    exact ⟨t, ran, by simp [State.jobOf, set], rest⟩
  · exact exec_jobScratchCommit_ok served (State.commitScratch_ok fit apart (by rw [chan]; exact idle))
  · obtain ⟨profile, state, job, staged, mem, chan'⟩ := State.profiled_leaves served inRange noGen
    refine ⟨_, exec_profileCommit served inRange (State.commitProfile_ok ranged low high (by rw [chan]; exact closed)), profile,
      state 1 ?_ ?_, state 2 ?_ ?_, state 3 ?_ ?_, state 4 ?_ ?_, state 5 ?_ ?_, state 6 ?_ ?_, state 7 ?_ ?_, state 8 ?_ ?_, state 9 ?_ ?_,
      state 10 ?_ ?_, congrArg JobSt.faulted job, congrArg JobSt.stepEnd job, staged, State.answered_ok served.role, mem, chan'⟩
    all_goals decide

end Sys2Proof.Machine
end

section
/-! PROOFS. The commits of the region table, of guest rights and of steady load (R128, R129, R345, R420); with them O4. -/

namespace Sys2Proof.Machine

/-! ## What the host answer and the count of a request leave -/

/-- The capabilities lie in the fuses, which an answer over the mailbox leaves (R413). -/
theorem State.answered_cap {s u : State} {v : Via} {m : DictMsg} {d : List Byte} (host : v.role = .host) (n : Nat) :
    (s.answered u v m d).cap n = u.cap n := by
  have edge : (s.answered u v m d).edge.fuses0 = u.edge.fuses0 ∧ (s.answered u v m d).edge.fuses1 = u.edge.fuses1 ∧
      (s.answered u v m d).edge.variantU = u.edge.variantU := by
    rw [State.answered_eq host]
    unfold State.msix
    split
    · exact ⟨rfl, rfl, rfl⟩
    · split <;> exact ⟨rfl, rfl, rfl⟩
  obtain ⟨fuses0, fuses1, variant⟩ := edge
  simp only [State.cap, State.caps, fuses0, fuses1, variant]

section
variable {s : State} {v : Via} (served : HostServed s v)
include served

theorem HostServed.take_mem : (s.takeRequest v).mem = s.mem := by rw [served.take]; rfl
theorem HostServed.take_chan : (s.takeRequest v).chan = s.chan := by rw [served.take]; rfl
theorem HostServed.take_jobs : (s.takeRequest v).jobs = s.jobs := by rw [served.take]; rfl
theorem HostServed.take_stands : (s.takeRequest v).stands = s.stands := by rw [served.take]; rfl
theorem HostServed.take_fab : (s.takeRequest v).fab = s.fab := by rw [served.take]; rfl
theorem HostServed.take_fire : (s.takeRequest v).fire = s.fire := by rw [served.take]; rfl
theorem HostServed.take_power : (s.takeRequest v).power = s.power := by rw [served.take]; rfl
theorem HostServed.take_edge : (s.takeRequest v).edge = s.edge := by rw [served.take]; rfl
theorem HostServed.take_cap (n : Nat) : (s.takeRequest v).cap n = s.cap n := by rw [served.take]; rfl

end

/-! ## The region table -/

/-- A region table that passes its checks and changes no range in use takes effect (R128 to R130). -/
theorem State.commitIndex_regions {s : State} {v : Via} {l : List Region} (host : v.role = .host)
    (staged : (s.stagedEntries .host 0x6100 1 32).map (fun x => x.map (BitVec.ofNat 256)) = some l)
    (ok : regionTableOk (s.cap 4) l = true) (free : s.regionBusy l = false) :
    s.commitIndex v 0x6100 = (({ s with mem := { s.mem with regions := l } } : State).remap (remapped s.mem.regions l), .ok) := by
  obtain ⟨entries, taken, rfl⟩ := Option.map_eq_some_iff.1 staged
  have reached : s.commitIndex v 0x6100 = s.commitRegions (entries.map (BitVec.ofNat 256)) := by
    simp only [State.commitIndex, host]
    rw [taken]
    rfl
  rw [reached]
  simp [State.commitRegions, ok, free]

/-! ## The rights of the guest sites -/

theorem State.commitIndex_guest (s : State) (v : Via) : s.commitIndex v 0x9020 = s.commitGuest v.role := rfl

theorem rwcRows_guest : (rwcRows 0x9020).map (·.2) = [1, 2] := by decide

/-- The index exists on a module with guest sites (R392, R414). -/
theorem hostCommits_guest {s : State} (sites : s.cap 4 = true) : HostCommits s 0x9020 where
  row := by simp only [State.target, sites]; rfl
  allowed _ := rfl

/-- What GUEST_RIGHTS_COMMIT leaves where no task names a guest window (R420). -/
theorem exec_guestRightsCommit {s : State} {v : Via} (served : HostServed s v) (sites : s.cap 4 = true)
    (unnamed : ∀ t ∈ s.chan.tasks, names t.desc 0x500000000000 0x2000000000 = false) :
    ∃ t, exec (.guestRightsCommit v) s = .next t ∧
      (∀ k, k < 2 → t.ob (Obj.guestRights k) = (s.takeRequest v).stagedValue .host 0x9020 (k + 1)) ∧ t.stagedAt .host 0x9020 = none ∧
      t.dict.responseBuf.2 = 0 ∧ t.mem = s.mem ∧ t.chan = s.chan := by
  have host := served.role
  have only := objectsOnly_takeValues (s.takeRequest v) .host 0x9020
  have index : (s.takeRequest v).commitIndex v 0x9020 = ((s.takeRequest v).takeValues .host 0x9020, .ok) := by
    have free : (s.takeRequest v).chan.tasks.any (fun t => names t.desc 0x500000000000 0x2000000000) = false := by
      rw [served.take_chan]
      simpa using unnamed
    rw [State.commitIndex_guest, host, State.commitGuest, if_neg (by rw [free]; decide)]
  have ran := served.commitReq (hostCommits_guest sites) index
  rw [show alsoCommits 0x9020 = [] from rfl, List.foldl_cons, List.foldl_nil] at ran
  refine ⟨_, (congrArg Host.Outcome.next ran : exec (.guestRightsCommit v) s = _), fun k small => ?_, ?_, State.answered_ok host, ?_, ?_⟩
  · have key : Obj.guestRights k = okey 0x9020 (k + 1) := by
      simp only [Obj.guestRights, okey]
      omega
    rw [State.answered_ob host, State.discard_ob, key]
    exact State.takeValues_ob (by rw [rwcRows_guest]; simp; omega)
  · rw [State.answered_stagedAt host, State.stagedAt_discard_same]
  · rw [State.answered_mem host, State.discard_mem, only.mem, served.take_mem]
  · rw [State.answered_chan host, State.discard_chan, only.chan, served.take_chan]

/-! ## Steady load -/

/-- The objects of a steady-load commit (Table 10-10). -/
def State.steadySet (s : State) (on setpoint ramp : Nat) : State :=
  ((s.setOb Obj.steadyEnable on).setOb Obj.steadySetpoint setpoint).setOb Obj.rampLimit ramp

theorem State.steadySet_ob (s : State) (on setpoint ramp : Nat) : (s.steadySet on setpoint ramp).ob Obj.steadyEnable = on ∧
    (s.steadySet on setpoint ramp).ob Obj.steadySetpoint = setpoint ∧ (s.steadySet on setpoint ramp).ob Obj.rampLimit = ramp := by
  unfold State.steadySet
  refine ⟨?_, ?_, State.setOb_same ..⟩
  · rw [State.setOb_other _ _ _ _ (by decide), State.setOb_other _ _ _ _ (by decide), State.setOb_same]
  · rw [State.setOb_other _ _ _ _ (by decide), State.setOb_same]

/-- Steady load is on where it is enabled and ballast is there (R345, R414). -/
theorem State.steady_of {s : State} (ballast : s.cap 2 = true) (on : s.ob Obj.steadyEnable = 1) : s.steady = true := by
  have twoHop : (Obj.steadyEnable == Obj.twoHop) = false := by decide
  have paceMatch : (Obj.steadyEnable == Obj.paceMatch) = false := by decide
  simp [State.steady, State.shown, ballast, on, twoHop, paceMatch]

/-- With nothing borrowed no loan goes back: the round of requests is over, and that is all (R341). -/
theorem State.returnAll_of_none {s : State} (none_ : s.power.borrowed = []) :
    s.returnAll = s.modPower (fun p => { p with borrowed := [], shortfall := 0, asked := [] }) := by
  unfold State.returnAll
  rw [none_]
  rfl

/-- A setpoint and a ramp in their ranges. -/
structure SteadyFits (s : State) (setpoint ramp : Nat) : Prop where
  floor : 1100 ≤ setpoint
  top : setpoint ≤ s.capNoSteady
  rampFloor : 50 ≤ ramp
  rampTop : ramp ≤ 1000

/-- Steady load turned off: no ballast (R345). -/
theorem State.commitSteady_off {s : State} {setpoint ramp : Nat} (fits : SteadyFits s setpoint ramp) :
    s.commitSteady 0 setpoint ramp =
      (((s.steadySet 0 setpoint ramp).modPower (fun p => { p with ballastMw := 0, rampMissed := false })).setBit Obj.powerStatus 6 false, .ok) := by
  obtain ⟨floor, top, rampFloor, rampTop⟩ := fits
  unfold State.commitSteady
  rw [if_neg (by simp), if_neg (by simp [floor, top]), if_neg (by simp [rampFloor, rampTop])]
  rfl

/-- The ramp of a steady load that was off starts at the power there is (R347). -/
def State.steadyStart (s : State) (fresh : Bool) : State :=
  if fresh then s.modPower (fun p => { p with rampUw := p.powerMw * 1000 }) else s

/-- Steady load turned on: the loans go back (R341). -/
theorem State.commitSteady_on {s : State} {setpoint ramp : Nat} (fits : SteadyFits s setpoint ramp) (ballast : s.cap 2 = true) :
    s.commitSteady 1 setpoint ramp = (((s.steadySet 1 setpoint ramp).steadyStart (!s.steady)).returnAll, .ok) := by
  obtain ⟨floor, top, rampFloor, rampTop⟩ := fits
  unfold State.commitSteady
  rw [if_neg (by simp [ballast]), if_neg (by simp [floor, top]), if_neg (by simp [rampFloor, rampTop])]
  rfl

theorem State.commitIndex_steady {s : State} {v : Via} (host : v.role = .host) :
    s.commitIndex v 0x2004 = s.commitSteady (s.stagedValue .host 0x2004 1) (s.stagedValue .host 0x2004 2) (s.stagedValue .host 0x2004 3) := by
  rw [← host]
  rfl

/-- STEADY_LOAD_COMMIT of values that pass, answered. -/
theorem exec_steadyLoadCommit {s w : State} {v : Via} {on : Nat} (served : HostServed s v) (mode : (s.takeRequest v).stagedValue .host 0x2004 1 = on)
    (committed : (s.takeRequest v).commitSteady on ((s.takeRequest v).stagedValue .host 0x2004 2)
      ((s.takeRequest v).stagedValue .host 0x2004 3) = (w, .ok)) :
    exec (.steadyLoadCommit v) s = .next (s.answered (w.discard .host 0x2004) v (commitMsg v 0x2004) []) := by
  have index : (s.takeRequest v).commitIndex v 0x2004 = (w, .ok) := by
    rw [State.commitIndex_steady served.role, mode, committed]
  have ran := served.commitReq (index := 0x2004) ⟨rfl, fun _ => rfl⟩ index
  rw [show alsoCommits 0x2004 = [] from rfl, List.foldl_cons, List.foldl_nil] at ran
  exact congrArg Host.Outcome.next ran

theorem State.setBit_ob_other (s : State) (k n : Nat) (b : Bool) {j : Nat} (other : j ≠ k) : (s.setBit k n b).ob j = s.ob j :=
  s.setOb_other _ _ _ other

/-- What a commit that turns steady load off leaves. -/
theorem exec_steadyLoadCommit_off {s : State} {v : Via} (served : HostServed s v) {setpoint ramp : Nat}
    (off : (s.takeRequest v).stagedValue .host 0x2004 1 = 0) (isSetpoint : (s.takeRequest v).stagedValue .host 0x2004 2 = setpoint)
    (isRamp : (s.takeRequest v).stagedValue .host 0x2004 3 = ramp) (fits : SteadyFits (s.takeRequest v) setpoint ramp) :
    ∃ t, exec (.steadyLoadCommit v) s = .next t ∧ t.ob Obj.steadyEnable = 0 ∧ t.ob Obj.steadySetpoint = setpoint ∧
      t.ob Obj.rampLimit = ramp ∧ t.power.ballastMw = 0 ∧ t.stagedAt .host 0x2004 = none ∧ t.dict.responseBuf.2 = 0 ∧ t.mem = s.mem := by
  have host := served.role
  refine ⟨_, exec_steadyLoadCommit served off (by rw [isSetpoint, isRamp]; exact State.commitSteady_off fits), ?_⟩
  obtain ⟨isEnabled, isSetpoint, isRamp⟩ := (s.takeRequest v).steadySet_ob 0 setpoint ramp
  refine ⟨?_, ?_, ?_, ?_, ?_, State.answered_ok host, ?_⟩
  · rw [State.answered_ob host, State.discard_ob, State.setBit_ob_other _ _ _ _ (by decide), State.modPower_ob, isEnabled]
  · rw [State.answered_ob host, State.discard_ob, State.setBit_ob_other _ _ _ _ (by decide), State.modPower_ob, isSetpoint]
  · rw [State.answered_ob host, State.discard_ob, State.setBit_ob_other _ _ _ _ (by decide), State.modPower_ob, isRamp]
  · rw [State.answered_power host, State.discard_power, State.setBit_power, State.modPower_power]
  · rw [State.answered_stagedAt host, State.stagedAt_discard_same]
  · simp [State.answered_mem host, State.steadySet, served.take_mem]

theorem State.steadyStart_frame (s : State) (fresh : Bool) : (s.steadyStart fresh).dict = s.dict ∧ (s.steadyStart fresh).mem = s.mem ∧
    (s.steadyStart fresh).edge = s.edge ∧ (s.steadyStart fresh).power.borrowed = s.power.borrowed := by
  cases fresh <;> exact ⟨rfl, rfl, rfl, rfl⟩

/-- What a commit that turns steady load on leaves, where nothing is borrowed. -/
theorem exec_steadyLoadCommit_on {s : State} {v : Via} (served : HostServed s v) {setpoint ramp : Nat}
    (on : (s.takeRequest v).stagedValue .host 0x2004 1 = 1) (isSetpoint : (s.takeRequest v).stagedValue .host 0x2004 2 = setpoint)
    (isRamp : (s.takeRequest v).stagedValue .host 0x2004 3 = ramp) (fits : SteadyFits (s.takeRequest v) setpoint ramp)
    (ballast : s.cap 2 = true) (noLoans : s.power.borrowed = []) :
    ∃ t, exec (.steadyLoadCommit v) s = .next t ∧ t.steady = true ∧ t.ob Obj.steadySetpoint = setpoint ∧
      t.ob Obj.rampLimit = ramp ∧ t.dict.responseBuf.2 = 0 ∧ t.mem = s.mem := by
  have host := served.role
  have committed := State.commitSteady_on fits (by rw [served.take_cap]; exact ballast)
  obtain ⟨dict, mem, edge, borrowed⟩ := ((s.takeRequest v).steadySet 1 setpoint ramp).steadyStart_frame (!(s.takeRequest v).steady)
  have none_ : (((s.takeRequest v).steadySet 1 setpoint ramp).steadyStart (!(s.takeRequest v).steady)).power.borrowed = [] := by
    rw [borrowed]
    simp [State.steadySet, served.take_power, noLoans]
  rw [State.returnAll_of_none none_] at committed
  obtain ⟨isEnabled, setSetpoint, setRamp⟩ := (s.takeRequest v).steadySet_ob 1 setpoint ramp
  have ob := State.ob_congr (congrArg DictSt.objs dict)
  refine ⟨_, exec_steadyLoadCommit served on (by rw [isSetpoint, isRamp]; exact committed), ?_, ?_, ?_, State.answered_ok host, ?_⟩
  · have present : ∀ w : State, w.edge = s.edge → w.cap 2 = true := fun w same => by
      simpa only [State.cap, State.caps, same] using ballast
    refine State.steady_of ?_ ?_
    · rw [State.answered_cap host]
      exact present _ (by rw [State.discard_edge, State.modPower_edge, edge]; exact served.take_edge)
    · rw [State.answered_ob host, State.discard_ob, State.modPower_ob, ob, isEnabled]
  · rw [State.answered_ob host, State.discard_ob, State.modPower_ob, ob, setSetpoint]
  · rw [State.answered_ob host, State.discard_ob, State.modPower_ob, ob, setRamp]
  · rw [State.answered_mem host, State.discard_mem, State.modPower_mem, mem]
    exact served.take_mem

/-- Settles O4: each commit passes its checks and takes its values. -/
theorem tableAndRightsCommitsComplete : Obligations.TableAndRightsCommitsComplete := by
  unfold Obligations.TableAndRightsCommitsComplete
  intro s v served
  refine ⟨fun l staged ok free => ?_, exec_guestRightsCommit served,
    fun off floor top rampFloor rampTop => exec_steadyLoadCommit_off served off rfl rfl ⟨floor, top, rampFloor, rampTop⟩,
    fun on ballast floor top rampFloor rampTop noLoans =>
      exec_steadyLoadCommit_on served on rfl rfl ⟨floor, top, rampFloor, rampTop⟩ ballast noLoans⟩
  have index := State.commitIndex_regions served.role staged ok free
  rw [show (s.takeRequest v).mem.regions = s.mem.regions by rw [served.take_mem]] at index
  have ran := served.commitReq (index := 0x6100) ⟨rfl, fun _ => rfl⟩ index
  rw [show alsoCommits 0x6100 = [] from rfl, List.foldl_cons, List.foldl_nil] at ran
  exact congrArg Host.Outcome.next ran

end Sys2Proof.Machine
end

section
/-! PROOFS. Ports that enter a state or train (R222 to R225), and a change of the endpoint, which trains them anew (R264). -/

namespace Sys2Proof.Machine

/-! ## The state of a port -/

/-- An object other than the state and the peer of a port. -/
def notOfPort (n k : Nat) : Prop := k ≠ Obj.portState n ∧ k ≠ Obj.portPeer n

theorem State.enterPort_ob_other {s : State} {n st cause k : Nat} (other : notOfPort n k) : (s.enterPort n st cause).ob k = s.ob k := by
  have set : ((s.setOb (Obj.portState n) (st + 256 * cause)).modPort n (fun p => { p with since := s.now })).ob k = s.ob k :=
    (State.modPort_ob ..).trans (s.setOb_other _ _ _ other.1)
  unfold State.enterPort
  split
  · exact set
  · exact (State.setOb_other _ _ _ _ other.2).trans set

/-- PORT_STATE shows the state and the cause. -/
theorem State.enterPort_state (s : State) (n st cause : Nat) : (s.enterPort n st cause).ob (Obj.portState n) = st + 256 * cause := by
  have apart : Obj.portState n ≠ Obj.portPeer n := by
    simp only [Obj.portState, Obj.portPeer]
    omega
  have set : ((s.setOb (Obj.portState n) (st + 256 * cause)).modPort n (fun p => { p with since := s.now })).ob (Obj.portState n) =
      st + 256 * cause := (State.modPort_ob ..).trans (s.setOb_same _ _)
  unfold State.enterPort
  split
  · exact set
  · exact (State.setOb_other _ _ _ _ apart).trans set

theorem State.enterPort_portSt (s : State) (n cause : Nat) {st : Nat} (small : st < 256) : (s.enterPort n st cause).portSt n = st := by
  unfold State.portSt
  rw [s.enterPort_state]
  omega

theorem State.modPort_same (s : State) (n : Nat) (f : Port → Port) : (s.modPort n f).port n = f (s.port n) := s.setPort_same n _
theorem State.modPort_other (s : State) {n k : Nat} (f : Port → Port) (other : k ≠ n) : (s.modPort n f).port k = s.port k :=
  s.setPort_other n k _ other

theorem State.enterPort_fab (s : State) (n st cause : Nat) :
    (s.enterPort n st cause).fab = (s.modPort n (fun p => { p with since := s.now })).fab := by
  unfold State.enterPort
  split <;> rfl

/-- A port is found in the state of the fabric. -/
theorem State.port_congr {s t : State} (same : t.fab = s.fab) (n : Nat) : t.port n = s.port n := by
  unfold State.port
  rw [same]

/-- A port that enters a state takes the time of it. -/
theorem State.enterPort_port (s : State) (n st cause : Nat) : (s.enterPort n st cause).port n = { s.port n with since := s.now } :=
  (State.port_congr (s.enterPort_fab n st cause) n).trans (s.modPort_same n _)

theorem State.enterPort_port_other (s : State) {n k : Nat} (st cause : Nat) (other : k ≠ n) : (s.enterPort n st cause).port k = s.port k :=
  (State.port_congr (s.enterPort_fab n st cause) k).trans (s.modPort_other _ other)

theorem State.enterPort_frame (s : State) (n st cause : Nat) : (s.enterPort n st cause).mem = s.mem ∧ (s.enterPort n st cause).chan = s.chan ∧
    (s.enterPort n st cause).edge = s.edge ∧ (s.enterPort n st cause).stands = s.stands ∧ (s.enterPort n st cause).jobs = s.jobs ∧
    (s.enterPort n st cause).power = s.power ∧ (s.enterPort n st cause).fire = s.fire ∧ (s.enterPort n st cause).now = s.now := by
  unfold State.enterPort
  split <;> exact ⟨rfl, rfl, rfl, rfl, rfl, rfl, rfl, rfl⟩

theorem portState_notOfPort {n k : Nat} (apart : k ≠ n) (small : n < 9) (small' : k < 9) : notOfPort n (Obj.portState k) := by
  simp only [notOfPort, Obj.portState, Obj.portPeer]
  omega

/-- Another port stays in its state. -/
theorem State.enterPort_portSt_other {s : State} {n k st cause : Nat} (apart : k ≠ n) (small : n < 9) (small' : k < 9) :
    (s.enterPort n st cause).portSt k = s.portSt k :=
  congrArg (· % 256) (State.enterPort_ob_other (portState_notOfPort apart small small'))

/-! ## Ports that train -/

/-- `t` is `s` with some ports, none of them UP, in training. -/
structure PortsTrained (s t : State) : Prop where
  mem : t.mem = s.mem
  chan : t.chan = s.chan
  edge : t.edge = s.edge
  ob : ∀ k, (∀ n, n < 9 → notOfPort n k) → t.ob k = s.ob k
  held : ∀ n, (t.port n).heldByReset = (s.port n).heldByReset
  down : ∀ n, n < 9 → s.portUp n = false → t.portUp n = false
  training : ∀ n, n < 9 → s.portSt n = 1 → t.portSt n = 1

namespace PortsTrained

variable {s t u : State}

theorem refl (s : State) : PortsTrained s s := ⟨rfl, rfl, rfl, fun _ _ => rfl, fun _ => rfl, fun _ _ h => h, fun _ _ h => h⟩

theorem trans (a : PortsTrained s t) (b : PortsTrained t u) : PortsTrained s u where
  mem := b.mem.trans a.mem
  chan := b.chan.trans a.chan
  edge := b.edge.trans a.edge
  ob k other := (b.ob k other).trans (a.ob k other)
  held n := (b.held n).trans (a.held n)
  down n small off := b.down n small (a.down n small off)
  training n small now := b.training n small (a.training n small now)

/-- A pass over ports whose steps train. -/
theorem foldl {f : State → Nat → State} (step : ∀ u, ∀ n < 9, u.portUp n = false → PortsTrained u (f u n)) (l : List Nat) :
    ∀ s : State, (∀ n ∈ l, n < 9 ∧ s.portUp n = false) → PortsTrained s (l.foldl f s) := by
  induction l with
  | nil => exact fun s _ => refl s
  | cons n l ih =>
    intro s off
    obtain ⟨small, down⟩ := off n List.mem_cons_self
    have first := step s n small down
    exact first.trans (ih _ fun k mem =>
      have ⟨small', down'⟩ := off k (List.mem_cons_of_mem _ mem)
      ⟨small', first.down k small' down'⟩)

end PortsTrained

/-- A port that a reset holds, or an uplink that is absent, does not train (R405, R414). -/
def State.mayTrain (s : State) (n : Nat) : Prop := (s.port n).heldByReset = false ∧ (n < 7 ∨ s.cap 1 = true)

theorem State.train_of_may {s : State} {n : Nat} (may : s.mayTrain n) : s.train n = s.enterPort n 1 0 := by
  obtain ⟨free, uplink⟩ := may
  unfold State.train
  rw [if_neg]
  rcases uplink with grove | present
  · simp [free, Nat.not_le.2 grove]
  · simp [free, present]

theorem portsTrained_enterPort {s : State} {n : Nat} (small : n < 9) : PortsTrained s (s.enterPort n 1 0) where
  mem := (s.enterPort_frame n 1 0).1
  chan := (s.enterPort_frame n 1 0).2.1
  edge := (s.enterPort_frame n 1 0).2.2.1
  ob k other := State.enterPort_ob_other (other n small)
  held k := by
    by_cases same : k = n
    · rw [same, s.enterPort_port]
    · rw [s.enterPort_port_other _ _ same]
  down k small' off := by
    by_cases same : k = n
    · simp [same, State.portUp, s.enterPort_portSt n 0 (st := 1) (by decide)]
    · rwa [State.portUp, State.enterPort_portSt_other same small small']
  training k small' now := by
    by_cases same : k = n
    · rw [same, s.enterPort_portSt n 0 (by decide)]
    · rwa [State.enterPort_portSt_other same small small']

theorem portsTrained_train {s : State} {n : Nat} (small : n < 9) : PortsTrained s (s.train n) := by
  unfold State.train
  split
  · exact .refl s
  · exact portsTrained_enterPort small

/-! ## A change of the endpoint (R264) -/

/-- What the commit of an endpoint does to one port. -/
def State.renewPort (s : State) (n : Nat) : State :=
  if s.ob (Obj.portEnable n) == 0 then s else if s.portUp n then s.retrain n else s.train n

theorem portsTrained_renewPort {s : State} {n : Nat} (small : n < 9) (down : s.portUp n = false) : PortsTrained s (s.renewPort n) := by
  unfold State.renewPort
  split
  · exact .refl s
  · rw [if_neg (by simp [down])]
    exact portsTrained_train small

/-- The objects of the endpoint, set. -/
def State.setEndpoint (s : State) (ep grove : Nat) : State := (s.setOb Obj.endpointId ep).setOb Obj.groveId grove

theorem State.setEndpoint_ob (s : State) (ep grove : Nat) : (s.setEndpoint ep grove).ob Obj.endpointId = ep ∧
    (s.setEndpoint ep grove).ob Obj.groveId = grove ∧
    ∀ k, k ≠ Obj.endpointId → k ≠ Obj.groveId → (s.setEndpoint ep grove).ob k = s.ob k :=
  ⟨(State.setOb_other _ _ _ _ (by decide)).trans (s.setOb_same _ _), State.setOb_same .., fun _ ep grove =>
    (State.setOb_other _ _ _ _ grove).trans (s.setOb_other _ _ _ ep)⟩

/-- No job slot is in use. -/
theorem State.noJob_of_unused {s : State} (unused : ∀ k, k < 16 → s.ob (Obj.jobSlotId k) = 0xFFFF) :
    (upto 16).any (fun i => (s.jobOf i).isSome) = false := by
  refine List.any_eq_false.2 fun k mem => ?_
  have small : k < 16 := by simpa [upto] using mem
  simp [State.jobOf, unused k small]

/-- With no job slot in use the commit is accepted. -/
theorem State.commitEndpoint_ok {s : State} {ep grove : Nat} (unused : ∀ k, k < 16 → s.ob (Obj.jobSlotId k) = 0xFFFF) :
    s.commitEndpoint ep grove =
      (if ep == s.me && grove == s.ob Obj.groveId then s else (upto 9).foldl State.renewPort (s.setEndpoint ep grove), .ok) := by
  unfold State.commitEndpoint
  rw [if_neg (by rw [State.noJob_of_unused unused]; decide)]
  split <;> rfl

/-- Where no port is UP the change only trains ports. -/
theorem portsTrained_renewPorts {s : State} (down : ∀ n, n < 9 → s.portUp n = false) :
    PortsTrained s ((upto 9).foldl State.renewPort s) :=
  .foldl (fun _ _ small off => portsTrained_renewPort small off) _ s fun n mem =>
    have small : n < 9 := by simpa [upto] using mem
    ⟨small, down n small⟩

/-- Every port that is enabled and may train is in training once it has been renewed. -/
theorem State.renewPorts_portSt (l : List Nat) {s : State} {n : Nat} (small : ∀ k ∈ l, k < 9 ∧ s.portUp k = false) (mem : n ∈ l)
    (enabled : s.ob (Obj.portEnable n) ≠ 0) (may : s.mayTrain n) : (l.foldl State.renewPort s).portSt n = 1 := by
  induction l generalizing s with
  | nil => simp at mem
  | cons k l ih =>
    obtain ⟨small', down⟩ := small k List.mem_cons_self
    have first := portsTrained_renewPort small' down
    have rest : ∀ j ∈ l, j < 9 ∧ (s.renewPort k).portUp j = false := fun j mem' =>
      have ⟨small, off⟩ := small j (List.mem_cons_of_mem _ mem')
      ⟨small, first.down j small off⟩
    obtain ⟨smallN, downN⟩ := small n mem
    rcases List.mem_cons.1 mem with rfl | inTail
    · have now : (s.renewPort n).portSt n = 1 := by
        unfold State.renewPort
        rw [if_neg (by simpa using enabled), if_neg (by simp [down]), State.train_of_may may]
        exact s.enterPort_portSt n 0 (by decide)
      exact (PortsTrained.foldl (fun _ _ small off => portsTrained_renewPort small off) l _ rest).training n smallN now
    · refine ih rest inTail ?_ ⟨(first.held n).trans may.1, ?_⟩
      · rw [first.ob _ fun j small => ?_]
        · exact enabled
        · simp only [notOfPort, Obj.portEnable, Obj.portState, Obj.portPeer]
          omega
      · simpa only [State.cap, State.caps, first.edge] using may.2

end Sys2Proof.Machine
end

section
/-! PROOFS. The requests of the fabric (R222, R254, R257, R264); with them O5. -/

namespace Sys2Proof.Machine

/-! ## Ports -/

/-- PORT_ENABLE and PORT_REENABLE (Table 7-13). -/
def portEnableRow : ObjRow := { index := 0x5001, lo := 1, hi := 9, type := .bool, acc := .rw, default := 1, max := 1 }
def portReenableRow : ObjRow := { index := 0x5004, lo := 1, hi := 9, type := .bool, acc := .wo, max := 1 }

theorem hostWrites_portEnable {port : Nat} (small : port < 9) : HostWrites 0x5001 (port + 1) 1 portEnableRow where
  row _ := State.target_of_rowOf (by decide) (by omega) (by omega)
    (rowOf_of_run rfl (Nat.le_add_left ..) (show port + 1 ≤ 9 by omega))
  allowed _ := rfl
  sized := rfl
  some_ := by decide
  short := by decide
  notCommit := by omega
  unstaged := by decide
  noneStaged := rfl

theorem hostWrites_portReenable {port : Nat} (small : port < 9) : HostWrites 0x5004 (port + 1) 1 portReenableRow where
  row _ := State.target_of_rowOf (by decide) (by omega) (by omega)
    (rowOf_of_run rfl (Nat.le_add_left ..) (show port + 1 ≤ 9 by omega))
  allowed _ := rfl
  sized := rfl
  some_ := by decide
  short := by decide
  notCommit := by omega
  unstaged := by decide
  noneStaged := rfl

/-- A BOOL takes 0 and 1. -/
theorem State.takes_bool {s : State} {r : ObjRow} {index sub x : Nat} (type : r.type = .bool) (low : r.min = 0) (high : r.max = 1)
    (allowed : s.refusedValue index sub x = false) (small : x < 2) : s.takes r index sub x := by
  refine ⟨?_, rangeFault_of_mem (by omega) (by omega), allowed⟩
  unfold encodingFault
  rw [type]
  exact decide_eq_false (by omega)

theorem State.writeObject_portEnable {s : State} {v : Via} {hint : Option Nat} {port x : Nat} (small : x < 2) :
    s.writeObject v hint portEnableRow (valueMsg v 0x5001 (port + 1) x 1) = (s.enablePort port x, .ok) := by
  have value : ofBytes (valueMsg v 0x5001 (port + 1) x 1).data = x := ofBytes_value (by omega)
  have takes : s.takes portEnableRow 0x5001 (port + 1) x := State.takes_bool rfl rfl rfl rfl small
  unfold State.writeObject
  simp only [value]
  exact (if_neg takes.passes).trans rfl

theorem State.writeObject_portReenable {s : State} {v : Via} {hint : Option Nat} {port x : Nat} (small : x < 2) :
    s.writeObject v hint portReenableRow (valueMsg v 0x5004 (port + 1) x 1) = writeOne s x (fun s => (s.reenablePort port, .ok)) := by
  have value : ofBytes (valueMsg v 0x5004 (port + 1) x 1).data = x := ofBytes_value (by omega)
  have takes : s.takes portReenableRow 0x5004 (port + 1) x := State.takes_bool rfl rfl rfl rfl small
  unfold State.writeObject
  simp only [value]
  exact (if_neg takes.passes).trans rfl

/-! ## The endpoint -/

theorem hostCommits_endpoint (s : State) : HostCommits s 0x5000 := ⟨rfl, fun _ => rfl⟩

/-- The values of an endpoint commit: ENDPOINT_ID and GROVE_ID (Table 7-13). -/
theorem rwcRows_endpoint : rwcRows 0x5000 =
    [({ index := 0x5000, lo := 1, hi := 1, type := .u16, acc := .rwc, min := 1, max := 0xFFFE }, 1),
      ({ index := 0x5000, lo := 2, hi := 2, type := .u16, acc := .rwc, max := 4095 }, 2)] := by decide

theorem State.commitIndex_endpoint {s : State} {v : Via} (host : v.role = .host) (first : 1 ≤ s.stagedValue .host 0x5000 1)
    (last : s.stagedValue .host 0x5000 1 ≤ 0xFFFE) (grove : s.stagedValue .host 0x5000 2 ≤ 4095) :
    s.commitIndex v 0x5000 = s.commitEndpoint (s.stagedValue .host 0x5000 1) (s.stagedValue .host 0x5000 2) := by
  have reached : s.commitIndex v 0x5000 = match s.rangeFailure v.role 0x5000 with
      | some k => (s, .invalid (some k))
      | none => s.commitEndpoint (s.stagedValue v.role 0x5000 1) (s.stagedValue v.role 0x5000 2) := rfl
  have inRange : s.rangeFailure .host 0x5000 = none := by
    unfold State.rangeFailure
    rw [rwcRows_endpoint, List.find?_eq_none.2, Option.map_none]
    intro x mem
    simp only [List.mem_cons, List.not_mem_nil, or_false] at mem
    rcases mem with rfl | rfl
    · rw [rangeFault_of_mem first last]
      decide
    · rw [rangeFault_of_mem (Nat.zero_le _) grove]
      decide
  rw [reached, host, inRange]

/-- ENDPOINT_ID_COMMIT in range with no job slot in use, answered. -/
theorem exec_endpointIdCommit {s : State} {v : Via} (served : HostServed s v) {ep grove : Nat}
    (isEp : (s.takeRequest v).stagedValue .host 0x5000 1 = ep) (isGrove : (s.takeRequest v).stagedValue .host 0x5000 2 = grove)
    (first : 1 ≤ ep) (last : ep ≤ 0xFFFE) (inRange : grove ≤ 4095) (unused : ∀ k, k < 16 → s.ob (Obj.jobSlotId k) = 0xFFFF) :
    exec (.endpointIdCommit v) s =
      .next (s.answered (((s.takeRequest v).commitEndpoint ep grove).1.discard .host 0x5000) v (commitMsg v 0x5000) []) := by
  have unused' : ∀ k, k < 16 → (s.takeRequest v).ob (Obj.jobSlotId k) = 0xFFFF := fun k small => by
    rw [served.take_ob (by simp only [Obj.jobSlotId, Obj.dictRequests]; omega), unused k small]
  have index : (s.takeRequest v).commitIndex v 0x5000 = (((s.takeRequest v).commitEndpoint ep grove).1, .ok) := by
    subst isEp isGrove
    rw [State.commitIndex_endpoint served.role first last inRange, State.commitEndpoint_ok unused']
  have ran := served.commitReq (hostCommits_endpoint s) index
  rw [show alsoCommits 0x5000 = [] from rfl, List.foldl_cons, List.foldl_nil] at ran
  exact congrArg Host.Outcome.next ran

/-- The ports are renewed under the new endpoint (R264). -/
def State.renewed (s : State) (ep grove : Nat) : State := (upto 9).foldl State.renewPort (s.setEndpoint ep grove)

/-- What a change of the endpoint leaves where no port is UP (R264). -/
theorem State.renewed_leaves {s : State} {ep grove : Nat} (down : ∀ n, n < 9 → s.portUp n = false) :
    (s.renewed ep grove).ob Obj.endpointId = ep ∧ (s.renewed ep grove).ob Obj.groveId = grove ∧
      (∀ n, n < 9 → s.ob (Obj.portEnable n) ≠ 0 → s.mayTrain n → (s.renewed ep grove).portSt n = 1) ∧
      (s.renewed ep grove).mem = s.mem ∧ (s.renewed ep grove).chan = s.chan := by
  obtain ⟨isEp, isGrove, other⟩ := s.setEndpoint_ob ep grove
  have portKeys (n : Nat) (small : n < 9) : Obj.portState n ≠ Obj.endpointId ∧ Obj.portState n ≠ Obj.groveId ∧
      Obj.portEnable n ≠ Obj.endpointId ∧ Obj.portEnable n ≠ Obj.groveId := by
    simp only [Obj.portState, Obj.portEnable, Obj.endpointId, Obj.groveId]
    omega
  have endpointKeys (n : Nat) (small : n < 9) : notOfPort n Obj.endpointId ∧ notOfPort n Obj.groveId := by
    simp only [notOfPort, Obj.portState, Obj.portPeer, Obj.endpointId, Obj.groveId]
    omega
  have down' : ∀ n, n < 9 → (s.setEndpoint ep grove).portUp n = false := fun n small => by
    obtain ⟨ep', grove', -⟩ := portKeys n small
    rw [State.portUp, State.portSt, other _ ep' grove', ← State.portSt, ← State.portUp]
    exact down n small
  have trained : PortsTrained (s.setEndpoint ep grove) (s.renewed ep grove) := portsTrained_renewPorts down'
  refine ⟨?_, ?_, fun n small enabled may => ?_, trained.mem, trained.chan⟩
  · rw [trained.ob _ fun n small => (endpointKeys n small).1, isEp]
  · rw [trained.ob _ fun n small => (endpointKeys n small).2, isGrove]
  · refine State.renewPorts_portSt _ (fun k mem => ?_) (by simpa [upto] using small) ?_ may
    · have small' : k < 9 := by simpa [upto] using mem
      exact ⟨small', down' k small'⟩
    · obtain ⟨-, -, ep', grove'⟩ := portKeys n small
      rw [other _ ep' grove']
      exact enabled

/-- What the commit of an endpoint leaves where no port is UP (R264). -/
theorem State.commitEndpoint_leaves {s t : State} {ep grove : Nat} (unused : ∀ k, k < 16 → s.ob (Obj.jobSlotId k) = 0xFFFF)
    (down : ∀ n, n < 9 → s.portUp n = false) (is : (s.commitEndpoint ep grove).1 = t) :
    t.ob Obj.endpointId = ep ∧ t.ob Obj.groveId = grove ∧
      ((ep ≠ s.ob Obj.endpointId ∨ grove ≠ s.ob Obj.groveId) → ∀ n, n < 9 → s.ob (Obj.portEnable n) ≠ 0 → s.mayTrain n → t.portSt n = 1) ∧
      t.mem = s.mem ∧ t.chan = s.chan := by
  rw [State.commitEndpoint_ok unused] at is
  by_cases same : ep = s.ob Obj.endpointId ∧ grove = s.ob Obj.groveId
  · have kept : s = t := (if_pos (by simpa [State.me] using same)).symm.trans is
    obtain ⟨isEp, isGrove⟩ := same
    subst kept
    exact ⟨isEp.symm, isGrove.symm, fun changed => (changed.elim (· isEp) (· isGrove)).elim, rfl, rfl⟩
  · have changed : s.renewed ep grove = t := (if_neg (by simpa [State.me] using same)).symm.trans is
    subst changed
    obtain ⟨isEp, isGrove, trains, mem, chan⟩ := State.renewed_leaves (ep := ep) (grove := grove) down
    exact ⟨isEp, isGrove, fun _ => trains, mem, chan⟩

/-! ## Endpoint and plot tables -/

/-- What no step of a pass over a list changes, the pass does not change. -/
theorem foldl_field {α β : Type} {f : State → α → State} (field : State → β) (keeps : ∀ u x, field (f u x) = field u) (l : List α) (s : State) :
    field (l.foldl f s) = field s := by
  induction l generalizing s with
  | nil => rfl
  | cons x l ih => exact (ih _).trans (keeps s x)

/-- A list entered under its positions from `i` on is found there. -/
theorem foldl_entries {α σ : Type} {get : σ → Nat → α} {set : σ → Nat × α → σ} (same : ∀ s x, get (set s x) x.1 = x.2)
    (other : ∀ s x k, k ≠ x.1 → get (set s x) k = get s k) (d : α) (l : List α) :
    ∀ (s : σ) (i k : Nat), get (((List.range' i l.length).zip l).foldl set s) k =
      if i ≤ k ∧ k < i + l.length then l.getD (k - i) d else get s k := by
  induction l with
  | nil => exact fun s i k => (if_neg (by simp)).symm
  | cons x l ih =>
    intro s i k
    have step : ((List.range' i (x :: l).length).zip (x :: l)).foldl set s =
        ((List.range' (i + 1) l.length).zip l).foldl set (set s (i, x)) := rfl
    rw [step, ih, List.length_cons]
    rcases Nat.lt_trichotomy k i with before | here | after
    · rw [if_neg (by omega), if_neg (by omega), other _ _ _ (show k ≠ (i, x).1 from Nat.ne_of_lt before)]
    · rw [if_neg (by omega), if_pos (by omega), here, Nat.sub_self, List.getD_cons_zero]
      exact same s (i, x)
    · obtain ⟨j, rfl⟩ : ∃ j, k = i + 1 + j := ⟨k - i - 1, by omega⟩
      rw [show i + 1 + j - i = j + 1 by omega, show i + 1 + j - (i + 1) = j by omega, List.getD_cons_succ,
        other _ _ _ (show i + 1 + j ≠ (i, x).1 by simp; omega)]
      by_cases small : j < l.length
      · rw [if_pos (by omega), if_pos (by omega)]
      · rw [if_neg (by omega), if_neg (by omega)]

/-- A list entered under its positions is found there. -/
theorem foldl_upto {α σ : Type} {get : σ → Nat → α} {set : σ → Nat × α → σ} (same : ∀ s x, get (set s x) x.1 = x.2)
    (other : ∀ s x k, k ≠ x.1 → get (set s x) k = get s k) {l : List α} {s : σ} {k : Nat} (d : α) (small : k < l.length) :
    get (((upto l.length).zip l).foldl set s) k = l.getD k d := by
  rw [show upto l.length = List.range' 0 l.length from List.range_eq_range', foldl_entries same other d, if_pos (by omega), Nat.sub_zero]

theorem State.setEpt_ept (s : State) (v : Nat) (m : KMap EpEntry) : (s.setEpt v m).ept v = m := by
  by_cases zero : v = 0 <;> simp [State.setEpt, State.ept, zero]

/-- The two versions are kept apart. -/
theorem State.setEpt_ept_other (s : State) (e : Nat) (m : KMap EpEntry) : (s.setEpt (1 - e) m).ept e = s.ept e := by
  cases e <;> simp [State.setEpt, State.ept]

theorem State.setPlots_ept (s : State) (v slot w : Nat) (l : List Nat) : (s.setPlots v slot l).ept w = s.ept w := by
  by_cases zero : v = 0 <;> simp [State.setPlots, State.ept, zero]

theorem State.setEpt_plotTable (s : State) (v w slot : Nat) (m : KMap EpEntry) : (s.setEpt v m).plotTable w slot = s.plotTable w slot := by
  by_cases zero : v = 0 <;> simp [State.setEpt, State.plotTable, zero]

theorem State.setPlots_same (s : State) (v slot : Nat) (l : List Nat) : (s.setPlots v slot l).plotTable v slot = l := by
  by_cases zero : v = 0 <;> simp [State.setPlots, State.plotTable, zero]

theorem State.setPlots_other (s : State) (v : Nat) {slot k : Nat} (l : List Nat) (other : k ≠ slot) :
    (s.setPlots v slot l).plotTable v k = s.plotTable v k := by
  by_cases zero : v = 0 <;> simp [State.setPlots, State.plotTable, zero, kget_kset_other _ _ _ _ _ other]

theorem State.setPlots_version (s : State) (e slot k : Nat) (l : List Nat) : (s.setPlots (1 - e) slot l).plotTable e k = s.plotTable e k := by
  cases e <;> simp [State.setPlots, State.plotTable]

/-- The tables of the inactive version, set and ready (R254). -/
def State.tablesSet (s : State) (ept : KMap EpEntry) (plots : List (List Nat)) : State :=
  let t := ((upto plots.length).zip plots).foldl (fun t x => t.setPlots (1 - s.epoch) x.1 x.2) (s.setEpt (1 - s.epoch) ept)
  { t with fab := { t.fab with ready := true } }

theorem State.commitTables_ok {s : State} {e : List EpEntry} {p : List (List Nat)}
    (unreserved : e.all (fun x => !EpEntry.reservedSet x) = true) (routes : endpointsOk s.me ((upto e.length).zip e) = true)
    (plots : plotsOk ((upto e.length).zip e)
      (((upto p.length).zip p).map (fun x => (if (s.jobOf x.1).isSome then s.ob (Obj.plotCount x.1) else 0, x.2))) = true)
    (still : s.switching = false) : s.commitTables e p = (s.tablesSet ((upto e.length).zip e) p, .ok) := by
  have reserved : e.any EpEntry.reservedSet = false := by
    simpa [List.any_eq_false, List.all_eq_true] using unreserved
  unfold State.commitTables
  rw [if_neg (by simp [reserved, routes]), if_neg, if_neg (by simp [still])]
  · rfl
  · simpa using plots

theorem State.tablesSet_leaves (s : State) (ept : KMap EpEntry) (plots : List (List Nat)) :
    let t := s.tablesSet ept plots
    t.ept (1 - s.epoch) = ept ∧ t.ept s.epoch = s.ept s.epoch ∧ (∀ slot, slot < plots.length → t.plotTable (1 - s.epoch) slot = plots.getD slot []) ∧
      (∀ slot, t.plotTable s.epoch slot = s.plotTable s.epoch slot) ∧ t.dict = s.dict ∧ t.mem = s.mem ∧ t.chan = s.chan := by
  refine ⟨?_, ?_, fun slot small => ?_, fun slot => ?_, ?_, ?_, ?_⟩
  · exact (foldl_field (·.ept (1 - s.epoch)) (fun u _ => u.setPlots_ept ..) _ _).trans (s.setEpt_ept _ _)
  · exact (foldl_field (·.ept s.epoch) (fun u _ => u.setPlots_ept ..) _ _).trans (s.setEpt_ept_other _ _)
  · exact foldl_upto (get := fun (u : State) k => u.plotTable (1 - s.epoch) k) (fun u _ => u.setPlots_same ..)
      (fun u _ _ other => u.setPlots_other _ _ other) [] small
  · exact (foldl_field (·.plotTable s.epoch slot) (fun u _ => u.setPlots_version ..) _ _).trans (s.setEpt_plotTable ..)
  · exact foldl_field (f := fun t (x : Nat × List Nat) => t.setPlots (1 - s.epoch) x.1 x.2) State.dict (fun _ _ => rfl) _ _
  · exact foldl_field (f := fun t (x : Nat × List Nat) => t.setPlots (1 - s.epoch) x.1 x.2) State.mem (fun _ _ => rfl) _ _
  · exact foldl_field (f := fun t (x : Nat × List Nat) => t.setPlots (1 - s.epoch) x.1 x.2) State.chan (fun _ _ => rfl) _ _

theorem State.commitIndex_tables {s : State} {v : Via} {e : List EpEntry} {p : List (List Nat)} (host : v.role = .host)
    (entries : (s.stagedEntries .host 0x5010 1 16).map (fun x => x.map (BitVec.ofNat 128)) = some e)
    (plots : s.stagedTables .host 0x5011 2 = .ok p) : s.commitIndex v 0x5010 = s.commitTables e p := by
  obtain ⟨staged, taken, rfl⟩ := Option.map_eq_some_iff.1 entries
  simp only [State.commitIndex, host]
  rw [taken, plots]
  rfl

/-! ## A switch of epochs -/

theorem State.respond_later (s : State) (v : Via) (m : DictMsg) : s.respond v m .later = s := rfl

def epochSwitchRow : ObjRow := { index := 0x5012, lo := 1, hi := 1, type := .u8, acc := .wo, max := 1 }

theorem hostWrites_epochSwitch : HostWrites 0x5012 1 1 epochSwitchRow where
  row _ := State.target_of_rowOf (by decide) (by omega) (by omega) (by decide)
  allowed _ := rfl
  sized := rfl
  some_ := by decide
  short := by decide
  notCommit := by omega
  unstaged := by decide
  noneStaged := rfl

theorem State.writeObject_epochSwitch {s : State} {v : Via} {hint : Option Nat} :
    s.writeObject v hint epochSwitchRow (valueMsg v 0x5012 1 1 1) = s.startSwitch v := by
  have value : ofBytes (valueMsg v 0x5012 1 1 1).data = 1 := ofBytes_value (by omega)
  have takes : s.takes epochSwitchRow 0x5012 1 1 := ⟨rfl, rfl, rfl⟩
  unfold State.writeObject
  simp only [value]
  exact (if_neg takes.passes).trans rfl

/-- A switch that has begun and still waits for answers (Table 7-9, events 1 and 2). -/
def State.switchBegun (s : State) (v : Via) : State :=
  let t := s.setOb Obj.drainState 1
  s.liveGrove.foldl (fun u e => u.control e .readyQuery) { t with fab := { t.fab with switch := { via := some v, queries := s.liveGrove } } }

theorem State.switchBegun_leaves (s : State) (v : Via) : (s.switchBegun v).dict = (s.setOb Obj.drainState 1).dict ∧
    (s.switchBegun v).fab.switch = { via := some v, queries := s.liveGrove } ∧ (s.switchBegun v).mem = s.mem ∧ (s.switchBegun v).chan = s.chan :=
  ⟨foldl_field (f := fun u e => u.control e .readyQuery) State.dict (fun _ _ => rfl) _ _,
    foldl_field (f := fun u e => u.control e .readyQuery) (·.fab.switch) (fun _ _ => rfl) _ _,
    foldl_field (f := fun u e => u.control e .readyQuery) State.mem (fun _ _ => rfl) _ _,
    foldl_field (f := fun u e => u.control e .readyQuery) State.chan (fun _ _ => rfl) _ _⟩

theorem State.startSwitch_later {s : State} {v : Via} (still : s.switching = false) (first : s.coordinator = s.me) (trained : s.me ≠ 0)
    (ready : s.fab.ready = true) (others : s.liveGrove ≠ []) : s.startSwitch v = (s.switchBegun v, .later) := by
  obtain ⟨-, switch, -⟩ := s.switchBegun_leaves v
  have waits : (s.switchBegun v).queriesAnswered = s.switchBegun v := by
    unfold State.queriesAnswered
    rw [if_pos]
    simp [switch, others]
  unfold State.startSwitch
  rw [if_neg (by simp [still]), if_neg (by simp [first, trained]), if_neg (by simp [ready])]
  exact congrArg (·, Reply.later) waits

/-! ## The requests -/

theorem State.jobOf_isSome {s : State} {slot : Nat} (used : (s.jobOf slot).isSome = true) : slot < 16 ∧ s.ob (Obj.jobSlotId slot) < 4096 := by
  simp only [State.jobOf] at used
  split at used
  · assumption
  · simp at used

/-- A request that arrives leaves the jobs of the slots. -/
theorem HostServed.take_jobOf {s : State} {v : Via} (served : HostServed s v) (slot : Nat) : (s.takeRequest v).jobOf slot = s.jobOf slot := by
  by_cases small : slot < 16
  · simp only [State.jobOf]
    rw [served.take_ob (by simp only [Obj.jobSlotId, Obj.dictRequests]; omega)]
  · simp [State.jobOf, small]

section
variable {s : State} {v : Via} (served : HostServed s v)
include served

/-- What ENDPOINT_ID_COMMIT leaves where no port is UP. -/
theorem exec_endpointIdCommit_leaves {w : State} {ep grove : Nat} (unused : ∀ k, k < 16 → s.ob (Obj.jobSlotId k) = 0xFFFF)
    (down : ∀ n, n < 9 → s.portUp n = false) (is : ((s.takeRequest v).commitEndpoint ep grove).1 = w) :
    let t := s.answered (w.discard .host 0x5000) v (commitMsg v 0x5000) []
    t.ob Obj.endpointId = ep ∧ t.ob Obj.groveId = grove ∧
      ((ep ≠ s.ob Obj.endpointId ∨ grove ≠ s.ob Obj.groveId) → ∀ n, n < 9 → s.ob (Obj.portEnable n) ≠ 0 → (s.port n).heldByReset = false →
        (n < 7 ∨ s.cap 1 = true) → t.portSt n = 1) ∧
      t.dict.responseBuf.2 = 0 ∧ t.mem = s.mem ∧ t.chan = s.chan := by
  have host := served.role
  have take (k : Nat) (other : k ≠ Obj.dictRequests 0) := served.take_ob other
  have slot (k : Nat) (small : k < 16) : (s.takeRequest v).ob (Obj.jobSlotId k) = s.ob (Obj.jobSlotId k) :=
    take _ (by simp only [Obj.jobSlotId, Obj.dictRequests]; omega)
  have port (n : Nat) (small : n < 9) : (s.takeRequest v).portUp n = s.portUp n := by
    rw [State.portUp, State.portSt, take _ (by simp only [Obj.portState, Obj.dictRequests]; omega), ← State.portSt, ← State.portUp]
  obtain ⟨isEp, isGrove, trains, mem, chan⟩ := State.commitEndpoint_leaves (fun k small => (slot k small).trans (unused k small))
    (fun n small => (port n small).trans (down n small)) is
  refine ⟨?_, ?_, fun changed n small enabled free uplink => ?_, State.answered_ok host, ?_, ?_⟩
  · rw [State.answered_ob host, State.discard_ob, isEp]
  · rw [State.answered_ob host, State.discard_ob, isGrove]
  · rw [State.portSt, State.answered_ob host, State.discard_ob, ← State.portSt]
    refine trains ?_ n small ?_ ⟨?_, ?_⟩
    · rwa [take _ (by decide), take _ (by decide)]
    · rwa [take _ (by simp only [Obj.portEnable, Obj.dictRequests]; omega)]
    · rwa [State.port_congr served.take_fab]
    · rwa [served.take_cap]
  · rw [State.answered_mem host, State.discard_mem, mem, served.take_mem]
  · rw [State.answered_chan host, State.discard_chan, chan, served.take_chan]

/-- What ENDPOINT_TABLE_COMMIT leaves (R254). -/
theorem exec_endpointTableCommit {e : List EpEntry} {p : List (List Nat)}
    (committed : (s.takeRequest v).commitIndex v 0x5010 = ((s.takeRequest v).tablesSet ((upto e.length).zip e) p, .ok)) :
    ∃ t, exec (.endpointTableCommit v) s = .next t ∧ t.ept (1 - s.epoch) = (upto e.length).zip e ∧ t.ept s.epoch = s.ept s.epoch ∧
      (∀ slot, slot < p.length → t.plotTable (1 - s.epoch) slot = p.getD slot []) ∧
      (∀ slot, t.plotTable s.epoch slot = s.plotTable s.epoch slot) ∧ t.fab.ready = true ∧ t.epoch = s.epoch ∧
      t.dict.responseBuf.2 = 0 ∧ t.mem = s.mem ∧ t.chan = s.chan := by
  have host := served.role
  have epoch : (s.takeRequest v).epoch = s.epoch := served.take_ob (by decide)
  have fab := served.take_fab
  have leaves := (s.takeRequest v).tablesSet_leaves ((upto e.length).zip e) p
  rw [epoch] at leaves
  obtain ⟨inactive, active, plots, kept, dict, mem, chan⟩ := leaves
  have ran := served.commitReq (index := 0x5010) ⟨rfl, fun _ => rfl⟩ committed
  rw [show alsoCommits 0x5010 = [0x5011] from rfl, List.foldl_cons, List.foldl_cons, List.foldl_nil] at ran
  have same := State.answered_fab (s := s) (u := (((s.takeRequest v).tablesSet ((upto e.length).zip e) p).discard .host 0x5010).discard .host 0x5011)
    (v := v) (m := commitMsg v 0x5010) (d := []) host
  rw [State.discard_fab, State.discard_fab] at same
  have ept {a b : State} (f : a.fab = b.fab) (w : Nat) : a.ept w = b.ept w := by simp only [State.ept, f]
  have plotTable {a b : State} (f : a.fab = b.fab) (w k : Nat) : a.plotTable w k = b.plotTable w k := by simp only [State.plotTable, f]
  refine ⟨_, (congrArg Host.Outcome.next ran : exec (.endpointTableCommit v) s = _), ?_, ?_, fun slot small => ?_, fun slot => ?_, ?_, ?_,
    State.answered_ok host, ?_, ?_⟩
  · rw [ept same, inactive]
  · rw [ept same, active, ept fab]
  · rw [plotTable same, plots slot small]
  · rw [plotTable same, kept, plotTable fab]
  · rw [same]
    rfl
  · rw [State.epoch, State.answered_ob host, State.discard_ob, State.discard_ob, State.ob_congr (congrArg DictSt.objs dict), ← State.epoch, epoch]
  · rw [State.answered_mem host, State.discard_mem, State.discard_mem, mem, served.take_mem]
  · rw [State.answered_chan host, State.discard_chan, State.discard_chan, chan, served.take_chan]

/-- What a write of EPOCH_SWITCH at the coordinator leaves (Table 7-9, events 1 and 2). -/
theorem exec_epochSwitch (started : (s.takeRequest v).startSwitch v = ((s.takeRequest v).switchBegun v, .later)) :
    ∃ t, exec (.epochSwitch v 1) s = .next t ∧ t.ob Obj.drainState = 1 ∧ t.fab.switch.queries = (s.takeRequest v).liveGrove ∧ t.epoch = s.epoch ∧
      t.mem = s.mem ∧ t.chan = s.chan := by
  obtain ⟨dict, switch, mem, chan⟩ := (s.takeRequest v).switchBegun_leaves v
  have ran := served.writeReq_reply hostWrites_epochSwitch.toWritesValue (hostWrites_epochSwitch.allowed _) fun _ => State.writeObject_epochSwitch.trans started
  rw [State.respond_later, State.persist_rest] at ran
  refine ⟨_, (congrArg Host.Outcome.next ran : exec (.epochSwitch v 1) s = _), ?_, congrArg Switch.queries switch, ?_,
    mem.trans served.take_mem, chan.trans served.take_chan⟩
  · exact (State.ob_congr (congrArg DictSt.objs dict) _).trans (State.setOb_same ..)
  · exact ((State.ob_congr (congrArg DictSt.objs dict) _).trans (State.setOb_other _ _ _ _ (by decide))).trans (served.take_ob (by decide))

end

/-- Settles O5: each request reaches its effect, whose frame is that of ports that train, of the inactive version's tables, and of the
queries of a switch. -/
theorem fabricRequestsComplete : Obligations.FabricRequestsComplete := by
  unfold Obligations.FabricRequestsComplete
  intro s v served
  have me : (s.takeRequest v).me = s.me := served.take_ob (by decide)
  have epoch : (s.takeRequest v).epoch = s.epoch := served.take_ob (by decide)
  have fab := served.take_fab
  have switching : (s.takeRequest v).switching = s.switching := by
    rw [State.switching, State.switching, fab, served.take_ob (by decide)]
  have grove : (s.takeRequest v).liveGrove = s.liveGrove := by
    simp only [State.liveGrove, State.ept, fab, me, epoch]
  refine ⟨fun port value inRange small => ?_, fun port inRange => ⟨?_, ?_⟩, fun ep grove' isEp isGrove first last inRange unused => ?_,
    fun e p entries plots unreserved routes counts still => ?_, fun still first trained ready others => ?_⟩
  · exact congrArg Host.Outcome.next (served.writeReq (hostWrites_portEnable inRange) fun _ => State.writeObject_portEnable small)
  · exact congrArg Host.Outcome.next (served.writeReq (hostWrites_portReenable inRange) fun _ => State.writeObject_portReenable (by decide))
  · exact congrArg Host.Outcome.next (served.writeReq (hostWrites_portReenable inRange) fun _ => State.writeObject_portReenable (by decide))
  · exact ⟨_, exec_endpointIdCommit served isEp isGrove first last inRange unused, rfl,
      fun down => exec_endpointIdCommit_leaves served unused down rfl⟩
  · refine exec_endpointTableCommit served ((State.commitIndex_tables served.role entries plots).trans ?_)
    refine State.commitTables_ok unreserved (by rw [me]; exact routes) ?_ (by rw [switching]; exact still)
    have slots : ((upto p.length).zip p).map (fun x => (if ((s.takeRequest v).jobOf x.1).isSome then (s.takeRequest v).ob (Obj.plotCount x.1) else 0, x.2)) =
        ((upto p.length).zip p).map (fun x => (if (s.jobOf x.1).isSome then s.ob (Obj.plotCount x.1) else 0, x.2)) := by
      refine List.map_congr_left fun x _ => ?_
      rw [served.take_jobOf]
      split
      · next used =>
        obtain ⟨small, -⟩ := State.jobOf_isSome used
        rw [served.take_ob (by simp only [Obj.plotCount, Obj.dictRequests]; omega)]
      · rfl
    rw [slots]
    exact counts
  · rw [← grove]
    refine exec_epochSwitch served (State.startSwitch_later (switching.trans still) ?_ (by rwa [me]) (by rw [fab]; exact ready) (by rwa [grove]))
    simp only [State.coordinator, grove, me]
    exact first

end Sys2Proof.Machine
end

section
/-! PROOFS. The requests of chapter 8 (R276, R277, R285, R292, R295, R296, R392); with them O6. -/

namespace Sys2Proof.Machine

/-! ## Stands -/

theorem State.modStand_same (s : State) (n : Nat) (f : StandSt → StandSt) : (s.modStand n f).stand n = f (s.stand n) := s.setStand_same n _
theorem State.modStand_other (s : State) {n k : Nat} (f : StandSt → StandSt) (other : k ≠ n) : (s.modStand n f).stand k = s.stand k :=
  s.setStand_other n k _ other

theorem State.stand_congr {s t : State} (same : t.stands = s.stands) (n : Nat) : t.stand n = s.stand n := by
  unfold State.stand
  rw [same]

/-- A stand without a running task takes a decision without an abort (R278). -/
theorem State.fenceDecide_of_idle {s : State} {n : Nat} (idle : s.runningOn n = none) (fence bypass state : Nat) :
    s.fenceDecide n fence bypass state = s.decideStand n fence bypass state := by
  have still : (s.decideStand n fence bypass state).runningOn n = none := idle
  unfold State.fenceDecide
  simp only [still]

/-- A suite that falls due on a stand of the module that is not fenced (R276). -/
theorem State.needTest_of_sound {s : State} {n : Nat} (small : n < 192) (sound : s.fenced n = false) (why : TestReason) :
    s.needTest n why = (s.modStand n (fun x => { x with
      worksSince := s.now, selfTest := some (if why == .suspect then why else (x.selfTest).getD why) })).setOb (Obj.standState n) 1 :=
  if_neg (by simp [small, sound])

section
variable {s : State} {n : Nat} (small : n < 192) (sound : s.fenced n = false) (why : TestReason)
include small sound

theorem State.needTest_stand : (s.needTest n why).stand n =
    { s.stand n with worksSince := s.now, selfTest := some (if why == .suspect then why else ((s.stand n).selfTest).getD why) } := by
  rw [State.needTest_of_sound small sound]
  exact (State.stand_congr (State.setOb_stands ..) n).trans (s.modStand_same n _)

theorem State.needTest_stand_other {k : Nat} (other : k ≠ n) : (s.needTest n why).stand k = s.stand k := by
  rw [State.needTest_of_sound small sound]
  exact (State.stand_congr (State.setOb_stands ..) k).trans (s.modStand_other _ other)

theorem State.needTest_ob : (s.needTest n why).ob (Obj.standState n) = 1 := by
  rw [State.needTest_of_sound small sound, State.setOb_same]

end

theorem State.needTest_frame (s : State) (n : Nat) (why : TestReason) : (s.needTest n why).mem = s.mem ∧ (s.needTest n why).chan = s.chan ∧
    (∀ k, k ≠ Obj.standState n → (s.needTest n why).ob k = s.ob k) := by
  unfold State.needTest
  split
  · exact ⟨rfl, rfl, fun _ _ => rfl⟩
  · exact ⟨rfl, rfl, fun k other => State.setOb_other _ _ _ _ other⟩

/-! ## The rows of the requests -/

/-- The row of an object that is written by value at once (Table 8-9). -/
theorem hostWrites_of_row {index sub n : Nat} {r : ObjRow} (plain : index ≠ 0x9020 ∧ index ≠ 0x9021) (inside : sub ≠ 0 ∧ sub ≠ 0xFF)
    (row : rowOf index sub = some r) (size : r.type.size = n ∧ 0 < n ∧ n ≤ 1024)
    (unstaged : r.acc ≠ .rwc ∧ (rowsAt index).any (fun r => r.acc == .rwc) = false) : WritesValue index sub n r where
  row _ := State.target_of_rowOf plain inside.1 inside.2 row
  sized := size.1
  some_ := size.2.1
  short := size.2.2
  notCommit := inside.2
  unstaged := unstaged.1
  noneStaged := unstaged.2

def standFenceRow : ObjRow := { index := 0x6003, lo := 1, hi := 192, type := .bool, acc := .wo, max := 1 }
def selfTestRow : ObjRow := { index := 0xF001, lo := 1, hi := 192, type := .bool, acc := .wo, max := 1 }
def errorAckRow : ObjRow := { index := 0x6050, lo := 2, hi := 2, type := .u32, acc := .wo }
def overflowRow : ObjRow := { index := 0x6050, lo := 3, hi := 3, type := .bool, acc := .rw, max := 1 }
def cperAckRow : ObjRow := { index := 0x6060, lo := 2, hi := 2, type := .u32, acc := .wo }

theorem writes_standFence {n : Nat} (small : n < 192) : WritesValue 0x6003 (n + 1) 1 standFenceRow :=
  hostWrites_of_row (by decide) (by omega) (rowOf_of_run rfl (Nat.le_add_left ..) (show n + 1 ≤ 192 by omega)) (by decide) (by decide)
theorem writes_selfTest {n : Nat} (small : n < 192) : WritesValue 0xF001 (n + 1) 1 selfTestRow :=
  hostWrites_of_row (by decide) (by omega) (rowOf_of_run rfl (Nat.le_add_left ..) (show n + 1 ≤ 192 by omega)) (by decide) (by decide)
theorem writes_errorAck : WritesValue 0x6050 2 4 errorAckRow := hostWrites_of_row (by decide) (by decide) (by decide) (by decide) (by decide)
theorem writes_overflow : WritesValue 0x6050 3 1 overflowRow := hostWrites_of_row (by decide) (by decide) (by decide) (by decide) (by decide)
theorem writes_cperAck : WritesValue 0x6060 2 4 cperAckRow := hostWrites_of_row (by decide) (by decide) (by decide) (by decide) (by decide)

section
variable {s : State} {v : Via} {hint : Option Nat}

theorem State.writeObject_standFence {n : Nat} :
    s.writeObject v hint standFenceRow (valueMsg v 0x6003 (n + 1) 1 1) = s.requestFence n 1 := by
  have value : ofBytes (valueMsg v 0x6003 (n + 1) 1 1).data = 1 := ofBytes_value (by omega)
  have takes : s.takes standFenceRow 0x6003 (n + 1) 1 := ⟨rfl, rfl, rfl⟩
  unfold State.writeObject
  simp only [value]
  exact (if_neg takes.passes).trans rfl

theorem State.writeObject_selfTest {n : Nat} :
    s.writeObject v hint selfTestRow (valueMsg v 0xF001 (n + 1) 1 1) = s.requestTest n 1 := by
  have value : ofBytes (valueMsg v 0xF001 (n + 1) 1 1).data = 1 := ofBytes_value (by omega)
  have takes : s.takes selfTestRow 0xF001 (n + 1) 1 := ⟨rfl, rfl, rfl⟩
  unfold State.writeObject
  simp only [value]
  exact (if_neg takes.passes).trans rfl

theorem State.writeObject_errorAck {r : Nat} (small : r < 2 ^ 32) :
    s.writeObject v hint errorAckRow (valueMsg v 0x6050 2 r 4) = s.ackRecord r := by
  have value : ofBytes (valueMsg v 0x6050 2 r 4).data = r := ofBytes_value (by omega)
  have takes : s.takes errorAckRow 0x6050 2 r := ⟨rfl, rangeFault_of_mem (Nat.zero_le _) (show r ≤ 2 ^ 64 - 1 by omega), rfl⟩
  unfold State.writeObject
  simp only [value]
  exact (if_neg takes.passes).trans rfl

theorem State.writeObject_overflow :
    s.writeObject v hint overflowRow (valueMsg v 0x6050 3 0 1) = s.clearOverflow 0 := by
  have value : ofBytes (valueMsg v 0x6050 3 0 1).data = 0 := ofBytes_value (by omega)
  have takes : s.takes overflowRow 0x6050 3 0 := ⟨rfl, rfl, rfl⟩
  unfold State.writeObject
  simp only [value]
  exact (if_neg takes.passes).trans rfl

theorem State.writeObject_cperAck {r : Nat} (small : r < 2 ^ 32) :
    s.writeObject v hint cperAckRow (valueMsg v 0x6060 2 r 4) = s.ackCper r := by
  have value : ofBytes (valueMsg v 0x6060 2 r 4).data = r := ofBytes_value (by omega)
  have takes : s.takes cperAckRow 0x6060 2 r := ⟨rfl, rangeFault_of_mem (Nat.zero_le _) (show r ≤ 2 ^ 64 - 1 by omega), rfl⟩
  unfold State.writeObject
  simp only [value]
  exact (if_neg takes.passes).trans rfl

end

/-! ## Tables of sixteen slots -/

/-- One more table is taken, where it has a length. -/
def takeTable (get : Nat → Option (List Nat)) (acc : Except Nat (List (List Nat))) (k : Nat) : Except Nat (List (List Nat)) :=
  match acc, get k with
  | .error e, _ => .error e
  | .ok _, none => .error (k + 1)
  | .ok l, some t => .ok (l ++ [t])

theorem foldl_takeTable_error (get : Nat → Option (List Nat)) (ks : List Nat) (e : Nat) : ks.foldl (takeTable get) (.error e) = .error e := by
  induction ks with
  | nil => rfl
  | cons k ks ih => exact ih

/-- Tables that are all taken have a length each. -/
theorem foldl_takeTable_ok (get : Nat → Option (List Nat)) (ks : List Nat) (acc : List (List Nat)) {l : List (List Nat)}
    (taken : ks.foldl (takeTable get) (.ok acc) = .ok l) : ∃ t, l = acc ++ t ∧ ks.map get = t.map some := by
  induction ks generalizing acc with
  | nil => exact ⟨[], by simpa using (Except.ok.inj taken).symm, rfl⟩
  | cons k ks ih =>
    rw [List.foldl_cons] at taken
    cases entry : get k with
    | none =>
      simp only [takeTable, entry, foldl_takeTable_error] at taken
      exact absurd taken nofun
    | some x =>
      simp only [takeTable, entry] at taken
      obtain ⟨t, rfl, rest⟩ := ih _ taken
      exact ⟨x :: t, by simp, by simp [entry, rest]⟩

/-- The sixteen tables of an index are those staged or in force for its subindices (R386). -/
theorem State.stagedTables_ok {s : State} {role : Role} {index entry : Nat} {l : List (List Nat)}
    (staged : s.stagedTables role index entry = .ok l) :
    l.length = 16 ∧ ∀ k, k < 16 → s.stagedEntries role index (k + 1) entry = some (l.getD k []) := by
  obtain ⟨t, rfl, entries⟩ := foldl_takeTable_ok (fun k => s.stagedEntries role index (k + 1) entry) (upto 16) [] staged
  have length : l.length = 16 := by
    have := congrArg List.length entries
    simpa using this.symm
  refine ⟨length, fun k small => ?_⟩
  have at_k : (some (s.stagedEntries role index (k + 1) entry)) = some (some (l[k]'(by omega))) := by
    have := congrArg (fun m => m[k]?) entries
    simpa [small, length] using this
  simpa [List.getD_eq_getElem?_getD, length, small] using Option.some.inj at_k

/-- No table of sixteen fails where all have a length and pass. -/
theorem State.badTable_none {s : State} {role : Role} {index entry : Nat} {l : List (List Nat)} {ok : Nat → List Nat → Bool}
    (staged : s.stagedTables role index entry = .ok l) (good : ∀ slot, slot < l.length → ok slot (l.getD slot []) = true) :
    s.badTable role index entry ok = none := by
  obtain ⟨length, entries⟩ := State.stagedTables_ok staged
  unfold State.badTable
  rw [List.find?_eq_none.2, Option.map_none]
  intro k mem
  have small : k < 16 := by simpa [upto] using mem
  simpa [entries k small] using good k (by omega)

/-- The replica tables, set (R285). -/
def State.replicasSet (s : State) (tables : List (List Replica)) : State :=
  ((upto tables.length).zip tables).foldl (fun t x => { t with fire := { t.fire with replicas := kset t.fire.replicas x.1 x.2 } }) s

theorem State.replicasSet_leaves (s : State) (tables : List (List Replica)) :
    (∀ slot, slot < tables.length → kget (s.replicasSet tables).fire.replicas [] slot = tables.getD slot []) ∧
      (s.replicasSet tables).mem = s.mem ∧ (s.replicasSet tables).chan = s.chan := by
  let step (t : State) (x : Nat × List Replica) : State := { t with fire := { t.fire with replicas := kset t.fire.replicas x.1 x.2 } }
  refine ⟨fun slot small => ?_, foldl_field (f := step) State.mem (fun _ _ => rfl) _ _, foldl_field (f := step) State.chan (fun _ _ => rfl) _ _⟩
  exact foldl_upto (get := fun (t : State) k => kget t.fire.replicas [] k) (set := step) (fun _ _ => kget_kset_same ..)
    (fun _ _ _ other => kget_kset_other _ _ _ _ _ other) [] small

/-- What is entered under its position stands in the list. -/
theorem getD_of_mem_zip_upto {α : Type} {l : List α} {x : Nat × α} (d : α) (mem : x ∈ (upto l.length).zip l) :
    x.1 < l.length ∧ l.getD x.1 d = x.2 := by
  obtain ⟨k, small, rfl⟩ := List.getElem_of_mem mem
  simp only [List.length_zip, List.length_range, Nat.min_self] at small
  simp [small]

theorem State.commitReplicas_ok {s : State} {tables : List (List Replica)}
    (ok : ∀ slot, slot < tables.length → (tables.getD slot []).all (s.replicaOk slot) = true) :
    s.commitReplicas tables = (s.replicasSet tables, .ok) := by
  have passes : ((upto tables.length).zip tables).find? (fun (slot, l) => !l.all (s.replicaOk slot)) = none := by
    refine List.find?_eq_none.2 fun x mem => ?_
    obtain ⟨small, entry⟩ := getD_of_mem_zip_upto [] mem
    have := ok x.1 small
    rw [entry] at this
    simpa using this
  unfold State.commitReplicas
  rw [passes]
  rfl

theorem State.commitIndex_replicas {s : State} {v : Via} {l : List (List Nat)} (host : v.role = .host)
    (staged : s.stagedTables .host 0x6041 16 = .ok l)
    (ok : ∀ slot, slot < l.length → ((l.getD slot []).map (BitVec.ofNat 128)).all (s.replicaOk slot) = true) :
    s.commitIndex v 0x6041 = (s.replicasSet (l.map fun l => l.map (BitVec.ofNat 128)), .ok) := by
  have reached : s.commitIndex v 0x6041 = s.commitReplicas (l.map fun l => l.map (BitVec.ofNat 128)) := by
    simp only [State.commitIndex, host]
    rw [State.badTable_none staged ok, staged]
    rfl
  rw [reached]
  refine State.commitReplicas_ok fun slot small => ?_
  have := ok slot (by simpa using small)
  simp only [List.length_map] at small
  simpa [List.getD_eq_getElem?_getD, small] using this

/-! ## What the requests leave -/

section
variable {s : State} {v : Via} (served : HostServed s v)
include served

theorem HostServed.take_fenced {n : Nat} (small : n < 192) : (s.takeRequest v).fenced n = s.fenced n := by
  unfold State.fenced
  rw [served.take_ob (by simp only [Obj.standState, Obj.dictRequests]; omega)]

/-- STAND_FENCE of an idle stand is decided (R277). -/
theorem exec_standFence {n : Nat} (small : n < 192) (sound : s.fenced n = false) (idle : s.runningOn n = none) (undecided : (s.stand n).pendState = 0) :
    ∃ t, exec (.standFence v n 1) s = .next t ∧ (t.stand n).pendState = 8 ∧ (∀ k, k ≠ n → t.stand k = s.stand k) ∧
      t.chan = s.chan ∧ t.mem = s.mem ∧ t.dict.responseBuf.2 = 0 := by
  have host := served.role
  have stand (k : Nat) := State.stand_congr served.take_stands k
  have decided : (s.takeRequest v).requestFence n 1 = ((s.takeRequest v).decideStand n 0 0 8, .ok) := by
    unfold State.requestFence
    rw [if_neg (by simp [served.take_fenced small, sound]), State.fenceDecide_of_idle]
    rw [served.take]
    exact idle
  have answered (w : State) (m : DictMsg) (k : Nat) : (s.answered w v m []).stand k = w.stand k := State.stand_congr (State.answered_stands host) k
  refine ⟨_, congrArg Host.Outcome.next (served.writeReq_ok (writes_standFence small) rfl fun _ => State.writeObject_standFence.trans decided),
    ?_, fun k other => ?_, ?_, ?_, State.answered_ok host⟩
  · refine (congrArg StandSt.pendState ((answered _ _ n).trans (State.modStand_same ..))).trans ?_
    simp [stand, undecided]
  · exact ((answered _ _ k).trans (State.modStand_other _ _ other)).trans (stand k)
  · exact (State.answered_chan host).trans served.take_chan
  · exact (State.answered_mem host).trans served.take_mem

/-- SELF_TEST_NOW under diagnosis makes a suite due (R276, R392). -/
theorem exec_selfTestNow {n : Nat} (small : n < 192) (diagnosis : s.ob Obj.diagEnable = 1) (sound : s.fenced n = false) :
    ∃ t, exec (.selfTestNow v n 1) s = .next t ∧ ((t.stand n).selfTest).isSome = true ∧ t.ob (Obj.standState n) = 1 ∧
      (∀ k, k ≠ n → t.stand k = s.stand k) ∧ t.chan = s.chan ∧ t.mem = s.mem ∧ t.dict.responseBuf.2 = 0 := by
  have host := served.role
  have allowed : (s.takeRequest v).denied .host selfTestRow 2 = false := by
    have on : (s.takeRequest v).ob Obj.diagEnable = 1 := (served.take_ob (by decide)).trans diagnosis
    have right : mayWrite (s.takeRequest v) .host selfTestRow = true := rfl
    simp [State.denied, on, right]
  have due : (s.takeRequest v).requestTest n 1 = ((s.takeRequest v).needTest n .request, .ok) := rfl
  have sound' := (served.take_fenced small).trans sound
  obtain ⟨mem, chan, -⟩ := (s.takeRequest v).needTest_frame n .request
  have answered (w : State) (m : DictMsg) (k : Nat) : (s.answered w v m []).stand k = w.stand k := State.stand_congr (State.answered_stands host) k
  refine ⟨_, congrArg Host.Outcome.next (served.writeReq_ok (writes_selfTest small) allowed fun _ => State.writeObject_selfTest.trans due),
    ?_, ?_, fun k other => ?_, ?_, ?_, State.answered_ok host⟩
  · exact congrArg (fun x : StandSt => x.selfTest.isSome) ((answered _ _ n).trans (State.needTest_stand small sound' _))
  · exact (State.answered_ob host _).trans (State.needTest_ob small sound' _)
  · exact ((answered _ _ k).trans (State.needTest_stand_other small sound' _ other)).trans (State.stand_congr served.take_stands k)
  · exact (State.answered_chan host).trans (chan.trans served.take_chan)
  · exact (State.answered_mem host).trans (mem.trans served.take_mem)

/-- ERROR_ACK takes a record off the module's queue (R292). -/
theorem exec_errorAck {r : Nat} (small : r < 2 ^ 32) :
    ∃ t, exec (.errorAck v r) s = .next t ∧
      (kget t.fire.queues {} moduleUnit).records = ((kget s.fire.queues {} moduleUnit).records).filter (fun x => x.id != r) ∧
      (∀ k, k ≠ moduleUnit → kget t.fire.queues {} k = kget s.fire.queues {} k) ∧ t.mem = s.mem ∧ t.chan = s.chan ∧
      t.dict.responseBuf.2 = 0 := by
  have host := served.role
  have queues : (s.takeRequest v).fire.queues = s.fire.queues := congrArg FireSt.queues served.take_fire
  refine ⟨_, congrArg Host.Outcome.next (served.writeReq_ok writes_errorAck rfl fun _ => State.writeObject_errorAck small),
    ?_, fun k other => ?_, (State.answered_mem host).trans served.take_mem, (State.answered_chan host).trans served.take_chan,
    State.answered_ok host⟩
  · refine (congrArg (fun f : FireSt => (kget f.queues {} moduleUnit).records) (State.answered_fire host)).trans ?_
    simp only [kget_kset_same, queues]
  · refine (congrArg (fun f : FireSt => kget f.queues {} k) (State.answered_fire host)).trans ?_
    exact (kget_kset_other _ _ _ _ _ other).trans (by rw [queues])

/-- CPER_ACK takes a signature off (R295). -/
theorem exec_cperAck {r : Nat} (small : r < 2 ^ 32) :
    ∃ t, exec (.cperAck v r) s = .next t ∧ t.fire.cpers = s.fire.cpers.filter (fun x => x.id != r) ∧ t.fire.queues = s.fire.queues ∧
      t.mem = s.mem ∧ t.chan = s.chan ∧ t.dict.responseBuf.2 = 0 := by
  have host := served.role
  refine ⟨_, congrArg Host.Outcome.next (served.writeReq_ok writes_cperAck rfl fun _ => State.writeObject_cperAck small),
    ?_, ?_, (State.answered_mem host).trans served.take_mem, (State.answered_chan host).trans served.take_chan, State.answered_ok host⟩
  · simp only [State.answered_fire host, served.take_fire]
  · simp only [State.answered_fire host, served.take_fire]

/-- ERROR_OVERFLOW is cleared, and its alert with it (R296). -/
theorem exec_errorOverflowClear :
    ∃ t, exec (.errorOverflowClear v 0) s = .next t ∧ t.ob Obj.errorOverflow = 0 ∧ Alert.queueOverflow ∉ t.edge.alerts ∧
      t.mem = s.mem ∧ t.chan = s.chan ∧ t.dict.responseBuf.2 = 0 := by
  have host := served.role
  refine ⟨_, congrArg Host.Outcome.next (served.writeReq_ok writes_overflow rfl fun _ => State.writeObject_overflow),
    ?_, ?_, (State.answered_mem host).trans served.take_mem, (State.answered_chan host).trans served.take_chan, State.answered_ok host⟩
  · exact (State.answered_ob host _).trans (State.setOb_same ..)
  · have alerts := State.answered_alerts (s := s) (u := ((s.takeRequest v).setOb Obj.errorOverflow 0).calm .queueOverflow) (v := v)
      (m := valueMsg v 0x6050 3 0 1) (d := []) host
    refine fun mem => ?_
    have kept : Alert.queueOverflow ∈ (((s.takeRequest v).setOb Obj.errorOverflow 0).calm .queueOverflow).edge.alerts := alerts ▸ mem
    simp [State.calm] at kept

/-- REPLICA_SETS_COMMIT of tables that pass their checks takes them (R285). -/
theorem exec_replicaSetsCommit {l : List (List Nat)} (staged : (s.takeRequest v).stagedTables .host 0x6041 16 = .ok l)
    (ok : ∀ slot, slot < l.length → ((l.getD slot []).map (BitVec.ofNat 128)).all ((s.takeRequest v).replicaOk slot) = true) :
    ∃ t, exec (.replicaSetsCommit v) s = .next t ∧
      (∀ slot, slot < l.length → kget t.fire.replicas [] slot = (l.getD slot []).map (BitVec.ofNat 128)) ∧
      t.stagedAt .host 0x6041 = none ∧ t.mem = s.mem ∧ t.chan = s.chan ∧ t.dict.responseBuf.2 = 0 := by
  have host := served.role
  have committed := State.commitIndex_replicas host staged ok
  obtain ⟨replicas, mem, chan⟩ := (s.takeRequest v).replicasSet_leaves (l.map fun l => l.map (BitVec.ofNat 128))
  have ran := served.commitReq (index := 0x6041) ⟨rfl, fun _ => rfl⟩ committed
  rw [show alsoCommits 0x6041 = [] from rfl, List.foldl_cons, List.foldl_nil] at ran
  refine ⟨_, (congrArg Host.Outcome.next ran : exec (.replicaSetsCommit v) s = _), fun slot small => ?_, ?_, ?_, ?_, State.answered_ok host⟩
  · rw [State.answered_fire host, State.discard_fire, replicas slot (by simpa using small)]
    simp [List.getD_eq_getElem?_getD, small]
  · rw [State.answered_stagedAt host, State.stagedAt_discard_same]
  · rw [State.answered_mem host, State.discard_mem, mem, served.take_mem]
  · rw [State.answered_chan host, State.discard_chan, chan, served.take_chan]

end

/-- Settles O6: decisions on one stand, one queue, the signatures, the overflow and the replica tables. -/
theorem firebreakRequestsComplete : Obligations.FirebreakRequestsComplete := by
  unfold Obligations.FirebreakRequestsComplete
  intro s v served
  exact ⟨fun _ => exec_standFence served, fun _ => exec_selfTestNow served, fun _ => exec_errorAck served, fun _ => exec_cperAck served,
    exec_errorOverflowClear served, fun _ => exec_replicaSetsCommit served⟩

end Sys2Proof.Machine
end

section
/-! PROOFS. The requests of the seedbank (R297, R299, R304, R315); with them O7. -/

namespace Sys2Proof.Machine

/-! ## The set tables -/

/-- The set tables and the fold maps, set (R297, R304). -/
def State.setsSet (s : State) (sets : List (List BankSet)) (folds : List (List FoldEntry)) : State :=
  ((upto folds.length).zip folds).foldl (fun t x => { t with bank := { t.bank with folds := kset t.bank.folds x.1 x.2 } })
    (((upto sets.length).zip sets).foldl (fun t x => { t with bank := { t.bank with sets := kset t.bank.sets x.1 x.2 } }) s)

theorem State.setsSet_leaves (s : State) (sets : List (List BankSet)) (folds : List (List FoldEntry)) :
    (∀ slot, slot < sets.length → kget (s.setsSet sets folds).bank.sets [] slot = sets.getD slot []) ∧
      (∀ slot, slot < folds.length → kget (s.setsSet sets folds).bank.folds [] slot = folds.getD slot []) ∧
      (s.setsSet sets folds).mem = s.mem := by
  let step (t : State) (x : Nat × List BankSet) : State := { t with bank := { t.bank with sets := kset t.bank.sets x.1 x.2 } }
  let step' (t : State) (x : Nat × List FoldEntry) : State := { t with bank := { t.bank with folds := kset t.bank.folds x.1 x.2 } }
  refine ⟨fun slot small => ?_, fun slot small => ?_, ?_⟩
  · exact (foldl_field (f := step') (fun t => kget t.bank.sets [] slot) (fun _ _ => rfl) _ _).trans
      (foldl_upto (get := fun (t : State) k => kget t.bank.sets [] k) (set := step) (fun _ _ => kget_kset_same ..)
        (fun _ _ _ other => kget_kset_other _ _ _ _ _ other) [] small)
  · exact foldl_upto (get := fun (t : State) k => kget t.bank.folds [] k) (set := step') (fun _ _ => kget_kset_same ..)
      (fun _ _ _ other => kget_kset_other _ _ _ _ _ other) [] small
  · exact (foldl_field (f := step') State.mem (fun _ _ => rfl) _ _).trans (foldl_field (f := step) State.mem (fun _ _ => rfl) _ _)

/-- Tables that pass, with no generation in progress, take effect (R299). -/
theorem State.commitSets_ok {s : State} {sets : List (List BankSet)} {folds : List (List FoldEntry)}
    (ok : ∀ slot, slot < sets.length → s.bankTableOk slot (sets.getD slot []) = true) (still : ∀ slot, (s.job slot).gen = none) :
    s.commitSets sets folds = (s.setsSet sets folds, .ok) := by
  have passes : ((upto sets.length).zip sets).find? (fun (slot, l) => !s.bankTableOk slot l) = none := by
    refine List.find?_eq_none.2 fun x mem => ?_
    obtain ⟨small, entry⟩ := getD_of_mem_zip_upto [] mem
    have := ok x.1 small
    rw [entry] at this
    simp [this]
  have idle : (upto 16).any s.genRuns = false := List.any_eq_false.2 fun slot _ => by simp [State.genRuns, still]
  unfold State.commitSets
  simp only [passes, idle]
  rfl

theorem State.commitIndex_sets {s : State} {v : Via} {a b : List (List Nat)} (host : v.role = .host)
    (sets : s.stagedTables .host 0x7010 32 = .ok a) (folds : s.stagedTables .host 0x7011 16 = .ok b)
    (ok : ∀ slot, slot < a.length → s.bankTableOk slot ((a.getD slot []).map (BitVec.ofNat 256)) = true)
    (still : ∀ slot, (s.job slot).gen = none) :
    s.commitIndex v 0x7010 =
      (s.setsSet (a.map fun l => l.map (BitVec.ofNat 256)) (b.map fun l => l.map (BitVec.ofNat 128)), .ok) := by
  have reached : s.commitIndex v 0x7010 =
      s.commitSets (a.map fun l => l.map (BitVec.ofNat 256)) (b.map fun l => l.map (BitVec.ofNat 128)) := by
    simp only [State.commitIndex, host]
    rw [State.badTable_none sets ok, sets, folds]
    rfl
  rw [reached]
  refine State.commitSets_ok (fun slot small => ?_) still
  have := ok slot (by simpa using small)
  simp only [List.length_map] at small
  simpa [List.getD_eq_getElem?_getD, small] using this

/-! ## RESTORE -/

/-- RESTORE (Table 9-10). -/
def restoreRow : ObjRow := { index := 0x7020, lo := 1, hi := 16, type := .octets 8, acc := .wo }

theorem writes_restore {slot : Nat} (small : slot < 16) : WritesValue 0x7020 (slot + 1) 8 restoreRow :=
  hostWrites_of_row (by decide) (by omega) (rowOf_of_run rfl (Nat.le_add_left ..) (show slot + 1 ≤ 16 by omega)) (by decide) (by decide)

theorem State.writeObject_restore {s : State} {v : Via} {hint : Option Nat} {slot x : Nat} (small : x < 2 ^ 64) :
    s.writeObject v hint restoreRow (valueMsg v 0x7020 (slot + 1) x 8) = s.requestRestore slot x := by
  have value : ofBytes (valueMsg v 0x7020 (slot + 1) x 8).data = x := ofBytes_value (by omega)
  have takes : s.takes restoreRow 0x7020 (slot + 1) x := ⟨rfl, rfl, rfl⟩
  unfold State.writeObject
  simp only [value]
  exact (if_neg takes.passes).trans rfl

/-- A restore of the last generation of a job without outstanding tasks begins (R315). -/
theorem State.requestRestore_last {s : State} {slot gen from_ job : Nat} (small : gen < 2 ^ 32) (source : from_ < 65536)
    (held : s.jobOf slot = some job) (idle : ∀ t ∈ s.chan.tasks, t.job ≠ job) (some_ : gen ≠ 0) (last : gen = s.ob (Obj.lastGen slot)) :
    s.requestRestore slot (gen + from_ * 2 ^ 32) = (s.beginRestore slot gen from_, .ok) := by
  have isGen : fld (gen + from_ * 2 ^ 32) 0 32 = gen := by
    unfold fld
    omega
  have isFrom : fld (gen + from_ * 2 ^ 32) 32 16 = from_ := by
    unfold fld
    omega
  have unreserved : fld (gen + from_ * 2 ^ 32) 48 16 = 0 := by
    unfold fld
    omega
  have free : s.chan.tasks.any (fun t => t.job == job) = false := List.any_eq_false.2 fun t mem => by simpa using idle t mem
  unfold State.requestRestore
  simp only [isGen, isFrom, unreserved, held, free, ← last]
  simp [some_]

section
variable {s : State} {v : Via} (served : HostServed s v)
include served

/-- What SEEDBANK_SETS_COMMIT leaves (R297, R299). -/
theorem exec_seedbankSetsCommit {a b : List (List Nat)} (sets : (s.takeRequest v).stagedTables .host 0x7010 32 = .ok a)
    (folds : (s.takeRequest v).stagedTables .host 0x7011 16 = .ok b)
    (ok : ∀ slot, slot < a.length → (s.takeRequest v).bankTableOk slot ((a.getD slot []).map (BitVec.ofNat 256)) = true)
    (still : ∀ slot, (s.job slot).gen = none) :
    ∃ t, exec (.seedbankSetsCommit v) s = .next t ∧
      (∀ slot, slot < a.length → kget t.bank.sets [] slot = (a.getD slot []).map (BitVec.ofNat 256)) ∧
      (∀ slot, slot < b.length → kget t.bank.folds [] slot = (b.getD slot []).map (BitVec.ofNat 128)) ∧
      t.stagedAt .host 0x7010 = none ∧ t.stagedAt .host 0x7011 = none ∧ t.mem = s.mem ∧ t.dict.responseBuf.2 = 0 := by
  have host := served.role
  have still' : ∀ slot, ((s.takeRequest v).job slot).gen = none := fun slot => by
    unfold State.job
    rw [served.take_jobs]
    exact still slot
  have committed := State.commitIndex_sets host sets folds ok still'
  obtain ⟨isSets, isFolds, mem⟩ := (s.takeRequest v).setsSet_leaves (a.map fun l => l.map (BitVec.ofNat 256)) (b.map fun l => l.map (BitVec.ofNat 128))
  have ran := served.commitReq (index := 0x7010) ⟨rfl, fun _ => rfl⟩ committed
  rw [show alsoCommits 0x7010 = [0x7011] from rfl, List.foldl_cons, List.foldl_cons, List.foldl_nil] at ran
  refine ⟨_, (congrArg Host.Outcome.next ran : exec (.seedbankSetsCommit v) s = _), fun slot small => ?_, fun slot small => ?_, ?_, ?_, ?_,
    State.answered_ok host⟩
  · rw [State.answered_bank host, State.discard_bank, State.discard_bank, isSets slot (by simpa using small)]
    simp [List.getD_eq_getElem?_getD, small]
  · rw [State.answered_bank host, State.discard_bank, State.discard_bank, isFolds slot (by simpa using small)]
    simp [List.getD_eq_getElem?_getD, small]
  · rw [State.answered_stagedAt host, State.stagedAt_discard_other _ (.inr (by decide)), State.stagedAt_discard_same]
  · rw [State.answered_stagedAt host, State.stagedAt_discard_same]
  · rw [State.answered_mem host, State.discard_mem, State.discard_mem, mem, served.take_mem]

/-- RESTORE of the last generation begins the restore (R315). -/
theorem exec_restore {slot gen from_ job : Nat} (inRange : slot < 16) (small : gen < 2 ^ 32) (source : from_ < 65536)
    (held : (s.takeRequest v).jobOf slot = some job) (idle : ∀ t ∈ s.chan.tasks, t.job ≠ job) (some_ : gen ≠ 0)
    (last : gen = s.ob (Obj.lastGen slot)) :
    exec (.restore v slot gen from_) s = .next (s.answered ((s.takeRequest v).beginRestore slot gen from_) v
      (valueMsg v 0x7020 (slot + 1) (gen + from_ * 2 ^ 32) 8) []) := by
  have value : pack [(0, 32, gen), (32, 16, from_)] = gen + from_ * 2 ^ 32 := by
    simp only [pack]
    omega
  have last' : gen = (s.takeRequest v).ob (Obj.lastGen slot) := by
    rw [served.take_ob (by simp only [Obj.lastGen, Obj.dictRequests]; omega)]
    exact last
  have began : (s.takeRequest v).requestRestore slot (gen + from_ * 2 ^ 32) = _ :=
    State.requestRestore_last small source held (by rw [served.take_chan]; exact idle) some_ last'
  have ran : s.writeReq v 0x7020 (slot + 1) (gen + from_ * 2 ^ 32) 8 = _ :=
    served.writeReq_ok (writes_restore inRange) rfl fun _ => (State.writeObject_restore (by omega)).trans began
  rw [← value] at ran ⊢
  exact congrArg Host.Outcome.next ran

end

/-- Settles O7: the tables are taken, and the restore begins. -/
theorem seedbankRequestsComplete : Obligations.SeedbankRequestsComplete := by
  unfold Obligations.SeedbankRequestsComplete
  intro s v served
  exact ⟨fun _ _ => exec_seedbankSetsCommit served, fun _ _ _ _ => exec_restore served⟩

end Sys2Proof.Machine
end

section
/-! PROOFS. What the logging of an error record leaves of the state it changes: of the dictionary all but objects, of the edge all but
alerts, which only grow, and of the error records the queues of other units (R290 to R296). -/

namespace Sys2Proof.Machine

/-- `t` is `s` but for records of one unit: its queue, the counters of lost records, signatures and alerts, which only grow. -/
structure Logged (unit : Nat) (s t : State) : Prop where
  rest : t = { s with
    fire := { s.fire with queues := t.fire.queues, nextRecord := t.fire.nextRecord, cpers := t.fire.cpers }
    dict := { s.dict with objs := t.dict.objs }, edge := { s.edge with alerts := t.edge.alerts } }
  ob : ∀ k, k ≠ lostCounter unit → k ≠ Obj.errorOverflow → k ≠ Obj.cperLost → t.ob k = s.ob k
  alerts : ∀ a, a ∈ s.edge.alerts → a ∈ t.edge.alerts
  queues : ∀ k, k ≠ unit → kget t.fire.queues {} k = kget s.fire.queues {} k

namespace Logged

variable {unit : Nat} {s t u : State}

theorem refl (unit : Nat) (s : State) : Logged unit s s := ⟨rfl, fun _ _ _ _ => rfl, fun _ => id, fun _ _ => rfl⟩

theorem trans (a : Logged unit s t) (b : Logged unit t u) : Logged unit s u where
  rest := b.rest.trans (congrArg (fun x : State => { x with
    fire := { x.fire with queues := u.fire.queues, nextRecord := u.fire.nextRecord, cpers := u.fire.cpers }
    dict := { x.dict with objs := u.dict.objs }, edge := { x.edge with alerts := u.edge.alerts } }) a.rest)
  ob k hl ho hc := (b.ob k hl ho hc).trans (a.ob k hl ho hc)
  alerts x mem := b.alerts x (a.alerts x mem)
  queues k other := (b.queues k other).trans (a.queues k other)

theorem mem (a : Logged unit s t) : t.mem = s.mem := (congrArg State.mem a.rest :)
theorem chan (a : Logged unit s t) : t.chan = s.chan := (congrArg State.chan a.rest :)
theorem jobs (a : Logged unit s t) : t.jobs = s.jobs := (congrArg State.jobs a.rest :)
theorem stands (a : Logged unit s t) : t.stands = s.stands := (congrArg State.stands a.rest :)
theorem fab (a : Logged unit s t) : t.fab = s.fab := (congrArg State.fab a.rest :)
theorem power (a : Logged unit s t) : t.power = s.power := (congrArg State.power a.rest :)

end Logged

theorem logged_bump {unit k : Nat} (s : State) (own : k = lostCounter unit ∨ k = Obj.cperLost) : Logged unit s (s.bump k) :=
  ⟨rfl, fun j hl _ hc => s.bump_other _ j (own.elim (fun e => e ▸ hl) fun e => e ▸ hc), fun _ => id, fun _ _ => rfl⟩

theorem logged_overflow (unit : Nat) (s : State) (x : Nat) : Logged unit s (s.setOb Obj.errorOverflow x) :=
  ⟨rfl, fun j _ ho _ => s.setOb_other _ _ j ho, fun _ => id, fun _ _ => rfl⟩

theorem logged_raise (unit : Nat) (s : State) (a : Alert) : Logged unit s (s.raise a) := by
  unfold State.raise
  split
  · exact .refl unit s
  · exact ⟨rfl, fun _ _ _ _ => rfl, fun x mem => List.mem_append_left _ mem, fun _ _ => rfl⟩

/-- A new queue of the unit, and the next ID. -/
theorem logged_queue (unit : Nat) (s : State) (q : ErrQueue) (next : Nat) :
    Logged unit s { s with fire := { s.fire with queues := kset s.fire.queues unit q, nextRecord := next } } :=
  ⟨rfl, fun _ _ _ _ => rfl, fun _ => id, fun _ other => kget_kset_other _ _ _ _ _ other⟩

theorem logged_loseRecord (s : State) (unit : Nat) (lost : ErrRec) (q : ErrQueue) : Logged unit s (s.loseRecord unit lost q) := by
  unfold State.loseRecord
  dsimp only
  split
  · exact (((logged_queue ..).trans (logged_bump _ (.inl rfl))).trans (logged_overflow ..)).trans (logged_raise ..)
  · exact (logged_queue ..).trans (logged_bump _ (.inl rfl))

theorem logged_enqueue (s : State) (unit : Nat) (r : ErrRec) : Logged unit s (s.enqueue unit r) := by
  unfold State.enqueue
  dsimp only
  split
  · exact logged_queue unit s _ s.fire.nextRecord
  · split
    · split <;> exact logged_loseRecord ..
    · exact logged_loseRecord ..

theorem logged_sign (s : State) (unit : Nat) (r : ErrRec) (info : SigInfo) : Logged unit s (s.sign r info) := by
  unfold State.sign
  split
  · split
    · exact ⟨rfl, fun _ _ _ _ => rfl, fun _ => id, fun _ _ => rfl⟩
    · exact logged_bump _ (.inr rfl)
  · exact .refl unit s

theorem logged_logAt (s : State) (unit : Nat) (r : ErrRec) (info : SigInfo) : Logged unit s (s.logAt unit r info) := by
  have numbered : Logged unit s { s with fire := { s.fire with nextRecord := (s.fire.nextRecord + 1) % 2 ^ 32 } } :=
    ⟨rfl, fun _ _ _ _ => rfl, fun _ => id, fun _ _ => rfl⟩
  exact (numbered.trans (logged_enqueue ..)).trans (logged_sign ..)

theorem logged_log (s : State) (r : ErrRec) : Logged moduleUnit s (s.log r) := logged_logAt ..
theorem logged_logStand (s : State) (n : Nat) (r : ErrRec) (info : SigInfo) : Logged n s (s.logStand n r info) := logged_logAt ..
theorem logged_logHalf (s : State) (h : Nat) (r : ErrRec) : Logged (halfUnit h) s (s.logHalf h r) := logged_logAt ..

/-- A cause that is raised is among the alerts (R396). -/
theorem State.mem_raise (s : State) (a : Alert) : a ∈ (s.raise a).edge.alerts := by
  unfold State.raise
  split
  · next held => simpa using held
  · simp

/-- A cause that is calmed is not. -/
theorem State.not_mem_calm (s : State) (a : Alert) : a ∉ (s.calm a).edge.alerts := by
  simp [State.calm]

end Sys2Proof.Machine
end

section
/-! PROOFS. POWER_CAP_WRITE, REPLAN_NOW, RESTORE_DEFAULTS and DIAG_ENABLE_WRITE (R325, R328, R361, R389, R392, R438); with them O8. -/

namespace Sys2Proof.Machine

/-! ## Bits of a status object -/

/-- Bit 0 of a status object once it is set or cleared. -/
theorem State.setBit_zero (s : State) (k : Nat) (b : Bool) : (s.setBit k 0 b).ob k % 2 = if b then 1 else 0 := by
  unfold State.setBit
  rw [State.setOb_same]
  cases b
  · simp
    omega
  · simp
    omega

/-! ## The cap -/

section
variable {s : State} {v : Via} (served : HostServed s v)
include served

/-- A cap the module can hold (R325, R328). -/
theorem exec_powerCapWrite_attainable {w : Nat} (floor : 1100 ≤ w) (top : w ≤ 3400) :
    ∃ t, exec (.powerCapWrite v w) s = .next t ∧ t.ob Obj.powerCap = w ∧ Alert.capUnattainable ∉ t.edge.alerts ∧
      t.ob Obj.powerStatus % 2 = 0 ∧ t.fire = s.fire ∧ t.mem = s.mem ∧ t.chan = s.chan ∧ t.dict.responseBuf.2 = 0 := by
  have host := served.role
  have ran := exec_powerCapWrite served (watts := w) (by omega)
  rw [State.setPowerCap_attainable _ floor top] at ran
  refine ⟨s.answered ((((s.takeRequest v).setOb Obj.powerCap w).setBit Obj.powerStatus 0 false).calm .capUnattainable) v
    (valueMsg v 0x2001 1 w 4) [], ran, ?_, ?_, ?_, ?_, ?_, ?_, State.answered_ok host⟩
  · rw [State.answered_ob host, State.calm_ob, State.setBit_ob_other _ _ _ _ (by decide), State.setOb_same]
  · rw [State.answered_alerts host]
    exact State.not_mem_calm _ _
  · rw [State.answered_ob host, State.calm_ob, State.setBit_zero]
    rfl
  · rw [State.answered_fire host, State.calm_fire, State.setBit_fire, State.setOb_fire, served.take_fire]
  · rw [State.answered_mem host, State.calm_mem, State.setBit_mem, State.setOb_mem, served.take_mem]
  · rw [State.answered_chan host, State.calm_chan, State.setBit_chan, State.setOb_chan, served.take_chan]

/-- A cap below 1,100 W is taken, shown and alerted (R328). -/
theorem exec_powerCapWrite_unattainable {w : Nat} (below : w < 1100) (noLoans : s.power.borrowed = []) :
    ∃ t, exec (.powerCapWrite v w) s = .next t ∧ t.ob Obj.powerCap = w ∧ Alert.capUnattainable ∈ t.edge.alerts ∧
      t.ob Obj.powerStatus % 2 = 1 ∧ t.mem = s.mem ∧ t.chan = s.chan ∧ t.dict.responseBuf.2 = 0 := by
  have host := served.role
  have ran := exec_powerCapWrite served (watts := w) (by omega)
  let set := ((s.takeRequest v).setOb Obj.powerCap w).setBit Obj.powerStatus 0 true
  have logged : Logged moduleUnit set ((set.raise .capUnattainable).log { errRec 0x0502 with detail0 := w }) :=
    (logged_raise ..).trans (logged_log ..)
  have alerted : Alert.capUnattainable ∈ ((set.raise .capUnattainable).log { errRec 0x0502 with detail0 := w }).edge.alerts :=
    (logged_log ..).alerts _ (State.mem_raise ..)
  have none_ : ((set.raise .capUnattainable).log { errRec 0x0502 with detail0 := w }).power.borrowed = [] := by
    rw [logged.power]
    exact (congrArg PowerSt.borrowed served.take_power).trans noLoans
  rw [State.setPowerCap_unattainable _ below, State.returnAll_of_none none_] at ran
  refine ⟨s.answered (State.modPower _ fun p => { p with borrowed := [], shortfall := 0, asked := [] }) v (valueMsg v 0x2001 1 w 4) [], ran,
    ?_, ?_, ?_, ?_, ?_, State.answered_ok host⟩
  · rw [State.answered_ob host, State.modPower_ob, logged.ob _ (by decide) (by decide) (by decide)]
    exact (State.setBit_ob_other _ _ _ _ (by decide)).trans (State.setOb_same ..)
  · rw [State.answered_alerts host, State.modPower_edge]
    exact alerted
  · rw [State.answered_ob host, State.modPower_ob, logged.ob _ (by decide) (by decide) (by decide)]
    exact State.setBit_zero ..
  · rw [State.answered_mem host, State.modPower_mem, logged.mem]
    exact served.take_mem
  · rw [State.answered_chan host, State.modPower_chan, logged.chan]
    exact served.take_chan

end

/-! ## REPLAN_NOW and DIAG_ENABLE -/

def replanRow : ObjRow := { index := 0x8004, lo := 2, hi := 2, type := .bool, acc := .wo, max := 1 }
def restoreDefaultsRow : ObjRow := { index := 0x1F00, lo := 2, hi := 2, type := .bool, acc := .wo, max := 1 }
def diagEnableRow : ObjRow := { index := 0xF000, lo := 1, hi := 1, type := .bool, acc := .rw, max := 1 }

theorem writes_replan : WritesValue 0x8004 2 1 replanRow := hostWrites_of_row (by decide) (by decide) (by decide) (by decide) (by decide)
theorem writes_restoreDefaults : WritesValue 0x1F00 2 1 restoreDefaultsRow :=
  hostWrites_of_row (by decide) (by decide) (by decide) (by decide) (by decide)
theorem writes_diagEnable : WritesValue 0xF000 1 1 diagEnableRow := hostWrites_of_row (by decide) (by decide) (by decide) (by decide) (by decide)

section
variable {s : State} {v : Via} {hint : Option Nat}

theorem State.writeObject_replan : s.writeObject v hint replanRow (valueMsg v 0x8004 2 1 1) = (s.replan, .ok) := by
  have value : ofBytes (valueMsg v 0x8004 2 1 1).data = 1 := ofBytes_value (by omega)
  have takes : s.takes replanRow 0x8004 2 1 := ⟨rfl, rfl, rfl⟩
  unfold State.writeObject
  simp only [value]
  exact (if_neg takes.passes).trans rfl

theorem State.writeObject_restoreDefaults :
    s.writeObject v hint restoreDefaultsRow (valueMsg v 0x1F00 2 1 1) = s.restoreDefaults 1 := by
  have value : ofBytes (valueMsg v 0x1F00 2 1 1).data = 1 := ofBytes_value (by omega)
  have takes : s.takes restoreDefaultsRow 0x1F00 2 1 := ⟨rfl, rfl, rfl⟩
  unfold State.writeObject
  simp only [value]
  exact (if_neg takes.passes).trans rfl

theorem State.writeObject_diagEnable {x : Nat} (small : x < 2) :
    s.writeObject v hint diagEnableRow (valueMsg v 0xF000 1 x 1) = s.writeDiag x := by
  have value : ofBytes (valueMsg v 0xF000 1 x 1).data = x := ofBytes_value (by omega)
  have takes : s.takes diagEnableRow 0xF000 1 x := State.takes_bool rfl rfl rfl rfl small
  unfold State.writeObject
  simp only [value]
  exact (if_neg takes.passes).trans rfl

end

/-- What DIAG_ENABLE_WRITE leaves (R392). -/
theorem exec_diagEnableWrite {s : State} {v : Via} (served : HostServed s v) {x : Nat} (small : x < 2)
    (allowed : x = 0 ∨ ∀ k, k < 16 → s.ob (Obj.jobSlotId k) = 0xFFFF) :
    ∃ t, exec (.diagEnableWrite v x) s = .next t ∧ t.ob Obj.diagEnable = x ∧ (∀ k, k ≠ Obj.diagEnable → k ≠ Obj.dictRequests 0 → t.ob k = s.ob k) ∧
      t.mem = s.mem ∧ t.chan = s.chan ∧ (s.msixMasked s.dict.msixVector = false → t.edge = s.edge) ∧ t.dict.responseBuf.2 = 0 := by
  have host := served.role
  have wrote : (s.takeRequest v).writeDiag x = ((s.takeRequest v).setOb Obj.diagEnable x, .ok) := by
    refine if_neg ?_
    rcases allowed with rfl | unused
    · simp
    · rw [State.noJob_of_unused fun k small => ?_]
      · simp
      · rw [served.take_ob (by simp only [Obj.jobSlotId, Obj.dictRequests]; omega), unused k small]
  refine ⟨_, congrArg Host.Outcome.next (served.writeReq_ok writes_diagEnable rfl fun _ => (State.writeObject_diagEnable small).trans wrote),
    ?_, fun k other taken => ?_, ?_, ?_, fun unmasked => ?_, State.answered_ok host⟩
  · rw [State.answered_ob host, State.setOb_same]
  · rw [State.answered_ob host, State.setOb_other _ _ _ _ other, served.take_ob taken]
  · rw [State.answered_mem host, State.setOb_mem, served.take_mem]
  · rw [State.answered_chan host, State.setOb_chan, served.take_chan]
  · rw [State.answered_eq host]
    have edge : ((s.takeRequest v).setOb Obj.diagEnable x).edge = s.edge := served.take_edge
    have vector : ((s.takeRequest v).setOb Obj.diagEnable x).dict.msixVector = s.dict.msixVector := by
      rw [served.take]
      rfl
    rw [vector]
    refine (State.msix_of_unmasked (by rw [edge]; exact served.link) ?_).1.trans edge
    unfold State.msixMasked at unmasked ⊢
    rw [edge]
    exact unmasked

/-! ## RESTORE_DEFAULTS -/

/-- `t` is a state with every persistent object at its default, in which memory and channels are those of `s`. -/
structure AtDefaults (s t : State) : Prop where
  ob : ∀ k ∈ persistentKeys, t.ob k = objDefault k
  mem : t.mem = s.mem
  chan : t.chan = s.chan

/-- The state and the peer of a port are not persistent (Table 11-7). -/
theorem persistentKeys_notOfPort {k n : Nat} (persistent : k ∈ persistentKeys) (small : n < 9) : notOfPort n k := by
  have apart : ∀ k ∈ persistentKeys, k < 0x500201 ∨ 0x500400 ≤ k := by decide
  have := apart k persistent
  simp only [notOfPort, Obj.portState, Obj.portPeer]
  omega

theorem AtDefaults.enablePort {s t : State} {n : Nat} (at_ : AtDefaults s t) (small : n < 9) : AtDefaults s (t.enablePort n 1) := by
  have enabled : AtDefaults s (t.setOb (Obj.portEnable n) 1) := by
    refine ⟨fun k persistent => ?_, at_.mem, at_.chan⟩
    by_cases same : k = Obj.portEnable n
    · rw [same, State.setOb_same]
      have default : ∀ m < 9, 1 = objDefault (Obj.portEnable m) := by decide
      exact default n small
    · rw [State.setOb_other _ _ _ _ same]
      exact at_.ob k persistent
  unfold State.enablePort
  rw [if_neg (by decide)]
  split
  · have trained : PortsTrained (t.setOb (Obj.portEnable n) 1) ((t.setOb (Obj.portEnable n) 1).train n) := portsTrained_train small
    exact ⟨fun k persistent => (trained.ob k fun m small' => persistentKeys_notOfPort persistent small').trans (enabled.ob k persistent),
      trained.mem.trans enabled.mem, trained.chan.trans enabled.chan⟩
  · exact enabled

theorem AtDefaults.enablePorts {s : State} (l : List Nat) : ∀ {t : State}, AtDefaults s t → (∀ n ∈ l, n < 9) →
    AtDefaults s (l.foldl (fun u n => u.enablePort n 1) t) := by
  induction l with
  | nil => exact fun at_ _ => at_
  | cons n l ih => exact fun at_ small => ih (at_.enablePort (small n List.mem_cons_self)) fun k mem => small k (List.mem_cons_of_mem _ mem)

/-- A state whose persistent objects have all been set to their defaults. -/
theorem atDefaults_set {s t : State} (mem : t.mem = s.mem) (chan : t.chan = s.chan) :
    AtDefaults s (persistentKeys.foldl (fun u k => u.setOb k (objDefault k)) t) where
  ob k persistent := foldl_setOb_mem (fun k => k) objDefault persistentKeys t persistent fun _ _ same => by rw [same]
  mem := (foldl_field (f := fun u k => u.setOb k (objDefault k)) State.mem (fun _ _ => rfl) _ _).trans mem
  chan := (foldl_field (f := fun u k => u.setOb k (objDefault k)) State.chan (fun _ _ => rfl) _ _).trans chan

/-- The cap at its default is one the module can hold. -/
theorem AtDefaults.setPowerCap {s t : State} (at_ : AtDefaults s t) : AtDefaults s (t.setPowerCap (objDefault Obj.powerCap)).1 := by
  have value : objDefault Obj.powerCap = 3000 := by decide
  rw [value, State.setPowerCap_attainable _ (by decide) (by decide)]
  refine ⟨fun k persistent => ?_, at_.mem, at_.chan⟩
  have status : k ≠ Obj.powerStatus := fun same => absurd (same ▸ persistent) (by decide)
  rw [State.calm_ob, State.setBit_ob_other _ _ _ _ status]
  by_cases same : k = Obj.powerCap
  · rw [same, State.setOb_same, value]
  · rw [State.setOb_other _ _ _ _ same]
    exact at_.ob k persistent

/-- Every persistent object takes its default, where no job slot is in use and no port is UP (R389). -/
theorem State.restoreDefaults_leaves {s : State} (unused : ∀ k, k < 16 → s.ob (Obj.jobSlotId k) = 0xFFFF) (down : ∀ n, n < 9 → s.portUp n = false) :
    AtDefaults s (s.restoreDefaults 1).1 ∧ (s.restoreDefaults 1).1.dict.pendingSince.isSome = true := by
  obtain ⟨-, -, -, mem, chan⟩ := State.commitEndpoint_leaves (ep := objDefault Obj.endpointId) (grove := objDefault Obj.groveId) unused down rfl
  have at_ : AtDefaults s _ := ((atDefaults_set mem chan).enablePorts ((upto 9).filter (fun n => s.ob (Obj.portEnable n) == 0))
    (fun n inList => by simpa [upto] using (List.mem_filter.1 inList).1)).setPowerCap
  have free := State.noJob_of_unused unused
  unfold State.restoreDefaults
  rw [if_neg (by decide), if_neg (by rw [free]; decide)]
  exact ⟨⟨at_.ob, at_.mem, at_.chan⟩, rfl⟩

theorem State.restoreDefaults_ok {s : State} (unused : ∀ k, k < 16 → s.ob (Obj.jobSlotId k) = 0xFFFF) :
    s.restoreDefaults 1 = ((s.restoreDefaults 1).1, .ok) := by
  have free := State.noJob_of_unused unused
  unfold State.restoreDefaults
  rw [if_neg (by decide), if_neg (by rw [free]; decide)]

/-- What waits to be written to flash goes on waiting (R388). -/
theorem State.persist_pending {s old : State} (waits : s.dict.pendingSince.isSome = true) :
    (s.persist old).dict.pendingSince.isSome = true := by
  unfold State.persist
  split
  · rfl
  · exact waits

/-- Settles O8: the cap by its range, and each of the other requests with its own effect. -/
theorem powerRequestsComplete : Obligations.PowerRequestsComplete := by
  unfold Obligations.PowerRequestsComplete
  intro s v served
  have host := served.role
  refine ⟨fun _ => exec_powerCapWrite_attainable served, fun _ => exec_powerCapWrite_unattainable served, ?_, fun unused => ?_,
    fun _ => exec_diagEnableWrite served⟩
  · exact congrArg Host.Outcome.next (served.writeReq_ok writes_replan rfl fun _ => State.writeObject_replan)
  · have unused' : ∀ k, k < 16 → (s.takeRequest v).ob (Obj.jobSlotId k) = 0xFFFF := fun k small => by
      rw [served.take_ob (by simp only [Obj.jobSlotId, Obj.dictRequests]; omega), unused k small]
    refine ⟨_, congrArg Host.Outcome.next (served.writeReq_ok writes_restoreDefaults rfl fun _ =>
      State.writeObject_restoreDefaults.trans (State.restoreDefaults_ok unused')), rfl, fun down => ?_⟩
    have down' : ∀ n, n < 9 → (s.takeRequest v).portUp n = false := fun n small => by
      rw [State.portUp, State.portSt, served.take_ob (by simp only [Obj.portState, Obj.dictRequests]; omega), ← State.portSt, ← State.portUp]
      exact down n small
    obtain ⟨at_, waits⟩ := State.restoreDefaults_leaves unused' down'
    refine ⟨fun k persistent => ?_, ?_, State.answered_ok host, ?_, ?_⟩
    · rw [State.answered_ob host, at_.ob k persistent]
    · rw [State.answered_dict host]
      exact State.persist_pending waits
    · rw [State.answered_mem host, at_.mem, served.take_mem]
    · rw [State.answered_chan host, at_.chan, served.take_chan]

end Sys2Proof.Machine
end

section
/-! PROOFS. What the arrival of a packet leaves (R232, R238, R262): the buffers and the ports give its credits back, its sender is alive,
its PACE is kept; and the path of a peer's request to its execution (R371). -/

namespace Sys2Proof.Machine

/-! ## Arrivals -/

/-- `t` is `s` but for the receive buffers, ports, forest paths, what is known of peers and their alerts, the PACE seen of jobs, and
the flits sent. -/
structure ArrivalOnly (s t : State) : Prop where
  rest : t = { s with
    fab := { s.fab with rx := t.fab.rx, ports := t.fab.ports, paths := t.fab.paths, peers := t.fab.peers }
    jobs := t.jobs, edge := { s.edge with alerts := t.edge.alerts }, out := t.out }
  job : ∀ k, t.job k = { s.job k with paceSeen := (t.job k).paceSeen }

namespace ArrivalOnly

variable {s t u : State}

theorem refl (s : State) : ArrivalOnly s s := ⟨rfl, fun _ => rfl⟩

theorem trans (a : ArrivalOnly s t) (b : ArrivalOnly t u) : ArrivalOnly s u where
  rest := b.rest.trans (congrArg (fun x : State => { x with
    fab := { x.fab with rx := u.fab.rx, ports := u.fab.ports, paths := u.fab.paths, peers := u.fab.peers }
    jobs := u.jobs, edge := { x.edge with alerts := u.edge.alerts }, out := u.out }) a.rest)
  job k := (b.job k).trans (congrArg (fun x : JobSt => { x with paceSeen := (u.job k).paceSeen }) (a.job k))

theorem mem (a : ArrivalOnly s t) : t.mem = s.mem := (congrArg State.mem a.rest :)
theorem chan (a : ArrivalOnly s t) : t.chan = s.chan := (congrArg State.chan a.rest :)
theorem dict (a : ArrivalOnly s t) : t.dict = s.dict := (congrArg State.dict a.rest :)
theorem fab (a : ArrivalOnly s t) :
    t.fab = { s.fab with rx := t.fab.rx, ports := t.fab.ports, paths := t.fab.paths, peers := t.fab.peers } := (congrArg State.fab a.rest :)
theorem ob (a : ArrivalOnly s t) (k : Nat) : t.ob k = s.ob k := State.ob_congr (congrArg DictSt.objs a.dict) k

/-- The endpoint table is the same. -/
theorem epEntry (a : ArrivalOnly s t) (epoch ep : Nat) : t.epEntry epoch ep = s.epEntry epoch ep := by
  unfold State.epEntry
  rw [a.fab]

theorem epoch (a : ArrivalOnly s t) : t.epoch = s.epoch := a.ob _

end ArrivalOnly

theorem arrivalOnly_sendFlit (s : State) (n : Nat) : ArrivalOnly s (s.sendFlit n) := ⟨rfl, fun _ => rfl⟩
theorem arrivalOnly_modPort (s : State) (n : Nat) (f : Port → Port) : ArrivalOnly s (s.modPort n f) := ⟨rfl, fun _ => rfl⟩

theorem arrivalOnly_pumpFlits (n : Nat) (flush : Bool) (k : Nat) (s : State) : ArrivalOnly s (s.pumpFlits n flush k) := by
  induction k generalizing s with
  | zero => exact .refl s
  | succ k ih =>
    unfold State.pumpFlits
    dsimp only
    split
    · exact (arrivalOnly_sendFlit s n).trans (ih _)
    · exact .refl s

theorem arrivalOnly_returnCredits (s : State) (n vc k : Nat) : ArrivalOnly s (s.returnCredits n vc k) := by
  unfold State.returnCredits
  split
  · exact .refl s
  · exact (arrivalOnly_modPort s n _).trans (arrivalOnly_pumpFlits ..)

theorem arrivalOnly_unbuffer (s : State) (p : Packet) : ArrivalOnly s (s.unbuffer p) := by
  have taken (rx : List (Nat × Packet)) : ArrivalOnly s { s with fab := { s.fab with rx := rx } } := ⟨rfl, fun _ => rfl⟩
  unfold State.unbuffer
  split
  · dsimp only
    split
    · exact ((taken _).trans (arrivalOnly_modPort ..)).trans (arrivalOnly_returnCredits ..)
    · split
      · exact taken _
      · exact ⟨rfl, fun _ => rfl⟩
  · exact .refl s

theorem arrivalOnly_calm (s : State) (a : Alert) : ArrivalOnly s (s.calm a) := ⟨rfl, fun _ => rfl⟩

theorem arrivalOnly_heard (s : State) (ep : Nat) : ArrivalOnly s (s.heard ep) := by
  have known (peers : KMap Peer) : ArrivalOnly s { s with fab := { s.fab with peers := peers } } := ⟨rfl, fun _ => rfl⟩
  unfold State.heard
  split
  · exact .refl s
  · dsimp only
    split
    · exact (known _).trans (arrivalOnly_calm ..)
    · exact known _

theorem State.modJob_same (s : State) (slot : Nat) (f : JobSt → JobSt) : (s.modJob slot f).job slot = f (s.job slot) := s.setJob_same slot _
theorem State.modJob_other (s : State) {slot k : Nat} (f : JobSt → JobSt) (other : k ≠ slot) : (s.modJob slot f).job k = s.job k :=
  s.setJob_other slot k _ other

theorem arrivalOnly_seePace (s : State) (p : Packet) : ArrivalOnly s (s.seePace p) := by
  unfold State.seePace
  split
  · next slot _ =>
    refine ⟨rfl, fun k => ?_⟩
    by_cases same : k = slot
    · rw [same, State.modJob_same]
    · rw [State.modJob_other _ _ same]
  · exact .refl s

/-- A request that arrives is counted for its role; what its packet brings besides is an arrival. -/
theorem arrivalOnly_takeRequest (s : State) (v : Via) : ArrivalOnly (s.bump (Obj.dictRequests (roleCode v.role))) (s.takeRequest v) := by
  unfold State.takeRequest
  dsimp only
  split
  · split
    · exact ((arrivalOnly_unbuffer ..).trans (arrivalOnly_heard ..)).trans (arrivalOnly_seePace ..)
    · exact arrivalOnly_heard ..
  · exact .refl _

/-! ## A peer's request -/

section
variable {s : State} {v : Via} (served : PeerServed s v)
include served

theorem PeerServed.take_ob {k : Nat} (other : k ≠ Obj.dictRequests 3) : (s.takeRequest v).ob k = s.ob k := by
  rw [(arrivalOnly_takeRequest s v).ob, served.role]
  exact s.bump_other _ _ other

/-- A peer's request that is served is answered with what its execution comes to. -/
theorem PeerServed.requestFor {u : State} {m : DictMsg} {r : Reply} (hint : Option Nat)
    (executed : (s.takeRequest v).execute { v with tag := m.tag } (hint.orElse fun _ => s.hintOf v m) m = (u, r)) :
    s.requestFor v hint m = (u.persist (s.takeRequest v)).respond v m r := by
  have arrived := arrivalOnly_takeRequest s v
  have noFailover : s.failoverDue v.role = false := by simp [State.failoverDue, served.glade]
  have serves : s.pathServes v.role = true := by simp [State.pathServes, served.role, served.powered, served.glade]
  have own : s.foreignMsg v = false := by simp [State.foreignMsg, served.role]
  have room : ¬ pathLimit v.role ≤ v.ahead := by
    rw [served.role]
    exact Nat.not_le.2 served.ahead
  have peer : (v.role == Role.peer) = true := by rw [served.role]; rfl
  have notHost : (v.role == Role.host) = false := by rw [served.role]; rfl
  have entry : (s.takeRequest v).epEntry (s.takeRequest v).epoch v.src = s.epEntry s.epoch v.src := by
    rw [arrived.epEntry, show (s.takeRequest v).epoch = s.epoch from served.take_ob (by decide)]
    rfl
  have route : (EpEntry.route (s.epEntry s.epoch v.src) != 2 && EpEntry.route (s.epEntry s.epoch v.src) != 3) = false := by
    rcases served.route with grove | forest
    · simp [grove]
    · simp [forest]
  unfold State.requestFor
  simp only [noFailover, serves, own, room, peer, notHost, served.sound, entry, route, executed, Bool.not_true, Bool.false_eq_true, if_false,
    Bool.true_and, Bool.false_and, if_true]

end

end Sys2Proof.Machine
end

section
/-! PROOFS. The loan messages of a peer (R338 to R343, Table 10-3); with them O9. -/

namespace Sys2Proof.Machine

/-! ## A peer's WRITE of a value -/

/-- A WRITE of a value that a peer may make, accepted. -/
theorem PeerServed.writeReq {s w : State} {v : Via} {index sub x n : Nat} {r : ObjRow} {d : List Byte} (served : PeerServed s v)
    (hint : Option Nat) (writes : WritesValue index sub n r) (allowed : (s.takeRequest v).denied .peer r 2 = false)
    (wrote : (s.takeRequest v).writeObject v (hint.orElse fun _ => s.hintOf v (valueMsg v index sub x n)) r (valueMsg v index sub x n) = (w, .ok d)) :
    s.requestFor v hint (valueMsg v index sub x n) = s.answered w v (valueMsg v index sub x n) d := by
  refine served.requestFor hint ?_
  have reached := execute_write (s := s.takeRequest v) (v := v) (hint := hint.orElse fun _ => s.hintOf v (valueMsg v index sub x n))
    (m := valueMsg v index sub x n) (badHeader_value writes.short) (writes.row _) (fits_value writes.sized writes.some_)
    (by rw [served.role]; exact allowed) rfl writes.notCommit writes.unstaged
  have untouched : (s.takeRequest v).touchStaged v.role (valueMsg v index sub x n).index = s.takeRequest v := by
    unfold State.touchStaged
    rw [if_pos]
    rw [Bool.not_eq_true']
    exact writes.noneStaged
  refine reached.trans ?_
  rw [untouched, wrote]

/-! ## The bytes of a loan message -/

/-- LOAN (Table 10-10). -/
def loanRow : ObjRow := { index := 0x2050, lo := 1, hi := 1, type := .octets 16, acc := .wo }

theorem writes_loan : WritesValue 0x2050 1 16 loanRow := hostWrites_of_row (by decide) (by decide) (by decide) (by decide) (by decide)

/-- The value of a loan message. -/
def loanValue (type : Nat) (m : LoanMsg) : Nat := pack [(120, 8, type), (104, 16, m.lender), (88, 16, m.borrower), (32, 32, m.seq), (0, 32, m.watts)]

theorem loanValue_small (type : Nat) (m : LoanMsg) : loanValue type m < 256 ^ 16 := by
  simp only [loanValue, pack]
  omega

/-- A loan message reads back as it was written. -/
theorem State.loanWritten_value {s : State} {src type : Nat} {m : LoanMsg} (wf : m.wf = true) (small : type < 256) :
    s.loanWritten src (loanValue type m) = s.loanArrives src type m := by
  simp only [LoanMsg.wf, epOk, bitsOk, Bool.and_eq_true, decide_eq_true_eq] at wf
  obtain ⟨⟨⟨lender, borrower⟩, seq⟩, watts⟩ := wf
  have isType : fld (loanValue type m) 120 8 = type := by
    simp only [fld, loanValue, pack]
    omega
  have isLender : fld (loanValue type m) 104 16 = m.lender := by
    simp only [fld, loanValue, pack]
    omega
  have isBorrower : fld (loanValue type m) 88 16 = m.borrower := by
    simp only [fld, loanValue, pack]
    omega
  have unreserved : fld (loanValue type m) 64 24 = 0 := by
    simp only [fld, loanValue, pack]
    omega
  have isSeq : fld (loanValue type m) 32 32 = m.seq := by
    simp only [fld, loanValue, pack]
    omega
  have isWatts : fld (loanValue type m) 0 32 = m.watts := by
    simp only [fld, loanValue, pack]
    omega
  unfold State.loanWritten
  rw [unreserved, isType, isLender, isBorrower, isSeq, isWatts]
  rfl

theorem State.writeObject_loan {s : State} {v : Via} {hint : Option Nat} {x : Nat} (small : x < 256 ^ 16) :
    s.writeObject v hint loanRow (valueMsg v 0x2050 1 x 16) = s.loanWritten v.src x := by
  have value : ofBytes (valueMsg v 0x2050 1 x 16).data = x := ofBytes_value small
  have takes : s.takes loanRow 0x2050 1 x := ⟨rfl, rfl, rfl⟩
  unfold State.writeObject
  simp only [value]
  exact (if_neg takes.passes).trans rfl

/-- A loan message of a peer that is served is what `State.loanArrives` comes to, answered. -/
theorem PeerServed.loanReq {s w : State} {v : Via} {m : LoanMsg} {type : Nat} (served : PeerServed s v) (wf : m.wf = true) (small : type < 256)
    (arrives : (s.takeRequest v).loanArrives v.src type m = (w, .ok)) :
    s.loanReq v type m = s.answered w v (writeMsg v 0x2050 1 (loanBytes type m)) [] :=
  served.writeReq none writes_loan rfl
    ((State.writeObject_loan (loanValue_small type m)).trans ((State.loanWritten_value wf small).trans arrives))

/-! ## What each message comes to -/

/-- Tokens lent to a peer, and borrowed from it. -/
def loanOf (l : List Loan) (peer : Nat) : Nat := ((l.filter (fun x => x.peer == peer)).map (fun x => x.watts)).sum

/-- What a lender gives of a request: up to what is asked, what it has to spare, LEND_MAX, and what leaves it 1,100 W, in steps of
50 W (R339, R341). -/
def State.giveTo (s : State) (src watts : Nat) : Nat :=
  if s.mayLend then min (min watts (s.capInForce - s.mean100 - 200)) (min (s.ob Obj.lendMax - loanOf s.power.lent src) (s.userCap - 1100)) / 50 * 50
  else 0

section
variable {s : State} {src : Nat} {m : LoanMsg}

theorem State.loanArrives_refuse (lender : m.lender = s.me) (borrower : m.borrower = src) (nothing : s.giveTo src m.watts = 0) :
    s.loanArrives src 1 m = (s.sendLoan src 3 s.me src 0, .ok) := by
  unfold State.loanArrives
  rw [if_pos (by simp [lender, borrower])]
  exact if_pos nothing

theorem State.loanArrives_grant (lender : m.lender = s.me) (borrower : m.borrower = src) (some_ : s.giveTo src m.watts ≠ 0) :
    s.loanArrives src 1 m = (((if s.power.lent = [] then s.ticked 6 else s).modPower (fun p => { p with
      lent := renewLoan p.lent src m.seq (s.giveTo src m.watts) })).sendLoan src 2 s.me src (s.giveTo src m.watts), .ok) := by
  have me : (if s.power.lent = [] then s.ticked 6 else s).me = s.me := by
    split <;> rfl
  unfold State.loanArrives
  rw [if_pos (by simp [lender, borrower])]
  refine (if_neg some_).trans ?_
  simp only [List.isEmpty_iff, me]
  rfl

theorem State.loanArrives_granted (borrower : m.borrower = s.me) (lender : m.lender = src) :
    s.loanArrives src 2 m = (let w := s.modPower (fun p => { p with
        borrowed := renewLoan p.borrowed src m.seq m.watts, shortfall := p.shortfall - m.watts })
      if w.mayLend then w.askLoan else w.returnAll, .ok) := by
  unfold State.loanArrives
  rw [if_neg (by simp), if_pos (by simp [lender, borrower])]

theorem State.loanArrives_refused (borrower : m.borrower = s.me) (lender : m.lender = src) : s.loanArrives src 3 m = (s.askLoan, .ok) := by
  unfold State.loanArrives
  rw [if_neg (by simp), if_neg (by simp), if_pos (by simp [lender, borrower])]

theorem State.loanArrives_returned (lender : m.lender = s.me) (borrower : m.borrower = src) (lent : loanOf s.power.lent src ≠ 0) :
    s.loanArrives src 4 m = (s.modPower (fun p => { p with lent := changeLoan p.lent src m.seq (· - m.watts) }), .ok) := by
  have stands : s.power.lent.any (fun l => l.peer == src) = true := by
    refine List.any_eq_true.2 (Classical.not_forall_not.1 fun none_ => lent ?_)
    have : s.power.lent.filter (fun x => x.peer == src) = [] := List.filter_eq_nil_iff.2 fun x mem match_ => none_ x ⟨mem, match_⟩
    simp [loanOf, this]
  unfold State.loanArrives
  rw [if_neg (by simp), if_neg (by simp), if_neg (by simp), if_pos (by simp [lender, borrower])]
  unfold State.modPower
  simp only [stands, if_true]

theorem State.loanArrives_recalled (borrower : m.borrower = s.me) (lender : m.lender = src) (some_ : 0 < min (loanOf s.power.borrowed src) m.watts) :
    s.loanArrives src 5 m = ((s.modPower (fun p => { p with
      borrowed := changeLoan p.borrowed src m.seq (· - min (loanOf s.power.borrowed src) m.watts) })).sendLoan src 4 src s.me
        (min (loanOf s.power.borrowed src) m.watts), .ok) := by
  unfold State.loanArrives
  rw [if_neg (by simp), if_neg (by simp), if_neg (by simp), if_neg (by simp), if_pos (by simp [lender, borrower])]
  exact if_neg (Nat.ne_of_gt some_)

theorem State.loanArrives_audited (borrower : m.borrower = s.me) (lender : m.lender = src) (same : loanOf s.power.borrowed src = m.watts) :
    s.loanArrives src 6 m = (s, .ok) := by
  unfold State.loanArrives
  rw [if_neg (by simp), if_neg (by simp), if_neg (by simp), if_neg (by simp), if_neg (by simp), if_pos (by simp [lender, borrower])]
  exact if_pos (by simpa [loanOf] using same)

theorem State.loanArrives_mismatch (borrower : m.borrower = s.me) (lender : m.lender = src) (differ : loanOf s.power.borrowed src ≠ m.watts) :
    s.loanArrives src 6 m = (((s.modPower (fun p => { p with
      borrowed := changeLoan p.borrowed src m.seq (fun _ => m.watts) })).setBit Obj.powerStatus 8 true).bump Obj.loanMismatches, .ok) := by
  unfold State.loanArrives
  rw [if_neg (by simp), if_neg (by simp), if_neg (by simp), if_neg (by simp), if_neg (by simp), if_pos (by simp [lender, borrower])]
  exact if_neg (by simpa [loanOf] using differ)

end

/-- Settles O9: each message by its TYPE, from its bytes. -/
theorem loanMessagesComplete : Obligations.LoanMessagesComplete := by
  unfold Obligations.LoanMessagesComplete
  intro s v m served wf
  refine ⟨fun lender borrower => ⟨fun nothing => ?_, fun some_ => ?_, fun lent => ?_⟩,
    fun borrower lender => ⟨?_, ?_, fun some_ => ?_, fun same => ?_, fun differ => ?_⟩⟩
  · exact congrArg Host.Outcome.next (served.loanReq wf (by decide) (State.loanArrives_refuse lender borrower nothing))
  · exact congrArg Host.Outcome.next (served.loanReq wf (by decide) (State.loanArrives_grant lender borrower some_))
  · exact congrArg Host.Outcome.next (served.loanReq wf (by decide) (State.loanArrives_returned lender borrower lent))
  · exact congrArg Host.Outcome.next (served.loanReq wf (by decide) (State.loanArrives_granted borrower lender))
  · exact congrArg Host.Outcome.next (served.loanReq wf (by decide) (State.loanArrives_refused borrower lender))
  · exact congrArg Host.Outcome.next (served.loanReq wf (by decide) (State.loanArrives_recalled borrower lender some_))
  · exact congrArg Host.Outcome.next (served.loanReq wf (by decide) (State.loanArrives_audited borrower lender same))
  · exact congrArg Host.Outcome.next (served.loanReq wf (by decide) (State.loanArrives_mismatch borrower lender differ))

end Sys2Proof.Machine
end

section
/-! PROOFS. The seedbank messages of a peer (R301, R306, R312, R313, Table 9-6); with them O10. -/

namespace Sys2Proof.Machine

/-! ## The message and its bytes -/

/-- The object of the seedbank's messages (Table 9-10). -/
def bankMessageRow : ObjRow := { index := 0x7030, lo := 1, hi := 4, type := .octets 16, acc := .wo }

theorem writes_bank {sub : Nat} (first : 1 ≤ sub) (last : sub ≤ 4) : WritesValue 0x7030 sub 16 bankMessageRow :=
  hostWrites_of_row (by decide) (by omega) (rowOf_of_run rfl first last) (by decide) (by decide)

theorem State.writeObject_bank {s : State} {v : Via} {hint : Option Nat} {sub x : Nat} (small : x < 256 ^ 16) :
    s.writeObject v hint bankMessageRow (valueMsg v 0x7030 sub x 16) = s.bankMessage v sub x hint := by
  have value : ofBytes (valueMsg v 0x7030 sub x 16).data = x := ofBytes_value small
  have takes : s.takes bankMessageRow 0x7030 sub x := ⟨rfl, rfl, rfl⟩
  unfold State.writeObject
  simp only [value]
  exact (if_neg takes.passes).trans rfl

/-- Where no object has changed nothing waits to be written to flash (R388). -/
theorem State.persist_of_ob {s old : State} (same : ∀ k, s.ob k = old.ob k) : s.persist old = s := by
  unfold State.persist
  rw [if_neg]
  simp [same]

/-- A seedbank message of a peer that is served, accepted. -/
theorem PeerServed.bankMessage {s w : State} {v : Via} {sub x : Nat} (served : PeerServed s v) (hint : Option Nat) (first : 1 ≤ sub) (last : sub ≤ 4)
    (small : x < 256 ^ 16)
    (arrives : (s.takeRequest v).bankMessage v sub x (hint.orElse fun _ => s.hintOf v (valueMsg v 0x7030 sub x 16)) = (w, .ok)) :
    s.requestFor v hint (valueMsg v 0x7030 sub x 16) = s.answered w v (valueMsg v 0x7030 sub x 16) [] :=
  served.writeReq hint (writes_bank first last) rfl ((State.writeObject_bank small).trans arrives)

/-- One that is answered later leaves what it has left so far. -/
theorem PeerServed.bankMessage_later {s w : State} {v : Via} {sub x : Nat} (served : PeerServed s v) (first : 1 ≤ sub) (last : sub ≤ 4)
    (small : x < 256 ^ 16) (same : ∀ k, w.ob k = (s.takeRequest v).ob k)
    (arrives : (s.takeRequest v).bankMessage v sub x (s.hintOf v (valueMsg v 0x7030 sub x 16)) = (w, .later)) :
    s.writeReq v 0x7030 sub x 16 = w := by
  have writes := writes_bank first last
  have executed : (s.takeRequest v).execute v (s.hintOf v (valueMsg v 0x7030 sub x 16)) (valueMsg v 0x7030 sub x 16) = (w, .later) := by
    have reached := execute_write (s := s.takeRequest v) (v := v) (hint := s.hintOf v (valueMsg v 0x7030 sub x 16))
      (m := valueMsg v 0x7030 sub x 16) (badHeader_value writes.short) (writes.row _) (fits_value writes.sized writes.some_)
      (by rw [served.role]; rfl) rfl writes.notCommit writes.unstaged
    have untouched : (s.takeRequest v).touchStaged v.role (valueMsg v 0x7030 sub x 16).index = s.takeRequest v := by
      unfold State.touchStaged
      rw [if_pos]
      rw [Bool.not_eq_true']
      exact writes.noneStaged
    refine reached.trans ?_
    rw [untouched, State.writeObject_bank small, arrives]
  have ran : s.requestFor v none (valueMsg v 0x7030 sub x 16) = _ := served.requestFor none executed
  rw [State.respond_later, State.persist_of_ob same] at ran
  exact ran

/-! ## FOLD_CHECK -/

/-- A FOLD_CHECK's fields read back (Table 9-6). -/
theorem State.bankMessage_foldCheck {s : State} {v : Via} {set gen : Nat} {value : Word64} {hint : Option Nat} (setSmall : set < 65536)
    (genSmall : gen < 2 ^ 32) :
    s.bankMessage v 3 (set * 2 ^ 112 + gen * 2 ^ 64 + value.toNat) hint = s.foldCheckArrives hint v set gen value := by
  have word := value.isLt
  generalize isX : set * 2 ^ 112 + gen * 2 ^ 64 + value.toNat = x
  have unreserved : fld x 96 16 = 0 := by
    unfold fld
    omega
  have isSet : fld x 112 16 = set := by
    unfold fld
    omega
  have isGen : fld x 64 32 = gen := by
    unfold fld
    omega
  have isValue : BitVec.ofNat 64 x = value := by
    refine BitVec.eq_of_toNat_eq ?_
    rw [BitVec.toNat_ofNat]
    omega
  unfold State.bankMessage
  rw [if_neg (by decide), if_neg (by decide), if_pos (by decide), if_neg (by rw [unreserved]; decide), isSet, isGen, isValue]

/-- A check of the generation in progress is kept until the holder compares (R306). -/
theorem State.foldCheckArrives_enters {s : State} {v : Via} {slot set gen : Nat} {value : Word64} {g : Gen} (progress : (s.job slot).gen = some g)
    (own : g.gen = gen) (runs : g.abandoned = false) (member : g.grove.contains v.src = true) (entry : (s.bankEntry slot set).isSome = true)
    (fresh : g.checks.any (fun c => c.1 == v.src && c.2.1 == set) = false) :
    s.foldCheckArrives (some slot) v set gen value =
      (s.modJob slot (fun j => { j with gen := some { g with checks := g.checks ++ [(v.src, set, value, v.tag)] } }), .later) := by
  unfold State.foldCheckArrives
  simp only [progress]
  exact if_pos (by simp only [own, runs, member, entry, fresh, beq_self_eq_true, Bool.not_false, Bool.and_self])

/-! ## TWIN_SLOT -/

/-- A TWIN_SLOT's fields read back (Table 9-6). -/
theorem State.bankMessage_twinSlot {s : State} {v : Via} {gen base size job : Nat} {hint : Option Nat} (genSmall : gen < 2 ^ 32) (baseSmall : base < 2 ^ 32)
    (sizeSmall : size < 2 ^ 32) (held : hint.bind s.jobOf = some job) :
    s.bankMessage v 4 (gen * 2 ^ 96 + base * 2 ^ 64 + size * 2 ^ 32) hint = s.twinSlotArrives ((s.slotOf job).getD 16) job gen base size := by
  generalize isX : gen * 2 ^ 96 + base * 2 ^ 64 + size * 2 ^ 32 = x
  have unreserved : fld x 0 32 = 0 := by
    unfold fld
    omega
  have isGen : fld x 96 32 = gen := by
    unfold fld
    omega
  have isBase : fld x 64 32 = base := by
    unfold fld
    omega
  have isSize : fld x 32 32 = size := by
    unfold fld
    omega
  unfold State.bankMessage
  rw [if_neg (by decide), if_neg (by decide), if_neg (by decide), if_neg (by rw [unreserved]; decide), isGen, isBase, isSize, held]
  rfl

/-- The slot copy a twin makes of a live copy (R301, R310). -/
def State.slotCopied (s : State) (a n k gen st : Nat) : State :=
  let w := s.put (a + k * n) (s.bytesAt a n)
  { w with bank := { w.bank with copies := w.bank.copies.filter (fun x => x.base != a + k * n) ++ [⟨a + k * n, n, k, gen, st, 0⟩] } }

/-- A live copy that is whole and of the generation's step becomes its slot copy. -/
theorem State.twinSlotArrives_copies {s : State} {slot job gen base size st : Nat} (some_ : 0 < size)
    (whole : s.liveWhole (base * 65536) (size * 65536) = some st)
    (ofStep : ∀ g, (s.job slot).gen = some g → g.gen = gen ∧ s.copyOfStep slot g.step st = true)
    (may : s.peerMay job (base * 65536) (3 * (size * 65536)) = true) (sound : s.firstFault (base * 65536) (size * 65536) = none) :
    s.twinSlotArrives slot job gen base size =
      (s.slotCopied (base * 65536) (size * 65536) (if gen % 2 = 1 then 1 else 2) gen st, .ok) := by
  have fits : (((s.job slot).gen.map (fun g => g.gen == gen && s.copyOfStep slot g.step st)).getD true) = true := by
    cases progress : (s.job slot).gen with
    | none => rfl
    | some g =>
      obtain ⟨own, copy⟩ := ofStep g progress
      simp [own, copy]
  have parity : (if (gen % 2 == 1) = true then 1 else 2) = if gen % 2 = 1 then 1 else 2 := by
    simp only [beq_iff_eq]
  unfold State.twinSlotArrives
  simp only [whole, sound, fits, may, parity]
  rw [if_neg (by simp; omega), if_neg (by simp), if_neg (by simp)]
  rfl

/-! ## GEN_DONE and GEN_COMPLETE -/

/-- A GEN_DONE's fields read back (Table 9-6). -/
theorem State.bankMessage_genDone {s : State} {v : Via} {slot gen plots failures cost : Nat} (genSmall : gen < 2 ^ 32) (plotsSmall : plots < 2 ^ 17)
    (failuresSmall : failures < 2 ^ 32) (costSmall : cost < 2 ^ 32) :
    s.bankMessage v 1 (gen * 2 ^ 96 + plots * 2 ^ 79 + failures * 2 ^ 32 + cost) (some slot) =
      s.genDoneArrives slot v gen plots failures cost := by
  generalize isX : gen * 2 ^ 96 + plots * 2 ^ 79 + failures * 2 ^ 32 + cost = x
  have unreserved : fld x 64 15 = 0 := by
    unfold fld
    omega
  have isGen : fld x 96 32 = gen := by
    unfold fld
    omega
  have isPlots : fld x 79 17 = plots := by
    unfold fld
    omega
  have isFailures : fld x 32 32 = failures := by
    unfold fld
    omega
  have isCost : fld x 0 32 = cost := by
    unfold fld
    omega
  unfold State.bankMessage
  rw [if_pos (by decide)]
  simp only [Option.orElse_some, unreserved, isGen, isPlots, isFailures, isCost]
  exact if_neg (by decide)

/-- A GEN_DONE enters the node of the first child that it can stand for (R312, log entry 38). -/
theorem State.genDoneArrives_enters {s : State} {v : Via} {slot gen plots failures cost l first : Nat} {g : Gen}
    (progress : (s.job slot).gen = some g) (own : g.gen = gen)
    (child : (s.doneChildren slot v.src).find? (fun x => x.2.2 == plots && !g.sums.any (fun y => y.1 == x.1 && y.2.1 == x.2.1)) = some (l, first, plots)) :
    s.genDoneArrives slot v gen plots failures cost = (s.addDone slot 20 l first (plots, failures, cost), .ok) := by
  unfold State.genDoneArrives
  simp only [progress]
  rw [if_neg (by simp [own])]
  have same : (s.doneChildren slot v.src).find? (fun (l, first, k) => k == plots && !g.sums.any (fun x => x.1 == l && x.2.1 == first)) =
      some (l, first, plots) := child
  rw [same]

/-- A GEN_COMPLETE's fields read back (Table 9-6). -/
theorem State.bankMessage_genComplete {s : State} {v : Via} {slot gen next interval : Nat} (genSmall : gen < 2 ^ 32) (nextSmall : next < 2 ^ 48)
    (intervalSmall : interval < 65536) :
    s.bankMessage v 2 (gen * 2 ^ 96 + next * 2 ^ 48 + interval * 2 ^ 32) (some slot) = s.genCompleteArrives slot gen next interval := by
  generalize isX : gen * 2 ^ 96 + next * 2 ^ 48 + interval * 2 ^ 32 = x
  have unreserved : fld x 0 32 = 0 := by
    unfold fld
    omega
  have isGen : fld x 96 32 = gen := by
    unfold fld
    omega
  have isNext : fld x 48 48 = next := by
    unfold fld
    omega
  have isInterval : fld x 32 16 = interval := by
    unfold fld
    omega
  unfold State.bankMessage
  rw [if_neg (by decide), if_pos (by decide)]
  simp only [Option.orElse_some, unreserved, isGen, isNext, isInterval]
  exact if_neg (by decide)

/-- A GEN_COMPLETE that is not a repetition is acted on and passed on (R313). -/
theorem State.genCompleteArrives_acts {s : State} {slot gen next interval : Nat} (fresh : (s.job slot).gen.isSome = true ∨ s.ob (Obj.lastGen slot) ≠ gen) :
    s.genCompleteArrives slot gen next interval =
      ((s.genCompleted slot gen next interval).sendGenComplete slot gen next interval, .ok) := by
  refine if_neg ?_
  rcases fresh with progress | other
  · simp [Option.isNone_eq_false_iff.2 progress]
  · simp [other]

/-! ## The messages -/

section
variable {s : State} {v : Via} (served : PeerServed s v)
include served

theorem exec_foldCheck {slot set gen : Nat} {value : Word64} {g : Gen} (setSmall : set < 65536) (genSmall : gen < 2 ^ 32)
    (slotIs : s.hintOf v (writeMsg v 0x7030 3 (bytesOf (set * 2 ^ 112 + gen * 2 ^ 64 + value.toNat) 16)) = some slot)
    (progress : ((s.takeRequest v).job slot).gen = some g) (own : g.gen = gen) (runs : g.abandoned = false) (member : g.grove.contains v.src = true)
    (entry : ((s.takeRequest v).bankEntry slot set).isSome = true) (fresh : g.checks.any (fun c => c.1 == v.src && c.2.1 == set) = false) :
    exec (.foldCheck v set gen value) s = .next ((s.takeRequest v).modJob slot (fun j => { j with
      gen := some { g with checks := g.checks ++ [(v.src, set, value, v.tag)] } })) := by
  have packed : pack [(112, 16, set), (64, 32, gen), (0, 64, value.toNat)] = set * 2 ^ 112 + gen * 2 ^ 64 + value.toNat := by
    have := value.isLt
    simp only [pack]
    omega
  have kept := State.foldCheckArrives_enters (s := s.takeRequest v) (value := value) progress own runs member entry fresh
  have ran := served.bankMessage_later (sub := 3) (x := set * 2 ^ 112 + gen * 2 ^ 64 + value.toNat)
    (w := (s.takeRequest v).modJob slot (fun j => { j with gen := some { g with checks := g.checks ++ [(v.src, set, value, v.tag)] } }))
    (by decide) (by decide) (by have := value.isLt; omega) (fun k => State.modJob_ob ..)
    (by rw [show s.hintOf v (valueMsg v 0x7030 3 (set * 2 ^ 112 + gen * 2 ^ 64 + value.toNat) 16) = some slot from slotIs,
          State.bankMessage_foldCheck setSmall genSmall, kept])
  rw [← packed] at ran
  exact congrArg Host.Outcome.next ran

theorem exec_twinSlot {gen base size job st : Nat} (genSmall : gen < 2 ^ 32) (baseSmall : base < 2 ^ 32) (some_ : 0 < size) (sizeSmall : size < 2 ^ 32)
    (held : ((s.hintOf v (writeMsg v 0x7030 4 (bytesOf (gen * 2 ^ 96 + base * 2 ^ 64 + size * 2 ^ 32) 16))).bind (s.takeRequest v).jobOf) = some job)
    (copies : (s.takeRequest v).twinSlotArrives (((s.takeRequest v).slotOf job).getD 16) job gen base size =
      ((s.takeRequest v).slotCopied (base * 65536) (size * 65536) (if gen % 2 = 1 then 1 else 2) gen st, .ok)) :
    exec (.twinSlot v gen base size) s = .next (s.answered
      ((s.takeRequest v).slotCopied (base * 65536) (size * 65536) (if gen % 2 = 1 then 1 else 2) gen st) v
      (writeMsg v 0x7030 4 (bytesOf (gen * 2 ^ 96 + base * 2 ^ 64 + size * 2 ^ 32) 16)) []) := by
  have packed : pack [(96, 32, gen), (64, 32, base), (32, 32, size)] = gen * 2 ^ 96 + base * 2 ^ 64 + size * 2 ^ 32 := by
    simp only [pack]
    omega
  have ran := served.bankMessage (sub := 4) (x := gen * 2 ^ 96 + base * 2 ^ 64 + size * 2 ^ 32) none (by decide) (by decide) (by omega)
    ((State.bankMessage_twinSlot genSmall baseSmall sizeSmall held).trans copies)
  rw [← packed] at ran ⊢
  exact congrArg Host.Outcome.next ran

theorem exec_genDone {slot gen plots failures cost l first : Nat} {g : Gen} (genSmall : gen < 2 ^ 32) (plotsSmall : plots < 2 ^ 17)
    (failuresSmall : failures < 2 ^ 32) (costSmall : cost < 2 ^ 32) (progress : ((s.takeRequest v).job slot).gen = some g) (own : g.gen = gen)
    (child : ((s.takeRequest v).doneChildren slot v.src).find?
      (fun x => x.2.2 == plots && !g.sums.any (fun y => y.1 == x.1 && y.2.1 == x.2.1)) = some (l, first, plots)) :
    exec (.genDone v slot gen plots failures cost) s = .next (s.answered ((s.takeRequest v).addDone slot 20 l first (plots, failures, cost)) v
      (writeMsg v 0x7030 1 (bytesOf (gen * 2 ^ 96 + plots * 2 ^ 79 + failures * 2 ^ 32 + cost) 16)) []) := by
  have packed : pack [(96, 32, gen), (79, 17, plots), (32, 32, failures), (0, 32, cost)] =
      gen * 2 ^ 96 + plots * 2 ^ 79 + failures * 2 ^ 32 + cost := by
    simp only [pack]
    omega
  have ran := served.bankMessage (sub := 1) (x := gen * 2 ^ 96 + plots * 2 ^ 79 + failures * 2 ^ 32 + cost) (some slot) (by decide) (by decide)
    (by omega) ((State.bankMessage_genDone genSmall plotsSmall failuresSmall costSmall).trans (State.genDoneArrives_enters progress own child))
  rw [← packed] at ran ⊢
  exact congrArg Host.Outcome.next ran

theorem exec_genComplete {slot gen next interval : Nat} (genSmall : gen < 2 ^ 32) (nextSmall : next < 2 ^ 48) (intervalSmall : interval < 65536)
    (fresh : ((s.takeRequest v).job slot).gen.isSome = true ∨ (s.takeRequest v).ob (Obj.lastGen slot) ≠ gen) :
    exec (.genComplete v slot gen next interval) s = .next (s.answered
      (((s.takeRequest v).genCompleted slot gen next interval).sendGenComplete slot gen next interval) v
      (writeMsg v 0x7030 2 (bytesOf (gen * 2 ^ 96 + next * 2 ^ 48 + interval * 2 ^ 32) 16)) []) := by
  have packed : pack [(96, 32, gen), (48, 48, next), (32, 16, interval)] = gen * 2 ^ 96 + next * 2 ^ 48 + interval * 2 ^ 32 := by
    simp only [pack]
    omega
  have ran := served.bankMessage (sub := 2) (x := gen * 2 ^ 96 + next * 2 ^ 48 + interval * 2 ^ 32) (some slot) (by decide) (by decide)
    (by omega) ((State.bankMessage_genComplete genSmall nextSmall intervalSmall).trans (State.genCompleteArrives_acts fresh))
  rw [← packed] at ran ⊢
  exact congrArg Host.Outcome.next ran

end

/-- Settles O10: the fields of each message read back, and it reaches its own arrival. -/
theorem seedbankMessagesComplete : Obligations.SeedbankMessagesComplete := by
  unfold Obligations.SeedbankMessagesComplete
  intro s v served
  refine ⟨fun slot set gen value g setSmall genSmall => exec_foldCheck served setSmall genSmall,
    fun job gen base size st genSmall baseSmall some_ sizeSmall held whole ofStep may sound => ?_,
    fun slot gen plots failures cost g l first _ genSmall plotsSmall failuresSmall costSmall =>
      exec_genDone served genSmall plotsSmall failuresSmall costSmall,
    fun slot gen next interval _ genSmall nextSmall intervalSmall => exec_genComplete served genSmall nextSmall intervalSmall⟩
  exact exec_twinSlot served genSmall baseSmall some_ sizeSmall held (State.twinSlotArrives_copies some_ whole ofStep may sound)

end Sys2Proof.Machine
end

section
/-! PROOFS. The operations of the dictionary over the mailbox (R373 to R376, R382, R383, R386, R437); with them O11. -/

namespace Sys2Proof.Machine

/-! ## A message as it stands -/

/-- A mailbox request that is served is answered with what its execution comes to. -/
theorem HostServed.message {s w : State} {v : Via} {m : DictMsg} {d : List Byte} (served : HostServed s v)
    (executed : (s.takeRequest v).execute { v with tag := m.tag } (s.hintOf v m) m = (w, .ok d)) : s.request v m = s.answered w v m d :=
  requestFor_host none served executed

/-- What R373 asks of a request before its operation. -/
structure Admitted (u : State) (m : DictMsg) (r : ObjRow) : Prop where
  header : badHeader m = false
  row : u.target m.index m.sub = some r
  fits : fits r m = true
  allowed : u.denied .host r m.op = false

section
variable {u : State} {v : Via} {hint : Option Nat} {m : DictMsg} {r : ObjRow} (admitted : Admitted u m r) (host : v.role = .host)
include admitted host

theorem Admitted.describe (op : m.op = 4) : u.execute v hint m = (u, .ok (u.describe r)) := by
  obtain ⟨header, row, fits, allowed⟩ := admitted
  rw [op] at allowed
  simp [State.execute, header, row, fits, host, allowed, op]

theorem Admitted.read (notDescribe : m.op ≠ 4) (notWrite : m.op ≠ 2) : u.execute v hint m = (u, .ok (u.readData .host r m)) := by
  obtain ⟨header, row, fits, allowed⟩ := admitted
  simp [State.execute, header, row, fits, host, allowed, notDescribe, notWrite]

theorem Admitted.stage (op : m.op = 2) (notCommit : m.sub ≠ 0xFF) (staged : r.acc = .rwc) : u.execute v hint m = u.stage .host r m := by
  obtain ⟨header, row, fits, allowed⟩ := admitted
  rw [op] at allowed
  simp [State.execute, header, row, fits, host, allowed, op, notCommit, staged]

theorem Admitted.write (op : m.op = 2) (notCommit : m.sub ≠ 0xFF) (unstaged : r.acc ≠ .rwc) :
    u.execute v hint m = (u.touchStaged .host m.index).writeObject v hint r m := by
  obtain ⟨header, row, fits, allowed⟩ := admitted
  rw [execute_write header row fits (by rw [host]; exact allowed) op notCommit unstaged, host]

end

/-! ## A WRITE of an object without an effect of its own -/

/-- An RW object other than subindex 0xFF stands in the table of rows. -/
theorem State.rowOf_of_target {s : State} {index sub : Nat} {r : ObjRow} (row : s.target index sub = some r) (notCommit : sub ≠ 0xFF)
    (rw_ : r.acc = .rw) : rowOf index sub = some r := by
  unfold State.target at row
  generalize rows : (if (index == 0x9020 || index == 0x9021) && !s.cap 4 then [] else rowsAt index) = l at row
  dsimp only at row
  rw [if_neg notCommit] at row
  split at row
  · exact absurd row nofun
  · next filled =>
    split at row
    · exact absurd rw_ (by simp [← Option.some.inj row])
    · split at rows
      · subst rows
        exact absurd row nofun
      · subst rows
        exact row

/-- The rows of these indices are write-only or read-only. -/
theorem notRw_of_effect {index sub : Nat} {r : ObjRow} (row : rowOf index sub = some r)
    (effect : index ∈ [0x2050, 0x4012, 0x5004, 0x5012, 0x6003, 0x6060, 0x7020, 0x7030, 0xF001]) : r.acc ≠ .rw := by
  have rows : ∀ i ∈ [0x2050, 0x4012, 0x5004, 0x5012, 0x6003, 0x6060, 0x7020, 0x7030, 0xF001], ∀ r ∈ rowsAt i, r.acc ≠ .rw := by decide
  exact rows index effect r (List.mem_of_find?_eq_some row)

/-- RESTORE_DEFAULTS and REPLAN_NOW are write-only. -/
theorem notRw_of_writeOne {index : Nat} {r : ObjRow} (row : rowOf index 2 = some r) (effect : index ∈ [0x1F00, 0x8004]) : r.acc ≠ .rw := by
  have rows : ∀ i ∈ [0x1F00, 0x8004], (rowOf i 2).map ObjRow.acc = some .wo := by decide
  have := rows index effect
  rw [row] at this
  simp at this
  rw [this]
  decide

/-- A WRITE puts a value in force where its object has no effect of its own. -/
theorem State.writeObject_plain {s : State} {v : Via} {hint : Option Nat} {r : ObjRow} {m : DictMsg} (row : rowOf m.index m.sub = some r)
    (rw_ : r.acc = .rw) (takes : s.takes r m.index m.sub (ofBytes m.data)) (plain : m.index ∉ [0x2001, 0x4020, 0x5001, 0x5050, 0x6050, 0xF000]) :
    s.writeObject v hint r m = (s.setOb (okey m.index m.sub) (ofBytes m.data), .ok) := by
  have noEffect : m.index ∉ [0x2050, 0x4012, 0x5004, 0x5012, 0x6003, 0x6060, 0x7020, 0x7030, 0xF001] := fun effect => notRw_of_effect row effect rw_
  have noOne (i : Nat) (one : i ∈ [0x1F00, 0x8004]) : (m.index == i && m.sub == 2) = false := by
    rw [Bool.and_eq_false_iff, beq_eq_false_iff_ne, beq_eq_false_iff_ne, ← Classical.not_and_iff_not_or_not]
    rintro ⟨rfl, sub⟩
    exact notRw_of_writeOne (sub ▸ row) one rw_
  simp only [List.mem_cons, List.not_mem_nil, or_false, not_or] at plain noEffect
  unfold State.writeObject
  simp only [takes.passes, noOne _ (.head _), noOne _ (.tail _ (.head _)), plain, noEffect, beq_iff_eq, if_false, Bool.false_eq_true]

/-- A staged value of an object of fixed size passes its encoding, a staged table its length (R382, R386). -/
theorem State.stage_accepted {s : State} {role : Role} {r : ObjRow} {m : DictMsg}
    (valid : match r.type with
      | .table entry count => m.offset + m.length ≤ entry * count
      | _ => encodingFault r (ofBytes m.data) = false) :
    s.stage role r m = ((s.stage role r m).1, .ok) := by
  unfold State.stage
  split
  · next entry count type =>
    rw [type] at valid
    rw [if_neg (Nat.not_lt.2 valid)]
  · next notTable =>
    have coded : encodingFault r (ofBytes m.data) = false := by
      split at valid
      · next entry count type => exact absurd type (notTable entry count)
      · exact valid
    simp [coded]

/-! ## A discard -/

/-- 0 to subindex 0xFF discards what the host has staged at an index (R383). -/
theorem HostServed.stageDiscard {s : State} {v : Via} {index : Nat} (served : HostServed s v) (commits : HostCommits s index) :
    s.request v (writeMsg v index 0xFF [0]) = s.answered ((s.takeRequest v).discard .host index) v (writeMsg v index 0xFF [0]) [] := by
  refine served.message ?_
  have row : (s.takeRequest v).target index 0xFF = some (commitRow index) := by
    rw [served.take]
    exact commits.row
  have good : badHeader (writeMsg v index 0xFF [0]) = false := rfl
  have fit : fits (commitRow index) (writeMsg v index 0xFF [0]) = true := rfl
  have value : ofBytes [0] = 0 := by decide
  unfold State.execute
  rw [if_neg (by rw [good]; decide)]
  simp only [writeMsg] at row fit ⊢
  rw [row]
  simp only [fit, served.role, commits.allowed, State.commit, value]
  rfl

/-! ## The operations -/

section
variable {s w : State} {v : Via} {m : DictMsg} {r : ObjRow} {d : List Byte} (served : HostServed s v)
include served

theorem exec_read_of (op : m.op = 1) (admitted : Admitted (s.takeRequest v) m r) :
    exec (.read v m) s = .next (s.answered (s.takeRequest v) v m ((s.takeRequest v).readData .host r m)) := by
  have ran := served.message (admitted.read (v := { v with tag := m.tag }) served.role (by omega) (by omega))
  rw [← ran]
  exact congrArg Host.Outcome.next (if_pos (by simp [opIs, op]))

theorem exec_readStaged_of (op : m.op = 3) (admitted : Admitted (s.takeRequest v) m r) :
    exec (.readStaged v m) s = .next (s.answered (s.takeRequest v) v m ((s.takeRequest v).readData .host r m)) := by
  have ran := served.message (admitted.read (v := { v with tag := m.tag }) served.role (by omega) (by omega))
  rw [← ran]
  exact congrArg Host.Outcome.next (if_pos (by simp [opIs, op]))

theorem exec_describe_of (op : m.op = 4) (admitted : Admitted (s.takeRequest v) m r) :
    exec (.describe v m) s = .next (s.answered (s.takeRequest v) v m ((s.takeRequest v).describe r)) := by
  have ran := served.message (admitted.describe (v := { v with tag := m.tag }) served.role op)
  rw [← ran]
  exact congrArg Host.Outcome.next (if_pos (by simp [opIs, op]))

theorem exec_write_of (op : m.op = 2) (notCommit : m.sub ≠ 0xFF) (unstaged : r.acc ≠ .rwc) (admitted : Admitted (s.takeRequest v) m r)
    (wrote : ((s.takeRequest v).touchStaged .host m.index).writeObject { v with tag := m.tag } (s.hintOf v m) r m = (w, .ok d)) :
    exec (.write v m) s = .next (s.answered w v m d) := by
  have ran := served.message ((admitted.write (v := { v with tag := m.tag }) served.role op notCommit unstaged).trans wrote)
  rw [← ran]
  exact congrArg Host.Outcome.next (if_pos (by simp [opIs, op]))

theorem exec_stageWrite_of (op : m.op = 2) (notCommit : m.sub ≠ 0xFF) (acc : r.acc = .rwc) (admitted : Admitted (s.takeRequest v) m r)
    (staged : (s.takeRequest v).stage .host r m = (w, .ok d)) : exec (.stageWrite v m) s = .next (s.answered w v m d) := by
  have ran := served.message ((admitted.stage (v := { v with tag := m.tag }) served.role op notCommit acc).trans staged)
  rw [← ran]
  exact congrArg Host.Outcome.next (if_pos (by simp [opIs, op]))

end

theorem State.touchStaged_refusedValue (s : State) (role : Role) (i index sub x : Nat) :
    (s.touchStaged role i).refusedValue index sub x = s.refusedValue index sub x := by
  unfold State.touchStaged
  split <;> rfl

/-- Settles O11: a request that is admitted comes to its operation, and a WRITE to its object. -/
theorem dictionaryOperationsComplete : Obligations.DictionaryOperationsComplete := by
  unfold Obligations.DictionaryOperationsComplete
  intro s v m r served
  have host := served.role
  refine ⟨fun header row fit allowed => ?_, fun index staged present below => ⟨?_, ?_⟩⟩
  · have admitted : Admitted (s.takeRequest v) m r := ⟨header, row, fit, allowed⟩
    refine ⟨fun op => exec_read_of served op admitted, fun op => exec_readStaged_of served op admitted,
      fun op => exec_describe_of served op admitted, fun op notCommit rw_ coded ranged accepted plain => ?_,
      fun w d op notCommit unstaged wrote => exec_write_of served op notCommit unstaged admitted (host ▸ wrote),
      fun op notCommit acc valid => exec_stageWrite_of served op notCommit acc admitted (State.stage_accepted valid)⟩
    exact exec_write_of served op notCommit (by rw [rw_]; decide) admitted (State.writeObject_plain (State.rowOf_of_target row notCommit rw_) rw_
      ⟨coded, ranged, (State.touchStaged_refusedValue ..).trans accepted⟩ plain)
  · exact congrArg Host.Outcome.next (served.stageDiscard (hostCommits_of_staged staged present below))
  · rw [State.answered_stagedAt host, State.stagedAt_discard_same]

end Sys2Proof.Machine
end

section
/-! PROOFS. The mailbox's control register, the window register, and the settings that go to flash (R367, R368, R388, R417); with
them O12. -/

namespace Sys2Proof.Machine

/-! ## The control register -/

section
variable {s : State} (ready : s.edge.ready = true) (link : s.edge.hostLink = true)
include ready link

/-- While a request is out GO is ignored (R368). -/
theorem exec_mailboxGo_ignored (w : BitVec 32) (m : DictMsg) (out : s.dict.go = true) :
    exec (.mailboxGo w m) s = .next { s with dict := s.dict.control w } := by
  have serves : (!s.edge.ready || !s.edge.hostLink) = false := by simp [ready, link]
  exact (if_neg (by rw [serves]; decide)).trans (if_pos out)

/-- Otherwise GO submits the request buffer (R367). -/
theorem exec_mailboxGo_submits (w : BitVec 32) (m : DictMsg) (free : s.dict.go = false) :
    exec (.mailboxGo w m) s = .next (({ s with dict := { s.dict.control w with go := true, request := m } } : State).request
      { role := .host, tag := m.tag } m) := by
  have serves : (!s.edge.ready || !s.edge.hostLink) = false := by simp [ready, link]
  exact (if_neg (by rw [serves]; decide)).trans (if_neg (by rw [free]; decide))

theorem exec_mailboxDoneClear_takes (w : BitVec 32) : exec (.mailboxDoneClear w) s = .next { s with dict := s.dict.control w } := by
  have serves : (!s.edge.ready || !s.edge.hostLink) = false := by simp [ready, link]
  exact if_neg (by rw [serves]; decide)

theorem exec_windowRegisterWrite_takes (w : BitVec 64) :
    exec (.windowRegisterWrite w) s = .next { s with edge := { s.edge with window := w &&& 0x0000FFFFC0000000 } } := by
  have serves : (!s.edge.ready || !s.edge.hostLink) = false := by simp [ready, link]
  exact if_neg (by rw [serves]; decide)

end

/-! ## The settings -/

/-- The settings there are now. -/
def State.settings (s : State) : KMap Nat := persistentKeys.foldl (fun m k => kset m k (s.ob k)) []

/-- A key entered with one value, whichever of its entries, has that value. -/
theorem kget?_foldl_kset (value : Nat → Nat) (l : List Nat) (m : KMap Nat) {k : Nat}
    (held : k ∈ l ∨ kget? m k = some (value k)) : kget? (l.foldl (fun m k => kset m k (value k)) m) k = some (value k) := by
  induction l generalizing m with
  | nil => exact held.elim (fun mem => absurd mem nofun) id
  | cons j l ih =>
    refine ih _ ?_
    by_cases same : k = j
    · rw [same]
      exact .inr (kget?_kset_same ..)
    · refine held.imp (fun mem => (List.mem_cons.1 mem).resolve_left same) fun before => ?_
      rw [kget?_kset_other _ _ _ _ same]
      exact before

/-- Every persistent object is among the settings (Table 11-7). -/
theorem State.kget?_settings (s : State) {k : Nat} (persistent : k ∈ persistentKeys) : kget? s.settings k = some (s.ob k) :=
  kget?_foldl_kset s.ob _ _ (.inl persistent)

/-- The area of flash that PERSIST_WRITE writes (R388). -/
def State.newArea (s : State) : FlashArea (KMap Nat) :=
  { seq := some (nextSeq s.dict.flashA s.dict.flashB), hours := s.hours, check := crc32c (settingsBytes s.settings), rest := 0, data := s.settings }

/-- The area holds every persistent object, with the check of its bytes. -/
theorem State.newArea_holds (s : State) : s.newArea.seq = some (nextSeq s.dict.flashA s.dict.flashB) ∧
    (∀ k ∈ persistentKeys, kget? s.newArea.data k = some (s.ob k)) ∧ s.newArea.rest = 0 ∧
    s.newArea.check = crc32c (settingsBytes s.newArea.data) := by
  simp only [State.newArea]
  exact ⟨trivial, fun k persistent => s.kget?_settings persistent, trivial, trivial⟩

/-- The settings go to the older area (R388). -/
theorem exec_persistWrite_writes {s : State} (powered : s.edge.powered = true) (waits : s.dict.pendingSince.isSome = true) :
    exec .persistWrite s = .next { s with dict := if olderIsA s.dict.flashA s.dict.flashB
      then { s.dict with pendingSince := none, flashA := s.newArea } else { s.dict with pendingSince := none, flashB := s.newArea } } := by
  have due : (!s.edge.powered || s.dict.pendingSince.isNone) = false := by simp [powered, Option.isNone_eq_false_iff.2 waits]
  exact if_neg (by rw [due]; decide)

/-- Settles O12: the registers by their condition, and the settings in the older area. -/
theorem mailboxAndFlashEventsComplete : Obligations.MailboxAndFlashEventsComplete := by
  unfold Obligations.MailboxAndFlashEventsComplete
  refine fun s => ⟨fun w m ready link => ⟨exec_mailboxGo_ignored ready link w m, exec_mailboxGo_submits ready link w m,
    exec_mailboxDoneClear_takes ready link w⟩, fun powered waits => ?_, fun w ready link => exec_windowRegisterWrite_takes ready link w⟩
  obtain ⟨seq, data, rest, check⟩ := s.newArea_holds
  refine ⟨_, s.newArea, exec_persistWrite_writes powered waits, ?_, ?_, seq, data, rest, check, fun k => ?_, rfl, rfl, rfl⟩
  · dsimp only
    split <;> rfl
  · dsimp only
    split <;> exact ⟨rfl, rfl⟩
  · refine State.ob_congr ?_ k
    dsimp only
    split <;> rfl

end Sys2Proof.Machine
end

section
/-! PROOFS. The fetch of a descriptor and the admission of its task (R157, R158, R161, R167, R418); with them O14. -/

namespace Sys2Proof.Machine

/-! ## The fetch -/

section
variable {s : State} {h : Nat} {c : Chan} (channel : s.chanAt h = some c) (open_ : c.destroying = false) (resident : c.resident = true)
  (more : c.tail ≠ c.fetched) (room : s.ringRoom c = true)
include channel open_ resident more room

/-- A ring in host memory: the host's answer is the descriptor (R157, R418). -/
theorem exec_fetchDescriptor_host (host : c.ringHost = true) (link : s.edge.hostLink = true) (x : Option (BitVec 1024)) :
    exec (.fetchDescriptor h x) s = .next (match x with
      | some d => s.admitDesc h c d
      | none => s.fetchFailed h c.descAddr) := by
  have ready : (c.destroying || !c.resident || c.tail == c.fetched || !s.ringRoom c || (c.ringHost && !s.edge.hostLink)) = false := by
    simp [open_, resident, more, room, link]
  have reached : exec (.fetchDescriptor h x) s = execFetchDescriptor h x s := rfl
  rw [reached]
  simp only [execFetchDescriptor, channel]
  rw [if_neg (by rw [ready]; decide), if_pos host]
  cases x <;> rfl

/-- A ring in the module's memory that reads well. -/
theorem exec_fetchDescriptor_own (own : c.ringHost = false) (allowed : s.firstRefused c.job false c.descAddr 128 = none)
    (served : s.touchesLost c.descAddr 128 = false) (sound : s.unreadFault c.early c.descAddr 128 = none) (x : Option (BitVec 1024)) :
    exec (.fetchDescriptor h x) s = .next (s.admitDesc h c
      (BitVec.ofNat 1024 ((c.early.foldl (fun s w => s.poke w.addr w.data) s).numAt c.descAddr 128))) := by
  have ready : (c.destroying || !c.resident || c.tail == c.fetched || !s.ringRoom c || (c.ringHost && !s.edge.hostLink)) = false := by
    simp [open_, resident, more, room, own]
  have reached : exec (.fetchDescriptor h x) s = execFetchDescriptor h x s := rfl
  rw [reached]
  simp only [execFetchDescriptor, channel]
  rw [if_neg (by rw [ready]; decide), if_neg (by rw [own]; decide), if_neg (by rw [allowed]; decide), if_neg (by rw [served]; decide), sound]

end

/-! ## The admission -/

/-- The channel once its expected descriptor has been fetched. -/
def Chan.advanced (c : Chan) : Chan := { c with fetched := c.fetched + 1, fetchTotal := c.fetchTotal + 1, expected := c.expected + 1, early := [] }

/-- The task of a descriptor that names no multicast group. -/
def State.newTask (s : State) (h : Nat) (c : Chan) (d : Desc) : Task :=
  { uid := c.uid, handle := h, id := c.expected, job := c.job, desc := d
    attempt := (s.setChan h c.advanced).attemptFor ((s.slotOf c.job).getD 16) d
    deps := (namedDeps d).filterMap (fun x => s.bindDep c.job x.1 x.2) }

/-- The state with the task added. -/
def State.withTask (s : State) (h : Nat) (c : Chan) (k : Task) : State := (s.setChan h c.advanced).setTasks (s.chan.tasks ++ [k])

/-- A descriptor that passes every check adds its task, which may read early. -/
theorem State.admitDesc_of_passes {s : State} {h : Nat} {c : Chan} {d : Desc}
    (passes : (s.setChan h c.advanced).admissionFault c.job ((s.slotOf c.job).getD 16) c.expected d = none) (single : D.mcCount d = 0) :
    s.admitDesc h c d =
      if D.earlyB d && s.shed == 0 && (s.newTask h c d).deps.any (fun x => x.state != .met)
      then (s.withTask h c (s.newTask h c d)).earlyRead (s.newTask h c d) else s.withTask h c (s.newTask h c d) := by
  have alone (u : State) : u.joinGroup c.job c.uid c.expected d = some (none, u) := by simp [State.joinGroup, single]
  unfold Chan.advanced at passes
  unfold State.admitDesc
  simp only [passes, alone]
  rfl

/-- Where every part that EARLY_B names is served the task has read them all (R167). -/
theorem State.earlyRead_of_served {s : State} {t : Task} (served : ∀ x ∈ earlyParts t.desc, s.readBad (x.1 / 64) x.1 x.2 = none) :
    s.earlyRead t = s.modTask t.uid t.id (fun x => { x with early := (earlyParts t.desc).map (fun x => ⟨x.1, s.bytesAt x.1 x.2⟩) }) := by
  have none_ : (earlyParts t.desc).filter (fun x => (s.readBad (x.1 / 64) x.1 x.2).isSome) = [] :=
    List.filter_eq_nil_iff.2 fun x mem => by simp [served x mem]
  have all_ : (earlyParts t.desc).filter (fun x => (s.readBad (x.1 / 64) x.1 x.2).isNone) = earlyParts t.desc :=
    List.filter_eq_self.2 fun x mem => by simp [served x mem]
  unfold State.earlyRead
  simp only [none_, all_, List.foldl_nil]

/-- Whether a read is served depends on memory alone (R126, R138). -/
theorem State.readBad_congr {s t : State} (same : t.mem = s.mem) (b lo len : Nat) : t.readBad b lo len = s.readBad b lo len := by
  unfold State.readBad State.pendingRepair State.blockFault
  rw [same]

/-- A change of the task just added changes no other, where its ID is new to its channel. -/
theorem modTask_append {l : List Task} {k : Task} (f : Task → Task) (fresh : ∀ x ∈ l, x.uid = k.uid → x.id ≠ k.id) :
    (l ++ [k]).map (fun x => if x.uid == k.uid && x.id == k.id then f x else x) = l ++ [f k] := by
  have kept : l.map (fun x => if x.uid == k.uid && x.id == k.id then f x else x) = l := by
    refine (List.map_congr_left fun x mem => if_neg ?_).trans (List.map_id l)
    simp only [Bool.and_eq_true, beq_iff_eq]
    exact fun same => fresh x mem same.1 same.2
  rw [List.map_append, kept, List.map_singleton, if_pos (by simp)]

/-- The task of a descriptor that passes is added, with what it has read early. -/
theorem State.admitDesc_adds {s : State} {h : Nat} {c : Chan} {d : Desc}
    (passes : (s.setChan h c.advanced).admissionFault c.job ((s.slotOf c.job).getD 16) c.expected d = none) (single : D.mcCount d = 0)
    (early : D.earlyB d = false ∨ 1 ≤ s.shed ∨ ((∀ x ∈ earlyParts d, s.readBad (x.1 / 64) x.1 x.2 = none) ∧
      ∀ x ∈ s.chan.tasks, x.uid = c.uid → x.id ≠ c.expected)) :
    ∃ l, s.admitDesc h c d = s.withTask h c { s.newTask h c d with early := l } := by
  rw [State.admitDesc_of_passes passes single]
  split
  · next reads =>
    simp only [Bool.and_eq_true, beq_iff_eq] at reads
    obtain ⟨⟨asks, normal⟩, -⟩ := reads
    obtain ⟨served, fresh⟩ := (early.resolve_left (by simp [asks])).resolve_left (by omega)
    have served' : ∀ x ∈ earlyParts (s.newTask h c d).desc, (s.withTask h c (s.newTask h c d)).readBad (x.1 / 64) x.1 x.2 = none :=
      fun x mem => (State.readBad_congr rfl _ _ _).trans (served x mem)
    rw [State.earlyRead_of_served served']
    exact ⟨_, congrArg (s.setChan h c.advanced).setTasks (modTask_append (k := s.newTask h c d) _ fresh)⟩
  · exact ⟨[], rfl⟩

/-- Settles O14: the fetch by where the ring lies, and the task that an admitted descriptor adds. -/
theorem descriptorFetchAdmitsTheNextDescriptor : Obligations.DescriptorFetchAdmitsTheNextDescriptor := by
  unfold Obligations.DescriptorFetchAdmitsTheNextDescriptor
  intro s h c channel open_ resident more room
  refine ⟨fun d host link => ⟨exec_fetchDescriptor_host channel open_ resident more room host link (some d),
      exec_fetchDescriptor_host channel open_ resident more room host link none⟩,
    fun x own allowed served sound => exec_fetchDescriptor_own channel open_ resident more room own allowed served sound x,
    fun d passes single early => ?_⟩
  obtain ⟨l, added⟩ := State.admitDesc_adds passes single early
  rw [added]
  exact ⟨{ s.newTask h c d with early := l }, rfl, rfl, rfl, rfl, rfl, rfl, rfl, rfl, rfl, rfl, s.setChan_same h c.advanced⟩

end Sys2Proof.Machine
end

section
/-! PROOFS. A task that starts and runs undisturbed leaves what `State.ran` says of its run; COPY and the tasks without a stand. -/

namespace Sys2Proof.Machine

/-! ## The start of a task that nothing disturbs -/

/-- A list whose tested property fails everywhere has no element with it. -/
theorem State.noGuestRead {k : Task} (all : (readPieces k.desc).all (fun x => !isGuest x.2.1) = true) :
    ((readPieces k.desc).any fun x => isGuest x.2.1) = false := by
  rw [List.any_eq_false]
  intro x mem guest
  have home := List.all_eq_true.mp all x mem
  rw [guest] at home
  exact absurd home (by decide)

/-- A task whose accesses are allowed and whose reads detect no error runs to its end: what is left is `State.ran`. -/
theorem RunsClean.start {s u : State} {t k : Task} {stands : List Nat} (clean : RunsClean s t stands u k)
    {run : State → Task → Ran} {r : Ran} (gives : run (u.withEarly k) k = r) (ends : r.abort = none)
    (writes : u.writeFault (joinWrites r.writes) = none) : s.start t stands run = u.ran k r := by
  have waits : (!k.guestReady && (readPieces k.desc).any (fun x => isGuest x.2.1)) = false := by
    rcases clean.local_ with ready | all
    · rw [ready]; rfl
    · rw [State.noGuestRead all, Bool.and_false]
  unfold State.start
  simp only [← clean.begun, clean.task, clean.reads, clean.outs, Option.orElse_none, waits, Bool.false_eq_true, if_false,
    clean.sound, gives, ends, writes]

/-- A task placed on its stands starts there. -/
theorem State.startOn_of_place {s : State} {h : Nat} {id : BitVec 32} {t : Task} {p : Placement} {stands : List Nat}
    {ok : Desc → Bool} (run : State → Task → Ran) (found : s.taskAt h id = some t) (may : s.mayStart t = true)
    (kind : ok t.desc = true) (placed : s.place t p = some stands) : s.startOn h id p ok run = s.start t stands run := by
  unfold State.startOn
  simp only [found, kind, may, Bool.and_self, if_true, placed]

/-- A task of the kind asked for, which needs no stand, starts. -/
theorem State.startBare_of_may {s : State} {h : Nat} {id : BitVec 32} {t : Task} {kind : Nat} (run : State → Task → Ran)
    (found : s.taskAt h id = some t) (may : s.mayStart t = true) (same : D.kind t.desc = kind) :
    s.startBare h id kind run = s.start t [] run := by
  unfold State.startBare
  simp only [found, same, may, beq_self_eq_true, Bool.and_self, if_true]

/-! ## Looking up a task that has been changed -/

/-- A change that keeps the name of a task is found under it. -/
theorem State.taskBy_modTask (s : State) (uid : Nat) (id : BitVec 32) (f : Task → Task)
    (named : ∀ x : Task, (f x).uid = x.uid ∧ (f x).id = x.id) :
    (s.modTask uid id f).taskBy uid id = (s.taskBy uid id).map f := by
  unfold State.taskBy State.modTask State.setTasks
  dsimp only
  rw [List.find?_map]
  have same : ((fun x : Task => x.uid == uid && x.id == id) ∘ fun x => if x.uid == uid && x.id == id then f x else x) =
      fun x => x.uid == uid && x.id == id := by
    funext x
    by_cases hit : (x.uid == uid && x.id == id) = true
    · simp only [Function.comp, hit, if_true, (named x).1, (named x).2]
    · simp only [Function.comp, hit, if_false, Bool.false_eq_true]
  rw [same]
  cases found : s.chan.tasks.find? (fun x => x.uid == uid && x.id == id) with
  | none => rfl
  | some x =>
    have hit := List.find?_some found
    simp only [Option.map_some, hit, if_true]

/-- A task found by its name has it. -/
theorem State.name_of_taskBy {s : State} {uid : Nat} {id : BitVec 32} {k : Task} (found : s.taskBy uid id = some k) :
    k.uid = uid ∧ k.id = id := by
  have hit := List.find?_some found
  rw [Bool.and_eq_true, beq_iff_eq, beq_iff_eq] at hit
  exact hit

/-! ## FABRIC (R239) -/

/-- A task as its start leaves it (R178). -/
def Task.begun (now : Nat) (stands : List Nat) (t : Task) : Task :=
  { t with phase := .running, started := true, result := none, stands := stands, pausedAt := none
           startAt := if t.phase == .held then t.startAt + t.pausedFor now else now }

/-- The start of a task without a stand changes nothing but the task. -/
theorem State.begin_bare (s : State) (t : Task) : s.begin t [] = s.modTask t.uid t.id (Task.begun s.now []) := rfl

/-- A task as its run leaves it, with what it has read. -/
def Task.afterRun (reads : List MemWrite) (r : Ran) (t : Task) : Task :=
  { t with report := r.report, busy := r.busy, units := r.units, read := reads ++ t.early
           result := if r.units.isEmpty && !r.later then some Status.ok else none }

/-- What a MATMUL keeps of its operands for a check of its blocks. -/
def State.readBy (s : State) (t : Task) : List MemWrite :=
  if D.kind t.desc == kMatmul then (readPieces t.desc).map (fun x => (⟨x.2.1, s.bytesAt x.2.1 x.2.2⟩ : MemWrite)) else []

/-- The run of a FABRIC task leaves its answer to come, on the task alone. -/
theorem State.ran_later (u : State) (k : Task) :
    let w := u.ran k { later := true }
    w.chan.tasks = (u.modTask k.uid k.id (Task.afterRun (u.readBy k) { later := true })).chan.tasks ∧ w.fab = u.fab ∧ w.mem = u.mem :=
  ⟨rfl, rfl, rfl⟩

/-- A FABRIC task with a free entry opens its transfer and leaves its packets to send (R239, R244). -/
theorem RunsClean.fabric {s u : State} {h : Nat} {id : BitVec 32} {t k : Task} (found : s.taskAt h id = some t)
    (may : s.mayStart t = true) (clean : RunsClean s t [] u k) (kind : D.kind t.desc = kFabric) (room : s.xferRoom false = true)
    (one : D.remoteEp k.desc ≠ 0xFFFF) :
    ∃ w x ps k', exec (.fabric h id) s = .next w ∧ w.taskBy t.uid t.id = some k' ∧ k'.phase = .running ∧ k'.result = none ∧
      w.fab.outXfers = s.fab.outXfers ++
        [{ xfer := x, dest := D.remoteEp k.desc, job := k.job, use := .task t.uid t.id, awaiting := [D.remoteEp k.desc], packets := ps }] ∧
      w.fab.sendQ = s.fab.sendQ ++ ps ∧ w.mem = s.mem := by
  obtain ⟨tasks, fab, mem⟩ := u.ran_later k
  let f := Task.afterRun (u.readBy k) { later := true }
  obtain ⟨uidk, idk⟩ := State.name_of_taskBy clean.task
  have started : s.start t [] (fun _ _ => ({ later := true } : Ran)) = u.ran k { later := true } := clean.start rfl rfl rfl
  have begunFab : u.fab = s.fab := by rw [clean.begun]; rfl
  have begunMem : u.mem = s.mem := by rw [clean.begun]; rfl
  have runs : k.phase = .running := by
    have there := clean.task
    rw [clean.begun] at there
    rw [s.begin_bare, s.taskBy_modTask _ _ (Task.begun s.now []) fun _ => ⟨rfl, rfl⟩, Option.map_eq_some_iff] at there
    obtain ⟨x, -, rfl⟩ := there
    rfl
  have phase : (f k).phase = k.phase := rfl
  have desc : (f k).desc = k.desc := rfl
  have job : (f k).job = k.job := rfl
  have here : (u.ran k { later := true }).taskBy t.uid t.id = some (f k) := by
    have same : (u.ran k { later := true }).taskBy t.uid t.id = (u.modTask t.uid t.id f).taskBy t.uid t.id := by
      unfold State.taskBy
      rw [tasks, uidk, idk]
    rw [same, u.taskBy_modTask _ _ f fun _ => ⟨rfl, rfl⟩, clean.task]
    rfl
  obtain ⟨uidf, idf⟩ := State.name_of_taskBy here
  have go : (!(D.kind t.desc == kFabric && s.mayStart t)) = false := by rw [kind, may]; rfl
  have single : (D.remoteEp (f k).desc == 0xFFFF) = false := by rw [desc]; exact beq_eq_false_iff_ne.mpr one
  have awake : ((f k).phase != .running) = false := by rw [phase, runs]; rfl
  let x := (u.ran k { later := true }).allocXfer.1
  let ps := (u.ran k { later := true }).allocXfer.2.fabricPackets (f k) x
  let w := (u.ran k { later := true }).allocXfer.2.track
    { xfer := x, dest := D.remoteEp (f k).desc, job := (f k).job, use := .task (f k).uid (f k).id,
      awaiting := [D.remoteEp (f k).desc], packets := ps }
  have eq : exec (.fabric h id) s = .next { w with fab := { w.fab with sendQ := w.fab.sendQ ++ ps } } := by
    change execFabric h id s = _
    unfold execFabric
    simp only [found, go, room, Bool.not_true, Bool.false_eq_true, if_false, started, here, awake, single, List.isEmpty_cons]
    rfl
  refine ⟨_, x, ps, f k, eq, here, phase.trans runs, rfl, ?_, ?_, mem.trans begunMem⟩
  · change (u.ran k { later := true }).fab.outXfers ++ _ = _
    rw [fab, begunFab, desc, job, uidf, idf]
  · change (u.ran k { later := true }).fab.sendQ ++ ps = _
    rw [fab, begunFab]

/-! ## STEP_END (R192) -/

/-- A STEP_END whose slot has kept no decision waits for one. -/
theorem exec_stepEnd_of_waits {s : State} {h : Nat} {id : BitVec 32} {t : Task} (found : s.taskAt h id = some t)
    (may : s.mayStart t = true) (kind : D.kind t.desc = kStepEnd) (kept : ((s.begin t []).job (s.slotOfTask t)).kept = []) :
    exec (.stepEnd h id) s = .next ((s.begin t []).modJob (s.slotOfTask t) (fun j => { j with
      stepEnd := some (t.uid, t.id, s.now, BitVec.ofNat 32 (D.addrA t.desc)) })) := by
  change execStepEnd h id s = _
  unfold execStepEnd
  simp only [found, kind, may, beq_self_eq_true, Bool.and_self, if_true, kept, List.find?_nil]
  rfl

/-- Settles O15: what may start starts, and a start that nothing disturbs leaves what `State.ran` says. -/
theorem tasksWithoutAStandComplete : Obligations.TasksWithoutAStandComplete := by
  unfold Obligations.TasksWithoutAStandComplete
  intro s h id t found may
  refine ⟨?copy, ?bare, exec_stepEnd_of_waits found may⟩
  case copy =>
    intro p stands u k kind placed clean a writes
    refine congrArg Host.Outcome.next ((State.startOn_of_place _ found may ?_ placed).trans (clean.start rfl rfl writes))
    exact beq_iff_eq.mpr kind
  case bare =>
    intro u k clean a
    refine ⟨fun kind => ?wait, fun l kind size writes => ?read, fun kind => ?write, fun kind room one => clean.fabric found may kind room one⟩
    case wait => exact congrArg Host.Outcome.next ((State.startBare_of_may _ found may kind).trans (clean.start rfl rfl rfl))
    case read =>
      exact congrArg Host.Outcome.next ((State.startBare_of_may _ found may kind).trans
        (clean.start (if_pos (beq_iff_eq.mpr size)) rfl writes))
    case write => exact congrArg Host.Outcome.next ((State.startBare_of_may _ found may kind).trans (clean.start rfl rfl rfl))

end Sys2Proof.Machine
end

section
/-! PROOFS. The tasks that run on stands: MATMUL and the vector operations (R86, R98 to R106). -/

namespace Sys2Proof.Machine

/-- The command of each row of the table of vector operations starts the task of its row's code and items. -/
theorem exec_vectorRow (row : (Nat → BitVec 32 → Placement → Instr) × Nat × (State → Desc → Nat → List VItem))
    (mem : row ∈ vectorRows) (h : Nat) (id : BitVec 32) (p : Placement) (s : State) :
    exec (row.1 h id p) s = .next (s.vectorTask h id p row.2.1 row.2.2) := by
  revert row
  simp only [vectorRows, List.forall_mem_cons, List.not_mem_nil, false_implies, implies_true, and_true]
  and_intros <;> rfl

/-- MATMUL starts the task whose run is that of its blocks. -/
theorem exec_matmul (h : Nat) (id : BitVec 32) (p : Placement) (s : State) : exec (.matmul h id p) s =
    .next (s.startOn h id p (fun d => D.kind d == kMatmul) fun s t => s.runMatmul p t) := rfl

/-- Settles O16: the start of a task on its stands, with the blocks of a MATMUL or the items of a vector operation as its run. -/
theorem standTasksComplete : Obligations.StandTasksComplete := by
  unfold Obligations.StandTasksComplete
  intro s h id p t stands u k found may placed clean
  constructor
  case left =>
    intro kind r ends writes
    have started := clean.start (run := fun s t => s.runMatmul p t) (r := r) rfl ends writes
    have own : (D.kind t.desc == kMatmul) = true := beq_iff_eq.mpr kind
    rw [exec_matmul, State.startOn_of_place (ok := fun d => D.kind d == kMatmul) _ found may own placed, started]
  case right =>
    intro row mem kind vop e r ends writes
    have own : (D.kind t.desc == kVector && D.vop t.desc == row.2.1) = true := by
      simp only [kind, vop, beq_self_eq_true, Bool.and_self]
    have started := clean.start (run := fun s t => s.runVector p t (row.2.2 s t.desc (s.seedOf t))) (r := r) rfl ends writes
    rw [exec_vectorRow row mem, State.vectorTask, State.startOn_of_place (ok := fun d => D.kind d == kVector && D.vop d == row.2.1) _ found may own placed,
      started]

end Sys2Proof.Machine
end

section
/-! PROOFS. What a write of the module leaves while no block waits for repair: memory and its checks, the bands that count as written,
and nothing else; of the bytes, those of its range (R120 to R125). -/

namespace Sys2Proof.Machine

/-- `t` is `s` but for bytes in `within`, the checks of their blocks, and the bands that count as written. -/
structure Written (within : Nat → Prop) (s t : State) : Prop where
  rest : t = { s with mem := t.mem, bank := { s.bank with dirty := t.bank.dirty, stores := t.bank.stores } }
  mem : t.mem = { s.mem with
    cells := t.mem.cells, okBlocks := t.mem.okBlocks, okWords := t.mem.okWords, badWords := t.mem.badWords
    badBlocks := t.mem.badBlocks, errored := t.mem.errored, healed := t.mem.healed }
  bytes : ∀ x, ¬ within x → t.byteAt x = s.byteAt x

/-- The addresses of [a, a + n). -/
def Within (a n x : Nat) : Prop := a ≤ x ∧ x < a + n

namespace Written

variable {within : Nat → Prop} {s t u : State}

theorem refl (within : Nat → Prop) (s : State) : Written within s s := ⟨rfl, rfl, fun _ _ => rfl⟩

theorem trans (a : Written within s t) (b : Written within t u) : Written within s u where
  rest := b.rest.trans (congrArg (fun x : State => { x with
    mem := u.mem, bank := { x.bank with dirty := u.bank.dirty, stores := u.bank.stores } }) a.rest)
  mem := b.mem.trans (congrArg (fun m : MemSt => { m with
    cells := u.mem.cells, okBlocks := u.mem.okBlocks, okWords := u.mem.okWords, badWords := u.mem.badWords
    badBlocks := u.mem.badBlocks, errored := u.mem.errored, healed := u.mem.healed }) a.mem)
  bytes x out := (b.bytes x out).trans (a.bytes x out)

theorem mono {wider : Nat → Prop} (a : Written within s t) (sub : ∀ x, within x → wider x) : Written wider s t :=
  ⟨a.rest, a.mem, fun x out => a.bytes x fun inn => out (sub x inn)⟩

theorem chan (a : Written within s t) : t.chan = s.chan := (congrArg State.chan a.rest :)
theorem jobs (a : Written within s t) : t.jobs = s.jobs := (congrArg State.jobs a.rest :)
theorem stands (a : Written within s t) : t.stands = s.stands := (congrArg State.stands a.rest :)
theorem fab (a : Written within s t) : t.fab = s.fab := (congrArg State.fab a.rest :)
theorem power (a : Written within s t) : t.power = s.power := (congrArg State.power a.rest :)
theorem dict (a : Written within s t) : t.dict = s.dict := (congrArg State.dict a.rest :)
theorem out (a : Written within s t) : t.out = s.out := (congrArg State.out a.rest :)
theorem ob (a : Written within s t) (k : Nat) : t.ob k = s.ob k := by unfold State.ob; rw [a.dict]
theorem repairs (a : Written within s t) : t.mem.repairs = s.mem.repairs := (congrArg MemSt.repairs a.mem :)
theorem regions (a : Written within s t) : t.mem.regions = s.mem.regions := (congrArg MemSt.regions a.mem :)

end Written

theorem written_store (s : State) (a : Nat) (l : List Byte) : Written (Within a l.length) s (s.store a l) where
  rest := rfl
  mem := rfl
  bytes x out := (s.poke_byteAt a x l).trans (dif_neg out)

theorem written_healBlock (s : State) (b : Nat) (calm : s.mem.repairs = []) : Written (fun _ => False) s (s.healBlock b) where
  rest := rfl
  mem := by
    have none : s.mem.repairs.filter (fun r => r.block != b) = s.mem.repairs := by rw [calm]; rfl
    unfold State.healBlock
    dsimp only [MemSt.heal, MemSt.good]
    rw [none]
  bytes _ _ := rfl

theorem State.mended_of_calm (s : State) (b : Nat) (full : Bool) (calm : s.mem.repairs = []) : s.mended b full = s.healBlock b := by
  unfold State.mended
  rw [calm]
  rfl

theorem written_writeBlock (s : State) (b lo : Nat) (data : List Byte) (calm : s.mem.repairs = []) :
    Written (Within lo data.length) s (s.writeBlock b lo data).1 := by
  unfold State.writeBlock
  split
  · have kept : (s.store lo data).mem.repairs = [] := calm
    rw [State.mended_of_calm _ _ _ kept]
    exact (written_store s lo data).trans ((written_healBlock _ b kept).mono fun _ no => no.elim)
  · split
    · exact .refl _ s
    · exact (written_store s lo data).trans ⟨rfl, rfl, fun _ _ => rfl⟩

/-- What a block takes of [a, a + n) lies in it. -/
theorem within_of_part {a b x : Nat} {data : List Byte}
    (inn : Within (max a (b * 64)) ((data.drop (max a (b * 64) - a)).take (min (a + data.length) (b * 64 + 64) - max a (b * 64))).length x) :
    Within a data.length x := by
  obtain ⟨low, high⟩ := inn
  rw [List.length_take, List.length_drop] at high
  constructor <;> omega

/-- A step of a write of several blocks keeps what the write keeps. -/
theorem written_foldl {α : Type} {within : Nat → Prop} {f : State × List Nat → α → State × List Nat}
    (step : ∀ acc x, acc.1.mem.repairs = [] → Written within acc.1 (f acc x).1) (l : List α) :
    ∀ acc : State × List Nat, acc.1.mem.repairs = [] → Written within acc.1 (l.foldl f acc).1 := by
  induction l with
  | nil => exact fun acc _ => .refl _ acc.1
  | cons x xs ih =>
    intro acc calm
    have first := step acc x calm
    exact first.trans (ih (f acc x) (first.repairs.trans calm))

theorem written_writeRange (s : State) (a : Nat) (data : List Byte) (calm : s.mem.repairs = []) :
    Written (Within a data.length) s (s.writeRange a data).1 := by
  unfold State.writeRange
  refine written_foldl (fun acc b calm => ?_) _ (s, []) calm
  exact (written_writeBlock acc.1 b _ _ calm).mono fun _ => within_of_part

theorem written_put (s : State) (a : Nat) (data : List Byte) (calm : s.mem.repairs = []) :
    Written (Within a data.length) s (s.put a data) := written_writeRange s a data calm

end Sys2Proof.Machine
end

section
/-! PROOFS. The frame of a task that runs to its end (R122, R164): each part of `State.ran` leaves alone what O17 names. -/

namespace Sys2Proof.Machine

/-- What a run `r` of the task leaves alone on the way from `s` to `u`. -/
structure RunFrame (t : Task) (r : Ran) (s u : State) : Prop where
  bytes : ∀ x, (∀ w ∈ r.writes, x < w.addr ∨ w.addr + w.data.length ≤ x) → u.byteAt x = s.byteAt x
  ob : r.unchecked = [] → ∀ k, k ∉ r.counts.map (·.1) → u.ob k = s.ob k
  tasks : ∀ k : Task, (k.uid ≠ t.uid ∨ k.id ≠ t.id) → (k ∈ u.chan.tasks ↔ k ∈ s.chan.tasks)
  chans : u.chan.chans = s.chan.chans
  jobs : u.jobs = s.jobs
  stand : ∀ n, { u.stand n with tile := (s.stand n).tile, worksSince := (s.stand n).worksSince } = s.stand n
  idle : ∀ n, n ∉ r.tiles.map (·.1) → n ∉ r.checks.map (·.checker) → n ∉ r.units.map (·.checker) → u.stand n = s.stand n
  repairs : u.mem.repairs = s.mem.repairs
  regions : u.mem.regions = s.mem.regions
  power : u.power = s.power
  fab : u.fab = s.fab

namespace RunFrame

variable {t : Task} {r : Ran} {s u v : State}

theorem refl (t : Task) (r : Ran) (s : State) : RunFrame t r s s :=
  ⟨fun _ _ => rfl, fun _ _ _ => rfl, fun _ _ => .rfl, rfl, rfl, fun _ => rfl, fun _ _ _ _ => rfl, rfl, rfl, rfl, rfl⟩

theorem trans (a : RunFrame t r s u) (b : RunFrame t r u v) : RunFrame t r s v where
  bytes x out := (b.bytes x out).trans (a.bytes x out)
  ob none k other := (b.ob none k other).trans (a.ob none k other)
  tasks k other := (b.tasks k other).trans (a.tasks k other)
  chans := b.chans.trans a.chans
  jobs := b.jobs.trans a.jobs
  stand n := (congrArg (fun x : StandSt => { x with tile := (s.stand n).tile, worksSince := (s.stand n).worksSince }) (b.stand n)).trans
    (a.stand n)
  idle n tiles checks units := (b.idle n tiles checks units).trans (a.idle n tiles checks units)
  repairs := b.repairs.trans a.repairs
  regions := b.regions.trans a.regions
  power := b.power.trans a.power
  fab := b.fab.trans a.fab

/-- A fold of steps that keep the frame keeps it. -/
theorem foldl {α : Type} {f : State → α → State} (l : List α) (step : ∀ u, ∀ x ∈ l, RunFrame t r u (f u x)) (s : State) :
    RunFrame t r s (l.foldl f s) := by
  induction l generalizing s with
  | nil => exact refl t r s
  | cons x xs ih =>
    exact (step s x List.mem_cons_self).trans (ih (fun u y mem => step u y (List.mem_cons_of_mem x mem)) (f s x))

/-- A fold of steps that need memory without repairs keeps the frame too. -/
theorem foldl_calm {α : Type} {f : State → α → State} (l : List α)
    (step : ∀ u, u.mem.repairs = [] → ∀ x ∈ l, RunFrame t r u (f u x)) (s : State) (calm : s.mem.repairs = []) :
    RunFrame t r s (l.foldl f s) := by
  induction l generalizing s with
  | nil => exact refl t r s
  | cons x xs ih =>
    have first := step s calm x List.mem_cons_self
    exact first.trans (ih (fun u calm y mem => step u calm y (List.mem_cons_of_mem x mem)) (f s x) (first.repairs.trans calm))

end RunFrame

variable (t : Task) (r : Ran)

/-- A change of the running task under its name is outside the frame. -/
theorem runFrame_modTask (s : State) (f : Task → Task) (named : ∀ x : Task, (f x).uid = x.uid ∧ (f x).id = x.id) :
    RunFrame t r s (s.modTask t.uid t.id f) where
  bytes _ _ := rfl
  ob _ _ _ := rfl
  tasks k other := by
    have miss : ¬ (k.uid == t.uid && k.id == t.id) = true := by
      rw [Bool.and_eq_true, beq_iff_eq, beq_iff_eq]
      exact fun both => other.elim (fun n => n both.1) fun n => n both.2
    constructor
    · intro mem
      obtain ⟨x, inn, rfl⟩ := List.mem_map.mp mem
      split at miss
      · next hit => exact absurd (by rw [(named x).1, (named x).2]; exact hit) miss
      · next hit => rwa [if_neg hit]
    · exact fun mem => List.mem_map.mpr ⟨k, mem, if_neg miss⟩
  chans := rfl
  jobs := rfl
  stand _ := rfl
  idle _ _ _ _ := rfl
  repairs := rfl
  regions := rfl
  power := rfl
  fab := rfl

/-- What leaves memory, objects, tasks, channels, jobs, stands, power and the fabric as they are keeps the frame. -/
theorem runFrame_of_same {s u : State} (mem : u.mem = s.mem) (objs : u.dict.objs = s.dict.objs) (chan : u.chan = s.chan)
    (jobs : u.jobs = s.jobs) (stands : u.stands = s.stands) (power : u.power = s.power) (fab : u.fab = s.fab) : RunFrame t r s u where
  bytes x _ := by unfold State.byteAt; rw [mem]
  ob _ k _ := by unfold State.ob; rw [objs]
  tasks k _ := by rw [chan]
  chans := by rw [chan]
  jobs := jobs
  stand n := by unfold State.stand; rw [stands]
  idle n _ _ _ := by unfold State.stand; rw [stands]
  repairs := by rw [mem]
  regions := by rw [mem]
  power := power
  fab := fab

/-! ## What a run counts and leaves on its stands -/

theorem runFrame_addOb (s : State) (x : Nat × Nat) (mem : x ∈ r.counts) : RunFrame t r s (s.addOb x.1 x.2) where
  bytes _ _ := rfl
  ob _ k other := s.setOb_other _ _ k fun same => other (same ▸ List.mem_map_of_mem mem)
  tasks _ _ := .rfl
  chans := rfl
  jobs := rfl
  stand _ := rfl
  idle _ _ _ _ := rfl
  repairs := rfl
  regions := rfl
  power := rfl
  fab := rfl

/-- A change of one stand's tile and of the time since when it works for another, where the run names the stand. -/
theorem runFrame_modStand (s : State) (n : Nat) (f : StandSt → StandSt)
    (kept : ∀ x y : StandSt, { f x with tile := y.tile, worksSince := y.worksSince } = { x with tile := y.tile, worksSince := y.worksSince })
    (named : n ∈ r.tiles.map (·.1) ∨ n ∈ r.checks.map (·.checker) ∨ n ∈ r.units.map (·.checker)) :
    RunFrame t r s (s.modStand n f) where
  bytes _ _ := rfl
  ob _ _ _ := rfl
  tasks _ _ := .rfl
  chans := rfl
  jobs := rfl
  stand k := by
    by_cases same : k = n
    · subst same
      rw [s.modStand_same]
      exact kept (s.stand k) (s.stand k)
    · rw [s.modStand_other _ same]
  idle k tiles checks units := s.modStand_other _ fun same => by
    subst same
    exact named.elim tiles fun rest => rest.elim checks units
  repairs := rfl
  regions := rfl
  power := rfl
  fab := rfl

theorem runFrame_leaveTile (s : State) (x : Nat × Tile) (mem : x ∈ r.tiles) : RunFrame t r s (s.leaveTile x) :=
  runFrame_modStand t r s x.1 (fun y => { y with tile := some x.2 }) (fun _ _ => rfl) (.inl (List.mem_map_of_mem mem))

theorem runFrame_counted (s : State) : RunFrame t r s (s.counted r) :=
  (RunFrame.foldl r.counts (runFrame_addOb t r) s).trans (RunFrame.foldl r.tiles (runFrame_leaveTile t r) _)

theorem runFrame_engage (s : State) :
    RunFrame t r s ((r.checks.map (·.checker) ++ r.units.map (·.checker)).foldl State.engage s) :=
  RunFrame.foldl _ (fun u n mem => runFrame_modStand t r u n (fun x => { x with worksSince := u.now }) (fun _ _ => rfl)
    (.inr (List.mem_append.mp mem))) s

theorem runFrame_noteUnchecked (s : State) (x : Nat × Nat) (mem : x ∈ r.unchecked) : RunFrame t r s (s.noteUnchecked t x) := by
  have logged := logged_logStand s x.1 { errRec 0x070B with
    job := t.job, step := D.step t.desc, handle := t.handle, task := t.id.toNat, attempt := t.attempt, detail0 := x.2 } {}
  exact {
    bytes := fun y _ => congrArg (fun m : MemSt => kget m.cells 0 y) logged.mem
    ob := fun none => absurd mem (none ▸ List.not_mem_nil)
    tasks := fun k _ => iff_of_eq (congrArg (fun c : ChanSt => k ∈ c.tasks) logged.chan)
    chans := congrArg ChanSt.chans logged.chan
    jobs := logged.jobs
    stand := fun n => congrArg (fun l => { kget l ({} : StandSt) n with tile := (s.stand n).tile, worksSince := (s.stand n).worksSince }) logged.stands
    idle := fun n _ _ _ => congrArg (fun l => kget l ({} : StandSt) n) logged.stands
    repairs := congrArg MemSt.repairs logged.mem
    regions := congrArg MemSt.regions logged.mem
    power := logged.power
    fab := logged.fab }

theorem runFrame_tally (s : State) : RunFrame t r s (s.tally t r) :=
  (runFrame_counted t r s).trans (RunFrame.foldl _ (fun u x mem => runFrame_noteUnchecked t r u x mem) _)

/-! ## What a run writes -/

/-- Joined writes cover what the writes cover. -/
theorem within_of_joinWrites {ws : List MemWrite} {v : MemWrite} {x : Nat} (mem : v ∈ joinWrites ws)
    (inn : Within v.addr v.data.length x) : ∃ w ∈ ws, Within w.addr w.data.length x := by
  induction ws generalizing v with
  | nil => exact absurd mem List.not_mem_nil
  | cons w ws ih =>
    have later : ∀ v ∈ joinWrites ws, Within v.addr v.data.length x → ∃ y ∈ w :: ws, Within y.addr y.data.length x := fun v mem inn =>
      let ⟨y, there, cover⟩ := ih mem inn
      ⟨y, List.mem_cons_of_mem w there, cover⟩
    have first : Within w.addr w.data.length x → ∃ y ∈ w :: ws, Within y.addr y.data.length x := fun cover =>
      ⟨w, List.mem_cons_self, cover⟩
    unfold joinWrites at mem
    split at mem
    · obtain rfl := List.mem_singleton.mp mem
      exact first inn
    · next y rest joined =>
      rw [joined] at later
      split at mem
      · next adjacent =>
        rcases List.mem_cons.mp mem with rfl | mem
        · by_cases low : x < w.addr + w.data.length
          · exact first ⟨inn.1, low⟩
          · refine later y List.mem_cons_self ⟨?_, ?_⟩
            · rw [beq_iff_eq.mp adjacent]; omega
            · have high : x < w.addr + (w.data ++ y.data).length := inn.2
              rw [List.length_append] at high
              rw [beq_iff_eq.mp adjacent]; omega
        · exact later v (List.mem_cons_of_mem y mem) inn
      · rcases List.mem_cons.mp mem with rfl | mem
        · exact first inn
        · exact later v mem inn

/-- A write of memory inside the run's writes keeps the frame. -/
theorem runFrame_written {within : Nat → Prop} {s u : State} (w : Written within s u)
    (inside : ∀ x, within x → ∃ w ∈ r.writes, Within w.addr w.data.length x) : RunFrame t r s u where
  bytes x out := w.bytes x fun inn =>
    let ⟨y, mem, low, high⟩ := inside x inn
    (out y mem).elim (fun below => absurd low (Nat.not_le.mpr below)) fun above => absurd high (Nat.not_lt.mpr above)
  ob _ k _ := w.ob k
  tasks k _ := by rw [w.chan]
  chans := by rw [w.chan]
  jobs := w.jobs
  stand n := by unfold State.stand; rw [w.stands]
  idle n _ _ _ := by unfold State.stand; rw [w.stands]
  repairs := w.repairs
  regions := w.regions
  power := w.power
  fab := w.fab

/-- A request to a guest is noted in the task, at the guest port and in what has been sent, and nowhere else. -/
theorem runFrame_askGuest (s : State) (op a n : Nat) (blocks : List GuestBlock) : RunFrame t r s (s.askGuest t op a n blocks) := by
  unfold State.askGuest State.sendGuest
  split
  · exact runFrame_of_same t r rfl rfl rfl rfl rfl rfl rfl
  · next tag _ =>
    have noted (e : EdgeSt) : RunFrame t r s { s with edge := e } := runFrame_of_same t r rfl rfl rfl rfl rfl rfl rfl
    have sent (v : State) (o : Out) : RunFrame t r v (v.emit o) := runFrame_of_same t r rfl rfl rfl rfl rfl rfl rfl
    have waits (v : State) := runFrame_modTask t r v (fun x => { x with guestWaits := x.guestWaits ++ [(siteOf a, tag)] }) fun _ => ⟨rfl, rfl⟩
    exact ((noted _).trans (waits _)).trans (sent _ _)

theorem runFrame_deliver (s : State) (calm : s.mem.repairs = []) : RunFrame t r s (s.deliver t r.writes) := by
  unfold State.deliver
  refine RunFrame.foldl_calm _ (fun u calm w mem => ?_) s calm
  have covered : ∀ x, Within w.addr w.data.length x → ∃ y ∈ r.writes, Within y.addr y.data.length x := fun _ => within_of_joinWrites mem
  dsimp only
  split
  · refine RunFrame.foldl _ (fun v c _ => ?_) u
    refine RunFrame.trans (runFrame_written t r (written_store ..) fun x inn => covered x ?_) (runFrame_askGuest ..)
    obtain ⟨low, high⟩ := inn
    rw [List.length_take, List.length_drop] at high
    constructor <;> omega
  · exact runFrame_written t r (written_put u w.addr w.data calm) covered

/-- A run of a task that ends keeps the frame. -/
theorem runFrame_ran (s : State) (calm : s.mem.repairs = []) : RunFrame t r s (s.ran t r) := by
  have reported := runFrame_modTask t r s (Task.afterRun (s.readBy t) r) fun _ => ⟨rfl, rfl⟩
  have opened (u : State) : RunFrame t r u { u with fire := { u.fire with checks := u.fire.checks ++ r.checks } } :=
    runFrame_of_same t r rfl rfl rfl rfl rfl rfl rfl
  have sent (u : State) (a : Nat) (l : List Byte) : RunFrame t r u (u.hostWrite a l) := runFrame_of_same t r rfl rfl rfl rfl rfl rfl rfl
  have before := (((reported.trans (opened _)).trans (runFrame_tally t r _)).trans (runFrame_engage t r _))
  unfold State.ran
  cases r.host with
  | none => exact before.trans (runFrame_deliver t r _ (before.repairs.trans calm))
  | some x =>
    have last := before.trans (sent _ x.1 x.2)
    exact last.trans (runFrame_deliver t r _ (last.repairs.trans calm))

/-- Settles O17: every part of a run keeps the frame, and its writes stay in what it writes. -/
theorem aTaskChangesOnlyWhatItWrites : Obligations.ATaskChangesOnlyWhatItWrites := by
  unfold Obligations.ATaskChangesOnlyWhatItWrites
  intro s t r calm u
  have frame := runFrame_ran t r s calm
  exact ⟨frame.bytes, frame.ob, frame.tasks, frame.chans, frame.jobs, frame.stand, frame.idle, frame.regions, frame.power, frame.fab⟩

end Sys2Proof.Machine
end

section
/-! PROOFS. The end of a task's pause (R178, R181): each task that bears the name of the resumed one runs on by its own pause; with it
the refutation of O18. -/

namespace Sys2Proof.Machine

namespace TwinNames

/-- A task preempted from stand 0 at time 1. -/
def paused : Task := { uid := 1, handle := 1, id := 0, job := 7, desc := 0, phase := .preempted, stands := [0], pausedAt := some 1 }

/-- A second task of that name, whose watchdog is not paused. -/
def unpaused : Task := { paused with pausedAt := none }

/-- Half 0 runs, stand 0 is idle and it is its job's turn there; both tasks are there at time 5. -/
def twins : State where
  now := 5
  chan := { tasks := [paused, unpaused] }
  dict := { objs := [(Obj.jobSlotId 0, 7), (Obj.halfState 0, 2)] }

/-- When each task started, by its watchdog, after a command. -/
def starts (o : Host.Outcome State Fault Refusal) : List Nat :=
  match o with
  | .next w => w.chan.tasks.map (·.startAt)
  | _ => []

/-- The task found runs on 4 ns later, the other without delay. -/
theorem starts_taskResume : starts (exec (.taskResume 1 0) twins) = [4, 0] := by decide +kernel

theorem twins_ready : (∀ n ∈ paused.stands, twins.standIdle n = true) ∧
    twins.turn (paused.stands.headD 0) = some (twins.slotOfTask paused) ∧ twins.shed < 3 ∧ twins.saveFault paused = none := by
  decide +kernel

end TwinNames

open TwinNames in
/-- Refutes O18: the statement moves the start of both tasks by the pause of the first. -/
theorem not_taskEndsComplete : ¬ Obligations.TaskEndsComplete := by
  unfold Obligations.TaskEndsComplete
  intro claim
  obtain ⟨-, -, -, resume⟩ := claim twins 1 0 paused rfl
  obtain ⟨idle, turn, shed, sound⟩ := twins_ready
  obtain ⟨w, ran, ⟨-, tasks⟩, -⟩ := resume rfl idle turn shed sound
  have here : starts (exec (.taskResume 1 0) twins) = [4, 4] := by
    rw [ran]
    change w.chan.tasks.map (·.startAt) = [4, 4]
    rw [tasks (by decide +kernel)]
    rfl
  rw [starts_taskResume] at here
  exact absurd here (by decide)

end Sys2Proof.Machine
end

section
/-! PROOFS. What a write of the module leaves when blocks wait for repair (R120, R137, R138): besides memory, what the accesses that waited
for a mended block change. -/

namespace Sys2Proof.Machine

/-- What a repair changes of a task that waited for it: what it has read, and its watchdog if it is held (R138, R178). -/
structure Waited (f : Task → Task) : Prop where
  rest : ∀ x, f x = { x with early := (f x).early, startAt := (f x).startAt, pausedAt := (f x).pausedAt }
  clock : ∀ x, x.phase ≠ .held → (f x).startAt = x.startAt ∧ (f x).pausedAt = x.pausedAt

namespace Waited

variable {f g : Task → Task}

theorem id : Waited id := ⟨fun _ => rfl, fun _ _ => ⟨rfl, rfl⟩⟩

theorem phase (w : Waited f) (x : Task) : (f x).phase = x.phase := (congrArg Task.phase (w.rest x) :)
theorem uid (w : Waited f) (x : Task) : (f x).uid = x.uid := (congrArg Task.uid (w.rest x) :)
theorem name (w : Waited f) (x : Task) : (f x).id = x.id := (congrArg Task.id (w.rest x) :)

theorem comp (v : Waited g) (w : Waited f) : Waited (g ∘ f) where
  rest x := (v.rest (f x)).trans (congrArg (fun y : Task => { y with
    early := (g (f x)).early, startAt := (g (f x)).startAt, pausedAt := (g (f x)).pausedAt }) (w.rest x))
  clock x free := by
    obtain ⟨startAt, pausedAt⟩ := w.clock x free
    obtain ⟨startAt', pausedAt'⟩ := v.clock (f x) (by rw [w.phase]; exact free)
    exact ⟨startAt'.trans startAt, pausedAt'.trans pausedAt⟩

end Waited

/-- `t` is `s` but for memory, the bands written, transfers, what has been sent, and what waited for a repair. -/
structure Stored (s t : State) : Prop where
  rest : t = { s with
    mem := t.mem, bank := { s.bank with dirty := t.bank.dirty, stores := t.bank.stores, copies := t.bank.copies }
    chan := { s.chan with tasks := t.chan.tasks, chans := t.chan.chans }
    fab := { s.fab with sendQ := t.fab.sendQ, outXfers := t.fab.outXfers, inXfers := t.fab.inXfers }, out := t.out }
  mem : t.mem = { s.mem with
    cells := t.mem.cells, okBlocks := t.mem.okBlocks, okWords := t.mem.okWords, badWords := t.mem.badWords
    badBlocks := t.mem.badBlocks, errored := t.mem.errored, healed := t.mem.healed, repairs := t.mem.repairs, reads := t.mem.reads }
  tasks : ∃ f, Waited f ∧ t.chan.tasks = s.chan.tasks.map f
  chans : ∃ f : Chan → Chan, (∀ c, f c = { c with early := (f c).early }) ∧ t.chan.chans = s.chan.chans.map (fun x => (x.1, f x.2))

namespace Stored

variable {s t u : State}

/-- Tasks and channels as they were. -/
theorem of_chan (rest : t = { s with
      mem := t.mem, bank := { s.bank with dirty := t.bank.dirty, stores := t.bank.stores, copies := t.bank.copies }
      chan := { s.chan with tasks := t.chan.tasks, chans := t.chan.chans }
      fab := { s.fab with sendQ := t.fab.sendQ, outXfers := t.fab.outXfers, inXfers := t.fab.inXfers }, out := t.out })
    (mem : t.mem = { s.mem with
      cells := t.mem.cells, okBlocks := t.mem.okBlocks, okWords := t.mem.okWords, badWords := t.mem.badWords
      badBlocks := t.mem.badBlocks, errored := t.mem.errored, healed := t.mem.healed, repairs := t.mem.repairs, reads := t.mem.reads })
    (chan : t.chan = s.chan) : Stored s t :=
  ⟨rest, mem, ⟨id, .id, by rw [chan, List.map_id]⟩, ⟨id, fun _ => rfl, by rw [chan]; exact (List.map_id _).symm⟩⟩

theorem refl (s : State) : Stored s s := .of_chan rfl rfl rfl

theorem trans (a : Stored s t) (b : Stored t u) : Stored s u where
  rest := b.rest.trans (congrArg (fun x : State => { x with
    mem := u.mem, bank := { x.bank with dirty := u.bank.dirty, stores := u.bank.stores, copies := u.bank.copies }
    chan := { x.chan with tasks := u.chan.tasks, chans := u.chan.chans }
    fab := { x.fab with sendQ := u.fab.sendQ, outXfers := u.fab.outXfers, inXfers := u.fab.inXfers }, out := u.out }) a.rest)
  mem := b.mem.trans (congrArg (fun m : MemSt => { m with
    cells := u.mem.cells, okBlocks := u.mem.okBlocks, okWords := u.mem.okWords, badWords := u.mem.badWords
    badBlocks := u.mem.badBlocks, errored := u.mem.errored, healed := u.mem.healed, repairs := u.mem.repairs, reads := u.mem.reads }) a.mem)
  tasks := by
    obtain ⟨f, wf, tf⟩ := a.tasks
    obtain ⟨g, wg, tg⟩ := b.tasks
    exact ⟨g ∘ f, wg.comp wf, by rw [tg, tf, List.map_map]⟩
  chans := by
    obtain ⟨f, wf, tf⟩ := a.chans
    obtain ⟨g, wg, tg⟩ := b.chans
    refine ⟨g ∘ f, fun c => ?_, by rw [tg, tf, List.map_map]; rfl⟩
    exact (wg (f c)).trans (congrArg (fun y : Chan => { y with early := (g (f c)).early }) (wf c))

theorem foldl {α : Type} {f : State → α → State} (step : ∀ u x, Stored u (f u x)) (l : List α) (s : State) : Stored s (l.foldl f s) := by
  induction l generalizing s with
  | nil => exact .refl s
  | cons x xs ih => exact (step s x).trans (ih (f s x))

theorem stands (a : Stored s t) : t.stands = s.stands := (congrArg State.stands a.rest :)
theorem dict (a : Stored s t) : t.dict = s.dict := (congrArg State.dict a.rest :)
theorem edge (a : Stored s t) : t.edge = s.edge := (congrArg State.edge a.rest :)

end Stored

/-! ## The accesses that waited for a block (R120, R138) -/

theorem stored_store (s : State) (a : Nat) (l : List Byte) : Stored s (s.store a l) := .of_chan rfl rfl rfl
theorem stored_healBlock (s : State) (b : Nat) : Stored s (s.healBlock b) := .of_chan rfl rfl rfl

theorem stored_hostReadOn (s : State) (id b : Nat) : Stored s (s.hostReadOn id b) := by
  unfold State.hostReadOn
  split
  · exact .refl s
  · dsimp only
    split <;> exact .of_chan rfl rfl rfl

theorem stored_giveTask (s : State) (uid : Nat) (id : BitVec 32) (b : Nat) : Stored s (s.giveTask uid id b) where
  rest := rfl
  mem := rfl
  tasks := by
    refine ⟨_, ⟨fun x => ?_, fun x _ => ?_⟩, rfl⟩
    · split <;> rfl
    · split <;> exact ⟨rfl, rfl⟩
  chans := ⟨fun c => c, fun _ => rfl, (List.map_id _).symm⟩

theorem stored_giveFetch (s : State) (uid b : Nat) : Stored s (s.giveFetch uid b) where
  rest := rfl
  mem := rfl
  tasks := ⟨_, .id, (List.map_id _).symm⟩
  chans := by
    refine ⟨fun c => if c.uid == uid then { c with early := c.early ++ [⟨b * 64, s.bytesAt (b * 64) 64⟩] } else c, fun c => ?_, ?_⟩
    · dsimp only; split <;> rfl
    · refine List.map_congr_left fun x _ => ?_
      dsimp only; split <;> rfl

theorem stored_unpause (s : State) (w : Nat × BitVec 32) : Stored s (s.unpause w) := by
  unfold State.unpause
  split
  · exact .refl s
  · refine ⟨rfl, rfl, ⟨_, ⟨fun x => ?_, fun x free => ?_⟩, rfl⟩, ⟨fun c => c, fun _ => rfl, (List.map_id _).symm⟩⟩
    · split <;> rfl
    · have no : ((x.uid, x.id) == w && x.phase == .held) = false := by
        rw [beq_eq_false_iff_ne.mpr free, Bool.and_false]
      rw [no]
      exact ⟨rfl, rfl⟩

theorem stored_sendDone (s : State) (src xfer : Nat) : Stored s (s.sendDone src xfer) := by
  unfold State.sendDone
  split
  · exact .of_chan rfl rfl rfl
  · exact .refl s

theorem stored_noteCopy (s : State) (p : Packet) : Stored s (s.noteCopy p) := by
  unfold State.noteCopy
  split
  · dsimp only
    split
    · exact .refl s
    · split <;> exact .of_chan rfl rfl rfl
  · exact .refl s

theorem stored_countIn (s : State) (p : Packet) : Stored s (s.countIn p) := .of_chan rfl rfl rfl

theorem stored_access (s : State) (b : Nat) (full : Bool) (x : BlockAccess) : Stored s (s.access b full x) := by
  have put (a : Nat) (l : List Byte) : Stored s (if full then s else s.store a l) := by
    split
    · exact .refl s
    · exact stored_store s a l
  cases x with
  | hostRead id => exact stored_hostReadOn s id b
  | task uid id => exact stored_giveTask s uid id b
  | fetch uid => exact stored_giveFetch s uid b
  | hostWrite a l => exact put a l
  | ownWrite a l => exact put a l
  | arrival a src xfer => exact (put a _).trans (stored_sendDone ..)
  | peer p a l =>
    have counted (u : State) (w : Stored s u) : Stored s (if u.partWaits p then u else (u.noteCopy p).countIn p) := by
      split
      · exact w
      · exact (w.trans (stored_noteCopy ..)).trans (stored_countIn ..)
    exact counted _ (put a l)

theorem stored_mended (s : State) (b : Nat) (full : Bool) : Stored s (s.mended b full) := by
  unfold State.mended
  split
  · exact stored_healBlock s b
  · have cancelled (u : State) (l : List OutXfer) : Stored u { u with fab := { u.fab with outXfers := l } } := .of_chan rfl rfl rfl
    exact (((stored_healBlock s b).trans (cancelled _ _)).trans (Stored.foldl (fun u x => stored_access u b full x) _ _)).trans
      (Stored.foldl stored_unpause _ _)

/-! ## Writes -/

theorem stored_writeBlock (s : State) (b lo : Nat) (data : List Byte) : Stored s (s.writeBlock b lo data).1 := by
  unfold State.writeBlock
  split
  · exact (stored_store s lo data).trans (stored_mended _ b true)
  · split
    · exact .refl s
    · exact .of_chan rfl rfl rfl

theorem Stored.foldl_fst {α β : Type} {f : State × β → α → State × β} (step : ∀ acc x, Stored acc.1 (f acc x).1) (l : List α) :
    ∀ acc : State × β, Stored acc.1 (l.foldl f acc).1 := by
  induction l with
  | nil => exact fun acc => .refl acc.1
  | cons x xs ih => exact fun acc => (step acc x).trans (ih (f acc x))

theorem stored_writeRange (s : State) (a : Nat) (data : List Byte) : Stored s (s.writeRange a data).1 := by
  unfold State.writeRange
  refine Stored.foldl_fst (fun acc b => ?_) _ (s, [])
  exact stored_writeBlock acc.1 b _ _

theorem stored_put (s : State) (a : Nat) (data : List Byte) : Stored s (s.put a data) := stored_writeRange s a data

end Sys2Proof.Machine
end

section
/-! PROOFS. Time slicing (R180 to R184): preemption saves a task on each of its stands; a quantum boundary brings waiting channels in and
marks residents; an eviction swaps a context out. -/

namespace Sys2Proof.Machine

theorem self_mem_kset {α : Type} (m : KMap α) (k : Nat) (v : α) : (k, v) ∈ kset m k v := by
  induction m with
  | nil => exact List.mem_cons_self
  | cons x xs ih =>
    unfold kset
    split
    · exact List.mem_cons_self
    · split
      · exact List.mem_cons_self
      · exact List.mem_cons_of_mem _ ih

/-! ## Preemption (R97, R184) -/

/-- What the saving of task `t` leaves of tasks and channels: names and phases, and pauses but of held tasks; with no repair in progress
every other task and every channel. -/
structure PauseFrame (t : Task) (s u : State) : Prop where
  tasks : ∃ f : Task → Task, (∀ x, (f x).uid = x.uid ∧ (f x).id = x.id ∧ (f x).phase = x.phase ∧
    (x.phase ≠ .held → (f x).pausedAt = x.pausedAt)) ∧ u.chan.tasks = s.chan.tasks.map f
  calm : s.mem.repairs = [] → u.mem.repairs = [] ∧ u.chan.chans = s.chan.chans ∧
    ∀ x ∈ u.chan.tasks, (x.uid ≠ t.uid ∨ x.id ≠ t.id) → x ∈ s.chan.tasks

namespace PauseFrame

variable {t : Task} {s u v : State}

theorem of_same (chan : u.chan = s.chan) (mem : u.mem = s.mem) : PauseFrame t s u where
  tasks := ⟨id, fun _ => ⟨rfl, rfl, rfl, fun _ => rfl⟩, by rw [chan, List.map_id]⟩
  calm calm := ⟨mem ▸ calm, by rw [chan], fun x mem _ => chan ▸ mem⟩

theorem trans (a : PauseFrame t s u) (b : PauseFrame t u v) : PauseFrame t s v where
  tasks := by
    obtain ⟨f, kf, tf⟩ := a.tasks
    obtain ⟨g, kg, tg⟩ := b.tasks
    refine ⟨g ∘ f, fun x => ?_, by rw [tg, tf, List.map_map]⟩
    obtain ⟨uid, id, phase, paused⟩ := kf x
    obtain ⟨uid', id', phase', paused'⟩ := kg (f x)
    exact ⟨uid'.trans uid, id'.trans id, phase'.trans phase, fun free => (paused' (by rw [phase]; exact free)).trans (paused free)⟩
  calm calm := by
    obtain ⟨repairs, chans, tasks⟩ := a.calm calm
    obtain ⟨repairs', chans', tasks'⟩ := b.calm repairs
    exact ⟨repairs', chans'.trans chans, fun x mem other => tasks x (tasks' x mem other) other⟩

end PauseFrame

/-- The same, with the stands and the dictionary as they were. -/
structure SaveFrame (t : Task) (s u : State) : Prop extends PauseFrame t s u where
  stands : u.stands = s.stands
  dict : u.dict = s.dict

namespace SaveFrame

variable {t : Task} {s u v : State}

theorem of_same (chan : u.chan = s.chan) (mem : u.mem = s.mem) (stands : u.stands = s.stands) (dict : u.dict = s.dict) : SaveFrame t s u :=
  ⟨.of_same chan mem, stands, dict⟩

theorem trans (a : SaveFrame t s u) (b : SaveFrame t u v) : SaveFrame t s v :=
  ⟨a.toPauseFrame.trans b.toPauseFrame, b.stands.trans a.stands, b.dict.trans a.dict⟩

theorem foldl {α : Type} {f : State → α → State} (step : ∀ u x, SaveFrame t u (f u x)) (l : List α) (s : State) :
    SaveFrame t s (l.foldl f s) := by
  induction l generalizing s with
  | nil => exact .of_same rfl rfl rfl rfl
  | cons x xs ih => exact (step s x).trans (ih (f s x))

theorem ite {c : Prop} [Decidable c] (a : SaveFrame t s u) (b : SaveFrame t s v) : SaveFrame t s (if c then u else v) := by
  split
  · exact a
  · exact b

end SaveFrame

variable (t : Task)

theorem saveFrame_put (s : State) (a : Nat) (data : List Byte) : SaveFrame t s (s.put a data) where
  tasks := by
    obtain ⟨f, waited, tasks⟩ := (stored_put s a data).tasks
    exact ⟨f, fun x => ⟨waited.uid x, waited.name x, waited.phase x, fun free => (waited.clock x free).2⟩, tasks⟩
  calm calm := by
    have written := written_put s a data calm
    exact ⟨written.repairs.trans calm, by rw [written.chan], fun x mem _ => written.chan ▸ mem⟩
  stands := (stored_put s a data).stands
  dict := (stored_put s a data).dict

theorem saveFrame_modTask (s : State) (f : Task → Task) (kept : ∀ x, (f x).uid = x.uid ∧ (f x).id = x.id ∧ (f x).phase = x.phase ∧
    (f x).pausedAt = x.pausedAt) : SaveFrame t s (s.modTask t.uid t.id f) where
  tasks := by
    refine ⟨fun x => if x.uid == t.uid && x.id == t.id then f x else x, fun x => ?_, rfl⟩
    obtain ⟨uid, id, phase, paused⟩ := kept x
    dsimp only
    split
    · exact ⟨uid, id, phase, fun _ => paused⟩
    · exact ⟨rfl, rfl, rfl, fun _ => rfl⟩
  calm calm := ⟨calm, rfl, fun x mem other => ((runFrame_modTask t {} s f fun x => ⟨(kept x).1, (kept x).2.1⟩).tasks x other).mp mem⟩
  stands := rfl
  dict := rfl

theorem saveFrame_finished (s : State) (g n : Nat) :
    SaveFrame t s (s.modTask t.uid t.id (fun x => { x with finished := kset x.finished g n })) :=
  saveFrame_modTask t s _ fun _ => ⟨rfl, rfl, rfl, rfl⟩

theorem saveFrame_drawn (s : State) (n : Nat) : SaveFrame t s (s.drawn n) := .of_same rfl rfl rfl rfl

/-- A stand with a task of name `t` in a save slot, and without a weight tile. -/
def StandSt.saving (t : Task) (j : Nat) (x : StandSt) : StandSt := { x with saved := kset x.saved j (t.uid, t.id), tile := none }

/-- The save of a task on a stand: its banks and its state to memory, and then the stand. -/
theorem State.saveOn_eq (s : State) (g : Nat) : ∃ u, SaveFrame t s u ∧ s.saveOn t g = u.modStand g (StandSt.saving t (s.freeSlot g)) := by
  unfold State.saveOn
  dsimp only
  refine ⟨_, ?_, rfl⟩
  have begun (n : Nat) := (saveFrame_drawn t s 1).trans (saveFrame_finished t _ g n)
  refine SaveFrame.trans (SaveFrame.ite ?some ?known) ((saveFrame_put t _ _ _).trans (saveFrame_drawn t _ _))
  case some => exact (begun _).trans ((saveFrame_put t _ _ _).trans (saveFrame_drawn t _ _))
  case known => exact (begun _).trans (SaveFrame.foldl (fun u a => SaveFrame.foldl (fun v b => saveFrame_put t v _ _) _ u) _ _)

theorem pauseFrame_saveOn (s : State) (g : Nat) : PauseFrame t s (s.saveOn t g) := by
  obtain ⟨u, frame, eq⟩ := s.saveOn_eq t g
  rw [eq]
  exact frame.toPauseFrame.trans (.of_same rfl rfl)

theorem State.saveOn_stand (s : State) (g : Nat) :
    (s.saveOn t g).stand g = StandSt.saving t (s.freeSlot g) (s.stand g) ∧ ∀ k, k ≠ g → (s.saveOn t g).stand k = s.stand k := by
  obtain ⟨u, frame, eq⟩ := s.saveOn_eq t g
  rw [eq, State.modStand_same, State.stand_congr frame.stands]
  exact ⟨rfl, fun k other => (u.modStand_other _ other).trans (State.stand_congr frame.stands k)⟩

/-- What the saves on some stands leave: each of those saves the task, the others are as they were. -/
theorem saveOn_foldl (l : List Nat) (s : State) :
    let u := l.foldl (fun s g => s.saveOn t g) s
    PauseFrame t s u ∧ (∀ g ∈ l, (t.uid, t.id) ∈ (u.stand g).saved.map (·.2) ∧ (u.stand g).tile = none) ∧
      ∀ g, g ∉ l → u.stand g = s.stand g := by
  induction l generalizing s with
  | nil => exact ⟨.of_same rfl rfl, fun _ mem => absurd mem List.not_mem_nil, fun _ _ => rfl⟩
  | cons n ns ih =>
    obtain ⟨rest, saved, others⟩ := ih (s.saveOn t n)
    obtain ⟨own, apart⟩ := s.saveOn_stand t n
    refine ⟨(pauseFrame_saveOn t s n).trans rest, fun g mem => ?_, fun g out => ?_⟩
    · by_cases later : g ∈ ns
      · exact saved g later
      · obtain rfl := (List.mem_cons.mp mem).resolve_right later
        rw [List.foldl_cons, others g later, own]
        exact ⟨List.mem_map_of_mem (self_mem_kset _ _ _), rfl⟩
    · obtain ⟨other, later⟩ := not_or.mp (fun e => out (List.mem_cons.mpr e))
      exact (others g later).trans (apart g other)

/-- A task as its preemption begins (R178). -/
def Task.preempted (now : Nat) (saved : List (Nat × Nat)) (x : Task) : Task := { x with phase := .preempted, pausedAt := some now, savedAt := saved }

/-- What preemption leaves (R97, R184). -/
theorem State.preempt_leaves (s : State) :
    (∀ x ∈ (s.preempt t).chan.tasks, x.uid = t.uid → x.id = t.id → x.phase = .preempted ∧ x.pausedAt = some s.now) ∧
    (s.mem.repairs = [] → (∀ x ∈ (s.preempt t).chan.tasks, (x.uid ≠ t.uid ∨ x.id ≠ t.id) → x ∈ s.chan.tasks) ∧
      (s.preempt t).chan.chans = s.chan.chans) ∧
    (∀ g ∈ t.stands, (t.uid, t.id) ∈ ((s.preempt t).stand g).saved.map (·.2) ∧ ((s.preempt t).stand g).tile = none) ∧
    (∀ g, g ∉ t.stands → (s.preempt t).stand g = s.stand g) := by
  let marked := Task.preempted s.now (t.stands.flatMap fun n => slotRanges n (s.freeSlot n))
  obtain ⟨frame, saved, others⟩ := saveOn_foldl t t.stands (s.modTask t.uid t.id marked)
  have begun : s.preempt t = t.stands.foldl (fun s g => s.saveOn t g) (s.modTask t.uid t.id marked) := rfl
  rw [begun]
  refine ⟨fun x mem uid id => ?_, fun calm => ⟨fun x mem other => ?_, (frame.calm calm).2.1⟩, saved, others⟩
  · obtain ⟨f, kept, tasks⟩ := frame.tasks
    rw [tasks] at mem
    obtain ⟨y, inn, rfl⟩ := List.mem_map.mp mem
    obtain ⟨z, -, rfl⟩ := List.mem_map.mp inn
    by_cases hit : (z.uid == t.uid && z.id == t.id) = true
    · obtain ⟨-, -, phase, paused⟩ := kept (marked z)
      rw [if_pos hit]
      exact ⟨phase, paused nofun⟩
    · rw [if_neg hit] at uid id
      obtain ⟨uid', id', -⟩ := kept z
      exact absurd (Bool.and_eq_true_iff.mpr ⟨beq_iff_eq.mpr (uid'.symm.trans uid), beq_iff_eq.mpr (id'.symm.trans id)⟩) hit
  · exact ((runFrame_modTask t {} s marked fun _ => ⟨rfl, rfl⟩).tasks x other).mp ((frame.calm calm).2.2 x mem other)

theorem exec_jobWeightExpiry_of_other {s : State} {n : Nat} {t : Task} {k : Nat} (found : s.runningOn n = some t) (runs : t.phase = .running)
    (free : s.slotsFree t = true) (turn : s.turn n = some k) (other : k ≠ s.slotOfTask t) :
    exec (.jobWeightExpiry n) s = .next (s.preempt t) := by
  have go : (t.phase == .running && s.slotsFree t && (s.turn n).isSome && s.turn n != some (s.slotOfTask t)) = true := by
    rw [runs, free, turn, bne_iff_ne.mpr fun same => other (Option.some.inj same)]
    rfl
  change execJobWeightExpiry n s = _
  unfold execJobWeightExpiry
  simp only [found, go, if_true]

theorem exec_jobWeightExpiry_of_own {s : State} {n : Nat} (stays : s.runningOn n = none ∨ s.turn n = none ∨
    ∃ t, s.runningOn n = some t ∧ s.turn n = some (s.slotOfTask t)) : exec (.jobWeightExpiry n) s = .next s := by
  change execJobWeightExpiry n s = _
  unfold execJobWeightExpiry
  rcases stays with none | none | ⟨t, found, own⟩
  · simp only [none]
  · cases found : s.runningOn n with
    | none => rfl
    | some t => simp only [none, Option.isSome_none, Bool.and_false, Bool.false_and, Bool.false_eq_true, if_false]
  · simp only [found, own, bne_self_eq_false, Bool.and_false, Bool.false_eq_true, if_false]

/-! ## The quantum boundary (R180) -/

/-- Marking leaves all but the marks of channels as it was, and takes no mark away. -/
structure Marks (s w : State) : Prop where
  rest : w = { s with chan := { s.chan with chans := w.chan.chans } }
  marks : ∀ h c, s.chanAt h = some c → ∃ m, w.chanAt h = some { c with marked := m } ∧ (c.marked = true → m = true)

theorem Marks.refl (s : State) : Marks s s := ⟨rfl, fun _ c there => ⟨c.marked, there, id⟩⟩

theorem Marks.trans {s t u : State} (a : Marks s t) (b : Marks t u) : Marks s u where
  rest := b.rest.trans (congrArg (fun x : State => { x with chan := { x.chan with chans := u.chan.chans } }) a.rest)
  marks h c there := by
    obtain ⟨m, at_, kept⟩ := a.marks h c there
    obtain ⟨m', at', kept'⟩ := b.marks h _ at_
    exact ⟨m', at', fun own => kept' (kept own)⟩

theorem marks_modChan (s : State) (h : Nat) : Marks s (s.modChan h fun c => { c with marked := true }) := by
  unfold State.modChan
  cases found : s.chanAt h with
  | none => exact .refl s
  | some c =>
    refine ⟨rfl, fun k d there => ?_⟩
    by_cases same : k = h
    · subst same
      obtain rfl : c = d := Option.some.inj (found.symm.trans there)
      exact ⟨true, s.setChan_same k _, fun _ => rfl⟩
    · exact ⟨d.marked, (s.setChan_other h k _ same).trans there, id⟩

theorem marks_markLongest (n : Nat) (s : State) : Marks s (s.markLongest n) := by
  induction n generalizing s with
  | zero => exact .refl s
  | succ n ih =>
    unfold State.markLongest
    split
    · exact (marks_modChan s _).trans (ih _)
    · exact .refl s

/-- Channels come in one after another until none waits, there is no room, or as many have as waited at first. -/
theorem State.swapWaiting_chain (n : Nat) : ∀ (k : Nat) (u : Nat → State) (h : Nat → Nat), k ≤ n →
    (∀ i, i < k → (u i).oldestWaiting = some (h i) ∧ ∃ t, (u i).contextRoom = some t ∧ u (i + 1) = t.swapIn (h i)) →
    (k = n ∨ (u k).oldestWaiting = none ∨ (u k).contextRoom = none) → State.swapWaiting n (u 0) = u k := by
  induction n with
  | zero =>
    intro k u h small _ _
    obtain rfl := Nat.le_zero.mp small
    rfl
  | succ n ih =>
    intro k u h small chain stops
    unfold State.swapWaiting
    cases k with
    | zero =>
      rcases stops with none | none | none
      · exact absurd none (Nat.succ_ne_zero n).symm
      · simp only [none]
      · cases waiting : (u 0).oldestWaiting with
        | none => rfl
        | some _ => simp only [none]
    | succ k =>
      obtain ⟨waits, t, room, next⟩ := chain 0 (Nat.succ_pos k)
      simp only [waits, room]
      rw [← next]
      exact ih k (fun i => u (i + 1)) (fun i => h (i + 1)) (Nat.le_of_succ_le_succ small)
        (fun i below => chain (i + 1) (Nat.succ_lt_succ below)) (stops.imp_left Nat.succ.inj)

/-- A quantum boundary that is due. -/
theorem exec_quantumBoundary_of_due {s t : State} (due : s.due 8 2000000 = true)
    (in_ : State.swapWaiting s.waitingCount (s.ticked 8) = t) : exec .quantumBoundary s =
      .next (if 1 < t.waitingCount then t.markLongest (t.waitingCount - t.markedCount) else t) := by
  have same : (s.ticked 8).waitingCount = s.waitingCount := rfl
  change execQuantumBoundary s = _
  unfold execQuantumBoundary
  simp only [due, Bool.not_true, Bool.false_eq_true, if_false, same, in_]

theorem exec_quantumBoundary_of_early {s : State} (early : s.due 8 2000000 = false) : exec .quantumBoundary s = .next s := by
  change execQuantumBoundary s = _
  unfold execQuantumBoundary
  simp only [early, Bool.not_false, if_true]

/-- Where there is no room, no channel comes in. -/
theorem State.swapWaiting_of_full (n : Nat) {s : State} (full : s.contextRoom = none) : State.swapWaiting n s = s :=
  State.swapWaiting_chain n 0 (fun _ => s) (fun _ => 0) (Nat.zero_le n) (fun i below => absurd below (Nat.not_lt_zero i)) (.inr (.inr full))

/-! ## Eviction (R180, R183) -/

/-- The context of a channel is saved by writes to memory alone. -/
theorem saveFrame_saveContext (s : State) (h : Nat) : SaveFrame t s (s.saveContext h) := by
  unfold State.saveContext
  exact SaveFrame.foldl (fun u half => SaveFrame.ite ((saveFrame_put ..).trans (saveFrame_drawn ..)) (.of_same rfl rfl rfl rfl)) _ s

/-- What a swap out leaves (R180). -/
theorem State.swapOut_leaves {s : State} {h : Nat} {c : Chan} (found : s.chanAt h = some c) :
    (s.swapOut h).ob Obj.contextSwaps = s.ob Obj.contextSwaps + 1 ∧
    (s.mem.repairs = [] → (s.swapOut h).chanAt h = some { c with
      resident := false, marked := false, waitingSince := if s.hasWork c then some s.now else none }) := by
  have saved := saveFrame_saveContext { uid := 0, handle := h, id := 0, job := 0, desc := 0 } s h
  constructor
  case left =>
    have kept (f : Chan → Chan) : ((s.saveContext h).modChan h f).ob Obj.contextSwaps = s.ob Obj.contextSwaps := by
      have dict : ((s.saveContext h).modChan h f).dict = s.dict := by
        unfold State.modChan
        split <;> exact saved.dict
      unfold State.ob
      rw [dict]
    exact (State.bump_same _ _).trans (congrArg (· + 1) (kept _))
  case right =>
    intro calm
    have there : (s.saveContext h).chanAt h = some c := (congrArg (fun l => kget? l h) (saved.calm calm).2.1).trans found
    unfold State.swapOut State.modChan
    simp only [there]
    exact State.setChan_same _ h _

theorem exec_contextEvict_of_marked {s : State} {h : Nat} {c : Chan} (found : s.chanAt h = some c) (marked : c.marked = true)
    (resident : c.resident = true) (idle : s.contextIdle c = true) :
    exec (.contextEvict h) s = .next (match s.oldestWaiting with
      | some v => (s.swapOut h).swapIn v
      | none => s.swapOut h) := by
  change execContextEvict h s = _
  unfold execContextEvict
  simp only [found, marked, resident, idle, Bool.and_self, if_true] <;> rfl

theorem exec_contextEvict_of_busy {s : State} {h : Nat} {c : Chan} (found : s.chanAt h = some c)
    (stays : c.marked = false ∨ c.resident = false ∨ s.contextIdle c = false) : exec (.contextEvict h) s = .next s := by
  have no : (c.marked && c.resident && s.contextIdle c) = false := by
    rcases stays with e | e | e <;> simp only [e, Bool.and_false, Bool.false_and]
  change execContextEvict h s = _
  unfold execContextEvict
  simp only [found, no, Bool.false_eq_true, if_false]

/-- Settles O19: each event of time slicing by the equation of its command. -/
theorem timeSlicingCompletes : Obligations.TimeSlicingCompletes := by
  unfold Obligations.TimeSlicingCompletes
  intro s
  refine ⟨fun n t k found runs free turn other => ⟨exec_jobWeightExpiry_of_other found runs free turn other, s.preempt_leaves t⟩,
    fun n => exec_jobWeightExpiry_of_own, exec_quantumBoundary_of_early, fun due => ?boundary, fun h c found marked resident idle => ?evict,
    fun h c => exec_contextEvict_of_busy⟩
  case boundary =>
    intro q
    refine ⟨fun none => ?_, fun one full => ?_, fun more full => ?_, fun k u h first small chain stops => ?_⟩
    · have early : ¬ 1 < q.waitingCount := by change ¬ 1 < s.waitingCount; omega
      rw [exec_quantumBoundary_of_due (t := q) due (by rw [none]; rfl), if_neg early]
    · have early : ¬ 1 < q.waitingCount := by change ¬ 1 < s.waitingCount; omega
      rw [exec_quantumBoundary_of_due due (State.swapWaiting_of_full _ full), if_neg early]
    · intro w
      have late : 1 < q.waitingCount := more
      have marks := marks_markLongest (s.waitingCount - s.markedCount) q
      refine ⟨(exec_quantumBoundary_of_due due (State.swapWaiting_of_full _ full)).trans (by rw [if_pos late]; rfl), ?_, ?_, ?_, marks.marks⟩
      · exact (congrArg (fun x : State => x.chan.tasks) marks.rest :)
      · exact (congrArg State.mem marks.rest :)
      · exact (congrArg State.dict marks.rest :)
    · have in_ := State.swapWaiting_chain s.waitingCount k u h small chain stops
      rw [first] at in_
      exact exec_quantumBoundary_of_due due in_
  case evict =>
    have eq := exec_contextEvict_of_marked found marked resident idle
    obtain ⟨swaps, out⟩ := State.swapOut_leaves found
    exact ⟨fun v waits => by rw [eq, waits], fun none => by rw [eq, none], swaps, out⟩

end Sys2Proof.Machine
end

section
/-! PROOFS. Records of any unit and counters of events: what logging and counting leave as they were (R290 to R296); with it what stops
a stand (R28, R90 to R93, R278 to R280). -/

namespace Sys2Proof.Machine

/-- An object that no error record counts in: not ERROR_OVERFLOW, nor a lost-record counter (Table 8-9). -/
def Quiet (k : Nat) : Prop := (k < 0xA17101 ∨ 0xA172C1 ≤ k) ∧ k ≠ 0x605003

namespace Quiet

variable {k : Nat}

theorem ne_lostCounter (q : Quiet k) (unit : Nat) : k ≠ lostCounter unit := by
  have range := q.1
  unfold lostCounter Obj.standRecordsLost Obj.halfRecordsLost Obj.moduleRecordsLost
  split
  · omega
  · split <;> omega

theorem ne_overflow (q : Quiet k) : k ≠ Obj.errorOverflow := q.2
theorem ne_cperLost (q : Quiet k) : k ≠ Obj.cperLost := by
  have range := q.1
  unfold Obj.cperLost
  omega

end Quiet

/-- `t` is `s` but for error records, alerts, which only grow, and the counters listed. -/
structure Reported (counts : List Nat) (s t : State) : Prop where
  rest : t = { s with
    fire := { s.fire with queues := t.fire.queues, nextRecord := t.fire.nextRecord, cpers := t.fire.cpers }
    dict := { s.dict with objs := t.dict.objs }, edge := { s.edge with alerts := t.edge.alerts } }
  ob : ∀ k, Quiet k → k ∉ counts → t.ob k = s.ob k
  alerts : ∀ a, a ∈ s.edge.alerts → a ∈ t.edge.alerts

namespace Reported

variable {counts : List Nat} {s t u : State}

theorem refl (counts : List Nat) (s : State) : Reported counts s s := ⟨rfl, fun _ _ _ => rfl, fun _ => id⟩

theorem trans (a : Reported counts s t) (b : Reported counts t u) : Reported counts s u where
  rest := b.rest.trans (congrArg (fun x : State => { x with
    fire := { x.fire with queues := u.fire.queues, nextRecord := u.fire.nextRecord, cpers := u.fire.cpers }
    dict := { x.dict with objs := u.dict.objs }, edge := { x.edge with alerts := u.edge.alerts } }) a.rest)
  ob k quiet other := (b.ob k quiet other).trans (a.ob k quiet other)
  alerts x mem := b.alerts x (a.alerts x mem)

theorem foldl {α : Type} {f : State → α → State} (step : ∀ u x, Reported counts u (f u x)) (l : List α) (s : State) :
    Reported counts s (l.foldl f s) := by
  induction l generalizing s with
  | nil => exact refl counts s
  | cons x xs ih => exact (step s x).trans (ih (f s x))

theorem now (a : Reported counts s t) : t.now = s.now := (congrArg State.now a.rest :)
theorem mem (a : Reported counts s t) : t.mem = s.mem := (congrArg State.mem a.rest :)
theorem chan (a : Reported counts s t) : t.chan = s.chan := (congrArg State.chan a.rest :)
theorem jobs (a : Reported counts s t) : t.jobs = s.jobs := (congrArg State.jobs a.rest :)
theorem stands (a : Reported counts s t) : t.stands = s.stands := (congrArg State.stands a.rest :)
theorem fab (a : Reported counts s t) : t.fab = s.fab := (congrArg State.fab a.rest :)
theorem bank (a : Reported counts s t) : t.bank = s.bank := (congrArg State.bank a.rest :)
theorem power (a : Reported counts s t) : t.power = s.power := (congrArg State.power a.rest :)
theorem edge (a : Reported counts s t) : t.edge = { s.edge with alerts := t.edge.alerts } := (congrArg State.edge a.rest :)
theorem dict (a : Reported counts s t) : t.dict = { s.dict with objs := t.dict.objs } := (congrArg State.dict a.rest :)
theorem fire (a : Reported counts s t) :
    t.fire = { s.fire with queues := t.fire.queues, nextRecord := t.fire.nextRecord, cpers := t.fire.cpers } := (congrArg State.fire a.rest :)
theorem stand (a : Reported counts s t) (n : Nat) : t.stand n = s.stand n := State.stand_congr a.stands n

end Reported

theorem Logged.reported {unit : Nat} {s t : State} (l : Logged unit s t) (counts : List Nat) : Reported counts s t :=
  ⟨l.rest, fun k quiet _ => l.ob k (quiet.ne_lostCounter unit) quiet.ne_overflow quiet.ne_cperLost, l.alerts⟩

theorem reported_log (counts : List Nat) (s : State) (r : ErrRec) : Reported counts s (s.log r) := (logged_log s r).reported counts
theorem reported_logStand (counts : List Nat) (s : State) (n : Nat) (r : ErrRec) (info : SigInfo) :
    Reported counts s (s.logStand n r info) := (logged_logStand s n r info).reported counts
theorem reported_raise (counts : List Nat) (s : State) (a : Alert) : Reported counts s (s.raise a) :=
  (logged_raise moduleUnit s a).reported counts
theorem reported_bump {counts : List Nat} (s : State) {k : Nat} (listed : k ∈ counts) : Reported counts s (s.bump k) :=
  ⟨rfl, fun j _ other => s.bump_other _ j fun same => other (same ▸ listed), fun _ => id⟩

/-! ## Stalls and timeouts (R28, R404, R422) -/

theorem exec_handshakeStall_of_task {s : State} {n : Nat} {t : Task} (found : s.runningOn n = some t) (late : t.startAt + 10000 ≤ s.now) :
    exec (.handshakeStall n) s = .next (((s.logStand n { errRec 0x0101 with
      job := t.job, step := D.step t.desc, handle := t.handle, task := t.id.toNat, attempt := t.attempt }).abort t Status.stall).standReset n) := by
  change execHandshakeStall n s = _
  unfold execHandshakeStall
  simp only [found, Nat.not_lt.mpr late, if_false]
  rfl

theorem exec_handshakeStall_of_early {s : State} {n : Nat} {t : Task} (found : s.runningOn n = some t) (early : s.now < t.startAt + 10000) :
    exec (.handshakeStall n) s = .next s := by
  change execHandshakeStall n s = _
  unfold execHandshakeStall
  simp only [found, early, if_true]

theorem exec_handshakeStall_of_work {s : State} {n : Nat} (free : s.runningOn n = none) (runs : s.halfRuns (n / 96) = true)
    (sound : s.fenced n = false) (works : s.worksFor n = true) (late : s.worksFrom n + 10000 ≤ s.now) :
    exec (.handshakeStall n) s = .next ((((s.logStand n (errRec 0x0101)).stallUnits n).standReset n).abandonChecks n) := by
  change execHandshakeStall n s = _
  unfold execHandshakeStall
  simp only [free, runs, sound, works, decide_eq_false (Nat.not_lt.mpr late), Bool.not_true, Bool.or_self, Bool.false_eq_true, if_false]

theorem exec_handshakeStall_of_idle {s : State} {n : Nat} (free : s.runningOn n = none)
    (idle : s.worksFor n = false ∨ s.now < s.worksFrom n + 10000) : exec (.handshakeStall n) s = .next s := by
  have stays : (s.fenced n || !s.halfRuns (n / 96) || !s.worksFor n || decide (s.now < s.worksFrom n + 10000)) = true := by
    rcases idle with none | early
    · simp only [none, Bool.not_false, Bool.or_true, Bool.true_or]
    · simp only [decide_eq_true early, Bool.or_true]
  change execHandshakeStall n s = _
  unfold execHandshakeStall
  simp only [free, stays, if_true]

theorem exec_standTimeout_of_task {s : State} {n : Nat} {t : Task} (found : s.runningOn n = some t) (runs : s.halfRuns (n / 96) = true)
    (sound : s.fenced n = false) : exec (.standTimeout n) s = .next ((s.abort t Status.stall).standReset n) := by
  change execStandTimeout n s = _
  unfold execStandTimeout
  simp only [runs, sound, Bool.not_true, Bool.or_self, Bool.false_eq_true, if_false, found]
  rfl

theorem exec_standTimeout_of_free {s : State} {n : Nat} (free : s.runningOn n = none) (runs : s.halfRuns (n / 96) = true)
    (sound : s.fenced n = false) : exec (.standTimeout n) s = .next (s.standReset n) := by
  change execStandTimeout n s = _
  unfold execStandTimeout
  simp only [runs, sound, Bool.not_true, Bool.or_self, Bool.false_eq_true, if_false, free]

/-! ## Fences that take effect (R90, R91, R278 to R280) -/

/-- The columns and arrays that a stand loses are logged. -/
def State.logLosses (s : State) (n bypass fence : Nat) : State :=
  let cols := (upto 256).filter (fun i => bypass.testBit i && !(s.ob (Obj.bypassed n)).testBit i)
  let arrays := (upto 4).filter (fun a => fence.testBit a && !(s.ob (Obj.arrayFence n)).testBit a)
  arrays.foldl (fun s a => s.logStand n { errRec 0x0706 with array := a })
    (cols.foldl (fun s i => s.logStand n { errRec 0x0707 with array := i / 64, column := i % 64 }) s)

theorem reported_logLosses (s : State) (n bypass fence : Nat) : Reported [] s (s.logLosses n bypass fence) :=
  (Reported.foldl (fun u _ => reported_logStand [] u n _ _) _ s).trans (Reported.foldl (fun u _ => reported_logStand [] u n _ _) _ _)

/-- Bypass and array fence in force, and nothing more decided on the stand. -/
def State.putInForce (s : State) (n bypass fence : Nat) : State :=
  (((s.logLosses n bypass fence).setOb (Obj.bypassed n) bypass).setOb (Obj.arrayFence n) fence).modStand n
    (fun x => { x with pendFence := 0, pendBypass := 0, pendState := 0 })

variable {s : State} {n bypass fence : Nat}

theorem State.putInForce_stand : (s.putInForce n bypass fence).stand n =
    { s.stand n with pendFence := 0, pendBypass := 0, pendState := 0 } := by
  have same := (reported_logLosses s n bypass fence).stand n
  unfold State.putInForce
  rw [State.modStand_same]
  exact congrArg (fun x : StandSt => { x with pendFence := 0, pendBypass := 0, pendState := 0 }) same

theorem State.putInForce_stand_other {k : Nat} (other : k ≠ n) : (s.putInForce n bypass fence).stand k = s.stand k :=
  (State.modStand_other _ _ other).trans ((reported_logLosses s n bypass fence).stand k)

theorem State.putInForce_ob {k : Nat} (quiet : Quiet k) (noBypass : k ≠ Obj.bypassed n) (noFence : k ≠ Obj.arrayFence n) :
    (s.putInForce n bypass fence).ob k = s.ob k :=
  ((State.setOb_other _ _ _ k noFence).trans (State.setOb_other _ _ _ k noBypass)).trans
    ((reported_logLosses s n bypass fence).ob k quiet List.not_mem_nil)

theorem State.putInForce_fence : (s.putInForce n bypass fence).ob (Obj.arrayFence n) = fence := State.setOb_same _ _ _

theorem State.putInForce_bypass : (s.putInForce n bypass fence).ob (Obj.bypassed n) = bypass :=
  (State.setOb_other _ _ _ _ (by unfold Obj.bypassed Obj.arrayFence; omega)).trans (State.setOb_same _ _ _)

theorem State.putInForce_chan : (s.putInForce n bypass fence).chan = s.chan := by
  unfold State.putInForce
  rw [State.modStand_chan, State.setOb_chan, State.setOb_chan, (reported_logLosses s n bypass fence).chan]

theorem State.putInForce_mem : (s.putInForce n bypass fence).mem = s.mem := by
  unfold State.putInForce
  rw [State.modStand_mem, State.setOb_mem, State.setOb_mem, (reported_logLosses s n bypass fence).mem]

theorem State.putInForce_trios : (s.putInForce n bypass fence).fire.trios = s.fire.trios := by
  unfold State.putInForce
  rw [State.modStand_fire, State.setOb_fire, State.setOb_fire, (reported_logLosses s n bypass fence).fire]

/-- A decision on a stand without a running task: what it puts in force, and the fence that follows from it. -/
theorem State.applyFence_eq (free : s.runningOn n = none) (sound : s.fenced n = false)
    (decided : ((s.stand n).pendFence == 0 && (s.stand n).pendBypass == 0 && (s.stand n).pendState == 0) = false) :
    s.applyFence n =
      let bypass := s.ob (Obj.bypassed n) ||| (s.stand n).pendBypass
      let fence := fenceOf (s.ob (Obj.arrayFence n) ||| (s.stand n).pendFence) bypass
      let reason := if (s.stand n).pendState != 0 then (s.stand n).pendState else if 2 ≤ bitsIn fence 0 4 then 6 else 0
      if reason == 0 then s.putInForce n bypass fence else (s.putInForce n bypass fence).fenceStand n reason := by
  unfold State.applyFence
  simp only [free, sound, decided, Option.isSome_none, Bool.or_self, Bool.false_eq_true, if_false]
  rfl

/-- A mask with few bits in every array fences none. -/
theorem fenceOf_zero {bypass : Nat} (few : ∀ a, a < 4 → bitsIn bypass (64 * a) 64 ≤ 8) : fenceOf 0 bypass = 0 := by
  have kept (a f : Nat) (small : a < 4) : (if 8 < bitsIn bypass (64 * a) 64 then f ||| 2 ^ a else f) = f :=
    if_neg (Nat.not_lt.mpr (few a small))
  change List.foldl _ 0 [0, 1, 2, 3] = 0
  simp only [List.foldl_cons, List.foldl_nil, kept 0 _ (by decide), kept 1 _ (by decide), kept 2 _ (by decide), kept 3 _ (by decide)]

/-- A bypass that leaves every array at most 8 bypassed columns takes effect (R90). -/
theorem fenceApply_bypass (small : n < 192) (free : s.runningOn n = none) (sound : s.fenced n = false) (noFence : (s.stand n).pendFence = 0)
    (noState : (s.stand n).pendState = 0) (some_ : (s.stand n).pendBypass ≠ 0) (whole : s.ob (Obj.arrayFence n) = 0)
    (few : ∀ a, a < 4 → bitsIn (s.ob (Obj.bypassed n) ||| (s.stand n).pendBypass) (64 * a) 64 ≤ 8) :
    ∃ t, exec (.fenceApply n) s = .next t ∧ t.ob (Obj.bypassed n) = s.ob (Obj.bypassed n) ||| (s.stand n).pendBypass ∧
      t.ob (Obj.arrayFence n) = 0 ∧ t.ob (Obj.standState n) = s.ob (Obj.standState n) ∧ (t.stand n).pendBypass = 0 ∧
      (∀ k, k ≠ n → t.stand k = s.stand k) ∧ t.chan = s.chan ∧ t.mem = s.mem := by
  have decided : ((s.stand n).pendFence == 0 && (s.stand n).pendBypass == 0 && (s.stand n).pendState == 0) = false := by
    rw [beq_eq_false_iff_ne.mpr some_, Bool.and_false, Bool.false_and]
  have none : fenceOf (s.ob (Obj.arrayFence n) ||| (s.stand n).pendFence) (s.ob (Obj.bypassed n) ||| (s.stand n).pendBypass) = 0 := by
    rw [whole, noFence]
    exact fenceOf_zero few
  have eq : s.applyFence n = s.putInForce n (s.ob (Obj.bypassed n) ||| (s.stand n).pendBypass) 0 := by
    rw [State.applyFence_eq free sound decided]
    dsimp only
    rw [none, noState]
    rfl
  refine ⟨_, congrArg Host.Outcome.next eq, State.putInForce_bypass, State.putInForce_fence, ?_, ?_, fun k => State.putInForce_stand_other,
    State.putInForce_chan, State.putInForce_mem⟩
  · exact State.putInForce_ob ⟨.inl (by unfold Obj.standState; omega), by unfold Obj.standState; omega⟩
      (by unfold Obj.standState Obj.bypassed; omega) (by unfold Obj.standState Obj.arrayFence; omega)
  · rw [State.putInForce_stand]

/-- Tasks, channels and memory as they were, and the objects but for records and the counters listed. -/
structure Remains (counts : List Nat) (s t : State) : Prop where
  chan : t.chan = s.chan
  mem : t.mem = s.mem
  ob : ∀ k, Quiet k → k ∉ counts → t.ob k = s.ob k

theorem Remains.trans {counts : List Nat} {s t u : State} (a : Remains counts s t) (b : Remains counts t u) : Remains counts s u :=
  ⟨b.chan.trans a.chan, b.mem.trans a.mem, fun k quiet other => (b.ob k quiet other).trans (a.ob k quiet other)⟩

theorem Reported.remains {counts : List Nat} {s t : State} (r : Reported counts s t) : Remains counts s t := ⟨r.chan, r.mem, r.ob⟩

theorem remains_fire (counts : List Nat) (s : State) (f : FireSt) : Remains counts s { s with fire := f } := ⟨rfl, rfl, fun _ _ _ => rfl⟩

/-- Abandoned checks are logged and counted, and leave the list. -/
theorem State.abandonChecks_leaves (s : State) (n : Nat) :
    Remains [Obj.checksAbandoned] s (s.abandonChecks n) ∧ (s.abandonChecks n).stands = s.stands ∧
      (s.abandonChecks n).fire.trios = s.fire.trios := by
  have noted : Reported [Obj.checksAbandoned] { s with fire := { s.fire with checks := s.fire.checks.filter (fun c => c.checker != n) } }
      (s.abandonChecks n) :=
    Reported.foldl (fun u _ => (reported_logStand _ u n _ _).trans (reported_bump _ List.mem_cons_self)) _ _
  exact ⟨(remains_fire _ s _).trans noted.remains, noted.stands, (congrArg FireSt.trios noted.fire :)⟩

theorem State.endSaved_of_none {st : BitVec 8} (none : (s.stand n).saved = []) : s.endSaved n st = s := by
  unfold State.endSaved
  rw [none]
  rfl

theorem remains_dropTrio (counts : List Nat) (none : s.fire.trios = []) : Remains counts s (s.dropTrio n) := by
  have eq : s.dropTrio n = { s with fire := { s.fire with trios := [] } } := by
    unfold State.dropTrio
    rw [none]
    rfl
  rw [eq]
  exact remains_fire counts s _

theorem remains_checkFloor (counts : List Nat) (s : State) : Remains counts s s.checkFloor := by
  unfold State.checkFloor
  split
  · exact (remains_fire counts s _).trans ((reported_raise counts _ _).trans (reported_log counts _ _)).remains
  · exact ⟨rfl, rfl, fun _ _ _ => rfl⟩

/-- A stand in its new state, logged, and out of every multicast group: where its fence begins. -/
def State.condemned (s : State) (n reason : Nat) : State :=
  ((s.setOb (Obj.standState n) reason).logStand n { errRec 0x0705 with detail0 := reason }).leaveSets n

/-- What is left at that point. -/
theorem State.condemned_leaves (s : State) (n reason : Nat) : (s.condemned n reason).chan = s.chan ∧
    (s.condemned n reason).stands = s.stands ∧ (s.condemned n reason).fire.trios = s.fire.trios ∧
    (s.condemned n reason).mem = (s.leaveSets n).mem ∧ (n < 192 → (s.condemned n reason).ob (Obj.standState n) = reason) := by
  have logged := reported_logStand [] (s.setOb (Obj.standState n) reason) n { errRec 0x0705 with detail0 := reason } {}
  unfold State.condemned
  generalize (s.setOb (Obj.standState n) reason).logStand n { errRec 0x0705 with detail0 := reason } = u at logged ⊢
  have mem : u.mem = s.mem := logged.mem
  refine ⟨logged.chan, logged.stands, (congrArg FireSt.trios logged.fire :), ?_, fun small => ?_⟩
  · unfold State.leaveSets
    rw [mem]
  · have quiet : Quiet (Obj.standState n) := ⟨.inl (by unfold Obj.standState; omega), by unfold Obj.standState; omega⟩
    exact (logged.ob _ quiet List.not_mem_nil).trans (s.setOb_same _ _)

theorem State.fenceStand_eq (s : State) (n reason : Nat) : s.fenceStand n reason =
    ((((((s.condemned n reason).abandonChecks n).endSaved n Status.standFenced).modStand n
      (fun x => { x with selfTest := none, suspects := [], saved := [] })).dropTrio n).checkFloor) := rfl

/-- A stand that is fenced for life with nothing saved on it and no unit without a majority (R278). -/
theorem State.fenceStand_leaves {reason : Nat} (small : n < 192) (none : (s.stand n).saved = []) (trios : s.fire.trios = []) :
    (s.fenceStand n reason).ob (Obj.standState n) = reason ∧ (s.fenceStand n reason).chan = s.chan ∧
      (s.fenceStand n reason).mem = (s.leaveSets n).mem := by
  obtain ⟨chan, stands, keptTrios, mem, state⟩ := s.condemned_leaves n reason
  obtain ⟨abandoned, stands', keptTrios'⟩ := (s.condemned n reason).abandonChecks_leaves n
  have nothing : (((s.condemned n reason).abandonChecks n).stand n).saved = [] := by
    rw [State.stand_congr (stands'.trans stands)]
    exact none
  have noTrios : ((s.condemned n reason).abandonChecks n).fire.trios = [] := (keptTrios'.trans keptTrios).trans trios
  have tail : Remains [Obj.checksAbandoned] (s.condemned n reason) (s.fenceStand n reason) := by
    have cleared (u : State) (f : StandSt → StandSt) : Remains [Obj.checksAbandoned] u (u.modStand n f) := ⟨rfl, rfl, fun _ _ _ => rfl⟩
    rw [State.fenceStand_eq, State.endSaved_of_none nothing]
    exact ((abandoned.trans (cleared _ _)).trans (remains_dropTrio _ noTrios)).trans (remains_checkFloor _ _)
  have quiet : Quiet (Obj.standState n) := ⟨.inl (by unfold Obj.standState; omega), by unfold Obj.standState; omega⟩
  have apart : Obj.standState n ∉ [Obj.checksAbandoned] := by
    rw [List.mem_singleton]
    unfold Obj.standState Obj.checksAbandoned
    omega
  exact ⟨(tail.ob _ quiet apart).trans (state small), tail.chan.trans chan, tail.mem.trans mem⟩

/-- A fence for life takes effect (R278). -/
theorem fenceApply_fence (small : n < 192) (free : s.runningOn n = none) (sound : s.fenced n = false) (decided : 2 ≤ (s.stand n).pendState)
    (none : (s.stand n).saved = []) (trios : s.fire.trios = []) :
    ∃ t, exec (.fenceApply n) s = .next t ∧ t.ob (Obj.standState n) = (s.stand n).pendState ∧ t.fenced n = true ∧
      (∀ g ∈ t.mem.groups, n ∉ g.set) ∧ t.chan = s.chan ∧ t.mem.cells = s.mem.cells := by
  have pending : ((s.stand n).pendFence == 0 && (s.stand n).pendBypass == 0 && (s.stand n).pendState == 0) = false := by
    rw [beq_eq_false_iff_ne.mpr (by omega : (s.stand n).pendState ≠ 0), Bool.and_false]
  have reason : (s.stand n).pendState != 0 := bne_iff_ne.mpr (by omega)
  obtain ⟨bypass, fence, eq⟩ : ∃ bypass fence, s.applyFence n = (s.putInForce n bypass fence).fenceStand n (s.stand n).pendState := by
    have some_ : ¬ ((s.stand n).pendState == 0) = true := by rw [beq_iff_eq]; omega
    rw [State.applyFence_eq free sound pending]
    dsimp only
    rw [if_pos reason, if_neg some_]
    exact ⟨_, _, rfl⟩
  have saved : ((s.putInForce n bypass fence).stand n).saved = [] := by rw [State.putInForce_stand]; exact none
  obtain ⟨state, chan, mem⟩ := State.fenceStand_leaves (reason := (s.stand n).pendState) small saved
    (State.putInForce_trios.trans trios)
  refine ⟨_, congrArg Host.Outcome.next eq, state, ?_, ?_, chan.trans State.putInForce_chan, ?_⟩
  · unfold State.fenced
    rw [state]
    exact decide_eq_true decided
  · rw [mem]
    intro g there inn
    obtain ⟨x, -, rfl⟩ := List.mem_map.mp there
    exact absurd rfl (bne_iff_ne.mp (List.mem_filter.mp inn).2)
  · rw [mem]
    change (s.putInForce n bypass fence).mem.cells = _
    rw [State.putInForce_mem]

/-- Settles O20: each way to stop a stand by the equation of its command. -/
theorem standStopsComplete : Obligations.StandStopsComplete := by
  unfold Obligations.StandStopsComplete
  intro s n small
  refine ⟨fun t found => ⟨exec_handshakeStall_of_task found, exec_handshakeStall_of_early found, exec_standTimeout_of_task found⟩,
    fun free runs sound => ⟨exec_standTimeout_of_free free runs sound, exec_handshakeStall_of_work free runs sound,
      exec_handshakeStall_of_idle free⟩, fenceApply_bypass small, fenceApply_fence small⟩

end Sys2Proof.Machine
end

section
/-! PROOFS. RECOMPUTE_RERUN (R133): what the producer's second run yields decides what becomes of its reader. -/

namespace Sys2Proof.Machine

/-- A reader whose data has been made again may start over. -/
def Task.served (x : Task) : Task := { x with recomputed := true, faultAddr := 0, faultDetail := 0 }

variable {s u : State} {h : Nat} {id : BitVec 32} {t : Task} {answer : Option (List Byte)}

theorem exec_recomputeRerun_of_made (found : s.taskAt h id = some t) (held : t.phase = .held) (fault : t.faultDetail = 1)
    (first : t.recomputed = false) {d : Desc} (producer : s.producer t t.faultAddr = some d) (made : s.reproduce t d answer = (u, true)) :
    exec (.recomputeRerun h id answer) s = .next ((u.modTask t.uid t.id Task.served).bump Obj.recomputes) := by
  have go : (t.phase == .held && t.faultDetail == 1 && !t.recomputed) = true := by rw [held, fault, first]; rfl
  change execRecomputeRerun h id answer s = _
  unfold execRecomputeRerun
  simp only [found, go, if_true, producer, made]
  rfl

theorem exec_recomputeRerun_of_lost (found : s.taskAt h id = some t) (held : t.phase = .held) (fault : t.faultDetail = 1)
    (first : t.recomputed = false)
    (lost : (s.producer t t.faultAddr = none ∧ u = s) ∨ ∃ d, s.producer t t.faultAddr = some d ∧ s.reproduce t d answer = (u, false)) :
    exec (.recomputeRerun h id answer) s = .next (((u.bump Obj.repairFailures).logAt (u.memUnit (t.faultAddr / 64)) { errRec 0x0203 with
      job := t.job, step := D.step t.desc, handle := t.handle, task := t.id.toNat, attempt := t.attempt, address := t.faultAddr }).abort
        t Status.memoryError t.faultAddr 1) := by
  have go : (t.phase == .held && t.faultDetail == 1 && !t.recomputed) = true := by rw [held, fault, first]; rfl
  change execRecomputeRerun h id answer s = _
  unfold execRecomputeRerun
  rcases lost with ⟨none, rfl⟩ | ⟨d, producer, failed⟩
  · simp only [found, go, if_true, none, Bool.false_eq_true, if_false]
  · simp only [found, go, if_true, producer, failed, Bool.false_eq_true, if_false]

/-- Settles O21: by the two ways a second run ends. -/
theorem recomputeRerunCompletes : Obligations.RecomputeRerunCompletes := by
  unfold Obligations.RecomputeRerunCompletes
  intro s h id t answer found held fault first
  refine ⟨fun d u producer made => ?_, fun u => exec_recomputeRerun_of_lost found held fault first⟩
  exact ⟨_, exec_recomputeRerun_of_made found held fault first producer made, State.bump_same _ _, rfl, rfl⟩

end Sys2Proof.Machine
end

section
/-! PROOFS. A host read of a block whose repair fails at once (R136, R139, R302): it completes poisoned and no longer waits; with it the
refutation of O22. -/

namespace Sys2Proof.Machine

namespace StaleTwin

/-- The first band of the stacks, of class Twin in a set whose live copies have never been made. -/
def staleRegion : BitVec 256 := 1 <<< 192 ||| 2 <<< 178 ||| 1 <<< 176

/-- Both halves run, the host link is up, BAR2 begins at address 0, and no block of the region passes its check. -/
def stale : State where
  mem := { regions := [staleRegion] }
  edge := { hostLink := true, window := 0, bar2Bits := 20 }
  dict := { objs := [(Obj.halfState 0, 2), (Obj.halfState 1, 2)] }

/-- The host reads that wait after a command. -/
def waiting (o : Host.Outcome State Fault Refusal) : List HostRead :=
  match o with
  | .next w => w.mem.reads
  | _ => []

/-- The read of eight bytes does not wait. -/
theorem waiting_bar2Read : waiting (exec (.bar2Read 0 8) stale) = [] := by decide +kernel

theorem stale_reads : stale.inBar2 0 8 = true ∧ stale.hostMay (stale.bar2Addr 0) 8 = true ∧
    stale.badBlocksOf (stale.bar2Addr 0) 8 = [(0, .stackCheck)] ∧ stale.repairable 0 = true := by
  decide +kernel

end StaleTwin

open StaleTwin in
/-- Refutes O22: the statement has the read wait whenever its blocks are of class Twin. -/
theorem not_hostReadsComplete : ¬ Obligations.HostReadsComplete := by
  unfold Obligations.HostReadsComplete
  intro claim
  obtain ⟨-, inside⟩ := claim stale 0 8 rfl (by decide)
  obtain ⟨inBar, may, blocks, repairable⟩ := stale_reads
  obtain ⟨-, -, waits⟩ := inside inBar
  have all : ∀ x ∈ [((0 : Nat), BadKind.stackCheck)], stale.repairable x.1 = true := fun x mem => by
    rw [List.mem_singleton.mp mem]
    exact repairable
  obtain ⟨t, r, ran, -, -, -, -, reads, -⟩ := (waits _ may blocks (List.cons_ne_nil _ _)).2 all
  have here : waiting (exec (.bar2Read 0 8) stale) = stale.mem.reads ++ [r] := by
    rw [ran]
    exact reads
  rw [waiting_bar2Read] at here
  exact absurd here (by simp)

end Sys2Proof.Machine
end

section
/-! PROOFS. Writes within one block (R122, R124): BAR2_WRITE performs them, lets them wait for a repair, or loses them. -/

namespace Sys2Proof.Machine

section OneBlock

variable {a : Nat} {data : List Byte} (some_ : data ≠ []) (one : a / 64 = (a + data.length - 1) / 64)

include some_ one

theorem blocksOf_one : blocksOf a data.length = [a / 64] := by
  have size : ¬ data.length = 0 := fun none => some_ (List.eq_nil_of_length_eq_zero none)
  unfold blocksOf
  rw [if_neg size, ← one, Nat.sub_self]
  change [0 + a / 64] = _
  rw [Nat.zero_add]

theorem blockPart_one : blockPart a data.length (a / 64) = (a, data.length) := by
  have size : 0 < data.length := List.length_pos_iff.2 some_
  unfold blockPart
  have low : max a (a / 64 * 64) = a := by omega
  have high : min (a + data.length) (a / 64 * 64 + 64) = a + data.length := by omega
  dsimp only
  rw [low, high, Nat.add_sub_cancel_left]

/-- A write within one block is that block's. -/
theorem State.partsWrite_one (s : State) (x : Nat → List Byte → BlockAccess) :
    s.partsWrite a data x = s.blockWrite (a / 64) a data (x a data) := by
  have all : (data.drop (a - a)).take data.length = data := by rw [Nat.sub_self, List.drop_zero, List.take_length]
  unfold State.partsWrite
  rw [blocksOf_one some_ one]
  simp only [List.foldl_cons, List.foldl_nil, blockPart_one some_ one, all, Bool.true_and]

end OneBlock

variable {s : State} {offset : Nat} {data : List Byte}

/-- A write inside BAR2 to mapped memory goes to its blocks. -/
theorem exec_bar2Write_of_mapped (link : s.edge.hostLink = true) (some_ : data ≠ []) (inBar : s.inBar2 offset data.length = true)
    (may : s.hostMay (s.bar2Addr offset) data.length = true) :
    exec (.bar2Write offset data) s = .next (s.partsWrite (s.bar2Addr offset) data .hostWrite).1 := by
  change execBar2Write offset data s = _
  unfold execBar2Write
  simp only [link, inBar, may, List.isEmpty_eq_false_iff.mpr some_, Bool.not_true, Bool.or_self, Bool.false_eq_true, if_false]

theorem exec_bar2Write_of_unmapped (link : s.edge.hostLink = true) (some_ : data ≠ []) (inBar : s.inBar2 offset data.length = true)
    (unmapped : s.hostMay (s.bar2Addr offset) data.length = false) :
    exec (.bar2Write offset data) s = .next (s.unmappedAccess (s.bar2Addr offset)) := by
  change execBar2Write offset data s = _
  unfold execBar2Write
  simp only [link, inBar, unmapped, List.isEmpty_eq_false_iff.mpr some_, Bool.not_true, Bool.not_false, Bool.or_self, Bool.false_eq_true,
    if_false, if_true]

theorem State.mended_of_sound {b : Nat} (full : Bool) (sound : s.pendingRepair b = false) : s.mended b full = s.healBlock b := by
  have none : s.mem.repairs.find? (fun r => r.block == b) = none := by
    rw [List.find?_eq_none]
    intro r mem
    have all := List.any_eq_false.mp sound r mem
    exact all
  unfold State.mended
  rw [none]

/-- A whole block is written with a new check (R122). -/
theorem State.blockWrite_whole {b lo : Nat} {x : BlockAccess} (whole : data.length = 64) (sound : s.pendingRepair b = false) :
    s.blockWrite b lo data x = ((s.store lo data).healBlock b, true) := by
  have good : s.writeBad b lo data.length = none := if_pos whole
  have kept : (s.store lo data).pendingRepair b = false := sound
  unfold State.blockWrite
  rw [good]
  unfold State.writeBlock
  dsimp only
  rw [if_pos whole, State.mended_of_sound true kept]

theorem self_mem_nins (l : List Nat) (k : Nat) : k ∈ nins l k := by
  induction l with
  | nil => exact List.mem_cons_self
  | cons a t ih =>
    unfold nins
    split
    · exact List.mem_cons_self
    · split
      · next same => exact same ▸ List.mem_cons_self
      · exact List.mem_cons_of_mem a ih

/-- Part of a block whose rest reads well is written, and its check stays as it was. -/
theorem State.blockWrite_part {b lo : Nat} {x : BlockAccess} (part : data.length < 64) (good : s.writeBad b lo data.length = none) :
    ∃ t, s.blockWrite b lo data x = (t, true) ∧ t.mem.okBlocks = s.mem.okBlocks ∧
      (∀ y, t.byteAt y = if h : lo ≤ y ∧ y < lo + data.length then data[y - lo]'(by omega) else s.byteAt y) ∧
      t.chan = s.chan ∧ t.dict = s.dict ∧ t.out = s.out ∧ t.mem.regions = s.mem.regions := by
  have less : ¬ data.length = 64 := Nat.ne_of_lt part
  unfold State.blockWrite State.writeBlock
  simp only [good, less, if_false, Option.isSome_none, Bool.false_eq_true]
  exact ⟨_, rfl, rfl, fun y => s.poke_byteAt lo y data, rfl, rfl, rfl, rfl⟩

/-- What meets an error waits for the block's repair, or is lost (R138). -/
theorem State.blockWrite_bad {b lo : Nat} {k : BadKind} {x : BlockAccess} (bad : s.writeBad b lo data.length = some k) :
    s.blockWrite b lo data x = if (s.meet b k).repairable b then
      ((s.meet b k).waitRepair b ((s.meet b k).classOf b) (fun r => { r with accesses := r.accesses ++ [x] }), true) else (s.meet b k, false) := by
  unfold State.blockWrite
  rw [bad]

/-- Settles O23: a write in one block, by what `State.writeBad` says of it. -/
theorem hostWritesComplete : Obligations.HostWritesComplete := by
  unfold Obligations.HostWritesComplete
  intro s offset data link some_ inBar a
  refine ⟨exec_bar2Write_of_unmapped link some_ inBar, fun may aligned whole sound => ?whole, fun may one part => ⟨fun good => ?part, fun k bad => ?bad⟩⟩
  case whole =>
    have one : a / 64 = (a + data.length - 1) / 64 := by omega
    have eq := exec_bar2Write_of_mapped link some_ inBar may
    rw [State.partsWrite_one some_ one, State.blockWrite_whole whole sound] at eq
    exact ⟨_, eq, self_mem_nins _ _, fun x => s.poke_byteAt a x data, rfl, rfl, rfl, rfl⟩
  case part =>
    obtain ⟨t, written, rest⟩ := State.blockWrite_part (x := .hostWrite a data) part good
    have eq := exec_bar2Write_of_mapped link some_ inBar may
    rw [State.partsWrite_one some_ one, written] at eq
    exact ⟨t, eq, rest⟩
  case bad =>
    intro u
    have eq := exec_bar2Write_of_mapped link some_ inBar may
    rw [State.partsWrite_one some_ one, State.blockWrite_bad bad] at eq
    exact ⟨fun repairable => by rwa [if_pos repairable] at eq, fun lost => by rwa [if_neg (by rw [lost]; decide)] at eq⟩

end Sys2Proof.Machine
end

section
/-! PROOFS. The ends of a repair (R132, R135, R136, R138, Table 4-7). -/

namespace Sys2Proof.Machine

variable {s : State} {b : Nat} {r : Repair}

/-- Data that has come whole and in time ends the repair. -/
theorem exec_repairDone_of_whole {d : List Byte} (found : s.mem.repairs.find? (fun x => x.block == b) = some r) (data : r.data = some d)
    (good : r.failed = false) (all : r.missing = 0) (whole : d.length = 64) (inTime : s.now ≤ r.t0 + r.bound) :
    exec (.repairDone b) s = .next ((((s.dropRepairXfers b).poke (b * 64) d).mended b false).bump
      (if r.cls == 2 then Obj.repairsTwin else Obj.repairsSeedbank)) := by
  have go : (r.failed || r.missing != 0 || d.length != 64 || decide (r.t0 + r.bound < s.now)) = false := by
    rw [good, all, whole, decide_eq_false (Nat.not_lt.mpr inTime)]
    rfl
  change execRepairDone b s = _
  unfold execRepairDone
  simp only [found, data, go, Bool.false_eq_true, if_false]

/-- Data that came too late is not written. -/
theorem exec_repairDone_of_late (found : s.mem.repairs.find? (fun x => x.block == b) = some r) (late : r.t0 + r.bound < s.now) :
    exec (.repairDone b) s = .next s := by
  change execRepairDone b s = _
  unfold execRepairDone
  cases data : r.data with
  | none => simp only [found, data]
  | some d => simp only [found, data, decide_eq_true late, Bool.or_true, if_true]

/-- The block is mended where nothing waits for it. -/
theorem State.mended_unawaited (full : Bool) (found : s.mem.repairs.find? (fun x => x.block == b) = some r) (noAccess : r.accesses = [])
    (noWaiter : r.waiters = []) : s.mended b full =
      { s.healBlock b with fab := { s.fab with outXfers := s.fab.outXfers.filter (fun o => o.use != .repair b) } } := by
  unfold State.mended
  rw [found]
  dsimp only
  rw [noAccess, noWaiter]
  rfl

theorem State.pendingRepair_healBlock (s : State) (b : Nat) : (s.healBlock b).pendingRepair b = false := by
  refine List.any_eq_false.mpr fun r mem same => ?_
  exact absurd (beq_iff_eq.mp same) (bne_iff_ne.mp (List.mem_filter.mp mem).2)

/-- The second twin is asked where the first has failed or has not answered in 400 µs. -/
theorem exec_twinFetchRetry_of_due {xs : List Nat} {u : State} (found : s.mem.repairs.find? (fun x => x.block == b) = some r)
    (twin : r.cls = 2) (first : r.asked = 0) (second : r.second ≠ 0) (due : r.failed = true ∨ (r.t0 + 400000 ≤ s.now ∧ r.missing ≠ 0))
    (asked : (s.dropRepairXfers b).ask r.second r.copyAt r.job r.gen b = (xs, u)) :
    exec (.twinFetchRetry b) s = .next { u with mem := { u.mem with repairs := u.mem.repairs.map (fun y => if y.block == b then
      { y with asked := 1, failed := false, missing := 1, xfers := xs, data := none } else y) } } := by
  have go : (r.cls == 2 && r.asked == 0 && r.second != 0 && (r.failed || decide (r.t0 + 400000 ≤ s.now)) &&
      !(r.missing == 0 && !r.failed)) = true := by
    rw [twin, first, bne_iff_ne.mpr second]
    rcases due with failed | ⟨late, open_⟩
    · rw [failed, Bool.not_true, Bool.and_false]
      rfl
    · rw [decide_eq_true late, beq_eq_false_iff_ne.mpr open_, Bool.or_true]
      rfl
  change execTwinFetchRetry b s = _
  unfold execTwinFetchRetry
  simp only [found, go, if_true, asked]

theorem exec_repairTimeout_of_over (found : s.mem.repairs.find? (fun x => x.block == b) = some r) (ends : s.repairOver r = true) :
    exec (.repairTimeout b) s = .next ((s.dropRepairXfers b).repairFailed r) := by
  change execRepairTimeout b s = _
  unfold execRepairTimeout
  simp only [found, ends, if_true]

/-- Settles O24: each end of a repair by the equation of its command. -/
theorem repairsComplete : Obligations.RepairsComplete := by
  unfold Obligations.RepairsComplete
  intro s b r found
  refine ⟨fun d data good all whole inTime => ⟨exec_repairDone_of_whole found data good all whole inTime, fun noAccess noWaiter => ?_⟩,
    exec_repairDone_of_late found, fun xs u => exec_twinFetchRetry_of_due found, exec_repairTimeout_of_over found⟩
  have eq := exec_repairDone_of_whole found data good all whole inTime
  have there : ((s.dropRepairXfers b).poke (b * 64) d).mem.repairs.find? (fun x => x.block == b) = some r := found
  rw [State.mended_unawaited false there noAccess noWaiter] at eq
  exact ⟨_, eq, self_mem_nins _ _, State.pendingRepair_healBlock _ b, fun x => (s.dropRepairXfers b).poke_byteAt (b * 64) x d, rfl, rfl⟩

end Sys2Proof.Machine
end

section
/-! PROOFS. Patrol scrub and the stacks' own error counts (R121, R140 to R143). -/

namespace Sys2Proof.Machine

/-- The block that scrub of a memory reads next, and the state once it has moved on. -/
def State.scrubBlock (s : State) (m : MemKind) : Nat := kget s.mem.scrubAt ((scrubRanges m).headD (0, 1)).1 (memCode m)
def State.scrubbed (s : State) (m : MemKind) : State :=
  { s with mem := { s.mem with scrubAt := kset s.mem.scrubAt (memCode m) (nextBlock (scrubRanges m) (s.scrubBlock m)) } }

section Scrub

variable {s : State} {m : MemKind} (on : s.ob Obj.scrubEnable ≠ 0) (shed : s.shed < 2)

include on shed

theorem scrubs : (s.ob Obj.scrubEnable == 0 || decide (2 ≤ s.shed)) = false := by
  rw [beq_eq_false_iff_ne.mpr on, decide_eq_false (Nat.not_le.mpr shed)]
  rfl

/-- A block that is not mapped, or whose half does not run, is passed over. -/
theorem exec_scrubRead_of_absent
    (absent : s.mapped (s.scrubBlock m * 64) = false ∨ ((s.homeOf (s.scrubBlock m * 64)).map s.halfRuns).getD false = false) (e : Option Upset) :
    exec (.scrubRead m e) s = .next (s.scrubbed m) := by
  have out : (!(s.scrubbed m).mapped (s.scrubBlock m * 64) ||
      !(((s.scrubbed m).homeOf (s.scrubBlock m * 64)).map (s.scrubbed m).halfRuns).getD false) = true := by
    change (!s.mapped (s.scrubBlock m * 64) || !((s.homeOf (s.scrubBlock m * 64)).map s.halfRuns).getD false) = true
    rcases absent with no | no
    · rw [no]; rfl
    · rw [no]; exact Bool.or_true _
  change execScrubRead m e s = _
  unfold execScrubRead
  simp only [scrubs on shed, Bool.false_eq_true, if_false]
  exact if_pos out

variable (mapped : s.mapped (s.scrubBlock m * 64) = true) (runs : ((s.homeOf (s.scrubBlock m * 64)).map s.halfRuns).getD false = true)

include mapped runs

omit on shed in
theorem scrub_reaches : (!(s.scrubbed m).mapped (s.scrubBlock m * 64) ||
    !(((s.scrubbed m).homeOf (s.scrubBlock m * 64)).map (s.scrubbed m).halfRuns).getD false) = false := by
  change (!s.mapped (s.scrubBlock m * 64) || !((s.homeOf (s.scrubBlock m * 64)).map s.halfRuns).getD false) = false
  rw [mapped, runs]
  rfl

/-- A block of the understory reserve is a table's: only an upset that its check shows counts there. -/
theorem exec_scrubRead_of_table (reserved : reservedArea (s.scrubBlock m * 64) = true) (sram : isStack (s.scrubBlock m * 64) = false) :
    exec (.scrubRead m none) s = .next (s.scrubbed m) ∧ ∀ e, exec (.scrubRead m (some e)) s =
      .next (if (s.scrubbed m).upsetPasses (s.scrubBlock m) e then s.scrubbed m else (s.scrubbed m).tableUpset (s.scrubBlock m) e) := by
  have table : (reservedArea (s.scrubBlock m * 64) && !isStack (s.scrubBlock m * 64)) = true := by rw [reserved, sram]; rfl
  have start (e : Option Upset) : execScrubRead m e s = .next (match e with
      | some e => if (s.scrubbed m).upsetPasses (s.scrubBlock m) e then s.scrubbed m else (s.scrubbed m).tableUpset (s.scrubBlock m) e
      | none => s.scrubbed m) := by
    unfold execScrubRead
    simp only [scrubs on shed, Bool.false_eq_true, if_false]
    refine (if_neg ?_).trans (if_pos table)
    rw [Bool.not_eq_true]
    exact scrub_reaches mapped runs
  exact ⟨start none, fun e => start (some e)⟩

/-- Any other block is read as an upset, if any, has left it. -/
theorem exec_scrubRead_of_block (open_ : reservedArea (s.scrubBlock m * 64) = false ∨ isStack (s.scrubBlock m * 64) = true) (e : Option Upset) :
    let w := (e.map ((s.scrubbed m).upset (s.scrubBlock m))).getD (s.scrubbed m)
    (w.blockFault (s.scrubBlock m) (s.scrubBlock m * 64) 64 = none → exec (.scrubRead m e) s = .next w) ∧
    (∀ k, w.blockFault (s.scrubBlock m) (s.scrubBlock m * 64) 64 = some k → exec (.scrubRead m e) s =
      .next (if reservedArea (s.scrubBlock m * 64) then w.contextFault (s.scrubBlock m) else w.scrubFound (s.scrubBlock m) k)) := by
  intro w
  have table : ¬ (reservedArea (s.scrubBlock m * 64) && !isStack (s.scrubBlock m * 64)) = true := by
    rcases open_ with no | yes
    · rw [no, Bool.false_and]; decide
    · rw [yes, Bool.not_true, Bool.and_false]; decide
  have start : execScrubRead m e s = match w.blockFault (s.scrubBlock m) (s.scrubBlock m * 64) 64 with
      | some k => .next (if reservedArea (s.scrubBlock m * 64) then w.contextFault (s.scrubBlock m) else w.scrubFound (s.scrubBlock m) k)
      | none => .next w := by
    unfold execScrubRead
    simp only [scrubs on shed, Bool.false_eq_true, if_false]
    refine ((if_neg ?_).trans (if_neg table)).trans ?_
    · rw [Bool.not_eq_true]
      exact scrub_reaches mapped runs
    · cases e <;> rfl
  exact ⟨fun none => start.trans (by rw [none]), fun k bad => start.trans (by rw [bad])⟩

end Scrub

/-! ## The stacks' own counts (R121) -/

theorem stackOndie_inj {a b : Nat} (same : Obj.stackOndie a = Obj.stackOndie b) : a = b := by
  unfold Obj.stackOndie at same
  omega

theorem exec_stackEcsPoll_of_due {s : State} (due : s.due 7 100000000 = true) (l : List (Nat × Nat)) :
    exec (.stackEcsPoll l) s = .next (l.foldl (fun t x => t.setOb (Obj.stackOndie x.1) x.2) (s.ticked 7)) := by
  change execStackEcsPoll l s = _
  unfold execStackEcsPoll
  rw [due]
  rfl

theorem exec_stackEcsPoll_of_early {s : State} (early : s.due 7 100000000 = false) (l : List (Nat × Nat)) :
    exec (.stackEcsPoll l) s = .next s := by
  change execStackEcsPoll l s = _
  unfold execStackEcsPoll
  rw [early]
  rfl

/-- Settles O25: what scrub does with the block it reads, and the counts that a poll takes over. -/
theorem scrubAndPollComplete : Obligations.ScrubAndPollComplete := by
  unfold Obligations.ScrubAndPollComplete
  intro s
  refine ⟨fun m on shed => ?scrub, fun early l => exec_stackEcsPoll_of_early early l, fun due l => ?poll⟩
  case scrub =>
    intro b u
    exact ⟨exec_scrubRead_of_absent on shed, fun mapped runs =>
      ⟨exec_scrubRead_of_table on shed mapped runs, exec_scrubRead_of_block on shed mapped runs⟩⟩
  case poll =>
    have kept {β : Type} (field : State → β) (same : ∀ u k x, field (State.setOb u k x) = field u) :
        field (l.foldl (fun t x => t.setOb (Obj.stackOndie x.1) x.2) (s.ticked 7)) = field (s.ticked 7) :=
      foldl_field (f := fun t (x : Nat × Nat) => t.setOb (Obj.stackOndie x.1) x.2) field (fun u x => same u _ _) l _
    refine ⟨_, exec_stackEcsPoll_of_due due l, fun l1 l2 stack n split last => ?_, fun k other => ?_,
      kept State.mem State.setOb_mem, kept State.chan State.setOb_chan, kept State.fire State.setOb_fire⟩
    · rw [split, List.foldl_append, List.foldl_cons,
        foldl_setOb_other (fun x : Nat × Nat => Obj.stackOndie x.1) (fun x => x.2) l2 _ fun x mem same => last x mem (stackOndie_inj same).symm]
      exact State.setOb_same _ _ _
    · exact foldl_setOb_other (fun x : Nat × Nat => Obj.stackOndie x.1) (fun x => x.2) l _ other

end Sys2Proof.Machine
end

section
/-! PROOFS. Packets that arrive, the commands of the clearing, and the counters of a decision (R186, R189 to R202, R207, R229 to R246). -/

namespace Sys2Proof.Machine

/-! ## Received packets (R229, R230) -/

/-- A packet of a received kind that arrives whole does what its row says. -/
theorem Arrives.receive {s : State} {p : Packet} {kind : Nat} (here : Arrives s p kind) (f : State → State) :
    s.receive p [kind] f = f (s.arrived p) := by
  have go : (!s.forMe p || !([kind].contains p.kind) || s.vcHeld p.vc) = false := by
    rw [here.forMe, here.kind, here.carried, List.contains_iff_mem.mpr List.mem_cons_self]
    rfl
  unfold State.receive State.arrived
  simp only [go, Bool.false_eq_true, if_false, here.sound, if_true]

theorem State.writeArrives_of_job {s : State} {p : Packet} {slot : Nat} (job : s.slotOf p.job = some slot) : s.writeArrives p = s.jobWrite slot p := by
  unfold State.writeArrives
  rw [job]

theorem State.writeArrives_of_none {s : State} {p : Packet} (job : s.slotOf p.job = none) : s.writeArrives p = s.refuseIn p 1 := by
  unfold State.writeArrives
  rw [job]

/-- An answer with data goes to what its transfer was for, and restores go on. -/
def State.readAnswer (s : State) (p : Packet) (o : OutXfer) : State :=
  let w := State.pumpLaunches s.fab.launches.length
    { s with fab := { s.fab with outXfers := s.fab.outXfers.filter (fun x => x.xfer != p.xfer) } }
  (match o.use with
    | .repair b => w.repairData b p.xfer p
    | .restore slot target => w.restoreData slot target p.xfer p
    | _ => w).runRestores

theorem exec_readRespReceive {s : State} {p : Packet} {o : OutXfer} (here : Arrives s p 3)
    (awaited : (s.arrived p).fab.outXfers.find? (fun o => o.xfer == p.xfer && o.awaiting.contains p.src) = some o) :
    exec (.readRespReceive p) s = .next ((s.arrived p).readAnswer p o) := by
  refine congrArg Host.Outcome.next ((here.receive _).trans ?_)
  simp only [awaited]
  rfl

/-- Settles O28: each kind of packet does what its row says, once it has arrived. -/
theorem receivedPacketsComplete : Obligations.ReceivedPacketsComplete := by
  unfold Obligations.ReceivedPacketsComplete
  intro s p u
  refine ⟨fun slot job => ⟨fun here => ?_, fun here => ?_, fun here => ?_⟩, fun job => ⟨fun here => ?_, fun here => ?_, fun here => ?_⟩,
    fun o awaited => ?_, fun here => ?_, fun here => ?_, fun here => ?_, fun here beat => ?_⟩
  · exact congrArg Host.Outcome.next ((here.receive _).trans (State.writeArrives_of_job job))
  · exact congrArg Host.Outcome.next ((here.receive _).trans (State.writeArrives_of_job job))
  · refine congrArg Host.Outcome.next ((here.receive _).trans ?_)
    have job : (s.arrived p).slotOf p.job = _ := job
    simp only [job]
    rfl
  · exact congrArg Host.Outcome.next ((here.receive _).trans (State.writeArrives_of_none job))
  · exact congrArg Host.Outcome.next ((here.receive _).trans (State.writeArrives_of_none job))
  · refine congrArg Host.Outcome.next ((here.receive _).trans ?_)
    have job : (s.arrived p).slotOf p.job = _ := job
    simp only [job]
    rfl
  · intro w
    refine ⟨fun b use here => (exec_readRespReceive here awaited).trans ?_, fun slot target use here => (exec_readRespReceive here awaited).trans ?_⟩
    · unfold State.readAnswer
      rw [use]
    · unfold State.readAnswer
      rw [use]
  · exact congrArg Host.Outcome.next (here.receive _)
  · exact congrArg Host.Outcome.next (here.receive _)
  · exact congrArg Host.Outcome.next (here.receive _)
  · have own : (p.ctl == .heartbeat) = true := beq_iff_eq.mpr beat
    exact congrArg Host.Outcome.next ((if_pos own).trans (here.receive _))

/-! ## The commands of the clearing -/

/-- Settles O26: the vote that may go, the commit, the timeout, and what arrives. -/
theorem clearingCompletes : Obligations.ClearingCompletes := by
  unfold Obligations.ClearingCompletes
  intro s slot _
  refine ⟨fun may => ?_, fun st due => ?_, fun uid id t0 loss ended late => ?_, fun p here => congrArg Host.Outcome.next (here.receive _),
    fun p here => congrArg Host.Outcome.next (here.receive _)⟩
  · exact if_pos may
  · change execStepCommit slot s = _
    unfold execStepCommit
    simp only [due]
  · change execClearingTimeout slot s = _
    unfold execClearingTimeout
    simp only [ended, late, if_true]

/-! ## The counters of a decision (R186, R200, R207) -/

theorem State.ob_setOb (s : State) (k v j : Nat) : (s.setOb k v).ob j = if j = k then v else s.ob j := by
  split
  · next same => rw [same, s.setOb_same]
  · next other => exact s.setOb_other k v j other

section Advance

variable (s : State) (slot : Nat) (d : Decision)

/-- The objects of a slot's record that a decision sets. -/
theorem State.advance_ob (k : Nat) : (s.advance slot d).ob k =
    if k = Obj.lastLoss slot then d.loss.toNat
    else if k = Obj.cleanSteps slot then (s.scaleAfter slot d.decision).2
    else if k = Obj.lossScaleExp slot then (s.scaleAfter slot d.decision).1
    else (if d.decision == 2 then (s.setOb (Obj.attempt slot) (s.att slot + 1)).bump (Obj.stepsTainted slot)
      else ((s.setOb (Obj.currentStep slot) ((s.step slot + 1) % 2 ^ 48)).setOb (Obj.attempt slot) 0).bump
        (if d.decision == 0 then Obj.stepsPassed slot else Obj.stepsSkipped slot)).ob k := by
  unfold State.advance
  dsimp only
  rw [State.modJob_ob, State.ob_setOb, State.ob_setOb, State.ob_setOb]

theorem State.advance_scale : (s.advance slot d).ob (Obj.lossScaleExp slot) = (s.scaleAfter slot d.decision).1 ∧
    (s.advance slot d).ob (Obj.cleanSteps slot) = (s.scaleAfter slot d.decision).2 := by
  constructor <;> simp [State.advance_ob, Obj.lastLoss, Obj.cleanSteps, Obj.lossScaleExp]

/-- PASS and SKIP go on to the next step. -/
theorem State.advance_on (on : d.decision ≠ 2) : (s.advance slot d).step slot = (s.step slot + 1) % 2 ^ 48 ∧ (s.advance slot d).att slot = 0 := by
  constructor <;> simp [State.step, State.att, State.advance_ob, on, Obj.lastLoss, Obj.cleanSteps, Obj.lossScaleExp, State.bump, State.addOb,
    State.ob_setOb, Obj.currentStep, Obj.attempt, Obj.stepsPassed, Obj.stepsSkipped, apply_ite]

/-- TAINT repeats the step under the next attempt. -/
theorem State.advance_taint (taint : d.decision = 2) : (s.advance slot d).step slot = s.step slot ∧
    (s.advance slot d).att slot = s.att slot + 1 ∧ (s.advance slot d).ob (Obj.stepsTainted slot) = s.ob (Obj.stepsTainted slot) + 1 := by
  refine ⟨?_, ?_, ?_⟩ <;> simp [State.step, State.att, State.advance_ob, taint, Obj.lastLoss, Obj.cleanSteps, Obj.lossScaleExp, State.bump,
    State.addOb, State.ob_setOb, Obj.currentStep, Obj.attempt, Obj.stepsTainted]

/-- The counter of the decision's kind. -/
theorem State.advance_count (on : d.decision ≠ 2) :
    let k := if d.decision == 0 then Obj.stepsPassed slot else Obj.stepsSkipped slot
    (s.advance slot d).ob k = s.ob k + 1 := by
  by_cases pass : d.decision = 0 <;> simp [State.advance_ob, on, pass, Obj.lastLoss, Obj.cleanSteps, Obj.lossScaleExp, State.bump,
    State.addOb, State.ob_setOb, Obj.currentStep, Obj.attempt, Obj.stepsPassed, Obj.stepsSkipped]

/-- A decision leaves all but the objects and the slot's record as they were. -/
theorem State.advance_frame : (s.advance slot d).mem = s.mem ∧ (s.advance slot d).chan = s.chan ∧ (s.advance slot d).stands = s.stands ∧
    (s.advance slot d).fab = s.fab ∧ (s.advance slot d).out = s.out ∧ ∀ k, k ≠ slot → (s.advance slot d).job k = s.job k := by
  obtain ⟨u, objs, f, eq⟩ : ∃ u, ObjectsOnly s u ∧ ∃ f, s.advance slot d = u.modJob slot f := by
    have counted : ObjectsOnly s (if d.decision == 2 then (s.setOb (Obj.attempt slot) (s.att slot + 1)).bump (Obj.stepsTainted slot)
        else ((s.setOb (Obj.currentStep slot) ((s.step slot + 1) % 2 ^ 48)).setOb (Obj.attempt slot) 0).bump
          (if d.decision == 0 then Obj.stepsPassed slot else Obj.stepsSkipped slot)) := by
      split
      · exact (ObjectsOnly.setOb ..).trans (.setOb ..)
      · exact ((ObjectsOnly.setOb ..).trans (.setOb ..)).trans (.setOb ..)
    have scaled (e c l : Nat) := ((counted.trans (.setOb _ (Obj.lossScaleExp slot) e)).trans (.setOb _ (Obj.cleanSteps slot) c)).trans
      (.setOb _ (Obj.lastLoss slot) l)
    unfold State.advance
    exact ⟨_, scaled (s.scaleAfter slot d.decision).1 (s.scaleAfter slot d.decision).2 d.loss.toNat, _, rfl⟩
  rw [eq]
  exact ⟨objs.mem, objs.chan, objs.stands, objs.fab, (congrArg State.out objs :), fun k other => (u.modJob_other f other).trans (objs.job k)⟩

end Advance

/-- Settles O27: by the objects that a decision sets. -/
theorem decisionMovesTheCounters : Obligations.DecisionMovesTheCounters := by
  unfold Obligations.DecisionMovesTheCounters
  intro s slot d _ _ t e c
  obtain ⟨scale, clean⟩ := s.advance_scale slot d
  refine ⟨fun pass => ?_, fun skip => ?_, fun taint => ?_, s.advance_frame slot d⟩
  · obtain ⟨step, att⟩ := s.advance_on slot d (by rw [pass]; decide)
    have count := s.advance_count slot d (by rw [pass]; decide)
    rw [pass] at scale clean count
    refine ⟨step, att, count, fun grown => ?_, fun small => ?_⟩
    · have eq : s.scaleAfter slot 0 = (min (e + 1) (s.ob (Obj.scaleMax slot)), 0) := if_pos (beq_iff_eq.mpr grown)
      rw [eq] at scale clean
      exact ⟨scale, clean⟩
    · have eq : s.scaleAfter slot 0 = (e, c + 1) := if_neg fun grown => small (beq_iff_eq.mp grown)
      rw [eq] at scale clean
      exact ⟨scale, clean⟩
  · obtain ⟨step, att⟩ := s.advance_on slot d (by rw [skip]; decide)
    have count := s.advance_count slot d (by rw [skip]; decide)
    rw [skip] at scale clean count
    exact ⟨step, att, count, scale, clean⟩
  · obtain ⟨step, att, count⟩ := s.advance_taint slot d taint
    rw [taint] at scale clean
    exact ⟨step, att, count, scale, clean⟩

end Sys2Proof.Machine
end

section
/-! PROOFS. A write of a peer (R241, R243, R244): whole blocks with no repair in progress hold the payload, and the transfer counts it. -/

namespace Sys2Proof.Machine

/-! ## A write of whole blocks -/

/-- The state holds `data` from `a` on up to address `a + n`, and what `s` holds elsewhere. -/
def Holds (s : State) (a n : Nat) (data : List Byte) (t : State) : Prop :=
  ∀ x, t.byteAt x = if a ≤ x ∧ x < a + n then data.getD (x - a) 0 else s.byteAt x

/-- One more whole block of a write. -/
theorem blockWrite_next {s u : State} {a n b : Nat} {data : List Byte} {x : BlockAccess} (holds : Holds s a n data u)
    (calm : u.mem.repairs = []) (fits : n + 64 ≤ data.length) :
    ∃ t, u.blockWrite b (a + n) ((data.drop n).take 64) x = (t, true) ∧ Written (Within (a + n) 64) u t ∧ Holds s a (n + 64) data t := by
  have size : ((data.drop n).take 64).length = 64 := by rw [List.length_take, List.length_drop]; omega
  have sound : u.pendingRepair b = false := by unfold State.pendingRepair; rw [calm]; rfl
  have stored := written_store u (a + n) ((data.drop n).take 64)
  refine ⟨_, State.blockWrite_whole size sound, ?_, fun y => ?_⟩
  · rw [size] at stored
    exact stored.trans ((written_healBlock (u.store (a + n) ((data.drop n).take 64)) b calm).mono fun _ no => no.elim)
  · refine (u.poke_byteAt (a + n) y ((data.drop n).take 64)).trans ?_
    by_cases here : a + n ≤ y ∧ y < a + n + ((data.drop n).take 64).length
    · have inn : a ≤ y ∧ y < a + (n + 64) := by rw [size] at here; omega
      rw [dif_pos here, if_pos inn, List.getElem_take, List.getElem_drop, List.getElem_eq_getD (0 : Byte)]
      congr 1
      omega
    · rw [dif_neg here, holds y]
      rw [size] at here
      by_cases before : a ≤ y ∧ y < a + n
      · rw [if_pos before, if_pos (by omega)]
      · rw [if_neg before, if_neg (by omega)]

/-- What a block takes of a write of whole blocks. -/
theorem blockPart_whole {a k m : Nat} {data : List Byte} (aligned : a % 64 = 0) (size : data.length = 64 * m) (small : k < m) :
    blockPart a data.length (k + a / 64) = (a + 64 * k, 64) := by
  unfold blockPart
  have low : max a ((k + a / 64) * 64) = a + 64 * k := by omega
  have high : min (a + data.length) ((k + a / 64) * 64 + 64) = a + 64 * k + 64 := by omega
  dsimp only
  rw [low, high, Nat.add_sub_cancel_left]

theorem blocksOf_whole {a m : Nat} {data : List Byte} (aligned : a % 64 = 0) (size : data.length = 64 * m) (some_ : 0 < m) :
    blocksOf a data.length = (upto m).map (· + a / 64) := by
  have count : (a + data.length - 1) / 64 - a / 64 + 1 = m := by omega
  unfold blocksOf
  rw [if_neg (by omega), count]

/-- A write of whole blocks with no repair in progress is performed whole (R122). -/
theorem partsWrite_whole {s : State} {a m : Nat} {data : List Byte} (x : Nat → List Byte → BlockAccess) (calm : s.mem.repairs = [])
    (aligned : a % 64 = 0) (size : data.length = 64 * m) (some_ : 0 < m) :
    ∃ t, s.partsWrite a data x = (t, true) ∧ Written (Within a data.length) s t ∧ Holds s a data.length data t := by
  have steps (k : Nat) (small : k ≤ m) : ∃ t, ((upto k).map (· + a / 64)).foldl (fun (acc : State × Bool) b =>
      let (lo, len) := blockPart a data.length b
      let part := (data.drop (lo - a)).take len
      let (s, ok) := acc.1.blockWrite b lo part (x lo part)
      (s, acc.2 && ok)) (s, true) = (t, true) ∧ Written (Within a (64 * k)) s t ∧ Holds s a (64 * k) data t := by
    induction k with
    | zero =>
      refine ⟨s, rfl, .refl _ s, fun y => (if_neg ?_).symm⟩
      omega
    | succ k ih =>
      obtain ⟨u, before, written, holds⟩ := ih (Nat.le_of_succ_le small)
      obtain ⟨t, next, step, all⟩ := blockWrite_next (b := k + a / 64) (x := x (a + 64 * k) ((data.drop (64 * k)).take 64)) holds
        (written.repairs.trans calm) (by omega)
      refine ⟨t, ?_, (written.mono ?_).trans (step.mono ?_), all⟩
      · have drop : a + 64 * k - a = 64 * k := Nat.add_sub_cancel_left a _
        have more : upto (k + 1) = upto k ++ [k] := List.range_succ
        rw [more, List.map_append, List.foldl_append, before]
        simp only [List.map_cons, List.map_nil, List.foldl_cons, List.foldl_nil, blockPart_whole aligned size (Nat.lt_of_succ_le small), drop, next,
          Bool.and_self]
      · exact fun y inn => ⟨inn.1, by have := inn.2; omega⟩
      · exact fun y inn => ⟨by have := inn.1; omega, by have := inn.2; omega⟩
  obtain ⟨t, eq, written, holds⟩ := steps m (Nat.le_refl m)
  rw [← size] at written holds
  refine ⟨t, ?_, written, holds⟩
  unfold State.partsWrite
  rw [blocksOf_whole aligned size some_]
  exact eq

/-! ## The transfer of a write -/

section Write

variable {s : State} {slot : Nat} {p : Packet} (plain : p.sbCopy = false)
  (may : s.peerMay p.job p.addr (max p.payload.length 1) = true) (home : s.touchesLost p.addr p.payload.length = false)

include plain in
/-- A write outside the job's regions is answered with code 2. -/
theorem jobWrite_of_outside (outside : s.peerMay p.job p.addr (max p.payload.length 1) = false) : s.jobWrite slot p = s.refuseIn p 2 := by
  unfold State.jobWrite
  simp only [plain, outside, Bool.false_and, Bool.not_false, Bool.and_self, if_true]

include plain may home

/-- A write with a TOTAL of 0, or another than the transfer's, or beyond it, is answered with code 4. -/
theorem jobWrite_of_wrongTotal (wrong : p.total = 0 ∨ ∃ x, s.fab.inXfers.find? (fun x => x.src == p.src && x.xfer == p.xfer) = some x ∧
    (x.total ≠ p.total ∨ x.total ≤ x.count)) : s.jobWrite slot p = s.refuseIn p 4 := by
  have refused : (p.total == 0 || ((s.fab.inXfers.find? (fun x => x.src == p.src && x.xfer == p.xfer)).map
      (fun x => x.total != p.total || decide (x.total ≤ x.count + s.parked p))).getD false) = true := by
    rcases wrong with none | ⟨x, known, other | full⟩
    · rw [none]; rfl
    · rw [known, Option.map_some, Option.getD_some, bne_iff_ne.mpr other, Bool.true_or, Bool.or_true]
    · rw [known, Option.map_some, Option.getD_some, decide_eq_true (by omega), Bool.or_true, Bool.or_true]
  unfold State.jobWrite
  simp only [plain, may, home, refused, Bool.false_and, Bool.not_false, Bool.not_true, Bool.and_false, Bool.false_eq_true, if_false, if_true]

/-- A write that its transfer takes is tracked and stored. -/
theorem jobWrite_of_taken (some_ : 1 ≤ p.total) (calm : s.mem.repairs = [])
    (taken : (s.fab.inXfers.find? (fun x => x.src == p.src && x.xfer == p.xfer) = none ∧ s.fab.inXfers.length < 65536) ∨
      ∃ x, s.fab.inXfers.find? (fun x => x.src == p.src && x.xfer == p.xfer) = some x ∧ x.total = p.total ∧ x.count < x.total) :
    s.jobWrite slot p = (s.trackIn p).writePayload p := by
  have none : s.parked p = 0 := by
    unfold State.parked State.waitingPackets
    rw [calm]
    rfl
  have total : (p.total == 0) = false := beq_eq_false_iff_ne.mpr (by omega)
  unfold State.jobWrite
  rcases taken with ⟨known, room⟩ | ⟨x, known, same, more⟩
  · have fits : decide (65536 ≤ s.fab.inXfers.length) = false := decide_eq_false (by omega)
    simp only [plain, may, home, known, total, fits, Bool.false_and, Bool.not_false, Bool.not_true, Bool.and_false, Bool.false_eq_true,
      if_false, if_true, Option.map_none, Option.getD_none, Bool.or_self]
  · have fits : decide (x.total ≤ x.count + s.parked p) = false := decide_eq_false (by omega)
    have agrees : (x.total != p.total) = false := by rw [same]; exact bne_self_eq_false _
    simp only [plain, may, home, known, total, fits, agrees, Bool.false_and, Bool.not_false, Bool.not_true, Bool.and_false, Bool.false_eq_true,
      if_false, if_true, Option.map_some, Option.getD_some, Option.isNone_some, Bool.or_self]

end Write

/-- A payload of whole blocks, with no repair in progress, is stored and counted. -/
theorem writePayload_whole {u : State} {p : Packet} (calm : u.mem.repairs = []) (fresh : p.gen = none) (aligned : p.addr % 64 = 0)
    (whole : p.payload.length % 64 = 0) (some_ : 0 < p.payload.length) :
    ∃ t, u.writePayload p = t.countIn p ∧ Written (Within p.addr p.payload.length) u t ∧ Holds u p.addr p.payload.length p.payload t := by
  obtain ⟨t, eq, written, holds⟩ := partsWrite_whole (s := u) (BlockAccess.peer p) calm aligned
    (m := p.payload.length / 64) (data := p.payload) (by omega) (by omega)
  have idle : t.partWaits p = false := by
    unfold State.partWaits
    rw [written.repairs, calm]
    rfl
  have noCopy : t.noteCopy p = t := by
    unfold State.noteCopy
    rw [fresh]
  refine ⟨t, ?_, written, holds⟩
  unfold State.writePayload
  simp only [eq, Bool.not_true, Bool.false_eq_true, if_false, idle, noCopy]

/-- What is stored of a write that its transfer takes. -/
theorem jobWrite_stores {s : State} {slot : Nat} {p : Packet} (takes : s.jobWrite slot p = (s.trackIn p).writePayload p)
    (calm : s.mem.repairs = []) (fresh : p.gen = none) (aligned : p.addr % 64 = 0) (whole : p.payload.length % 64 = 0)
    (some_ : 0 < p.payload.length) :
    let t := s.jobWrite slot p
    ((∀ x, t.byteAt x = if h : p.addr ≤ x ∧ x < p.addr + p.payload.length then p.payload[x - p.addr]'(by omega) else s.byteAt x) ∧
      t.chan = s.chan ∧ t.dict = s.dict ∧ t.out = s.out) ∧
    t.fab.inXfers = (s.trackIn p).fab.inXfers.map (fun x => if x.src == p.src && x.xfer == p.xfer then { x with count := x.count + 1 } else x) := by
  have tracked : ∃ l, s.trackIn p = { s with fab := { s.fab with inXfers := l } } := by
    unfold State.trackIn
    split
    · exact ⟨s.fab.inXfers, rfl⟩
    · exact ⟨_, rfl⟩
  obtain ⟨l, eq⟩ := tracked
  have calm' : (s.trackIn p).mem.repairs = [] := by rw [eq]; exact calm
  obtain ⟨u, payload, written, holds⟩ := writePayload_whole calm' fresh aligned whole some_
  intro t
  have done : t = u.countIn p := takes.trans payload
  rw [done]
  refine ⟨⟨fun x => ?_, ?_, ?_, ?_⟩, ?_⟩
  · change u.byteAt x = _
    rw [holds x]
    split
    · exact (List.getElem_eq_getD _).symm
    · rw [eq]; rfl
  · exact written.chan.trans (by rw [eq])
  · exact written.dict.trans (by rw [eq])
  · exact written.out.trans (by rw [eq])
  · exact congrArg (fun f : FabSt => f.inXfers.map (fun x => if x.src == p.src && x.xfer == p.xfer then { x with count := x.count + 1 } else x))
      written.fab

/-- The transfer of a first packet counts it, and the others stay. -/
theorem counted_first {s : State} {p : Packet} (known : s.fab.inXfers.find? (fun x => x.src == p.src && x.xfer == p.xfer) = none) :
    (s.trackIn p).fab.inXfers.map (fun x => if x.src == p.src && x.xfer == p.xfer then { x with count := x.count + 1 } else x) =
      s.fab.inXfers ++ [{ src := p.src, xfer := p.xfer, job := p.job, total := p.total, count := 1, arrival := p.arrival, epoch := p.epoch,
                          base := p.addr - 4096 * p.offset }] := by
  have others := List.find?_eq_none.mp known
  have miss : s.fab.inXfers.any (fun x => x.src == p.src && x.xfer == p.xfer) = false := List.any_eq_false.mpr others
  have kept : s.fab.inXfers.map (fun x => if x.src == p.src && x.xfer == p.xfer then { x with count := x.count + 1 } else x) = s.fab.inXfers :=
    (List.map_congr_left fun x mem => if_neg (others x mem)).trans (List.map_id _)
  unfold State.trackIn
  rw [miss, if_neg (by decide)]
  dsimp only
  rw [List.map_append, kept, List.map_cons, List.map_nil, if_pos (by rw [beq_self_eq_true, beq_self_eq_true]; rfl)]

theorem State.trackIn_known {s : State} {p : Packet} {x : InXfer} (known : s.fab.inXfers.find? (fun x => x.src == p.src && x.xfer == p.xfer) = some x) :
    s.trackIn p = s :=
  if_pos (List.any_eq_true.mpr ⟨x, List.mem_of_find?_eq_some known, List.find?_some known⟩)

/-- Settles O29: the four answers to a write, and for the write that is taken its payload in memory and its count. -/
theorem peerWritesStoreTheirPayload : Obligations.PeerWritesStoreTheirPayload := by
  unfold Obligations.PeerWritesStoreTheirPayload
  intro s slot p plain fresh known may
  refine ⟨fun ⟨allowed, home⟩ some_ calm aligned whole full => ?taken, fun ⟨allowed, home⟩ wrong => ?wrong, fun none => ?none, fun outside => ?outside⟩
  case wrong =>
    rw [jobWrite_of_wrongTotal plain allowed home wrong]
    exact ⟨rfl, rfl, rfl⟩
  case none =>
    rw [State.writeArrives_of_none none]
    exact ⟨rfl, rfl, rfl⟩
  case outside =>
    rw [jobWrite_of_outside plain outside]
    exact ⟨rfl, rfl, rfl⟩
  case taken =>
    intro t stored
    have stores := fun takes => jobWrite_stores (slot := slot) takes calm fresh aligned whole full
    refine ⟨fun first room => ?_, fun x there same more => ?_⟩
    · obtain ⟨kept, counts⟩ := stores (jobWrite_of_taken plain allowed home some_ calm (.inl ⟨first, room⟩))
      exact ⟨kept, counts.trans (counted_first first)⟩
    · obtain ⟨kept, counts⟩ := stores (jobWrite_of_taken plain allowed home some_ calm (.inr ⟨x, there, same, more⟩))
      rw [State.trackIn_known there] at counts
      exact ⟨kept, counts⟩

end Sys2Proof.Machine
end

section
/-! PROOFS. A lost peer whose transfer a task waited for (R174, R238): the aborted task's finished units spoil what they have written; with
it the refutation of O30. -/

namespace Sys2Proof.Machine

/-! ## What has no work after a loss -/

theorem State.pumpRestore_of_none {s : State} {slot : Nat} (none : (s.job slot).restore = none) (n : Nat) : s.pumpRestore slot n = s := by
  cases n with
  | zero => rfl
  | succ n =>
    unfold State.pumpRestore
    simp only [none]

/-- Without a restore nothing goes on. -/
theorem State.runRestores_of_none {s : State} (none : ∀ slot, (s.job slot).restore = none) : s.runRestores = s := by
  have still (slot : Nat) : s.runRestore slot = s := by
    unfold State.runRestore State.runStages
    simp only [State.pumpRestore_of_none (none slot), none slot]
  unfold State.runRestores
  generalize upto 16 = l
  induction l with
  | nil => rfl
  | cons x xs ih => rw [List.foldl_cons, still x, ih]

/-- Without a generation none is abandoned. -/
theorem State.abandonFor_of_none {s : State} (none : ∀ slot, (s.job slot).gen = none) (peer : Nat) : s.abandonFor peer = s := by
  unfold State.abandonFor
  generalize upto 16 = l
  induction l with
  | nil => rfl
  | cons x xs ih =>
    rw [List.foldl_cons]
    simp only [none x]
    exact ih

theorem State.queriesAnswered_of_calm {s : State} (calm : s.ob Obj.drainState ≠ 1) : s.queriesAnswered = s := by
  unfold State.queriesAnswered
  simp only [bne_iff_ne.mpr calm, Bool.or_true, if_true]

theorem State.loseLaunches_of_none {s : State} (none : s.fab.launches = []) (peer : Nat) : (s.loseLaunches peer).mem = s.mem ∧
    (s.loseLaunches peer).jobs = s.jobs ∧ (s.loseLaunches peer).power = s.power ∧ (s.loseLaunches peer).dict = s.dict := by
  unfold State.loseLaunches
  rw [none]
  exact ⟨rfl, rfl, rfl, rfl⟩

/-! ## The task whose transfer has failed -/

/-- A peer found silent: marked as lost, logged and alerted. -/
def State.silenced (s : State) (peer : Nat) (p : Peer) : State :=
  ({ s with fab := { s.fab with
    peers := kset s.fab.peers peer { p with lost := true }
    inXfers := s.fab.inXfers.filter (fun x => x.src != peer)
    switch := { s.fab.switch with
      notReady := s.fab.switch.notReady || s.fab.switch.queries.contains peer
      queries := s.fab.switch.queries.filter (· != peer), flips := s.fab.switch.flips.filter (fun x => x.1 != peer) } } }.log
        { errRec 0x0303 with detail0 := peer }).raise (.peerLost peer)

theorem State.losePeer_eq (s : State) (peer : Nat) (p : Peer) : s.losePeer peer p =
    ((((s.silenced peer p).fab.outXfers.filter (fun o => o.awaiting.contains peer)).map (·.xfer)).foldl
      (fun s x => s.xferAnswer peer x false) (s.silenced peer p)).loseLaunches peer := by
  unfold State.losePeer State.silenced
  rfl

theorem State.losePeer_of_one {s : State} {peer : Nat} {p : Peer} {o : OutXfer} (only : (s.silenced peer p).fab.outXfers = [o])
    (awaits : o.awaiting = [peer]) : s.losePeer peer p = ((s.silenced peer p).xferAnswer peer o.xfer false).loseLaunches peer := by
  have here : o.awaiting.contains peer = true := by rw [awaits, List.contains_iff_mem]; exact List.mem_cons_self
  rw [State.losePeer_eq, only]
  simp only [List.filter_cons, List.filter_nil, here, if_true, List.map_cons, List.map_nil, List.foldl_cons, List.foldl_nil]

theorem State.pumpLaunches_of_none {s : State} (n : Nat) (none : s.fab.launches = []) : State.pumpLaunches n s = s := by
  cases n with
  | zero => rfl
  | succ n =>
    unfold State.pumpLaunches
    rw [none]

/-- A transfer is over: nothing of it is tracked, waits to be sent or is to be sent again (R242). -/
def State.closeXfer (s : State) (xfer : Nat) : State :=
  { s with fab := { s.fab with
    outXfers := s.fab.outXfers.filter (fun x => x.xfer != xfer)
    sendQ := s.fab.sendQ.filter (fun p => !(p.src == s.me && p.xfer == xfer && (p.kind == 1 || p.kind == 2 || p.kind == 7)))
    resends := s.fab.resends.filter (fun r => r.packet.xfer != xfer) } }

/-- A transfer that fails by its last answer aborts the task that waits for it. -/
theorem State.settleXfer_task {s : State} {peer : Nat} {o : OutXfer} {t : Task} (only : s.fab.outXfers = [o]) (awaits : o.awaiting = [peer])
    (use : o.use = .task t.uid t.id) (idle : s.fab.launches = []) (there : s.taskBy t.uid t.id = some t) (runs : t.phase = .running) :
    s.settleXfer peer o.xfer false = (s.closeXfer o.xfer).abort t Status.fabricError := by
  have found : s.fab.outXfers.find? (fun x => x.xfer == o.xfer && x.awaiting.contains peer) = some o := by
    rw [only, List.find?_cons_of_pos (by rw [awaits, beq_self_eq_true, List.contains_iff_mem.mpr List.mem_cons_self]; rfl)]
  have last : (o.awaiting.filter (· != peer)).isEmpty = true := by
    rw [awaits, List.filter_cons_of_neg (by rw [bne_self_eq_false]; decide)]
    rfl
  have active : (t.phase != .running) = false := by rw [runs]; rfl
  have pumped : State.pumpLaunches s.fab.launches.length (s.closeXfer o.xfer) = s.closeXfer o.xfer := State.pumpLaunches_of_none _ idle
  have there : (s.closeXfer o.xfer).taskBy t.uid t.id = some t := there
  unfold State.closeXfer at pumped there
  unfold State.settleXfer
  simp only [found, last, Bool.not_true, Bool.false_eq_true, if_false, use, pumped, there, active, Bool.not_false, Bool.or_true, if_true]
  rfl

/-! ## What the abort of a unit leaves in memory -/

theorem State.stop_byteAt (s : State) (t : Task) (status : BitVec 8) (x : Nat) : (s.stop t status).byteAt x = s.byteAt x := by
  unfold State.stop State.leaveGroup
  cases t.group <;> rfl

theorem State.stop_rest (s : State) (t : Task) (status : BitVec 8) : (s.stop t status).jobs = s.jobs ∧
    (s.stop t status).dict = s.dict ∧ (s.stop t status).fab = s.fab ∧ (s.stop t status).power = s.power := by
  unfold State.stop State.leaveGroup
  cases t.group <;> exact ⟨rfl, rfl, rfl, rfl⟩

/-- A byte that an aborted task has written reads as the next free value. -/
theorem State.abort_byteAt {s : State} {t : Task} {a : Nat} (written : writtenRanges t = [(a, 1)]) (status : BitVec 8) :
    (s.abort t status).byteAt a = Config.freeByte s.free := by
  have length : (s.freeBytes 1).length = 1 := rfl
  unfold State.abort
  rw [State.stop_byteAt, written]
  change (s.poke a (s.freeBytes 1)).byteAt a = _
  rw [State.poke_byteAt, dif_pos ⟨Nat.le_refl a, by omega⟩]
  simp only [Nat.sub_self]
  rfl

theorem State.abort_rest {s : State} {t : Task} {a : Nat} (written : writtenRanges t = [(a, 1)]) (status : BitVec 8) :
    (s.abort t status).jobs = s.jobs ∧ (s.abort t status).dict = s.dict ∧ (s.abort t status).fab = s.fab ∧
    (s.abort t status).power = s.power := by
  unfold State.abort
  rw [written]
  exact State.stop_rest _ t status

namespace TornTask

/-- A FABRIC task that holds a unit whose byte at address 0 is written. -/
def sender : Task :=
  { uid := 1, handle := 1, id := 0, job := 0, desc := 4 <<< 1020, phase := .running
    units := [{ index := 0, writes := [⟨0, [0]⟩], digests := ⟨0, 0⟩, done := true }] }

/-- Its transfer, which awaits peer 5. -/
def open_ : OutXfer := { xfer := 0, dest := 5, job := 0, use := .task 1 0, awaiting := [5] }

/-- Peer 5 of the grove has been silent for a second; the byte at address 0 is not the free value that comes next. -/
def torn : State where
  now := 1000000000
  mem := { cells := [(0, Config.freeByte 0 + 1)] }
  chan := { tasks := [sender] }
  fab := { peers := [(5, {})], ept0 := [(5, 2 <<< 126)], outXfers := [open_] }

/-- The hypotheses of the statement on `torn`. -/
theorem torn_loses : (5 : Nat) ≠ torn.me ∧ torn.inGrove 5 = true ∧ torn.ob Obj.drainState ≠ 1 ∧ torn.taskBy 1 0 = some sender ∧
    D.kind sender.desc = kFabric := by decide +kernel

/-- The loss of peer 5 is logged and alerted; the transfer, the task and its memory are as they were. -/
theorem torn_silenced : (torn.silenced 5 {}).fab.outXfers = [open_] ∧ (torn.silenced 5 {}).fab.launches = [] ∧
    (torn.silenced 5 {}).chan = torn.chan ∧ (torn.silenced 5 {}).jobs = [] ∧ (torn.silenced 5 {}).free = 0 ∧
    (torn.silenced 5 {}).power = {} ∧ (torn.silenced 5 {}).ob Obj.drainState ≠ 1 := by
  have told : Reported [] _ (torn.silenced 5 {}) := (reported_log [] _ _).trans (reported_raise [] _ _)
  have quiet : Quiet Obj.drainState := by unfold Quiet; decide
  refine ⟨by rw [told.fab]; rfl, by rw [told.fab]; rfl, told.chan, told.jobs, by rw [told.rest]; rfl, told.power, ?_⟩
  rw [told.ob Obj.drainState quiet List.not_mem_nil]
  exact torn_loses.2.2.1

/-- The state once the task is aborted. -/
def failed : State := ((torn.silenced 5 {}).closeXfer 0).abort sender Status.fabricError

/-- The byte that the task has written is a free value; no job, loan, transfer or switch has work from the loss. -/
theorem failed_leaves : failed.byteAt 0 = Config.freeByte 0 ∧ failed.jobs = [] ∧ failed.fab.launches = [] ∧ failed.power = {} ∧
    failed.ob Obj.drainState ≠ 1 := by
  obtain ⟨_, idle, _, jobs, free, power, calm⟩ := torn_silenced
  obtain ⟨sameJobs, sameDict, sameFab, samePower⟩ :=
    State.abort_rest (s := (torn.silenced 5 {}).closeXfer 0) (t := sender) (a := 0) rfl Status.fabricError
  refine ⟨(State.abort_byteAt rfl _).trans (congrArg Config.freeByte free), sameJobs.trans jobs, (congrArg FabSt.launches sameFab).trans idle,
    samePower.trans power, ?_⟩
  unfold State.ob failed
  rw [sameDict]
  exact calm

/-- What the loss of peer 5 comes to. -/
theorem torn_lost : torn.losePeer 5 {} = failed.loseLaunches 5 := by
  obtain ⟨only, idle, chan, _⟩ := torn_silenced
  have there : (torn.silenced 5 {}).taskBy 1 0 = some sender := by
    unfold State.taskBy
    rw [chan]
    exact torn_loses.2.2.2.1
  have settled : (torn.silenced 5 {}).settleXfer 5 0 false = failed :=
    State.settleXfer_task (o := open_) (t := sender) only rfl rfl idle there rfl
  have quiet (slot : Nat) : (failed.job slot).restore = none := by unfold State.job; rw [failed_leaves.2.1]; rfl
  rw [State.losePeer_of_one only rfl]
  change (((torn.silenced 5 {}).settleXfer 5 0 false).runRestores).loseLaunches 5 = _
  rw [settled, State.runRestores_of_none quiet]

/-- In the end the byte at address 0 is the free value. -/
theorem torn_ends : ∃ w, exec (.peerLost 5) torn = .next w ∧ w.byteAt 0 = Config.freeByte 0 := by
  obtain ⟨byte, jobs, idle, power, calm⟩ := failed_leaves
  obtain ⟨mem, sameJobs, samePower, sameDict⟩ := State.loseLaunches_of_none idle 5
  have found : kget? torn.fab.peers 5 = some {} := rfl
  have late : decide (torn.now < ({} : Peer).heardAt + 1000000000) = false := rfl
  have first : exec (.peerLost 5) torn =
      .next (((((torn.losePeer 5 {}).settleLoans 5).abandonFor 5).runRestores).queriesAnswered) := by
    change execPeerLost 5 torn = _
    unfold execPeerLost
    simp only [found, late, torn_loses.2.1, beq_eq_false_iff_ne.mpr torn_loses.1, Bool.not_true, Bool.or_false, Bool.false_eq_true, if_false]
  have settled : (failed.loseLaunches 5).settleLoans 5 = failed.loseLaunches 5 := by
    unfold State.settleLoans State.modPower
    rw [samePower, power]
    change ({ failed.loseLaunches 5 with power := {} } : State) = _
    rw [← power, ← samePower]
  have still (slot : Nat) : (failed.loseLaunches 5).job slot = {} := by unfold State.job; rw [sameJobs, jobs]; rfl
  have calm : (failed.loseLaunches 5).ob Obj.drainState ≠ 1 := by unfold State.ob; rw [sameDict]; exact calm
  refine ⟨_, first, ?_⟩
  rw [torn_lost, settled, State.abandonFor_of_none (fun slot => congrArg JobSt.gen (still slot)),
    State.runRestores_of_none (fun slot => congrArg JobSt.restore (still slot)), State.queriesAnswered_of_calm calm]
  unfold State.byteAt
  rw [mem]
  exact byte

end TornTask

/-- Refutes O30: the last clause asks of the FABRIC task nothing but its kind. One that holds a finished unit leaves what that unit has
written unspecified when it is aborted, so that a byte of memory changes. -/
theorem not_transferAndPeerEventsComplete : ¬ Obligations.TransferAndPeerEventsComplete := by
  unfold Obligations.TransferAndPeerEventsComplete
  intro h
  obtain ⟨_, _, _, lost⟩ := h TornTask.torn
  obtain ⟨other, grove, calm, there, kind⟩ := TornTask.torn_loses
  obtain ⟨w, ends, _, _, _, _, _, same, _⟩ := (lost 5 {} rfl rfl other grove (Nat.le_refl _)).2 rfl calm (fun _ => ⟨rfl, rfl⟩)
    (.inr ⟨TornTask.open_, TornTask.sender, rfl, rfl, rfl, there, rfl, kind⟩)
  obtain ⟨v, ended, byte⟩ := TornTask.torn_ends
  obtain rfl : w = v := by injection ends.symm.trans ended
  have was : Config.freeByte 0 = Config.freeByte 0 + 1 := byte.symm.trans (same 0)
  generalize Config.freeByte 0 = x at was
  revert x
  decide

end Sys2Proof.Machine
end

section
/-! PROOFS. Flaps of a port (R223 to R225): what a port leaves behind as it leaves UP, and O32. -/

namespace Sys2Proof.Machine

/-! ## Leaving UP -/

/-- A port without the packets, flits and waits of its link. -/
def Port.emptied (p : Port) : Port := { p with
  retry := [], replays := [], sent := [], txNext := 0, txRest := [], owed := [], rxData := [], uncredited := []
  waitAt := List.replicate 6 none }

/-- Every unacknowledged packet of a port can be routed again. -/
def Port.Reroutes (p : Port) : Prop := ∀ x ∈ p.retry, x.2.hop = false ∧ x.2.dest ≠ 0xFFFF

variable {s : State} {n : Nat}

/-- Where each packet can be routed again, a port leaves UP by putting them all in the queue for that. -/
theorem State.leaveUp_of_reroutes (again : (s.port n).Reroutes) : s.leaveUp n =
    { s.modPort n Port.emptied with fab := { (s.modPort n Port.emptied).fab with
      requeue := s.fab.requeue ++ (s.port n).retry.map (·.2) } } := by
  have kept : ∀ p ∈ (s.port n).retry.map (·.2), p.hop = false ∧ p.dest ≠ 0xFFFF := by
    intro p mem
    obtain ⟨x, there, rfl⟩ := List.mem_map.mp mem
    exact again x there
  have all : ((s.port n).retry.map (·.2)).filter (fun p => !p.hop && p.dest != 0xFFFF) = (s.port n).retry.map (·.2) :=
    List.filter_eq_self.mpr fun p mem => by simp [kept p mem]
  have none : ((s.port n).retry.map (·.2)).filter (fun p => p.hop || p.dest == 0xFFFF) = [] :=
    List.filter_eq_nil_iff.mpr fun p mem => by simp [kept p mem]
  unfold State.leaveUp
  simp only [all, none, List.foldl_nil]
  rfl

/-! ## Counting a flap -/

/-- Times of the flaps within the window, with the one at hand. -/
def State.flapsNow (s : State) (n : Nat) : List Nat :=
  (s.port n).flapTimes.filter (fun t => s.now - t < s.ob Obj.flapWindow * 1000000000) ++ [s.now]

/-- The port after a flap. -/
def State.flapped (s : State) (n : Nat) : Port := { (s.port n).emptied with flapTimes := s.flapsNow n }

/-- A flap counted: the port is emptied, its packets wait to be routed again, and of the objects only the count and those of the record
change. -/
structure FlapCounted (s t : State) (n : Nat) : Prop where
  port : t.port n = s.flapped n
  other : ∀ k, k ≠ n → t.port k = s.port k
  requeue : t.fab.requeue = s.fab.requeue ++ (s.port n).retry.map (·.2)
  count : t.ob (Obj.flaps n) = s.ob (Obj.flaps n) + 1
  ob : ∀ k, Quiet k → k ≠ Obj.flaps n → t.ob k = s.ob k
  mem : t.mem = s.mem
  chan : t.chan = s.chan

theorem State.countFlap_counts (again : (s.port n).Reroutes) (small : n < 9) : FlapCounted s (s.countFlap n) n := by
  let u := (s.bump (Obj.flaps n)).modPort n (fun p => { p with flapTimes := s.flapsNow n })
  have port : u.port n = { s.port n with flapTimes := s.flapsNow n } := State.modPort_same _ n _
  have left : u.leaveUp n = _ := State.leaveUp_of_reroutes (by rw [port]; exact again)
  have logged : Reported [] (u.leaveUp n) (s.countFlap n) := reported_log [] _ _
  have quiet : Quiet (Obj.flaps n) := by
    unfold Quiet Obj.flaps
    omega
  rw [left] at logged
  have fab := logged.fab
  have ob (k : Nat) (q : Quiet k) : (s.countFlap n).ob k = (s.bump (Obj.flaps n)).ob k := logged.ob k q List.not_mem_nil
  exact {
    port := by
      rw [State.port_congr fab]
      exact (u.modPort_same n _).trans (by rw [port]; rfl)
    other := fun k apart => by
      rw [State.port_congr fab]
      exact (u.modPort_other _ apart).trans (State.modPort_other _ _ apart)
    requeue := by
      have retry : (u.port n).retry = (s.port n).retry := by rw [port]
      rw [fab, ← retry]
      rfl
    count := (ob _ quiet).trans (s.bump_same _)
    ob := fun k q apart => (ob k q).trans (s.bump_other _ _ apart)
    mem := logged.mem
    chan := logged.chan }

/-! ## The wait after a flap -/

/-- The wait before the next training (R224). -/
def State.nextWait (s : State) (n : Nat) : Nat := min (max (s.port n).backoff (s.ob Obj.backoffMin)) (s.ob Obj.backoffMax)

/-- A port that leaves UP into a state other than UP with a longer backoff. -/
theorem State.lengthen_enterPort (s : State) (n cause : Nat) {st : Nat} (small : n < 9) (off : st ≠ 2) (byte : st < 256) :
    let t := (s.enterPort n st cause).lengthen n
    t.port n = { s.port n with since := s.now, wait := s.nextWait n, backoff := min (2 * s.nextWait n) (s.ob Obj.backoffMax) } ∧
    (∀ k, k ≠ n → t.port k = s.port k) ∧ t.portSt n = st ∧ t.ob (Obj.portState n) = st + 256 * cause ∧ t.ob (Obj.portPeer n) = 0 ∧
    (∀ k, notOfPort n k → t.ob k = s.ob k) ∧ t.fab.requeue = s.fab.requeue ∧ t.mem = s.mem ∧ t.chan = s.chan := by
  have least : (s.enterPort n st cause).ob Obj.backoffMin = s.ob Obj.backoffMin := State.enterPort_ob_other (by
    simp only [notOfPort, Obj.backoffMin, Obj.portState, Obj.portPeer]; omega)
  have most : (s.enterPort n st cause).ob Obj.backoffMax = s.ob Obj.backoffMax := State.enterPort_ob_other (by
    simp only [notOfPort, Obj.backoffMax, Obj.portState, Obj.portPeer]; omega)
  have peer : (s.enterPort n st cause).ob (Obj.portPeer n) = 0 := by
    unfold State.enterPort
    simp only [beq_eq_false_iff_ne.mpr off, Bool.false_eq_true, if_false]
    exact State.setOb_same _ _ _
  have wait : min (max ((s.enterPort n st cause).port n).backoff (s.ob Obj.backoffMin)) (s.ob Obj.backoffMax) = s.nextWait n := by
    rw [s.enterPort_port]
    rfl
  unfold State.lengthen
  simp only [least, most, wait]
  refine ⟨(State.modPort_same _ n _).trans (by rw [s.enterPort_port]), fun k apart => ?_, s.enterPort_portSt n cause byte,
    s.enterPort_state n st cause, peer, fun k other => State.enterPort_ob_other other, ?_, (s.enterPort_frame n st cause).1,
    (s.enterPort_frame n st cause).2.1⟩
  · exact (State.modPort_other _ _ apart).trans (s.enterPort_port_other _ _ apart)
  · change (s.enterPort n st cause).fab.requeue = _
    rw [s.enterPort_fab]
    rfl

theorem State.flap_eq (s : State) (n : Nat) : s.flap n = if (s.countFlap n).flapsOut n then ((s.countFlap n).enterPort n 4 1).lengthen n
    else ((s.countFlap n).enterPort n 3 0).lengthen n := rfl

/-- An object that a flap reads and a port's state does not hold is as before. -/
theorem FlapCounted.limit {t : State} (counted : FlapCounted s t n) {k : Nat} (low : k < 0x500505) : t.ob k = s.ob k :=
  counted.ob k (by unfold Quiet; omega) (by unfold Obj.flaps; omega)

/-- What a flap leaves when the port then enters a state with a cause. -/
structure FlapLeaves (s t : State) (n st cause : Nat) : Prop where
  wait : (t.port n).wait = s.nextWait n
  backoff : (t.port n).backoff = min (2 * s.nextWait n) (s.ob Obj.backoffMax)
  retry : (t.port n).retry = []
  other : ∀ k, k < 9 → k ≠ n → t.port k = s.port k ∧ t.ob (Obj.portState k) = s.ob (Obj.portState k)
  state : t.portSt n = st ∧ t.ob (Obj.portState n) = st + 256 * cause
  peer : t.ob (Obj.portPeer n) = 0
  count : t.ob (Obj.flaps n) = s.ob (Obj.flaps n) + 1
  requeue : t.fab.requeue = s.fab.requeue ++ (s.port n).retry.map (·.2)
  mem : t.mem = s.mem
  chan : t.chan = s.chan

theorem State.flapLeaves (again : (s.port n).Reroutes) (small : n < 9) (cause : Nat) {st : Nat} (off : st ≠ 2) (byte : st < 256) :
    FlapLeaves s (((s.countFlap n).enterPort n st cause).lengthen n) n st cause := by
  have counted := State.countFlap_counts again small
  obtain ⟨port, other, now, state, peer, ob, requeue, mem, chan⟩ := (s.countFlap n).lengthen_enterPort n cause small off byte
  have wait : (s.countFlap n).nextWait n = s.nextWait n := by
    unfold State.nextWait
    rw [counted.port, counted.limit (k := Obj.backoffMin) (by decide), counted.limit (k := Obj.backoffMax) (by decide)]
    rfl
  have apart : notOfPort n (Obj.flaps n) := by
    simp only [notOfPort, Obj.flaps, Obj.portState, Obj.portPeer]
    omega
  have elsewhere (k : Nat) (low : k < 9) : Obj.portState k < 0x500505 := by unfold Obj.portState; omega
  exact {
    wait := by rw [port, ← wait]
    backoff := by rw [port, ← wait, ← counted.limit (k := Obj.backoffMax) (by decide)]
    retry := by rw [port, counted.port]; rfl
    other := fun k low apart => ⟨(other k apart).trans (counted.other k apart),
      (ob _ (portState_notOfPort apart small low)).trans (counted.limit (elsewhere k low))⟩
    state := ⟨now, state⟩
    peer := peer
    count := (ob _ apart).trans counted.count
    requeue := requeue.trans counted.requeue
    mem := mem.trans counted.mem
    chan := chan.trans counted.chan }

/-- Settles O32: a flap is counted, and what it leaves in the port follows from the state and the cause it enters with. -/
theorem aFlapBacksOffOrHoldsDown : Obligations.AFlapBacksOffOrHoldsDown := by
  unfold Obligations.AFlapBacksOffOrHoldsDown
  intro s port small up again
  have counted := State.countFlap_counts again small
  have first : exec (.linkLoss port) s = .next (s.flap port) := by
    change execLinkLoss port s = _
    unfold execLinkLoss
    rw [if_pos up]
  have length : (s.flapsNow port).length =
      ((s.port port).flapTimes.filter (fun t => s.now - t < s.ob Obj.flapWindow * 1000000000)).length + 1 := List.length_append
  have out : (s.countFlap port).flapsOut port = decide (s.ob Obj.flapLimit ≤ (s.flapsNow port).length) := by
    unfold State.flapsOut
    rw [counted.port, counted.limit (k := Obj.flapLimit) (by decide)]
    rfl
  rw [s.flap_eq, out, length] at first
  refine ⟨_, first, ?_⟩
  split
  case isTrue limit =>
    have limit := of_decide_eq_true limit
    have left := State.flapLeaves again small 1 (st := 4) (by decide) (by decide)
    exact ⟨left.count, left.peer, ⟨left.wait, left.backoff, fun below => absurd limit (Nat.not_le.mpr below),
      fun _ => ⟨left.state.1, by rw [left.state.2]⟩⟩, left.retry, left.requeue, left.other, left.mem, left.chan⟩
  case isFalse below =>
    have below : ¬ _ := fun limit => below (decide_eq_true limit)
    have left := State.flapLeaves again small 0 (st := 3) (by decide) (by decide)
    exact ⟨left.count, left.peer, ⟨left.wait, left.backoff, fun _ => left.state.1, fun limit => absurd limit below⟩, left.retry,
      left.requeue, left.other, left.mem, left.chan⟩

end Sys2Proof.Machine
end

section
/-! PROOFS. Flits, credits and their audit on a grove port (R219, R220, R231 to R234). -/

namespace Sys2Proof.Machine

/-! ## Flits that leave -/

/-- `t` is `s` after flits and credits of port `n`: of the port, what it has received and not had accepted stays; the rest of the
module stays. -/
structure LinkOnly (n : Nat) (s t : State) : Prop where
  retry : (t.port n).retry = (s.port n).retry
  rxData : (t.port n).rxData = (s.port n).rxData
  rxNext : (t.port n).rxNext = (s.port n).rxNext
  other : ∀ k, k ≠ n → t.port k = s.port k
  rx : t.fab.rx = s.fab.rx
  mem : t.mem = s.mem
  chan : t.chan = s.chan

namespace LinkOnly

variable {n : Nat} {s t u : State}

theorem refl (n : Nat) (s : State) : LinkOnly n s s := ⟨rfl, rfl, rfl, fun _ _ => rfl, rfl, rfl, rfl⟩

theorem trans (a : LinkOnly n s t) (b : LinkOnly n t u) : LinkOnly n s u where
  retry := b.retry.trans a.retry
  rxData := b.rxData.trans a.rxData
  rxNext := b.rxNext.trans a.rxNext
  other k apart := (b.other k apart).trans (a.other k apart)
  rx := b.rx.trans a.rx
  mem := b.mem.trans a.mem
  chan := b.chan.trans a.chan

end LinkOnly

/-- A change of a port that leaves what it has received and not had accepted. -/
theorem linkOnly_setPort (s : State) (n : Nat) {p : Port} (retry : p.retry = (s.port n).retry) (rxData : p.rxData = (s.port n).rxData)
    (rxNext : p.rxNext = (s.port n).rxNext) : LinkOnly n s (s.setPort n p) where
  retry := by rw [s.setPort_same, retry]
  rxData := by rw [s.setPort_same, rxData]
  rxNext := by rw [s.setPort_same, rxNext]
  other k apart := s.setPort_other n k p apart
  rx := rfl
  mem := rfl
  chan := rfl

theorem linkOnly_emit {s t : State} {n : Nat} (frame : LinkOnly n s t) (o : Out) : LinkOnly n s (t.emit o) :=
  frame.trans ⟨rfl, rfl, rfl, fun _ _ => rfl, rfl, rfl, rfl⟩

theorem linkOnly_sendFlit (s : State) (n : Nat) : LinkOnly n s (s.sendFlit n) := by
  unfold State.sendFlit
  dsimp only
  refine linkOnly_emit (linkOnly_setPort s n ?_ ?_ ?_) _ <;> rfl

theorem linkOnly_pumpFlits (n : Nat) (flush : Bool) (k : Nat) (s : State) : LinkOnly n s (s.pumpFlits n flush k) := by
  induction k generalizing s with
  | zero => exact .refl n s
  | succ k ih =>
    unfold State.pumpFlits
    dsimp only
    split
    · exact (linkOnly_sendFlit s n).trans (ih _)
    · exact .refl n s

theorem linkOnly_returnCredits (s : State) (n vc k : Nat) : LinkOnly n s (s.returnCredits n vc k) := by
  unfold State.returnCredits
  split
  · exact .refl n s
  · exact (linkOnly_setPort s n (p := { s.port n with owed := (s.port n).owed ++ [(vc, k)] }) rfl rfl rfl).trans
      (linkOnly_pumpFlits n false _ _)

theorem linkOnly_heard (s : State) (n ep : Nat) : LinkOnly n s (s.heard ep) := by
  unfold State.heard
  split
  · exact .refl n s
  · dsimp only
    split
    · exact ⟨rfl, rfl, rfl, fun _ _ => rfl, rfl, rfl, rfl⟩
    · exact ⟨rfl, rfl, rfl, fun _ _ => rfl, rfl, rfl, rfl⟩

/-! ## Packets that a flit ends -/

/-- Is a packet's kind reserved (Table 7-6)? -/
def isReserved (p : Packet) : Bool := p.kind == 0 || decide (0xD ≤ p.kind)

/-- An unpacked packet is in the receive buffer, unless its kind is reserved. -/
theorem State.unpack_leaves (s : State) (n : Nat) (p : Packet) :
    LinkOnly n { s with fab := { s.fab with rx := s.fab.rx ++ if isReserved p then [] else [(n, p)] } } (s.unpack n p) := by
  unfold State.unpack isReserved
  split
  · rw [List.append_nil]
    let u : State := { s with fab := { s.fab with reservedKinds := s.fab.reservedKinds + 1 } }
    have counted : LinkOnly n s u := ⟨rfl, rfl, rfl, fun _ _ => rfl, rfl, rfl, rfl⟩
    exact counted.trans (linkOnly_returnCredits u n p.vc p.credits)
  · refine linkOnly_setPort _ n ?_ ?_ ?_ <;> rfl

/-- Packets unpacked one after another. -/
theorem State.unpacks_leave (n : Nat) (l : List Packet) (s : State) :
    LinkOnly n { s with fab := { s.fab with rx := s.fab.rx ++ (l.filter (fun p => !isReserved p)).map (fun p => (n, p)) } }
      (l.foldl (fun s p => s.unpack n p) s) := by
  induction l generalizing s with
  | nil => simpa using LinkOnly.refl n s
  | cons p l ih =>
    rw [List.foldl_cons]
    have one := s.unpack_leaves n p
    have rest := ih (s.unpack n p)
    have rx : (s.unpack n p).fab.rx ++ (l.filter (fun p => !isReserved p)).map (fun p => (n, p)) =
        s.fab.rx ++ ((p :: l).filter (fun p => !isReserved p)).map (fun p => (n, p)) := by
      rw [one.rx, List.filter_cons]
      cases isReserved p <;> simp
    exact ⟨rest.retry.trans one.retry, rest.rxData.trans one.rxData, rest.rxNext.trans one.rxNext,
      fun k apart => (rest.other k apart).trans (one.other k apart), rest.rx.trans rx, rest.mem.trans one.mem, rest.chan.trans one.chan⟩

/-! ## The flit expected next (R219, R220) -/

/-- The packets a flit ends, and the bytes of the next one. -/
def packetsIn (f : Flit) (rest : List Byte) : List Packet × List Byte := if f.type = 0 then f.unpack rest else ([], rest)

theorem State.takeData_leaves (s : State) (n : Nat) (f : Flit) :
    let t := s.takeData n f
    let (ps, left) := packetsIn f (s.port n).rxData
    t.fab.rx = s.fab.rx ++ (ps.filter (fun p => !isReserved p)).map (fun p => (n, p)) ∧ (t.port n).rxData = left ∧
    (t.port n).rxNext = (s.port n).rxNext ∧ (t.port n).retry = (s.port n).retry ∧ (∀ k, k ≠ n → t.port k = s.port k) ∧
    t.mem = s.mem ∧ t.chan = s.chan := by
  unfold State.takeData packetsIn
  by_cases data : f.type = 0
  · simp only [data, bne_self_eq_false, Bool.false_eq_true, if_false, if_true]
    rcases f.unpack (s.port n).rxData with ⟨ps, left⟩
    have done := State.unpacks_leave n ps (s.modPort n (fun p => { p with rxData := left }))
    have same := s.modPort_same n (fun p => { p with rxData := left })
    have there : ({ s.modPort n (fun p => { p with rxData := left }) with fab := { (s.modPort n (fun p => { p with rxData := left })).fab with
      rx := (s.modPort n (fun p => { p with rxData := left })).fab.rx ++ (ps.filter (fun p => !isReserved p)).map (fun p => (n, p)) } } : State).port n =
        { s.port n with rxData := left } := same
    refine ⟨done.rx, done.rxData.trans ?_, done.rxNext.trans ?_, done.retry.trans ?_, fun k apart => (done.other k apart).trans ?_,
      done.mem, done.chan⟩
    · rw [there]
    · rw [there]
    · rw [there]
    · change (s.modPort n (fun p => { p with rxData := left })).port k = _
      exact s.modPort_other _ apart
  · have idle : (f.type != 0) = true := bne_iff_ne.mpr data
    simp only [idle, data, if_true, if_false, List.filter_nil, List.map_nil, List.append_nil]
    exact ⟨trivial, trivial, trivial, trivial, fun _ _ => trivial, trivial, trivial⟩

/-- Credits that come back leave what a port has received and not had accepted. -/
theorem Port.creditsBack_leave (now : Nat) (l : List (Nat × Nat)) (p : Port) :
    let q := l.foldl (fun p (x : Nat × Nat) => p.creditBack now x.1 x.2) p
    q.retry = p.retry ∧ q.rxData = p.rxData ∧ q.rxNext = p.rxNext := by
  induction l generalizing p with
  | nil => exact ⟨rfl, rfl, rfl⟩
  | cons x l ih =>
    obtain ⟨retry, rxData, rxNext⟩ := ih (p.creditBack now x.1 x.2)
    exact ⟨retry, rxData, rxNext⟩

/-- What the flit expected next, which is not a NAK, leaves in its port and in the receive buffers. -/
structure FlitTaken (n : Nat) (f : Flit) (s t : State) : Prop where
  rx : t.fab.rx = s.fab.rx ++ ((packetsIn f (s.port n).rxData).1.filter (fun p => !isReserved p)).map (fun p => (n, p))
  rxData : (t.port n).rxData = (packetsIn f (s.port n).rxData).2
  rxNext : (t.port n).rxNext = ((s.port n).rxNext + 1) % 4096
  retry : (t.port n).retry = (s.port n).retry.filter (fun x => !flitLe x.1 f.ackseq)
  other : ∀ k, k ≠ n → t.port k = s.port k
  mem : t.mem = s.mem
  chan : t.chan = s.chan

/-- The port once a flit has brought its credits and acknowledged others. -/
def State.creditedPort (s : State) (n : Nat) (f : Flit) : Port :=
  (f.credits.foldl (fun (p : Port) (x : Nat × Nat) => p.creditBack s.now x.1 x.2) { s.port n with rxNext := ((s.port n).rxNext + 1) % 4096 }).acked
    f.ackseq

variable {s : State} {n : Nat}

theorem exec_flitReceive_next {f : Flit} (up : s.portUp n = true) (good : f.crc = f.check) (next : f.fseq = (s.port n).rxNext)
    (plain : f.nak = false) : exec (.flitReceive n f) s =
      .next ((((s.setPort n (s.creditedPort n f)).heard (s.ob (Obj.portPeer n))).takeData n f).answerFlit n f) := by
  change execFlitReceive n f s = _
  unfold execFlitReceive
  simp only [up, good, next, plain, Bool.not_true, bne_self_eq_false, Bool.false_eq_true, if_false]
  rfl

theorem State.flitTaken {f : Flit} (plain : f.nak = false) :
    FlitTaken n f s ((((s.setPort n (s.creditedPort n f)).heard (s.ob (Obj.portPeer n))).takeData n f).answerFlit n f) := by
  obtain ⟨retry, rxData, rxNext⟩ :=
    Port.creditsBack_leave s.now f.credits { s.port n with rxNext := ((s.port n).rxNext + 1) % 4096 }
  have heard := linkOnly_heard (s.setPort n (s.creditedPort n f)) n (s.ob (Obj.portPeer n))
  have port := s.setPort_same n (s.creditedPort n f)
  generalize (s.setPort n (s.creditedPort n f)).heard (s.ob (Obj.portPeer n)) = u at heard ⊢
  have data : (u.port n).rxData = (s.port n).rxData := (heard.rxData.trans (congrArg Port.rxData port)).trans rxData
  have number : (u.port n).rxNext = ((s.port n).rxNext + 1) % 4096 := (heard.rxNext.trans (congrArg Port.rxNext port)).trans rxNext
  have unaccepted : (u.port n).retry = (s.port n).retry.filter (fun x => !flitLe x.1 f.ackseq) :=
    (heard.retry.trans (congrArg Port.retry port)).trans (congrArg (List.filter fun (x : Nat × Packet) => !flitLe x.1 f.ackseq) retry)
  obtain ⟨tRx, tData, tNext, tRetry, tOther, tMem, tChan⟩ := u.takeData_leaves n f
  rw [data] at tRx tData
  have sent := linkOnly_pumpFlits n false ((u.takeData n f).port n).dueFlits (u.takeData n f)
  unfold State.answerFlit
  simp only [plain, Bool.false_eq_true, if_false]
  exact {
    rx := (sent.rx.trans tRx).trans (by rw [heard.rx]; rfl)
    rxData := sent.rxData.trans tData
    rxNext := (sent.rxNext.trans tNext).trans number
    retry := (sent.retry.trans tRetry).trans unaccepted
    other := fun k apart => ((sent.other k apart).trans (tOther k apart)).trans
      ((heard.other k apart).trans (s.setPort_other n k _ apart))
    mem := (sent.mem.trans tMem).trans heard.mem
    chan := (sent.chan.trans tChan).trans heard.chan }

/-! ## The audit of credits (R234) -/

/-- The audit of one VC: where the counts differ the sender takes over the receiver's. -/
def State.auditVc (s : State) (n : Nat) (free : List Nat) (vc : Nat) : State :=
  if (s.port n).credits.getD vc 0 == free.getD vc 0 then s
  else ((s.modPort n (fun p => { p with credits := p.credits.set vc (free.getD vc 0) })).log
    { errRec 0x0301 with detail0 := (s.port n).credits.getD vc 0, detail1 := free.getD vc 0 }).bump Obj.auditMismatches

/-- `t` is `s` once the VCs of a list are audited: as many mismatches are counted as there are. -/
structure Audited (n : Nat) (free : List Nat) (l : List Nat) (s t : State) : Prop where
  length : (t.port n).credits.length = (s.port n).credits.length
  taken : ∀ vc, vc < (s.port n).credits.length → (t.port n).credits.getD vc 0 =
    if vc ∈ l then free.getD vc 0 else (s.port n).credits.getD vc 0
  count : t.ob Obj.auditMismatches = s.ob Obj.auditMismatches +
    (l.filter (fun vc => (s.port n).credits.getD vc 0 != free.getD vc 0)).length
  other : ∀ k, k ≠ n → t.port k = s.port k
  mem : t.mem = s.mem
  chan : t.chan = s.chan

theorem State.auditVc_audited (s : State) (n : Nat) (free : List Nat) (vc : Nat) : Audited n free [vc] s (s.auditVc n free vc) := by
  unfold State.auditVc
  split
  case isTrue same =>
    have same : (s.port n).credits.getD vc 0 = free.getD vc 0 := by simpa using same
    refine ⟨rfl, fun k _ => ?_, ?_, fun _ _ => rfl, rfl, rfl⟩
    · split
      · rename_i mem
        rw [List.mem_singleton.mp mem, same]
      · rfl
    · rw [List.filter_cons_of_neg (by simpa using same)]
      rfl
  case isFalse differ =>
    have differ : ((s.port n).credits.getD vc 0 != free.getD vc 0) = true := by simpa using differ
    have port := s.modPort_same n (fun p => { p with credits := p.credits.set vc (free.getD vc 0) })
    have logged := reported_log [] (s.modPort n (fun p => { p with credits := p.credits.set vc (free.getD vc 0) }))
      { errRec 0x0301 with detail0 := (s.port n).credits.getD vc 0, detail1 := free.getD vc 0 }
    have same : (((s.modPort n (fun p => { p with credits := p.credits.set vc (free.getD vc 0) })).log
        { errRec 0x0301 with detail0 := (s.port n).credits.getD vc 0, detail1 := free.getD vc 0 }).bump Obj.auditMismatches).fab =
        (s.modPort n (fun p => { p with credits := p.credits.set vc (free.getD vc 0) })).fab := logged.fab
    refine ⟨?_, fun k low => ?_, ?_, fun k apart => ?_, logged.mem, logged.chan⟩
    · rw [State.port_congr same, port, List.length_set]
    · rw [State.port_congr same, port]
      dsimp only
      rw [List.getD_eq_getElem?_getD, List.getElem?_set]
      by_cases here : k = vc
      · subst here
        simp [low]
      · simp [here, Ne.symm here, List.getD_eq_getElem?_getD]
    · rw [State.bump_same, logged.ob _ (by unfold Quiet; decide) List.not_mem_nil]
      simp only [List.filter_cons, differ, if_true, List.filter_nil, List.length_cons, List.length_nil]
      rfl
    · rw [State.port_congr same]
      exact s.modPort_other _ apart

/-- Audits of several VCs, one after another. -/
theorem State.auditVcs_audited (n : Nat) (free : List Nat) (l : List Nat) (s : State) (once : l.Nodup)
    (low : ∀ vc ∈ l, vc < (s.port n).credits.length) : Audited n free l s (l.foldl (fun s vc => s.auditVc n free vc) s) := by
  induction l generalizing s with
  | nil => exact ⟨rfl, fun _ _ => rfl, rfl, fun _ _ => rfl, rfl, rfl⟩
  | cons vc l ih =>
    obtain ⟨fresh, once⟩ := List.nodup_cons.mp once
    have one := s.auditVc_audited n free vc
    have rest := ih (s.auditVc n free vc) once fun k mem => one.length ▸ low k (List.mem_cons_of_mem _ mem)
    have unread (k : Nat) (mem : k ∈ l) : ((s.auditVc n free vc).port n).credits.getD k 0 = (s.port n).credits.getD k 0 := by
      rw [one.taken k (low k (List.mem_cons_of_mem _ mem)), if_neg]
      exact fun same => fresh (List.mem_singleton.mp same ▸ mem)
    have alike : l.filter (fun vc' => ((s.auditVc n free vc).port n).credits.getD vc' 0 != free.getD vc' 0) =
        l.filter (fun vc' => (s.port n).credits.getD vc' 0 != free.getD vc' 0) :=
      List.filter_congr fun k mem => by rw [unread k mem]
    rw [List.foldl_cons]
    refine ⟨rest.length.trans one.length, fun k small => ?_, ?_, fun k apart => (rest.other k apart).trans (one.other k apart),
      rest.mem.trans one.mem, rest.chan.trans one.chan⟩
    · rw [rest.taken k (one.length ▸ small), one.taken k small]
      by_cases inTail : k ∈ l <;> by_cases here : k = vc <;> simp [inTail, here]
    · rw [rest.count, one.count, alike, Nat.add_assoc, ← List.length_append, ← List.filter_append]
      rfl

/-- Settles O33: a flit, a NAK, an overdue credit return and an audit each leave what the rules say. -/
theorem flitsAndCreditsComplete : Obligations.FlitsAndCreditsComplete := by
  unfold Obligations.FlitsAndCreditsComplete
  intro s port _ up
  refine ⟨fun f failed => ?_, fun f good other => ?_, fun f good next => ?_, fun g => ?_, fun vc t _ waits since late => ?_,
    fun quiet due => ?_, fun free six => ?_⟩
  · change execFlitReceive port f s = _
    unfold execFlitReceive
    simp only [up, bne_iff_ne.mpr failed, Bool.not_true, Bool.false_eq_true, if_false, if_true]
  · change execFlitReceive port f s = _
    unfold execFlitReceive
    simp only [up, good, bne_self_eq_false, bne_iff_ne.mpr other, Bool.not_true, Bool.false_eq_true, if_false, if_true]
  · obtain ⟨t, ends⟩ := everyCommandAnswers (.flitReceive port f) s
    refine ⟨t, ends, fun plain => ?_⟩
    obtain rfl : _ = t := by injection (exec_flitReceive_next up good next plain).symm.trans ends
    have taken := State.flitTaken (s := s) (n := port) plain
    exact ⟨taken.rx, taken.rxData, taken.rxNext, taken.retry, taken.other, taken.mem, taken.chan⟩
  · change execNakReceive port g s = _
    unfold execNakReceive
    rw [if_pos up]
  · change execCreditReturnTimeout port vc s = _
    unfold execCreditReturnTimeout
    simp only [up, waits, since, Option.map_some, Option.getD_some, decide_eq_true late, Bool.and_self, if_true]
  · change execCreditAuditIdle port s = _
    unfold execCreditAuditIdle
    have now : (s.pumpFlits port true (s.port port).dueFlits).now = s.now := by
      have sent := trafficOnly_pumpFlits port true (s.port port).dueFlits s
      unfold TrafficOnly at sent
      rw [sent]
    cases last : (s.port port).lastAudit with
    | none => simp only [up, last, now, decide_eq_true quiet, Bool.and_self, if_true]
    | some t => simp only [up, last, now, decide_eq_true quiet, decide_eq_true (due t last), Bool.and_self, if_true]
  · have done := State.auditVcs_audited port free (upto 6) s List.nodup_range fun vc mem => six ▸ List.mem_range.mp mem
    have first : exec (.auditFlitReceive port free) s = .next ((upto 6).foldl (fun s vc => s.auditVc port free vc) s) := by
      change execAuditFlitReceive port free s = _
      unfold execAuditFlitReceive
      simp only [up, Bool.not_true, Bool.false_eq_true, if_false]
      rfl
    refine ⟨_, first, fun vc low => ?_, done.count, done.other, done.mem, done.chan⟩
    rw [done.taken vc (six ▸ low), if_pos (List.mem_range.mpr low)]

end Sys2Proof.Machine
end

section
/-! PROOFS. The messages of an epoch switch (R230, R256 to R258, Table 7-9), with O35. -/

namespace Sys2Proof.Machine

/-! ## Control packets that arrive -/

/-- An arrived control packet leaves the buffers, and its source is alive. -/
theorem arrivalOnly_ctlArrived {s u : State} {src : Nat} {f : Ctl → Bool} (here : s.ctlArrived src f = some u) : ArrivalOnly s u := by
  unfold State.ctlArrived at here
  split at here
  · split at here
    · cases here
      exact (arrivalOnly_unbuffer ..).trans (arrivalOnly_heard ..)
    · cases here
  · cases here
    exact arrivalOnly_heard ..

theorem State.takeCtl_of_arrived {s u : State} {src : Nat} {f : Ctl → Bool} (here : s.ctlArrived src f = some u) (k : State → State) :
    s.takeCtl src f k = k u := by
  unfold State.ctlArrived at here
  unfold State.takeCtl
  generalize s.fab.rx.find? (fun x => x.2.kind == 0xC && x.2.src == src && f x.2.ctl) = found at here ⊢
  rcases found with _ | ⟨port, p⟩
  · cases here
    rfl
  · dsimp only at here ⊢
    split at here
    · next whole =>
      cases here
      rw [if_pos whole]
    · cases here

/-- A control packet that fails its check is discarded and logged (R230). -/
theorem State.takeCtl_of_damaged {s : State} {src port : Nat} {f : Ctl → Bool} {p : Packet}
    (found : s.fab.rx.find? (fun x => x.2.kind == 0xC && x.2.src == src && f x.2.ctl) = some (port, p)) (damaged : p.checkOk = false)
    (k : State → State) : s.takeCtl src f k = (s.unbuffer p).log { errRec 0x0304 with detail0 := 0xC } := by
  have kind : p.kind = 0xC := by
    have passes := List.find?_some found
    simp only [Bool.and_eq_true, beq_iff_eq] at passes
    exact passes.1.1
  unfold State.takeCtl
  simp only [found, damaged, Bool.false_eq_true, if_false, kind]

/-! ## The flip of the injection epoch -/

/-- `t` is `s` but for what is known of peers, the generations of the jobs and the count of those abandoned. -/
structure PeersAndGens (s t : State) : Prop where
  mem : t.mem = s.mem
  chan : t.chan = s.chan
  fab : t.fab = { s.fab with peers := t.fab.peers }
  ob : ∀ k, k ≠ Obj.gensAbandoned → t.ob k = s.ob k

namespace PeersAndGens

variable {s t u : State}

theorem refl (s : State) : PeersAndGens s s := ⟨rfl, rfl, rfl, fun _ _ => rfl⟩

theorem trans (a : PeersAndGens s t) (b : PeersAndGens t u) : PeersAndGens s u where
  mem := b.mem.trans a.mem
  chan := b.chan.trans a.chan
  fab := b.fab.trans (congrArg (fun x : FabSt => { x with peers := u.fab.peers }) a.fab)
  ob k other := (b.ob k other).trans (a.ob k other)

theorem foldl {α : Type} {f : State → α → State} (step : ∀ u x, PeersAndGens u (f u x)) (l : List α) (s : State) :
    PeersAndGens s (l.foldl f s) := by
  induction l generalizing s with
  | nil => exact refl s
  | cons x l ih => exact (step s x).trans (ih _)

end PeersAndGens

theorem State.abandonGen_fab (s : State) (slot : Nat) : (s.abandonGen slot).fab = s.fab := by
  unfold State.abandonGen
  split
  · split <;> rfl
  · rfl

theorem peersAndGens_abandonGen (s : State) (slot : Nat) : PeersAndGens s (s.abandonGen slot) :=
  have ⟨mem, chan, _, ob⟩ := s.abandonGen_rest slot
  ⟨mem, chan, by rw [s.abandonGen_fab], ob⟩

theorem peersAndGens_plotsChanged (s : State) (slot : Nat) (old : List Nat) : PeersAndGens s (s.plotsChanged slot old) := by
  unfold State.plotsChanged
  split
  · exact .refl s
  · dsimp only
    split
    · exact .refl s
    · split
      · exact ⟨rfl, rfl, rfl, fun _ _ => rfl⟩
      · exact peersAndGens_abandonGen s slot

theorem peersAndGens_meetPeers (s : State) : PeersAndGens s s.meetPeers := by
  refine .foldl (fun u e => ?_) _ s
  split
  · exact .refl u
  · exact ⟨rfl, rfl, rfl, fun _ _ => rfl⟩

/-- The state in which the other version is in force and the old one drains, before peers and jobs follow. -/
def State.flipped (s : State) : State :=
  let t := s.setOb Obj.epochActive (1 - s.epoch)
  { t with fab := { t.fab with oldEpoch := some s.epoch, ready := false, polledAt := s.now } }

theorem State.flipEpoch_leaves (s : State) : PeersAndGens s.flipped s.flipEpoch := by
  have passed (l : List (Nat × List Nat)) (u : State) : PeersAndGens u (l.foldl (fun s (x : Nat × List Nat) => s.plotsChanged x.1 x.2) u) :=
    .foldl (fun u x => peersAndGens_plotsChanged u x.1 x.2) l u
  unfold State.flipEpoch
  dsimp only
  generalize (upto 16).zip _ = l
  exact (peersAndGens_meetPeers s.flipped).trans (passed l s.flipped.meetPeers)

/-! ## Packets to many modules -/

/-- Control packets for a list of modules join the queue in its order, and nothing else changes. -/
theorem State.control_each (c : Ctl) (l : List Nat) (s : State) : l.foldl (fun s e => s.control e c) s =
    { s with fab := { s.fab with
      sendQ := s.fab.sendQ ++ l.map (fun e => { dest := e, src := s.me, vc := 0, kind := 0xC, ctl := c }) } } := by
  induction l generalizing s with
  | nil => simp
  | cons e l ih =>
    rw [List.foldl_cons, ih]
    simp only [State.control, State.send, List.append_assoc, List.map_cons, List.singleton_append]
    rfl

/-- What a module's flip leaves before it answers (event 4). -/
theorem State.flipEpoch_frame (s : State) : s.flipEpoch.epoch = 1 - s.epoch ∧ s.flipEpoch.fab.oldEpoch = some s.epoch ∧
    s.flipEpoch.fab.ready = false ∧ s.flipEpoch.fab.ept0 = s.fab.ept0 ∧ s.flipEpoch.fab.ept1 = s.fab.ept1 ∧
    s.flipEpoch.mem = s.mem ∧ s.flipEpoch.chan = s.chan := by
  have left := s.flipEpoch_leaves
  refine ⟨(left.ob _ (by decide)).trans (State.setOb_same _ _ _), ?_, ?_, ?_, ?_, left.mem, left.chan⟩ <;> (rw [left.fab]; rfl)

/-- What the end of a drain leaves (event 6). -/
theorem State.retireOld_frame (s : State) : s.retireOld.fab.oldEpoch = none ∧ s.retireOld.ob Obj.drainState = 0 ∧
    s.retireOld.fab.switch = {} ∧ s.retireOld.epoch = s.epoch ∧ s.retireOld.fab.sendQ = s.fab.sendQ ∧ s.retireOld.mem = s.mem ∧
    s.retireOld.chan = s.chan :=
  ⟨rfl, State.setOb_same _ _ _, rfl, State.setOb_other _ _ _ _ (by decide), rfl, rfl, rfl⟩

/-- A due poll of the module that drains: RETIRE to all, or the next poll. -/
theorem exec_drainPoll_due {s : State} (old : s.fab.oldEpoch.isSome = true) (drains : s.drains = true)
    (late : s.fab.switch.pollAt + 10000 ≤ s.now) : exec .drainPoll s =
      if (s.fab.switch.flips.isEmpty && s.drainGrove.all (fun e => kget? s.fab.switch.counts e == some 0) && s.drainCount == 0) = true then
        .next (s.drainGrove.foldl (fun s e => s.control e .retire) s).retireOld
      else .next ((s.drainGrove.foldl (fun s e => s.control e .drainPoll)
        ({ s with fab := { s.fab with switch := { s.fab.switch with counts := [], pollAt := s.now } } } : State)).setOb Obj.drainState 2) := by
  have draining : s.fab.oldEpoch.isNone = false := by
    rw [← Bool.not_eq_true', Option.not_isNone]
    exact old
  change execDrainPoll s = _
  unfold execDrainPoll
  simp only [draining, drains, Nat.not_lt.mpr late, decide_false, Bool.not_true, Bool.or_self, Bool.false_eq_true, if_false]

/-- Settles O35: each message acts on the state its arrival leaves, and a flip and a drain change the tables' use but no table, no memory
and no channel. -/
theorem epochMessagesComplete : Obligations.EpochMessagesComplete := by
  unfold Obligations.EpochMessagesComplete
  intro s src
  refine ⟨fun u here => ?_, fun ready u here asked => ?_, fun u here => ⟨fun unready => ?_, fun ready => ?_⟩, fun u here => ?_,
    fun t0 found late alive => ?_, fun old drains late => ⟨fun settled => ?_, fun unsettled => ?_⟩, fun u here => ?_, fun c u here => ?_,
    fun u here => ⟨fun waits => ?_, fun done => ?_⟩, fun port p found damaged => ?_⟩
  · exact congrArg Host.Outcome.next (State.takeCtl_of_arrived here _)
  · exact congrArg Host.Outcome.next ((State.takeCtl_of_arrived here _).trans (if_pos asked))
  · refine congrArg Host.Outcome.next ((State.takeCtl_of_arrived here _).trans ?_)
    simp only [unready, Bool.false_eq_true, if_false]
  · have kept := arrivalOnly_ctlArrived here
    obtain ⟨epoch, old, unready, ept0, ept1, mem, chan⟩ := u.flipEpoch_frame
    have ran : exec (.flip src) s = .next (u.flipEpoch.control src .flipAnswer) :=
      congrArg Host.Outcome.next ((State.takeCtl_of_arrived here _).trans (congrArg (fun s : State => s.control src .flipAnswer) (if_pos ready)))
    refine ⟨_, ran, rfl, ?_⟩
    generalize u.flipEpoch = v at epoch old unready ept0 ept1 mem chan
    exact ⟨epoch.trans (by rw [kept.epoch]), old.trans (by rw [kept.epoch]), unready, ept0.trans (by rw [kept.fab]),
      ept1.trans (by rw [kept.fab]), mem.trans kept.mem, chan.trans kept.chan⟩
  · have kept := arrivalOnly_ctlArrived here
    refine ⟨_, congrArg Host.Outcome.next (State.takeCtl_of_arrived here _), fun x mem => ?_, kept.epoch, kept.mem, kept.chan⟩
    exact bne_iff_ne.mp (List.mem_filter.mp mem).2
  · change execFlipRetry src s = _
    unfold execFlipRetry
    simp only [found, Nat.not_lt.mpr late, alive, Bool.false_eq_true, if_false]
  · obtain ⟨flips, counts, none⟩ := settled
    have all : s.drainGrove.all (fun e => kget? s.fab.switch.counts e == some 0) = true :=
      List.all_eq_true.mpr fun e mem => by rw [counts e mem]; rfl
    obtain ⟨ended, drain, _, epoch, sendQ, mem, chan⟩ := (s.drainGrove.foldl (fun s e => s.control e .retire) s).retireOld_frame
    refine ⟨_, (exec_drainPoll_due old drains late).trans (if_pos ?_), rfl, sendQ.trans ?_, ended, drain, epoch.trans ?_, mem.trans ?_,
      chan.trans ?_⟩
    · simp only [flips, all, none, List.isEmpty_nil, beq_self_eq_true, Bool.and_self]
    all_goals rw [State.control_each]
    rfl
  · have open_ : (s.fab.switch.flips.isEmpty && s.drainGrove.all (fun e => kget? s.fab.switch.counts e == some 0) && s.drainCount == 0) =
        false := by
      rw [Bool.eq_false_iff]
      intro all
      simp only [Bool.and_eq_true, List.isEmpty_iff, List.all_eq_true, beq_iff_eq] at all
      exact unsettled ⟨all.1.1, all.1.2, all.2⟩
    refine ⟨_, (exec_drainPoll_due old drains late).trans (if_neg (by rw [open_]; decide)), ?_⟩
    rw [State.control_each]
    exact ⟨rfl, rfl, State.setOb_same _ _ _, rfl, rfl, State.setOb_other _ _ _ _ (by decide), rfl, rfl⟩
  · exact congrArg Host.Outcome.next (State.takeCtl_of_arrived here _)
  · exact congrArg Host.Outcome.next (State.takeCtl_of_arrived here _)
  · refine congrArg Host.Outcome.next ((State.takeCtl_of_arrived here _).trans (if_neg ?_))
    simpa using waits
  · have kept := arrivalOnly_ctlArrived here
    obtain ⟨old, drain, switch, epoch, _, mem, chan⟩ := u.retireOld_frame
    refine ⟨u.retireOld, congrArg Host.Outcome.next ((State.takeCtl_of_arrived here _).trans (if_pos ?_)), old, drain, switch,
      epoch.trans kept.epoch, mem.trans kept.mem, chan.trans kept.chan⟩
    rw [done]
    rfl
  · exact congrArg Host.Outcome.next (State.takeCtl_of_damaged (f := (· == .retire)) found damaged _)

end Sys2Proof.Machine
end

section
/-! PROOFS. The events of forest paths (R227, R228, R247 to R249), with O36. -/

namespace Sys2Proof.Machine

/-! ## Paths -/

/-- Of two values entered at a key the later one stays. -/
theorem kset_kset {α : Type} (m : KMap α) (k : Nat) (v w : α) : kset (kset m k v) k w = kset m k w := by
  induction m with
  | nil => simp [kset]
  | cons p t ih =>
    obtain ⟨a, u⟩ := p
    unfold kset
    by_cases before : k < a
    · simp [before, kset]
    · by_cases here : a = k
      · simp [here, kset]
      · simp [before, here, kset, ih]

theorem State.path?_setPath (s : State) (ep : Nat) (x : Path) : (s.setPath ep x).path? ep = some x := kget?_kset_same _ _ _

theorem State.setPath_setPath (s : State) (ep : Nat) (x y : Path) : (s.setPath ep x).setPath ep y = s.setPath ep y :=
  congrArg (fun m => { s with fab := { s.fab with paths := m } }) (kset_kset s.fab.paths ep x y)

theorem State.wantPath_of_held {s : State} {ep : Nat} {x : Path} (held : s.path? ep = some x) : s.wantPath ep = some s := by
  unfold State.wantPath
  rw [if_pos (by rw [held]; rfl)]

/-! ## Frames that are taken -/

theorem State.withFrame_foreign {s t : State} {f : Frame} (foreign : s.foreign f = some t) (k : Nat → State → State) : s.withFrame f k = t := by
  unfold State.withFrame
  simp only [foreign]

theorem State.withFrame_taken {s : State} {f : Frame} {src : Nat} (own : s.foreign f = none) (sender : s.senderOf f = some src)
    (k : Nat → State → State) : s.withFrame f k = k src s := by
  unfold State.withFrame
  simp only [own, sender]

/-- A discarded frame changes at most the count of foreign frames. -/
theorem State.foreign_frame {s t : State} {f : Frame} (foreign : s.foreign f = some t) : t.fab = s.fab ∧ t.mem = s.mem ∧ t.chan = s.chan := by
  unfold State.foreign at foreign
  split at foreign
  · cases foreign
    exact ⟨rfl, rfl, rfl⟩
  · split at foreign
    · cases foreign
      exact ⟨rfl, rfl, rfl⟩
    · cases foreign

/-! ## Grants (R247) -/

theorem State.sentTo_grantWait (s : State) (ep : Nat) : (s.sentTo ep).fab.grantWait = s.fab.grantWait := by
  unfold State.sentTo
  split <;> rfl

/-- A frame that leaves changes no queue of requests. -/
theorem State.frameOut_grantWait (s : State) (u dest ptype : Nat) (pseq : BitVec 32) (pcred : Option Nat) (p : Option Packet) :
    (s.frameOut u dest ptype pseq pcred p).fab.grantWait = s.fab.grantWait := by
  unfold State.frameOut
  exact State.sentTo_grantWait _ dest

theorem State.wantPath_grantWait {s t : State} {ep : Nat} (wanted : s.wantPath ep = some t) : t.fab.grantWait = s.fab.grantWait := by
  unfold State.wantPath at wanted
  split at wanted
  · cases wanted
    rfl
  · split at wanted
    · cases wanted
      rfl
    · dsimp only at wanted
      split at wanted
      · cases wanted
        rfl
      · cases wanted

theorem State.grantTo_grantWait {s t : State} {src : Nat} (granted : s.grantTo src = some t) : t.fab.grantWait = s.fab.grantWait := by
  unfold State.grantTo at granted
  split at granted
  · cases granted
  · next wanted =>
    dsimp only at granted
    split at granted
    · cases granted
    · split at granted
      · cases granted
      · cases granted
        rw [State.frameOut_grantWait]
        have kept := State.wantPath_grantWait wanted
        exact kept

/-- Where none waits, a request that the pool can grant is granted. -/
theorem State.requestGrant_granted {s t : State} {src : Nat} (empty : s.fab.grantWait = []) (granted : s.grantTo src = some t) :
    s.requestGrant src = t := by
  have same : ({ s with fab := { s.fab with grantWait := [] } } : State) = s := by rw [← empty]
  have left : t.fab.grantWait = [] := (State.grantTo_grantWait granted).trans empty
  unfold State.requestGrant
  simp only [empty, List.contains_nil, Bool.false_eq_true, if_false, List.nil_append, List.length_nil, State.serveGrants,
    List.findSome?_cons, List.erase_cons_head, same, granted, left, Bool.false_and]

/-- Where none waits, a request that is not granted waits, and one that waits for the pool is counted. -/
theorem State.requestGrant_waits {s : State} {src : Nat} (empty : s.fab.grantWait = []) (short : s.grantTo src = none) :
    s.requestGrant src = if s.poolEmpty then ({ s with fab := { s.fab with grantWait := [src] } } : State).bump Obj.grantsWaiting
      else { s with fab := { s.fab with grantWait := [src] } } := by
  have same : ({ s with fab := { s.fab with grantWait := [] } } : State) = s := by rw [← empty]
  have pool : ({ s with fab := { s.fab with grantWait := [src] } } : State).poolEmpty = s.poolEmpty := rfl
  have here : [src].contains src = true := by simp
  unfold State.requestGrant
  simp only [empty, List.contains_nil, Bool.false_eq_true, if_false, List.nil_append, List.length_nil, State.serveGrants,
    List.findSome?_cons, List.findSome?_nil, List.erase_cons_head, same, short, here, pool, Bool.true_and]

/-- What a request brings besides: its acknowledgement. -/
def State.ackedBy (s : State) (src : Nat) (f : Frame) : State :=
  match s.path? src with
  | some x => s.setPath src (x.takePack f)
  | none => s

theorem State.ackedBy_frame (s : State) (src : Nat) (f : Frame) : (s.ackedBy src f).fab.grantWait = s.fab.grantWait ∧
    (s.ackedBy src f).dict = s.dict ∧ (s.ackedBy src f).mem = s.mem ∧ (s.ackedBy src f).chan = s.chan := by
  unfold State.ackedBy
  split <;> exact ⟨rfl, rfl, rfl, rfl⟩

/-! ## Packet frames (R248) -/

/-- A path once a frame has brought its acknowledgement and credits. -/
def broughtBy (x : Path) (f : Frame) : Path :=
  { x.takePack f with credits := x.credits + f.pcred, requested := x.requested && f.pcred == 0 }

theorem State.frameBrings_held {s : State} {src : Nat} {x : Path} (held : s.path? src = some x) (f : Frame) :
    s.frameBrings src f = s.setPath src (broughtBy x f) := by
  unfold State.frameBrings
  simp only [held]
  rfl

/-- The path of a packet frame that is accepted. -/
def acceptedPath (s : State) (x : Path) (f : Frame) : Path :=
  { broughtBy x f with
    expected := (takeEarly 257 x.expected (x.early ++ [f.pseq])).1, early := (takeEarly 257 x.expected (x.early ++ [f.pseq])).2
    ackDue := some (x.ackDue.getD s.now), lastUsed := s.now }

/-- The frame expected next is accepted, and with none accepted early the one after is expected. -/
theorem takeEarly_next (e : BitVec 32) : takeEarly 257 e [e] = (e + 1, []) := by
  simp [takeEarly]

variable {s : State} {src : Nat} {x : Path} {f : Frame}

/-- A packet of this module in a frame that is accepted is delivered. -/
theorem State.packetFrame_accepted {p : Packet} (held : s.path? src = some x) (near : (f.pseq - x.expected).toNat < 256)
    (fresh : x.early.contains f.pseq = false) (carries : f.packet = some p) (mine : s.forMe p = true) (kind : 1 ≤ p.kind ∧ p.kind < 0xD) :
    s.packetFrame src f = { s.setPath src (acceptedPath s x f) with fab := { (s.setPath src (acceptedPath s x f)).fab with
      rx := s.fab.rx ++ [(7, p)] } } := by
  have known : (p.kind == 0 || decide (0xD ≤ p.kind)) = false := by simp; omega
  have mine (t : Path) : (s.setPath src t).forMe p = true := mine
  have path : ((s.setPath src (broughtBy x f)).path? src).getD {} = broughtBy x f := by rw [State.path?_setPath]; rfl
  have expected : (broughtBy x f).expected = x.expected := rfl
  have early : (broughtBy x f).early = x.early := rfl
  unfold State.packetFrame
  simp only [State.wantPath_of_held held, State.frameBrings_held held, path, expected, early, decide_eq_true near, fresh, Bool.not_false,
    Bool.and_self, if_true, carries, known, Bool.false_eq_true, if_false, mine, State.setPath_setPath]
  rfl

/-- One that is not near or has been accepted already is only acknowledged. -/
theorem State.packetFrame_again (held : s.path? src = some x) (far : 256 ≤ (f.pseq - x.expected).toNat ∨ x.early.contains f.pseq = true) :
    s.packetFrame src f = s.setPath src { broughtBy x f with ackDue := some (x.ackDue.getD s.now) } := by
  have path : ((s.setPath src (broughtBy x f)).path? src).getD {} = broughtBy x f := by rw [State.path?_setPath]; rfl
  have expected : (broughtBy x f).expected = x.expected := rfl
  have early : (broughtBy x f).early = x.early := rfl
  have refused : (decide ((f.pseq - x.expected).toNat < 256) && !x.early.contains f.pseq) = false := by
    rcases far with far | again
    · rw [decide_eq_false (Nat.not_lt.mpr far), Bool.false_and]
    · rw [again, Bool.not_true, Bool.and_false]
  unfold State.packetFrame
  simp only [State.wantPath_of_held held, State.frameBrings_held held, path, expected, early, refused, Bool.false_eq_true, if_false,
    State.setPath_setPath]
  rfl

/-- Settles O36: a frame that is not discarded acts on the path of its sender, case by case; a foreign one on none. -/
theorem forestEventsComplete : Obligations.ForestEventsComplete := by
  unfold Obligations.ForestEventsComplete
  intro s src
  have outlet (y : Path) : (s.setPath src y).pickUplink ((s.setPath src y).epEntry (s.setPath src y).epoch src) =
      s.pickUplink (s.epEntry s.epoch src) := rfl
  refine ⟨fun f t foreign => ?_, fun f own sender => ⟨fun none empty => ⟨fun w granted => ?_, fun short => ?_⟩, fun x held =>
    ⟨fun back empty => ?_, fun g is => ?_, fun p near fresh carries mine first last => ?_, fun far => ?_, ?_⟩⟩, fun x t u held up =>
    ⟨fun due => ?_, fun some_ idle shed => ?_⟩, fun x pseq t n p held found late => ⟨fun paused => ?_, fun free spent => ?_, fun free again =>
    ⟨fun down => ?_, fun u up => ?_⟩⟩⟩
  · have kept := State.foreign_frame foreign
    refine ⟨congrArg Host.Outcome.next (State.withFrame_foreign foreign _), fun g is => ?_,
      congrArg Host.Outcome.next (State.withFrame_foreign foreign _), congrArg Host.Outcome.next (State.withFrame_foreign foreign _), kept⟩
    exact congrArg Host.Outcome.next (State.withFrame_foreign (is ▸ foreign) _)
  · obtain ⟨queue, _⟩ := s.ackedBy_frame src f
    refine congrArg Host.Outcome.next ((State.withFrame_taken own sender _).trans ?_)
    rw [none]
    exact State.requestGrant_granted (queue.trans empty) granted
  · obtain ⟨queue, dict, mem, chan⟩ := s.ackedBy_frame src f
    refine ⟨_, congrArg Host.Outcome.next ((State.withFrame_taken own sender _).trans (if_pos (beq_iff_eq.mpr none))), ?_⟩
    have waits := State.requestGrant_waits (s := s.ackedBy src f) (queue.trans empty) short
    change ((s.ackedBy src f).requestGrant src).fab.grantWait = _ ∧ ((s.ackedBy src f).requestGrant src).ob _ = _ + (if (s.ackedBy src f).poolEmpty then 1 else 0) ∧
      ((s.ackedBy src f).requestGrant src).fab.paths = (s.ackedBy src f).fab.paths ∧ ((s.ackedBy src f).requestGrant src).mem = _ ∧
      ((s.ackedBy src f).requestGrant src).chan = _
    have same : (s.ackedBy src f).ob Obj.grantsWaiting = s.ob Obj.grantsWaiting := State.ob_congr (congrArg DictSt.objs dict) _
    rw [waits]
    split
    · exact ⟨rfl, (State.bump_same _ _).trans (congrArg (· + 1) same), rfl, mem, chan⟩
    · exact ⟨rfl, same, rfl, mem, chan⟩
  · refine congrArg Host.Outcome.next ((State.withFrame_taken own sender _).trans ?_)
    have differs : (f.pcred == 0) = false := beq_eq_false_iff_ne.mpr back
    simp only [held, differs, Bool.false_eq_true, if_false]
    unfold State.giveBack
    simp only [State.path?_setPath, State.setPath_setPath]
    change State.serveGrants s.fab.grantWait.length _ = _
    rw [empty]
    rfl
  · change execGrant g f.pcred s = _
    unfold execGrant
    simp only [is, State.withFrame_taken own sender, held]
  · have run : exec (.forestPacketFrame f) s = .next (s.packetFrame src f) := congrArg Host.Outcome.next (State.withFrame_taken own sender _)
    refine ⟨_, _, run.trans (congrArg Host.Outcome.next (State.packetFrame_accepted held near fresh carries mine ⟨first, last⟩)), rfl,
      State.path?_setPath .., rfl, rfl, fun next none => ?_, rfl, rfl, rfl⟩
    have taken : takeEarly 257 x.expected (x.early ++ [f.pseq]) = (x.expected + 1, []) := by
      rw [next, none]
      exact takeEarly_next _
    unfold acceptedPath
    rw [taken]
    exact ⟨rfl, rfl⟩
  · have run : exec (.forestPacketFrame f) s = .next (s.packetFrame src f) := congrArg Host.Outcome.next (State.withFrame_taken own sender _)
    exact ⟨_, _, run.trans (congrArg Host.Outcome.next (State.packetFrame_again held far)), rfl, State.path?_setPath .., rfl, rfl, rfl, rfl, rfl⟩
  · have run : exec (.acknowledgementFrame f) s = .next (s.frameBrings src f) := congrArg Host.Outcome.next (State.withFrame_taken own sender _)
    exact ⟨_, _, run.trans (congrArg Host.Outcome.next (State.frameBrings_held held f)), State.path?_setPath .., rfl, rfl, rfl, rfl, rfl, rfl⟩
  · change execAckTimer src s = _
    unfold execAckTimer
    simp only [held, due, up]
  · change execPathCreditGiveBack src s = _
    unfold execPathCreditGiveBack
    simp only [held, up, decide_eq_true some_, decide_eq_true idle, decide_eq_true shed, Bool.and_self, if_true]
  · change execForestRetransmit src pseq s = _
    unfold execForestRetransmit
    simp only [held, found, Nat.not_lt.mpr late, paused, if_true, if_false]
  · change execForestRetransmit src pseq s = _
    unfold execForestRetransmit
    simp only [held, found, Nat.not_lt.mpr late, free, spent, Bool.false_eq_true, if_true, if_false]
  · change execForestRetransmit src pseq s = _
    unfold execForestRetransmit
    simp only [held, found, Nat.not_lt.mpr late, free, Nat.not_le.mpr again, Bool.false_eq_true, if_false, outlet, down]
  · change execForestRetransmit src pseq s = _
    unfold execForestRetransmit
    simp only [held, found, Nat.not_lt.mpr late, free, Nat.not_le.mpr again, Bool.false_eq_true, if_false, outlet, up]

end Sys2Proof.Machine
end

section
/-! PROOFS. Sampled checks, optimiser units and third runs (R269, R271 to R274, Table 8-1), with O37. -/

namespace Sys2Proof.Machine

variable {s : State}

/-! ## The stand of a third run -/

/-- Which stands can check a block follows from the states of the stands and of their halves. -/
theorem State.thirdStand_congr {s t : State} (stands : ∀ n, n < 192 → t.ob (Obj.standState n) = s.ob (Obj.standState n))
    (halves : ∀ n, n < 2 → t.ob (Obj.halfState n) = s.ob (Obj.halfState n)) (orig checker : Nat) :
    t.thirdStand orig checker = s.thirdStand orig checker := by
  have same (n : Nat) : t.canCheck orig n = s.canCheck orig n := by
    unfold State.canCheck State.standEnabled State.fenced State.halfRuns
    by_cases small : n < 192
    · rw [stands n small, halves (n / 96) (by omega)]
    · rw [decide_eq_false small]
      simp
  unfold State.thirdStand
  simp only [same]

/-- Reports and the counters of checks leave the stand of a third run. -/
theorem Reported.thirdStand {s t : State} (told : Reported [Obj.checksRun, Obj.checkDisagreements] s t) (orig checker : Nat) :
    t.thirdStand orig checker = s.thirdStand orig checker := by
  refine State.thirdStand_congr (fun n small => told.ob _ ?_ ?_) (fun n small => told.ob _ ?_ ?_) orig checker
  · unfold Quiet Obj.standState
    omega
  · simp only [List.mem_cons, List.not_mem_nil, or_false, Obj.standState, Obj.checksRun, Obj.checkDisagreements]
    omega
  · unfold Quiet Obj.halfState
    omega
  · simp only [List.mem_cons, List.not_mem_nil, or_false, Obj.halfState, Obj.checksRun, Obj.checkDisagreements]
    omega

/-! ## A disagreement (R272, R273) -/

/-- A disagreement counted and logged. -/
def State.disagreed (s : State) (n : Nat) (r : ErrRec) (sig : SigInfo) : State :=
  ((s.bump Obj.checksRun).bump Obj.checkDisagreements).logStand n r sig

theorem State.disagreed_reported (s : State) (n : Nat) (r : ErrRec) (sig : SigInfo) :
    Reported [Obj.checksRun, Obj.checkDisagreements] s (s.disagreed n r sig) :=
  ((reported_bump s List.mem_cons_self).trans (reported_bump _ (List.mem_cons_of_mem _ List.mem_cons_self))).trans
    (reported_logStand _ _ n r sig)

theorem State.disagreed_counts (s : State) (n : Nat) (r : ErrRec) (sig : SigInfo) :
    (s.disagreed n r sig).ob Obj.checksRun = s.ob Obj.checksRun + 1 ∧
    (s.disagreed n r sig).ob Obj.checkDisagreements = s.ob Obj.checkDisagreements + 1 := by
  have logged := reported_logStand [] ((s.bump Obj.checksRun).bump Obj.checkDisagreements) n r sig
  constructor
  · refine (logged.ob _ (by unfold Quiet; decide) List.not_mem_nil).trans ?_
    exact (State.bump_other _ _ _ (by decide)).trans (s.bump_same _)
  · refine (logged.ob _ (by unfold Quiet; decide) List.not_mem_nil).trans ?_
    exact (State.bump_same _ _).trans (congrArg (· + 1) (s.bump_other _ _ (by decide)))

/-- Settles O37: each outcome of a comparison or of a third run by the equation of its command. -/
theorem checksAndThirdRunsComplete : Obligations.ChecksAndThirdRunsComplete := by
  unfold Obligations.ChecksAndThirdRunsComplete
  refine ⟨fun s h id block c found => ⟨fun second fresh => ⟨fun equal => ?_, fun differ => ?_⟩, fun other t0 third bytes waits =>
    ⟨fun able soon => ?_, fun late => ?_⟩⟩, fun s h id unit t u here runs => ⟨fun second fresh => ⟨fun equal => ?_, fun differ => ?_⟩,
    fun none found => ⟨fun third bytes able soon length => ?_, fun late => ?_⟩⟩⟩
  · change execCheckCompare h id block second s = _
    unfold execCheckCompare
    simp only [found, fresh, equal, Option.isSome_none, Bool.false_eq_true, if_false, beq_self_eq_true, if_true]
  · have run : exec (.checkCompare h id block second) s = .next (
        let w := s.disagreed c.orig ((s.bump Obj.checksRun).checkRec 0x0701 c c.digests.out.toNat second.out.toNat)
          (c.sig.digests c.digests.out.toNat 0)
        ({ w with fire := { w.fire with checks := w.fire.checks.map (fun x =>
          if x == c then { x with other := some (second.out, w.now), third := w.thirdStand c.orig c.checker } else x) } } : State).engage
            (w.thirdStand c.orig c.checker)) := by
      change execCheckCompare h id block second s = _
      unfold execCheckCompare
      simp only [found, fresh, beq_eq_false_iff_ne.mpr differ, Option.isSome_none, Bool.false_eq_true, if_false]
      rfl
    generalize is : s.disagreed c.orig _ _ = w at run
    have told : Reported [Obj.checksRun, Obj.checkDisagreements] s w := is ▸ s.disagreed_reported ..
    have counts := s.disagreed_counts c.orig ((s.bump Obj.checksRun).checkRec 0x0701 c c.digests.out.toNat second.out.toNat)
      (c.sig.digests c.digests.out.toNat 0)
    rw [is] at counts
    have checks : w.fire.checks = s.fire.checks := by rw [told.fire]
    refine ⟨_, run, counts.1, counts.2, ?_, told.mem, told.chan, fun n apart => ?_⟩
    · rw [← told.thirdStand, ← told.now, ← checks]
      rfl
    · rw [← told.thirdStand] at apart
      exact (State.modStand_other _ _ apart).trans (told.stand n)
  · change execThirdRunDone h id block c.third ⟨third, bytes⟩ s = _
    unfold execThirdRunDone
    simp only [found, waits, able, bne_self_eq_false, Bool.not_true, Nat.not_lt.mpr soon, decide_false, Bool.or_self, Bool.false_eq_true, if_false]
  · change execThirdRunTimeout h id block s = _
    unfold execThirdRunTimeout
    simp only [found, waits, late, if_true]
  · change execOptimiserUnitCompare h id unit second s = _
    unfold execOptimiserUnitCompare
    simp only [here, fresh, runs, bne_self_eq_false, Bool.false_eq_true, if_false, equal, beq_self_eq_true, if_true]
  · have run : exec (.optimiserUnitCompare h id unit second) s = .next (
        let w := s.disagreed u.orig (unitRec 0x0701 t u.digests.out.toNat second.out.toNat) (u.sig.digests u.digests.out.toNat 0)
        (w.modUnit t unit (fun y => { y with
          second := some second.out, at_ := w.now, third := w.thirdStand u.orig u.checker })).engage (w.thirdStand u.orig u.checker)) := by
      change execOptimiserUnitCompare h id unit second s = _
      unfold execOptimiserUnitCompare
      simp only [here, fresh, runs, bne_self_eq_false, Bool.false_eq_true, if_false, beq_eq_false_iff_ne.mpr differ]
      rfl
    generalize is : s.disagreed u.orig _ _ = w at run
    have told : Reported [Obj.checksRun, Obj.checkDisagreements] s w := is ▸ s.disagreed_reported ..
    have counts := s.disagreed_counts u.orig (unitRec 0x0701 t u.digests.out.toNat second.out.toNat) (u.sig.digests u.digests.out.toNat 0)
    rw [is] at counts
    refine ⟨_, run, counts.2, ?_, told.mem⟩
    rw [← told.thirdStand, ← told.now, ← told.chan]
    rfl
  · change execThirdRunDone h id unit u.third ⟨third, bytes⟩ s = _
    unfold execThirdRunDone
    simp only [none, here, found, runs, able, length, bne_self_eq_false, Bool.not_true, Nat.not_lt.mpr soon, decide_false, Bool.or_self,
      Bool.false_eq_true, if_false]
  · change execThirdRunTimeout h id unit s = _
    unfold execThirdRunTimeout
    simp only [none, here, found, runs, decide_eq_true late, beq_self_eq_true, Bool.and_self, if_true]

end Sys2Proof.Machine
end

section
/-! PROOFS. Suspects and the self-test suite (R275, R276, Table 8-2), with O38. -/

namespace Sys2Proof.Machine

variable {s t u : State} {n : Nat}

/-! ## A block run once more -/

/-- `t` is `s` but for the tile active on a stand and the counters of its runs. -/
structure TileAndCounts (n : Nat) (s t : State) : Prop where
  now : t.now = s.now
  mem : t.mem = s.mem
  chan : t.chan = s.chan
  fire : t.fire = s.fire
  stand : t.stand n = { s.stand n with tile := (t.stand n).tile }
  other : ∀ k, k ≠ n → t.stand k = s.stand k
  ob : ∀ k, (k < 0xA12001 ∨ 0xA122C1 ≤ k) → t.ob k = s.ob k

namespace TileAndCounts

theorem refl (n : Nat) (s : State) : TileAndCounts n s s := ⟨rfl, rfl, rfl, rfl, rfl, fun _ _ => rfl, fun _ _ => rfl⟩

theorem trans (a : TileAndCounts n s t) (b : TileAndCounts n t u) : TileAndCounts n s u where
  now := b.now.trans a.now
  mem := b.mem.trans a.mem
  chan := b.chan.trans a.chan
  fire := b.fire.trans a.fire
  stand := b.stand.trans (congrArg (fun x : StandSt => { x with tile := (u.stand n).tile }) a.stand)
  other k apart := (b.other k apart).trans (a.other k apart)
  ob k far := (b.ob k far).trans (a.ob k far)

theorem foldl {α : Type} {f : State → α → State} (l : List α) (step : ∀ u, ∀ x ∈ l, TileAndCounts n u (f u x)) (s : State) :
    TileAndCounts n s (l.foldl f s) := by
  induction l generalizing s with
  | nil => exact refl n s
  | cons x l ih =>
    exact (step s x List.mem_cons_self).trans (ih (fun u y mem => step u y (List.mem_cons_of_mem _ mem)) _)

end TileAndCounts

theorem tileAndCounts_addOb (s : State) (n : Nat) {k v : Nat} (near : 0xA12001 ≤ k ∧ k < 0xA122C1) : TileAndCounts n s (s.addOb k v) :=
  ⟨rfl, rfl, rfl, rfl, rfl, fun _ _ => rfl, fun j far => s.addOb_other _ _ _ (by omega)⟩

theorem tileAndCounts_leaveTile (s : State) (n : Nat) (x : Tile) : TileAndCounts n s (s.leaveTile (n, x)) where
  now := rfl
  mem := rfl
  chan := rfl
  fire := rfl
  stand := by
    unfold State.leaveTile
    rw [State.modStand_same]
  other k apart := State.modStand_other _ _ apart
  ob _ _ := rfl

theorem tileAndCounts_countRun (s : State) (w : BlkWork) (small : n < 192) : TileAndCounts n s (s.countRun n w) := by
  have events := tileAndCounts_addOb (v := w.events) s n (k := Obj.invalidEvents n) (by unfold Obj.invalidEvents; omega)
  unfold State.countRun
  dsimp only
  split
  · exact events
  · refine events.trans ?_
    generalize s.addOb (Obj.invalidEvents n) w.events = u
    refine (TileAndCounts.foldl _ (fun v x mem => ?_) _).trans (TileAndCounts.foldl _ (fun v x mem => ?_) _)
    · simp only [State.costOn, List.mem_cons, List.not_mem_nil, or_false] at mem
      rcases mem with rfl | rfl
      · exact tileAndCounts_addOb v n (by unfold Obj.weightWait; omega)
      · exact tileAndCounts_addOb v n (by unfold Obj.columnPasses; omega)
    · simp only [State.costOn, Option.mem_toList, Option.map_eq_some_iff] at mem
      obtain ⟨y, _, rfl⟩ := mem
      exact tileAndCounts_leaveTile v n y.tile

/-! ## The repeat of a suspect (R275) -/

/-- A suspect taken from the stand's list and run once more. -/
def State.repeated (s : State) (n : Nat) (x : Suspect) (more : List Suspect) : State :=
  (s.modStand n (fun y => { y with suspects := more })).countRun n x.work

theorem State.repeated_leaves (x : Suspect) (more : List Suspect) (small : n < 192) : (s.repeated n x more).now = s.now ∧
    (s.repeated n x more).mem = s.mem ∧ (s.repeated n x more).chan = s.chan ∧
    (s.repeated n x more).stand n = { s.stand n with suspects := more, tile := ((s.repeated n x more).stand n).tile } ∧
    (∀ k, k ≠ n → (s.repeated n x more).stand k = s.stand k) ∧
    (∀ k, (k < 0xA12001 ∨ 0xA122C1 ≤ k) → (s.repeated n x more).ob k = s.ob k) := by
  have ran := tileAndCounts_countRun (n := n) (s.modStand n (fun y => { y with suspects := more })) x.work small
  refine ⟨ran.now, ran.mem, ran.chan, ran.stand.trans ?_, fun k apart => (ran.other k apart).trans (State.modStand_other _ _ apart), ran.ob⟩
  rw [State.modStand_same]
  rfl

/-- A stand that is idle is at a task boundary. -/
theorem State.boundary_of_idle (free : s.runningOn n = none) (sound : s.fenced n = false) (runs : s.halfRuns (n / 96) = true) :
    s.boundary n = some s := by
  unfold State.boundary
  simp only [free, sound, runs, Bool.not_true, Bool.or_self, Bool.false_eq_true, if_false]

theorem exec_suspectRepeatDone_of_idle {x : Suspect} {more : List Suspect} {again : Digests} (free : s.runningOn n = none)
    (sound : s.fenced n = false) (runs : s.halfRuns (n / 96) = true) (next : (s.stand n).suspects = x :: more) :
    exec (.suspectRepeatDone n again) s = .next ((s.modStand n (fun y => { y with suspects := more })).judge n x again) := by
  change execSuspectRepeatDone n again s = _
  unfold execSuspectRepeatDone
  simp only [next, State.boundary_of_idle free sound runs]

/-- The faults of a stand that were transient within the last day (R275). -/
def State.recentFaults (s : State) (n : Nat) : List Nat := (s.stand n).transients.filter (fun t => s.now - t < 86400000000000)

theorem State.repeated_recentFaults (x : Suspect) (more : List Suspect) (small : n < 192) :
    (s.repeated n x more).recentFaults n = s.recentFaults n := by
  obtain ⟨now, _, _, stand, _⟩ := s.repeated_leaves x more small
  unfold State.recentFaults
  rw [now, stand]

/-- A repeat that gives the majority, below the limit: a transient fault. -/
theorem suspectRepeat_transient {x : Suspect} {more : List Suspect} {again : Digests} (small : n < 192) (same : again.inp = x.inp)
    (majority : again.out = x.majority) (below : (s.recentFaults n).length < s.ob Obj.transientLimit) :
    let t := (s.modStand n (fun y => { y with suspects := more })).judge n x again
    t.stand n = { s.stand n with suspects := more, transients := s.recentFaults n ++ [s.now], tile := (t.stand n).tile } ∧
      t.ob (Obj.transientFaults n) = s.ob (Obj.transientFaults n) + 1 ∧ t.ob (Obj.standState n) = s.ob (Obj.standState n) ∧
      (∀ k, k ≠ n → t.stand k = s.stand k) ∧ t.mem = s.mem ∧ t.chan = s.chan := by
  obtain ⟨now, mem, chan, stand, other, ob⟩ := s.repeated_leaves x more small
  have recent := s.repeated_recentFaults x more small
  have limit : (s.repeated n x more).ob Obj.transientLimit = s.ob Obj.transientLimit := ob _ (by decide)
  have passes : (again.out == x.majority && decide (((s.repeated n x more).recentFaults n).length <
      (s.repeated n x more).ob Obj.transientLimit)) = true := by
    rw [recent, limit, majority, beq_self_eq_true, decide_eq_true below]
    rfl
  obtain ⟨r, eq⟩ : ∃ r, (s.modStand n (fun y => { y with suspects := more })).judge n x again =
      (((s.repeated n x more).logStand n r x.sig).modStand n
        (fun y => { y with transients := (s.repeated n x more).recentFaults n ++ [(s.repeated n x more).now] })).bump
        (Obj.transientFaults n) :=
    ⟨_, (if_neg (by rw [same, bne_self_eq_false]; decide)).trans (if_pos passes)⟩
  have logged := reported_logStand [] (s.repeated n x more) n r x.sig
  rw [eq, recent, now]
  have quiet (k : Nat) (low : k < 0xA12001 ∨ 0xA172C1 ≤ k) (apart : k ≠ 0x605003) :
      ((s.repeated n x more).logStand n r x.sig).ob k = s.ob k :=
    (logged.ob k ⟨by omega, apart⟩ List.not_mem_nil).trans (ob k (by omega))
  have counted (u : State) (k : Nat) : (u.bump (Obj.transientFaults n)).stand k = u.stand k := State.stand_congr (State.bump_stands ..) k
  refine ⟨?_, ?_, ?_, fun k apart => ?_, logged.mem.trans mem, logged.chan.trans chan⟩
  · rw [counted, State.modStand_same, logged.stand, stand]
  · exact (State.bump_same _ _).trans (congrArg (· + 1) (quiet _ (by unfold Obj.transientFaults; omega) (by unfold Obj.transientFaults; omega)))
  · exact (State.bump_other _ _ _ (by unfold Obj.transientFaults Obj.standState; omega)).trans
      (quiet _ (by unfold Obj.standState; omega) (by unfold Obj.standState; omega))
  · rw [counted, State.modStand_other _ _ apart]
    exact (logged.stand k).trans (other k apart)

/-- A suspect that is due for the suite on a stand that is not fenced. -/
theorem State.testSuspect_leaves {x : Suspect} (small : n < 192) (sound : s.fenced n = false) :
    ((s.testSuspect n x).stand n).suspects = (s.stand n).suspects ∧ ((s.testSuspect n x).stand n).selfTest.isSome = true ∧
      (s.testSuspect n x).ob (Obj.standState n) = 1 ∧ (∀ k, k ≠ n → (s.testSuspect n x).stand k = s.stand k) ∧
      (s.testSuspect n x).mem = s.mem ∧ (s.testSuspect n x).chan = s.chan := by
  have due : (!decide (n < 192) || (s.modStand n (fun y => { y with tested := some x })).fenced n) = false := by
    rw [decide_eq_true small]
    exact sound
  have set (u : State) (k : Nat) : (u.setOb (Obj.standState n) 1).stand k = u.stand k := State.stand_congr (State.setOb_stands ..) k
  have eq : s.testSuspect n x = ((s.modStand n (fun y => { y with tested := some x })).modStand n
      (fun y => { y with worksSince := s.now, selfTest := some TestReason.suspect })).setOb (Obj.standState n) 1 :=
    if_neg (by rw [due]; decide)
  rw [eq]
  refine ⟨?_, ?_, State.setOb_same _ _ _, fun k apart => ?_, rfl, rfl⟩
  · rw [set, State.modStand_same, State.modStand_same]
  · rw [set, State.modStand_same]
    rfl
  · rw [set, State.modStand_other _ _ apart, State.modStand_other _ _ apart]

/-- A repeat that does not give the majority, or is one too many: the suite is due. -/
theorem suspectRepeat_tested {x : Suspect} {more : List Suspect} {again : Digests} (small : n < 192) (sound : s.fenced n = false)
    (same : again.inp = x.inp) (worse : again.out ≠ x.majority ∨ s.ob Obj.transientLimit ≤ (s.recentFaults n).length) :
    let t := (s.modStand n (fun y => { y with suspects := more })).judge n x again
    (t.stand n).suspects = more ∧ (t.stand n).selfTest.isSome = true ∧ t.ob (Obj.standState n) = 1 ∧
      (∀ k, k ≠ n → t.stand k = s.stand k) ∧ t.mem = s.mem ∧ t.chan = s.chan := by
  obtain ⟨now, mem, chan, stand, other, ob⟩ := s.repeated_leaves x more small
  have recent := s.repeated_recentFaults x more small
  have limit : (s.repeated n x more).ob Obj.transientLimit = s.ob Obj.transientLimit := ob _ (by decide)
  have fails : (again.out == x.majority && decide (((s.repeated n x more).recentFaults n).length <
      (s.repeated n x more).ob Obj.transientLimit)) = false := by
    rw [recent, limit]
    rcases worse with differ | reached
    · rw [beq_eq_false_iff_ne.mpr differ, Bool.false_and]
    · rw [decide_eq_false (Nat.not_lt.mpr reached), Bool.and_false]
  obtain ⟨r, eq⟩ : ∃ r, (s.modStand n (fun y => { y with suspects := more })).judge n x again =
      ((s.repeated n x more).logStand n r x.sig).testSuspect n x :=
    ⟨_, ((if_neg (by rw [same, bne_self_eq_false]; decide)).trans (if_neg (ne_true_of_eq_false fails)))⟩
  have logged := reported_logStand [] (s.repeated n x more) n r x.sig
  have quiet : Quiet (Obj.standState n) := ⟨.inl (by unfold Obj.standState; omega), by unfold Obj.standState; omega⟩
  have sound : ((s.repeated n x more).logStand n r x.sig).fenced n = false := by
    unfold State.fenced
    rw [logged.ob _ quiet List.not_mem_nil, ob _ (by unfold Obj.standState; omega)]
    exact sound
  obtain ⟨suspects, test, state, others, mem', chan'⟩ := State.testSuspect_leaves (x := x) small sound
  rw [eq]
  refine ⟨suspects.trans ?_, test, state, fun k apart => ((others k apart).trans (logged.stand k)).trans (other k apart),
    (mem'.trans logged.mem).trans mem, (chan'.trans logged.chan).trans chan⟩
  rw [logged.stand, stand]

/-! ## The end of the suite (R276, Table 8-2) -/

/-- The suite is over on a stand: it is in service again, unless a finding takes it out. -/
def State.suiteOver (s : State) (n : Nat) : State := (s.modStand n (fun x => { x with selfTest := none })).setOb (Obj.standState n) 0

/-- The suspect that the suite was for is forgotten. -/
def State.untested (s : State) (n : Nat) : State := s.modStand n (fun x => { x with tested := none })

/-- What follows the findings: what is decided on the stand takes effect. -/
def State.closeSuite (s : State) (n : Nat) : State :=
  let s := s.untested n
  let mine := s.fire.trios.filter (fun x => x.2.contains n)
  let s := ({ s with fire := { s.fire with trios := s.fire.trios.filter (fun x => !x.2.contains n) } } : State).applyFence n
  if s.fenced n then s else ({ s with fire := { s.fire with trios := s.fire.trios ++ mine } } : State).dropTrio n

theorem exec_selfTestDone_of_idle {why : TestReason} (free : s.runningOn n = none) (sound : s.fenced n = false)
    (runs : s.halfRuns (n / 96) = true) (due : (s.stand n).selfTest = some why) (findings : List Finding) :
    exec (.selfTestDone n findings) s = .next (
      (let t := findings.foldl (fun s f => s.finding n f) (s.suiteOver n)
       if findings.isEmpty && why == .suspect then t.notLocalised n else t).closeSuite n) := by
  change execSelfTestDone n findings s = _
  unfold execSelfTestDone
  simp only [due, State.boundary_of_idle free sound runs]
  rfl

theorem State.dropTrio_of_none (none : s.fire.trios = []) : s.dropTrio n = s := by
  have same : ({ s with fire := { s.fire with trios := [] } } : State) = s := by rw [← none]
  unfold State.dropTrio
  simp only [none, List.map_nil, List.filter_nil, List.foldl_nil, same]

/-- With no unit without a majority, and the stand not fenced in the end, the suite ends with what was decided. -/
theorem State.closeSuite_eq (trios : s.fire.trios = []) (left : ((s.untested n).applyFence n).fire.trios = [])
    (sound : ((s.untested n).applyFence n).fenced n = false) : s.closeSuite n = (s.untested n).applyFence n := by
  have same (u : State) (empty : u.fire.trios = []) : ({ u with fire := { u.fire with trios := [] } } : State) = u := by rw [← empty]
  have trios : (s.untested n).fire.trios = [] := trios
  unfold State.closeSuite
  generalize s.untested n = v at trios left sound
  simp only [trios, List.filter_nil, same v trios]
  generalize v.applyFence n = u at left sound
  simp only [sound, Bool.false_eq_true, if_false, left, List.append_nil, same u left, State.dropTrio_of_none left]

theorem State.applyFence_of_nothing (state : (s.stand n).pendState = 0) (fence : (s.stand n).pendFence = 0) (bypass : (s.stand n).pendBypass = 0) :
    s.applyFence n = s := by
  unfold State.applyFence
  simp only [state, fence, bypass, beq_self_eq_true, Bool.and_self, Bool.or_true, if_true]

theorem quiet_standState (small : n < 192) : Quiet (Obj.standState n) :=
  ⟨.inl (by unfold Obj.standState; omega), by unfold Obj.standState; omega⟩

theorem State.suiteOver_stand (s : State) (n : Nat) : (s.suiteOver n).stand n = { s.stand n with selfTest := none } :=
  (State.stand_congr (State.setOb_stands ..) n).trans (s.modStand_same n _)

theorem State.suiteOver_stand_other {k : Nat} (apart : k ≠ n) : (s.suiteOver n).stand k = s.stand k :=
  (State.stand_congr (State.setOb_stands ..) k).trans (State.modStand_other _ _ apart)

theorem reported_notLocalised (s : State) (n : Nat) : Reported [] s (s.notLocalised n) := by
  unfold State.notLocalised
  split <;> exact reported_logStand ..

/-- A suite without a finding, its record written or not, leaves the stand enabled. -/
theorem State.closeSuite_clean {v : State} (small : n < 192) (told : Reported [] (s.suiteOver n) v) (trios : s.fire.trios = [])
    (state : (s.stand n).pendState = 0) (fence : (s.stand n).pendFence = 0) (bypass : (s.stand n).pendBypass = 0) :
    (v.closeSuite n).stand n = { s.stand n with selfTest := none, tested := none } ∧ (v.closeSuite n).ob (Obj.standState n) = 0 ∧
      (v.closeSuite n).ob (Obj.arrayFence n) = s.ob (Obj.arrayFence n) ∧ (v.closeSuite n).ob (Obj.bypassed n) = s.ob (Obj.bypassed n) ∧
      (∀ k, k ≠ n → (v.closeSuite n).stand k = s.stand k) ∧ (v.closeSuite n).mem = s.mem ∧ (v.closeSuite n).chan = s.chan := by
  have stand : (v.untested n).stand n = { s.stand n with selfTest := none, tested := none } := by
    unfold State.untested
    rw [State.modStand_same, told.stand, s.suiteOver_stand]
  have enabled : v.ob (Obj.standState n) = 0 := (told.ob _ (quiet_standState small) List.not_mem_nil).trans (State.setOb_same _ _ _)
  have kept (k : Nat) (quiet : Quiet k) (apart : k ≠ Obj.standState n) : v.ob k = s.ob k :=
    (told.ob k quiet List.not_mem_nil).trans (State.setOb_other _ _ _ _ apart)
  have nothing : (v.untested n).applyFence n = v.untested n :=
    State.applyFence_of_nothing (by rw [stand]; exact state) (by rw [stand]; exact fence) (by rw [stand]; exact bypass)
  have none : v.fire.trios = [] := (congrArg FireSt.trios told.fire :).trans trios
  have eq : v.closeSuite n = v.untested n := by
    rw [State.closeSuite_eq none (by rw [nothing]; exact none) ?_, nothing]
    rw [nothing]
    exact decide_eq_false (by rw [show (v.untested n).ob (Obj.standState n) = 0 from enabled]; decide)
  rw [eq]
  refine ⟨stand, enabled, kept _ ?_ ?_, kept _ ?_ ?_, fun k apart => ?_, told.mem, told.chan⟩
  · exact ⟨.inl (by unfold Obj.arrayFence; omega), by unfold Obj.arrayFence; omega⟩
  · unfold Obj.arrayFence Obj.standState
    omega
  · exact ⟨.inl (by unfold Obj.bypassed; omega), by unfold Obj.bypassed; omega⟩
  · unfold Obj.bypassed Obj.standState
    omega
  · exact ((State.modStand_other _ _ apart).trans (told.stand k)).trans (State.suiteOver_stand_other apart)

/-- One array fenced and no column bypassed: no other array is, and the stand is not. -/
theorem fenceOf_array : ∀ a < 4, fenceOf (0 ||| 2 ^ a) (0 ||| 0) = 2 ^ a ∧ ¬ 2 ≤ bitsIn (2 ^ a) 0 4 ∧ (2 ^ a == 0) = false := by
  decide +kernel

/-- A decided fence of one array takes effect, and no more. -/
theorem State.applyFence_array {a : Nat} (low : a < 4) (free : s.runningOn n = none) (sound : s.fenced n = false)
    (fence : (s.stand n).pendFence = 2 ^ a) (bypass : (s.stand n).pendBypass = 0) (state : (s.stand n).pendState = 0)
    (whole : s.ob (Obj.arrayFence n) = 0) (straight : s.ob (Obj.bypassed n) = 0) : s.applyFence n = s.putInForce n 0 (2 ^ a) := by
  obtain ⟨result, few, some_⟩ := fenceOf_array a low
  rw [State.applyFence_eq free sound (by rw [fence, some_]; rfl)]
  dsimp only
  rw [fence, bypass, state, whole, straight, result, if_neg few]
  rfl

/-- A suite that finds an array fences it and leaves the stand enabled. -/
theorem State.closeSuite_array {a : Nat} (small : n < 192) (free : s.runningOn n = none) (low : a < 4) (trios : s.fire.trios = [])
    (state : (s.stand n).pendState = 0) (fence : (s.stand n).pendFence = 0) (bypass : (s.stand n).pendBypass = 0)
    (whole : s.ob (Obj.arrayFence n) = 0) (straight : s.ob (Obj.bypassed n) = 0) :
    let t := ((s.suiteOver n).decideStand n (2 ^ a) 0 0).closeSuite n
    t.ob (Obj.arrayFence n) = 2 ^ a ∧ t.ob (Obj.standState n) = 0 ∧ (t.stand n).selfTest = none ∧ t.mem = s.mem ∧ t.chan = s.chan := by
  have decided : (((s.suiteOver n).decideStand n (2 ^ a) 0 0).untested n).stand n =
      { s.stand n with selfTest := none, tested := none, pendFence := 0 ||| 2 ^ a, pendBypass := 0 ||| 0, pendState := 0 } := by
    unfold State.untested State.decideStand
    rw [State.modStand_same, State.modStand_same, s.suiteOver_stand, state, fence, bypass]
    rfl
  have enabled : (((s.suiteOver n).decideStand n (2 ^ a) 0 0).untested n).ob (Obj.standState n) = 0 := State.setOb_same _ _ _
  have kept (k : Nat) (apart : k ≠ Obj.standState n) : (((s.suiteOver n).decideStand n (2 ^ a) 0 0).untested n).ob k = s.ob k :=
    State.setOb_other _ _ _ _ apart
  have rest : (((s.suiteOver n).decideStand n (2 ^ a) 0 0).untested n).mem = s.mem ∧
      (((s.suiteOver n).decideStand n (2 ^ a) 0 0).untested n).chan = s.chan ∧
      (((s.suiteOver n).decideStand n (2 ^ a) 0 0).untested n).fire.trios = s.fire.trios := ⟨rfl, rfl, rfl⟩
  have closes := State.closeSuite_eq (s := (s.suiteOver n).decideStand n (2 ^ a) 0 0) (n := n) trios
  generalize ((s.suiteOver n).decideStand n (2 ^ a) 0 0).untested n = v at decided enabled kept rest closes
  obtain ⟨mem, chan, none⟩ := rest
  have free : v.runningOn n = .none := by
    unfold State.runningOn
    rw [chan]
    exact free
  have taken : v.applyFence n = v.putInForce n 0 (2 ^ a) :=
    State.applyFence_array low free (decide_eq_false (by rw [enabled]; decide)) (by rw [decided]; exact Nat.zero_or _) (by rw [decided]; rfl)
      (by rw [decided]) ((kept _ (by unfold Obj.arrayFence Obj.standState; omega)).trans whole)
      ((kept _ (by unfold Obj.bypassed Obj.standState; omega)).trans straight)
  have state' : (v.putInForce n 0 (2 ^ a)).ob (Obj.standState n) = 0 :=
    (State.putInForce_ob (quiet_standState small) (by unfold Obj.standState Obj.bypassed; omega)
      (by unfold Obj.standState Obj.arrayFence; omega)).trans enabled
  intro t
  have eq : t = v.putInForce n 0 (2 ^ a) := by
    refine (closes ?_ ?_).trans taken
    · rw [taken, State.putInForce_trios, none, trios]
    · rw [taken]
      exact decide_eq_false (by rw [state']; decide)
  rw [eq]
  exact ⟨State.putInForce_fence, state', by rw [State.putInForce_stand, decided], State.putInForce_mem.trans mem,
    State.putInForce_chan.trans chan⟩

/-- Settles O38: the repeat and the suite, each on an idle stand. -/
theorem suspectsAndSelfTestsComplete : Obligations.SuspectsAndSelfTestsComplete := by
  unfold Obligations.SuspectsAndSelfTestsComplete
  intro s n small free sound runs
  refine ⟨fun x more again next same => ⟨fun majority below => ?_, fun worse => ?_⟩, fun why due trios state fence bypass => ⟨?_, fun a low whole straight => ?_⟩⟩
  · exact ⟨_, exec_suspectRepeatDone_of_idle free sound runs next, suspectRepeat_transient small same majority below⟩
  · exact ⟨_, exec_suspectRepeatDone_of_idle free sound runs next, suspectRepeat_tested small sound same worse⟩
  · refine ⟨_, exec_selfTestDone_of_idle free sound runs due [], State.closeSuite_clean small ?_ trios state fence bypass⟩
    dsimp only [List.foldl_nil]
    split
    · exact reported_notLocalised _ n
    · exact .refl _ _
  · exact ⟨_, exec_selfTestDone_of_idle free sound runs due [.array a],
      State.closeSuite_array small free low trios state fence bypass whole straight⟩

end Sys2Proof.Machine
end

section
/-! PROOFS. Firebreak messages and the handling of error records (R282 to R284, R287, R288, R292, R293), with O39. -/

namespace Sys2Proof.Machine

/-! ## Firebreak messages -/

/-- A firebreak message of a type that a command takes acts on the state its arrival leaves. -/
theorem State.firebreak_of_arrives {s : State} {p : Packet} (here : Arrives s p 0xA) {types : List Nat}
    (taken : types.contains (Firebreak.ofNat (ofBytes p.payload)).type = true) (f : State → Firebreak → State) :
    s.firebreak p types f = f (s.arrived p) (Firebreak.ofNat (ofBytes p.payload)) := by
  unfold State.firebreak
  simp only [taken, if_true]
  exact here.receive (fun s => f s (Firebreak.ofNat (ofBytes p.payload)))

/-! ## The record a handler takes (R292, R293) -/

/-- It is in its queue, and none there has a higher severity. -/
theorem nextHandled_highest {l : List ErrRec} {r : ErrRec} (next : nextHandled l = some r) : r ∈ l ∧ ∀ x ∈ l, x.severity ≤ r.severity := by
  induction l generalizing r with
  | nil => cases next
  | cons y l ih =>
    unfold nextHandled at next
    split at next
    · next none =>
      cases next
      have empty : l = [] := by
        cases l with
        | nil => rfl
        | cons z l =>
          unfold nextHandled at none
          split at none
          · cases none
          · split at none <;> cases none
      subst empty
      exact ⟨List.mem_cons_self, fun x mem => Nat.le_of_eq (by rw [List.mem_singleton.mp mem])⟩
    · next x found =>
      obtain ⟨inside, highest⟩ := ih found
      split at next
      · next lower =>
        cases next
        refine ⟨List.mem_cons_of_mem _ inside, fun z mem => ?_⟩
        rcases List.mem_cons.mp mem with rfl | mem
        · exact Nat.le_of_lt lower
        · exact highest z mem
      · next higher =>
        cases next
        refine ⟨List.mem_cons_self, fun z mem => ?_⟩
        rcases List.mem_cons.mp mem with rfl | mem
        · exact Nat.le_refl _
        · exact Nat.le_trans (highest z mem) (Nat.le_of_not_lt higher)

/-- A queue with room takes a record, and nothing else changes. -/
theorem State.enqueue_of_room {s : State} {unit : Nat} (room : (kget s.fire.queues {} unit).used unit < 63) (r : ErrRec) :
    ∃ x q, s.enqueue unit r = { s with fire := { s.fire with queues := kset s.fire.queues unit q } } ∧
      q.records = insRecord x (kget s.fire.queues {} unit).records ∧ x.id = r.id ∧ x.code = r.code := by
  unfold State.enqueue
  simp only [room, if_true]
  refine ⟨_, _, rfl, rfl, ?_, ?_⟩ <;> split <;> rfl

theorem aboveUnit_ne {unit : Nat} (low : unit < 194) : aboveUnit unit ≠ unit := by
  unfold aboveUnit halfUnit moduleUnit
  split <;> omega

/-- The queue that a handler of a level serves. -/
theorem exec_errorRecordHandle_of {s : State} {level unit from_ : Nat} {r : ErrRec} (known : (level = 0 ∧ unit < 192) ∨ (level = 1 ∧ unit < 2))
    (is : from_ = if level = 0 then unit else halfUnit unit) (next : nextHandled (kget s.fire.queues {} from_).records = some r) :
    exec (.errorRecordHandle level unit) s = .next (({ s with fire := { s.fire with
      queues := kset s.fire.queues from_ { kget s.fire.queues {} from_ with records := (kget s.fire.queues {} from_).records.erase r } } } :
        State).enqueue (aboveUnit from_) r) := by
  subst is
  change execErrorRecordHandle level unit s = _
  unfold execErrorRecordHandle
  rcases known with ⟨rfl, small⟩ | ⟨rfl, small⟩
  · simp at next
    simp [next]
  · simp at next
    have low : ¬ 2 ≤ unit := Nat.not_le.mpr small
    simp [next, low]

/-- Settles O39: each message on the state its arrival leaves, and the record that is passed on. -/
theorem firebreakMessagesComplete : Obligations.FirebreakMessagesComplete := by
  unfold Obligations.FirebreakMessagesComplete
  refine ⟨fun s p slot here => ?_, fun s level unit r known => ?_⟩
  · intro u m job
    have found : (s.arrived p).slotOf (Firebreak.ofNat (ofBytes p.payload)).job = some slot := job
    have types (k : Nat) (is : m.type = k) : [k].contains (Firebreak.ofNat (ofBytes p.payload)).type = true := by
      rw [show (Firebreak.ofNat (ofBytes p.payload)).type = k from is]
      simp
    refine ⟨fun type step attempt => ?_, fun type stale => ?_, fun type => ?_, fun type mine => ?_, fun type other => ?_⟩
    · have current : (m.step == u.step slot && m.attempt == u.att slot) = true := by rw [step, attempt, beq_self_eq_true, beq_self_eq_true]; rfl
      refine congrArg Host.Outcome.next ((State.firebreak_of_arrives here (types 1 type) _).trans ?_)
      simp only [found]
      exact if_pos current
    · have old : ¬ (m.step == u.step slot && m.attempt == u.att slot) = true := by
        rw [Bool.and_eq_true, beq_iff_eq, beq_iff_eq]
        exact fun same => stale.elim (· same.1) (· same.2)
      refine congrArg Host.Outcome.next ((State.firebreak_of_arrives here (types 1 type) _).trans ?_)
      simp only [found]
      exact if_neg old
    · refine congrArg Host.Outcome.next ((State.firebreak_of_arrives here (types 2 type) _).trans ?_)
      simp only [found]
      rfl
    · refine congrArg Host.Outcome.next ((State.firebreak_of_arrives here (types 3 type) _).trans ?_)
      simp only [found]
      exact if_pos (beq_iff_eq.mpr mine)
    · refine congrArg Host.Outcome.next ((State.firebreak_of_arrives here (types 3 type) _).trans ?_)
      simp only [found]
      exact if_neg (fun same => other (beq_iff_eq.mp same))
  · intro from_ q next room
    have low : from_ < 194 := by
      rcases known with ⟨rfl, small⟩ | ⟨rfl, small⟩
      · exact Nat.lt_of_lt_of_le small (by decide)
      · change 192 + unit < 194
        omega
    have apart := aboveUnit_ne low
    let taken : State := { s with fire := { s.fire with queues := kset s.fire.queues from_ { q with records := q.records.erase r } } }
    have above : kget taken.fire.queues {} (aboveUnit from_) = kget s.fire.queues {} (aboveUnit from_) := kget_kset_other _ _ _ _ _ apart
    obtain ⟨x, q', eq, records, id, code⟩ := State.enqueue_of_room (s := taken) (unit := aboveUnit from_) (by rw [above]; exact room) r
    obtain ⟨inside, highest⟩ := nextHandled_highest next
    refine ⟨_, (exec_errorRecordHandle_of known rfl next).trans (congrArg Host.Outcome.next eq), ?_, ⟨x, ?_, id, code⟩, inside, highest, rfl, rfl,
      fun _ => rfl⟩
    · change (kget (kset taken.fire.queues (aboveUnit from_) q') {} from_).records = _
      rw [kget_kset_other _ _ _ _ _ apart.symm]
      exact congrArg ErrQueue.records (kget_kset_same ..)
    · change (kget (kset taken.fire.queues (aboveUnit from_) q') {} (aboveUnit from_)).records = _
      rw [kget_kset_same, records, above]

end Sys2Proof.Machine
end

section
/-! PROOFS. The seedbank's own events (R306, R310, R312, R313), with O40. -/

namespace Sys2Proof.Machine

variable {s : State} {slot : Nat} {g : Gen}

/-! ## Fold checks -/

theorem exec_foldCheckCompare_of {set : Nat} {e : BankSet} (gen : (s.job slot).gen = some g) (entry : s.bankEntry slot set = some e)
    (some_ : g.checks.any (fun c => c.2.1 == set) = true) (ready : s.foldReady g e = true) (live : g.abandoned = false) :
    let v := s.ownRead (e.parityOf g.gen) (e.paritySize * 65536)
    let good := v.foldAgrees g e
    let u := v.modJob slot (fun j => { j with gen := some { g with checks := g.checks.filter (fun c => c.2.1 != set) } })
    let w := (g.checks.filter (fun c => c.2.1 == set)).foldl (fun s c => s.answerFold g c good) u
    exec (.foldCheckCompare slot set) s = .next (if good then w else w.abandonGen slot) := by
  have mine : (g.checks.filter (fun c => c.2.1 == set)).isEmpty = false := by
    rw [Bool.eq_false_iff, Ne, List.isEmpty_iff, List.filter_eq_nil_iff]
    intro none
    obtain ⟨c, mem, is⟩ := List.any_eq_true.mp some_
    exact none c mem is
  change execFoldCheckCompare slot set s = _
  unfold execFoldCheckCompare
  simp only [gen, entry, mine, live, ready, Bool.or_true, Bool.not_true, Bool.or_self, Bool.false_eq_true, if_false, Bool.not_false,
    Bool.true_and]

/-! ## The commit of a generation -/

/-- A generation whose copy, twins and answers are all here. -/
structure GenWhole (g : Gen) (loss : BitVec 32) (dec : Nat) : Prop where
  verify : g.verify = some (loss, dec)
  copied : g.copied = true
  slots : g.slots = []
  awaiting : g.awaiting = []
  fresh : g.committed = false
  live : g.abandoned = false

/-- Does the header of a set's copy read with an error? -/
def State.headerFails (s : State) (slot : Nat) (g : Gen) : Bool :=
  (s.bankSets slot).any (fun (e : BankSet) => (s.firstFault (e.copyOf g.gen) 64).isSome)

theorem State.headerFails_iff : s.headerFails slot g = true ↔
    ∃ e ∈ s.bankSets slot, (s.firstFault (BankSet.copyOf e g.gen) 64).isSome = true := List.any_eq_true

section
variable {loss : BitVec 32} {dec : Nat} (gen : (s.job slot).gen = some g) (whole : GenWhole g loss dec)
include gen whole

theorem exec_generationCommit_bad (bad : s.headerFails slot g = true) : exec (.generationCommit slot) s = .next
    (((s.bankSets slot).foldl (fun s (e : BankSet) => s.ownRead (e.copyOf g.gen) 64) s).abandonGen slot) := by
  unfold State.headerFails at bad
  change execGenerationCommit slot s = _
  unfold execGenerationCommit
  simp only [gen, whole.verify, whole.copied, whole.slots, whole.awaiting, whole.fresh, whole.live, bad, List.isEmpty_nil, Bool.not_true,
    Bool.or_self, Bool.false_eq_true, if_false, if_true]

theorem exec_generationCommit_awake (good : s.headerFails slot g = false) (awake : s.stacksAsleep = false) :
    exec (.generationCommit slot) s = .next
      (((((s.commitWrites slot g loss dec).foldl (fun s w => s.ownWrite w.addr w.data) s).setOb Obj.generationCost g.cost).modJob slot
        (fun j => { j with gen := some { g with committed := true } })).sendGenDone slot { g with committed := true }) := by
  unfold State.headerFails at good
  change execGenerationCommit slot s = _
  unfold execGenerationCommit
  simp only [gen, whole.verify, whole.copied, whole.slots, whole.awaiting, whole.fresh, whole.live, good, awake, List.isEmpty_nil,
    Bool.not_true, Bool.or_self, Bool.false_eq_true, if_false]

/-- While the stacks are in self-refresh the words are held. -/
theorem exec_generationCommit_asleep (good : s.headerFails slot g = false) (asleep : s.stacksAsleep = true) (none : s.bank.heldCommits = [])
    (some_ : s.bankSets slot ≠ []) : exec (.generationCommit slot) s = .next
      { s with bank := { s.bank with heldCommits := s.commitWrites slot g loss dec } } := by
  have fresh : (s.commitWrites slot g loss dec).all (fun w => s.bank.heldCommits.contains w) = false := by
    obtain ⟨e, l, is⟩ := List.exists_cons_of_ne_nil some_
    unfold State.commitWrites
    rw [is, none]
    rfl
  unfold State.headerFails at good
  change execGenerationCommit slot s = _
  unfold execGenerationCommit
  simp only [gen, whole.verify, whole.copied, whole.slots, whole.awaiting, whole.fresh, whole.live, good, asleep, List.isEmpty_nil,
    Bool.not_true, Bool.or_self, Bool.false_eq_true, if_false, if_true, fresh]
  rw [none, List.nil_append]

end

/-! ## Answers of peers -/

/-- A generation that is abandoned, and counted. -/
theorem State.abandonGen_live (gen : (s.job slot).gen = some g) (live : g.abandoned = false) : s.abandonGen slot =
    (s.modJob slot (fun j => { j with gen := some { g with abandoned := true, awaiting := [] } })).bump Obj.gensAbandoned := by
  unfold State.abandonGen
  simp only [gen, live, Bool.false_eq_true, if_false]

theorem State.abandonGen_gen (gen : (s.job slot).gen = some g) (live : g.abandoned = false) :
    ((s.abandonGen slot).job slot).gen = some { g with abandoned := true, awaiting := [] } := by
  rw [State.abandonGen_live gen live]
  exact congrArg JobSt.gen (s.modJob_same slot (fun j => { j with gen := some { g with abandoned := true, awaiting := [] } }))

/-- What an answer to a seedbank request leaves in the generation that waits for it. -/
def State.askAnswered (s : State) (slot : Nat) (g : Gen) (ask : Nat × Nat) (status : Nat) : State :=
  if status = 0 then
    let left := g.awaiting.filter (· != ask)
    let cost := if left.isEmpty && g.slots.isEmpty then (s.now - g.copiedAt) / 1000000 else g.cost
    s.modJob slot (fun j => { j with gen := some { g with awaiting := left, cost := cost } })
  else s.abandonGen slot

/-- The state in which an answer without a packet in the buffers acts. -/
def State.askTaken (s : State) (src tag : Nat) : State :=
  { s.heard src with fab := { (s.heard src).fab with asks := (s.heard src).fab.asks.filter (fun x => !(x.1 == src && x.2.1 == tag)) } }

theorem exec_peerDictionaryResponse_of {src tag status : Nat} {what : PeerAsk}
    (asked : s.fab.asks.find? (fun x => x.1 == src && x.2.1 == tag) = some (src, tag, what)) (bank : what = .fold slot ∨ what = .twin slot)
    (gen : ((s.askTaken src tag).job slot).gen = some g) (live : g.abandoned = false) (waits : g.awaiting.contains (src, tag) = true)
    (none : s.dictPacket src tag = none) :
    exec (.peerDictionaryResponse src tag status) s = .next ((s.askTaken src tag).askAnswered slot g (src, tag) status) := by
  have sound : s.badDict src tag = .none := by
    unfold State.badDict
    rw [none]
    rfl
  unfold State.askTaken at gen
  change execPeerDictionaryResponse src tag status s = _
  unfold execPeerDictionaryResponse State.askAnswered State.askTaken
  by_cases ok : status = 0
  · rcases bank with rfl | rfl <;>
      simp only [sound, asked, none, gen, live, waits, ok, Bool.not_true, Bool.or_self, Bool.false_eq_true, if_false, bne_self_eq_false, if_true]
  · have failed : (status != 0) = true := bne_iff_ne.mpr ok
    rcases bank with rfl | rfl <;>
      simp only [sound, asked, none, gen, live, waits, ok, failed, Bool.not_true, Bool.or_self, Bool.false_eq_true, if_false, if_true]

/-- Settles O40: each event by the equation of its command. -/
theorem seedbankEventsComplete : Obligations.SeedbankEventsComplete := by
  unfold Obligations.SeedbankEventsComplete
  refine ⟨fun s slot set g e gen entry some_ ready live => exec_foldCheckCompare_of gen entry some_ ready live,
    fun s slot g loss dec gen verify copied slots awaiting fresh live => ?_, fun s slot g gen root late => ?_,
    fun s src tag status slot g what asked bank gen live waits none => ?_⟩
  · have whole : GenWhole g loss dec := ⟨verify, copied, slots, awaiting, fresh, live⟩
    refine ⟨fun bad => exec_generationCommit_bad gen whole (State.headerFails_iff.mpr bad), fun good awake => ?_, fun good asleep none some_ => ?_⟩
    · exact exec_generationCommit_awake gen whole (Bool.eq_false_iff.mpr (mt State.headerFails_iff.mp good)) awake
    · exact ⟨_, exec_generationCommit_asleep gen whole (Bool.eq_false_iff.mpr (mt State.headerFails_iff.mp good)) asleep none some_, rfl, rfl, rfl⟩
  · change execGenerationTimeout slot s = _
    unfold execGenerationTimeout
    simp only [gen, root, bne_self_eq_false, decide_eq_false (Nat.not_lt.mpr late), Bool.or_self, Bool.false_eq_true, if_false]
  · have heard := arrivalOnly_heard s src
    have job : ((s.askTaken src tag).job slot).gen = some g := (congrArg JobSt.gen (heard.job slot)).trans gen
    have asks : (s.askTaken src tag).fab.asks = s.fab.asks.filter (fun x => !(x.1 == src && x.2.1 == tag)) := by
      have same : (s.heard src).fab.asks = s.fab.asks := by rw [heard.fab]
      exact congrArg (List.filter fun (x : Nat × Nat × PeerAsk) => !(x.1 == src && x.2.1 == tag)) same
    have mem : (s.askTaken src tag).mem = s.mem := heard.mem
    have chan : (s.askTaken src tag).chan = s.chan := heard.chan
    have ob : (s.askTaken src tag).ob Obj.gensAbandoned = s.ob Obj.gensAbandoned := heard.ob _
    refine ⟨_, exec_peerDictionaryResponse_of asked bank job live waits none, ?_⟩
    generalize s.askTaken src tag = u at job asks mem chan ob
    unfold State.askAnswered
    by_cases ok : status = 0
    · rw [if_pos ok]
      refine ⟨asks, mem, chan, fun _ => ⟨_, congrArg JobSt.gen (u.modJob_same slot _), rfl, live⟩, fun failed => absurd ok failed⟩
    · rw [if_neg ok]
      have left := State.abandonGen_gen job live
      have count : (u.abandonGen slot).ob Obj.gensAbandoned = u.ob Obj.gensAbandoned + 1 := by
        rw [State.abandonGen_live job live]
        exact State.bump_same _ _
      obtain ⟨mem', chan', _⟩ := u.abandonGen_rest slot
      exact ⟨by rw [u.abandonGen_fab]; exact asks, mem'.trans mem, chan'.trans chan, fun ok' => absurd ok' ok,
        fun _ => ⟨_, left, rfl, count.trans (congrArg (· + 1) ob)⟩⟩

end Sys2Proof.Machine
end

section
/-! PROOFS. The periodic ticks of the power controller (R322 to R324, R330 to R337, R346 to R348), with O41. -/

namespace Sys2Proof.Machine

/-! ## A pass over stands -/

/-- A pass whose steps each change one stand, and no stand twice, under something every step keeps. -/
theorem foldl_stands {α : Type} {f : State → α → State} {key : α → Nat} {keeps : State → Prop} (holds : ∀ u x, keeps u → keeps (f u x))
    (other : ∀ u x k, k ≠ key x → (f u x).stand k = u.stand k) (l : List α) :
    ∀ s : State, keeps s → (l.map key).Nodup →
      keeps (l.foldl f s) ∧ (∀ k, k ∉ l.map key → (l.foldl f s).stand k = s.stand k) ∧
      ∀ x ∈ l, ∃ u, keeps u ∧ u.stand (key x) = s.stand (key x) ∧ (l.foldl f s).stand (key x) = (f u x).stand (key x) := by
  induction l with
  | nil => exact fun s start _ => ⟨start, fun _ _ => rfl, fun _ mem => (List.not_mem_nil mem).elim⟩
  | cons y l ih =>
    intro s start once
    obtain ⟨fresh, once⟩ := List.nodup_cons.mp once
    obtain ⟨ends, rest, each⟩ := ih (f s y) (holds s y start) once
    refine ⟨ends, fun k out => ?_, fun x mem => ?_⟩
    · have apart : k ≠ key y ∧ k ∉ l.map key := not_or.mp (mt List.mem_cons.mpr out)
      exact (rest k apart.2).trans (other s y k apart.1)
    · rcases List.mem_cons.mp mem with rfl | inside
      · exact ⟨s, start, rfl, rest _ fresh⟩
      · obtain ⟨u, kept, same, result⟩ := each x inside
        have apart : key x ≠ key y := fun is => fresh (is ▸ List.mem_map_of_mem inside)
        exact ⟨u, kept, same.trans (other s y _ apart), result⟩

/-! ## The interval of 10 µs -/

/-- `t` is `s` but for the stands, the sums of the pace and the count of beats withheld. -/
structure Throttled (s t : State) : Prop where
  rest : t = { s with
    stands := t.stands, power := { s.power with paceSum := t.power.paceSum, paceCount := t.power.paceCount }
    dict := { s.dict with objs := t.dict.objs } }
  ob : ∀ k, k ≠ Obj.bubbleBeats → t.ob k = s.ob k

namespace Throttled

variable {s t u : State}

theorem refl (s : State) : Throttled s s := ⟨rfl, fun _ _ => rfl⟩

theorem trans (a : Throttled s t) (b : Throttled t u) : Throttled s u where
  rest := b.rest.trans (congrArg (fun x : State => { x with
    stands := u.stands, power := { x.power with paceSum := u.power.paceSum, paceCount := u.power.paceCount }
    dict := { x.dict with objs := u.dict.objs } }) a.rest)
  ob k other := (b.ob k other).trans (a.ob k other)

theorem mem (a : Throttled s t) : t.mem = s.mem := (congrArg State.mem a.rest :)
theorem chan (a : Throttled s t) : t.chan = s.chan := (congrArg State.chan a.rest :)
theorem fab (a : Throttled s t) : t.fab = s.fab := (congrArg State.fab a.rest :)
theorem edge (a : Throttled s t) : t.edge = s.edge := (congrArg State.edge a.rest :)
theorem power (a : Throttled s t) :
    t.power = { s.power with paceSum := t.power.paceSum, paceCount := t.power.paceCount } := (congrArg State.power a.rest :)

theorem laterHeld (a : Throttled s t) : t.laterHeld = s.laterHeld := by
  unfold State.laterHeld
  rw [a.power]

/-- The leakage of a stand that is as before is as before. -/
theorem leak (a : Throttled s t) {n : Nat} (same : t.stand n = s.stand n) : t.leak n = s.leak n := by
  unfold State.leak
  rw [same, a.ob _ (by decide)]

theorem steady (a : Throttled s t) : t.steady = s.steady := by
  unfold State.steady State.shown State.cap State.caps
  rw [a.edge, a.ob _ (by decide)]

end Throttled

/-- A running stand withholds its share, and its task has drawn the interval's power. -/
def State.withholdOne (s : State) (x : Load × Nat) : State :=
  s.modStand x.1.stand (fun y =>
    let y := y.withhold s.laterHeld x.1.power x.2 x.1.peak
    match s.runningOn x.1.stand with
    | some t => { y with drawn := drew t x.1.power y.drawn }
    | none => y)

/-- One step of the throttle: a running stand, with its share of the budget. -/
def State.throttleOne (s : State) (x : Load × Nat) : State :=
  let beats := s.beats10 x.1.stand
  let w := ((s.withholdOne x).stand x.1.stand).w
  let u := (s.withholdOne x).modPower (fun p => { p with paceSum := p.paceSum + beats * w, paceCount := p.paceCount + beats })
  u.addOb Obj.bubbleBeats (beats * max w (u.matched x.1.stand) / 256)

theorem State.throttle_eq (s : State) (l : List (Load × Nat)) : s.throttle l = l.foldl State.throttleOne s := rfl

theorem throttled_throttleOne (s : State) (x : Load × Nat) : Throttled s (s.throttleOne x) :=
  ⟨rfl, fun _ other => State.addOb_other _ _ _ _ other⟩

theorem State.throttleOne_stands (s : State) (x : Load × Nat) : (s.throttleOne x).stands = (s.withholdOne x).stands := rfl

theorem State.throttleOne_other (s : State) (x : Load × Nat) {k : Nat} (apart : k ≠ x.1.stand) : (s.throttleOne x).stand k = s.stand k :=
  (State.stand_congr (s.throttleOne_stands x) k).trans (State.modStand_other _ _ apart)

/-- The share withheld on the stand (R330). -/
theorem State.throttleOne_w (s : State) (x : Load × Nat) : ((s.throttleOne x).stand x.1.stand).w =
    ((s.stand x.1.stand).withhold s.laterHeld x.1.power x.2 x.1.peak).w := by
  rw [State.stand_congr (s.throttleOne_stands x)]
  unfold State.withholdOne
  rw [State.modStand_same]
  dsimp only
  split <;> rfl

/-- The stands of the loads are those that run a task, each once. -/
theorem State.loads_stands (s : State) (a : PowerSample) : (s.loads a).map (·.stand) =
    (upto 192).filter (fun n => s.standEnabled n && (s.runningOn n).isSome) := by
  unfold State.loads
  rw [List.map_map]
  exact List.map_id' _

theorem divide_stands (budget reserve : Nat) (l : List Load) : (divide budget reserve l).map (·.1.stand) = l.map (·.stand) := by
  unfold divide
  rw [List.map_map]
  rfl

variable {s : State}

/-- What the throttle leaves: each load's share, and the other stands. -/
theorem State.throttle_leaves (a : PowerSample) (budget reserve : Nat) :
    let t := s.throttle (divide budget reserve (s.loads a))
    Throttled s t ∧ (∀ k, k ∉ (s.loads a).map (·.stand) → t.stand k = s.stand k) ∧
      ∀ x ∈ divide budget reserve (s.loads a), (t.stand x.1.stand).w = ((s.stand x.1.stand).withhold s.laterHeld x.1.power x.2 x.1.peak).w := by
  have once : ((divide budget reserve (s.loads a)).map (·.1.stand)).Nodup := by
    rw [divide_stands, s.loads_stands]
    exact List.nodup_range.filter _
  obtain ⟨kept, rest, each⟩ := foldl_stands (key := fun x : Load × Nat => x.1.stand) (keeps := Throttled s)
    (fun u x kept => kept.trans (throttled_throttleOne u x)) (fun u x k apart => u.throttleOne_other x apart) _ s (.refl s) once
  rw [State.throttle_eq]
  refine ⟨kept, fun k out => rest k (by rwa [divide_stands]), fun x mem => ?_⟩
  obtain ⟨u, kept, same, result⟩ := each x mem
  rw [result, u.throttleOne_w, same, kept.laterHeld]

/-- One step of the pass over the stands that run nothing. -/
def State.idleOne (spare : Nat) (s : State) (n : Nat) : State := s.modStand n (fun y => y.withhold s.laterHeld (s.leak n) spare (s.leak n))

/-- What the pass over the stands that run nothing leaves. -/
theorem State.throttleIdle_leaves (run : List Nat) (spare : Nat) :
    let t := s.throttleIdle run spare
    Throttled s t ∧ (∀ n, n < 192 → s.standEnabled n = true → n ∉ run →
      t.stand n = (s.stand n).withhold s.laterHeld (s.leak n) spare (s.leak n)) ∧
      ∀ k, (s.standEnabled k = false ∨ k ∈ run) → t.stand k = s.stand k := by
  have once : (((upto 192).filter (fun n => s.standEnabled n && !run.contains n)).map id).Nodup := by
    rw [List.map_id]
    exact List.nodup_range.filter _
  obtain ⟨kept, rest, each⟩ := foldl_stands (f := State.idleOne spare) (key := id) (keeps := Throttled s)
    (fun u x kept => kept.trans ⟨rfl, fun _ _ => rfl⟩) (fun u x k apart => State.modStand_other _ _ apart) _ s (.refl s) once
  refine ⟨kept, fun n low enabled idle => ?_, fun k out => rest k ?_⟩
  · obtain ⟨u, kept, same, result⟩ := each n (List.mem_filter.mpr ⟨List.mem_range.mpr low, by simp [enabled, idle]⟩)
    have own : (u.idleOne spare n).stand n = (u.stand n).withhold u.laterHeld (u.leak n) spare (u.leak n) := u.modStand_same n _
    have same : u.stand n = s.stand n := same
    refine (result.trans own).trans ?_
    rw [kept.laterHeld, kept.leak same, same]
  · rw [List.map_id, List.mem_filter, not_and]
    intro _ passes
    rcases out with off | inside
    · simp [off] at passes
    · simp [inside] at passes

/-! ## What follows the throttle -/

/-- `t` is `s` with other objects and another power, of which the correction and the energy before it stay. -/
structure Steadied (s t : State) : Prop where
  rest : t = { s with power := t.power, dict := { s.dict with objs := t.dict.objs } }
  k : t.power.k = s.power.k
  rawMw : t.power.rawMw = s.power.rawMw

namespace Steadied

variable {s t u : State}

theorem trans (a : Steadied s t) (b : Steadied t u) : Steadied s u where
  rest := b.rest.trans (congrArg (fun x : State => { x with power := u.power, dict := { x.dict with objs := u.dict.objs } }) a.rest)
  k := b.k.trans a.k
  rawMw := b.rawMw.trans a.rawMw

theorem mem (a : Steadied s t) : t.mem = s.mem := (congrArg State.mem a.rest :)
theorem chan (a : Steadied s t) : t.chan = s.chan := (congrArg State.chan a.rest :)
theorem fab (a : Steadied s t) : t.fab = s.fab := (congrArg State.fab a.rest :)
theorem stands (a : Steadied s t) : t.stands = s.stands := (congrArg State.stands a.rest :)

theorem refl (s : State) : Steadied s s := ⟨rfl, rfl, rfl⟩

theorem modPower (a : Steadied s t) {f : PowerSt → PowerSt} (k : ∀ p, (f p).k = p.k) (rawMw : ∀ p, (f p).rawMw = p.rawMw) :
    Steadied s (t.modPower f) := a.trans ⟨rfl, k _, rawMw _⟩

theorem addOb (a : Steadied s t) {k v : Nat} : Steadied s (t.addOb k v) := a.trans ⟨rfl, rfl, rfl⟩
theorem setBit (a : Steadied s t) {k n : Nat} {v : Bool} : Steadied s (t.setBit k n v) := a.trans ⟨rfl, rfl, rfl⟩
theorem bumpIf (a : Steadied s t) {k : Nat} {c : Bool} : Steadied s (if c then t.bump k else t) := by
  split
  · exact a.addOb
  · exact a

end Steadied

theorem steadied_yieldSteps (s : State) (power budget : Nat) : Steadied s (s.yieldSteps power budget) := by
  refine .modPower (.refl s) (fun p => ?_) (fun p => ?_)
  all_goals
    repeat' split
    all_goals rfl

theorem steadied_steadyLoad (s : State) (a : PowerSample) (power : Nat) : Steadied s (s.steadyLoad a power) := by
  unfold State.steadyLoad
  split
  · exact .modPower (.refl s) (fun _ => rfl) (fun _ => rfl)
  · dsimp only
    refine .setBit (.addOb (.modPower (.bumpIf (.modPower (.refl s) ?_ ?_)) ?_ ?_)) <;> exact fun _ => rfl

/-- Without steady load there is no ballast. -/
theorem State.steadyLoad_off {s : State} (off : s.steady = false) (a : PowerSample) (power : Nat) : (s.steadyLoad a power).power.ballastMw = 0 := by
  unfold State.steadyLoad
  rw [if_pos (by rw [off]; rfl)]
  rfl

/-- The interval's power enters the means and the energy. -/
theorem State.meter_leaves (s : State) (raw power : Nat) : let t := s.meter raw power
    t = { s with power := t.power, dict := { s.dict with objs := t.dict.objs } } ∧ t.power.powerMw = power + t.power.ballastMw ∧
      t.power.ballastMw = s.power.ballastMw ∧ t.power.rawMw = s.power.rawMw + raw + t.power.ballastMw * 4096 / s.power.k := by
  unfold State.meter
  dsimp only [State.setOb_power, State.addOb_power, State.modPower_power]
  refine ⟨rfl, ?_⟩
  split <;> exact ⟨rfl, rfl, rfl⟩

/-! ## The ticks -/

variable {s : State}

/-- The stands once each has its share of the budget. -/
def State.shared (s : State) (a : PowerSample) (power : Nat) : State :=
  let l := s.loads a
  (s.throttle (divide s.budget (power - (l.map (·.power)).sum) l)).throttleIdle (l.map (·.stand)) (s.budget - power)

/-- What the interval of 10 µs comes to. -/
def State.tenMicros (s : State) (a : PowerSample) : State :=
  let raw := withLosses (s.consumers (s.counted10 a))
  let power := withLosses (s.consumers (s.corrected (s.counted10 a)))
  let b := s.budget
  let l := s.loads a
  let s := ((s.shared a power).yieldSteps power b).steadyLoad a power
  let binds := decide (b < power) || l.any (fun x => (s.stand x.stand).w != 0) || decide (s.power.stackLimit < 16) ||
    decide (s.power.linkLimit < 16)
  let matching := l.any (fun x => decide ((s.stand x.stand).w < s.matched x.stand))
  ((s.setBit Obj.powerStatus 1 binds).setBit Obj.powerStatus 9 matching).meter raw power

theorem exec_powerModelTick_due {a : PowerSample} (powered : s.edge.powered = true) (due : s.due 0 10000 = true) :
    exec (.powerModelTick a) s = .next ((s.ticked 0).tenMicros a) := by
  change execPowerModelTick a s = _
  unfold execPowerModelTick
  simp only [powered, due, Bool.not_true, Bool.or_self, Bool.false_eq_true, if_false]
  rfl

/-- The shares of an interval, on each kind of stand. -/
theorem State.shared_leaves (a : PowerSample) (power : Nat) : let t := s.shared a power
    Throttled s t ∧
    (∀ x ∈ divide s.budget (power - ((s.loads a).map (·.power)).sum) (s.loads a),
      (t.stand x.1.stand).w = ((s.stand x.1.stand).withhold s.laterHeld x.1.power x.2 x.1.peak).w) ∧
    (∀ n, n < 192 → s.standEnabled n = true → s.runningOn n = none →
      t.stand n = (s.stand n).withhold s.laterHeld (s.leak n) (s.budget - power) (s.leak n)) ∧
    (∀ n, s.standEnabled n = false → t.stand n = s.stand n) := by
  obtain ⟨first, others, each⟩ := s.throttle_leaves a s.budget (power - ((s.loads a).map (·.power)).sum)
  obtain ⟨second, idle, kept⟩ := State.throttleIdle_leaves (s := s.throttle (divide s.budget (power - ((s.loads a).map (·.power)).sum) (s.loads a)))
    ((s.loads a).map (·.stand)) (s.budget - power)
  have enabled (n : Nat) : (s.throttle (divide s.budget (power - ((s.loads a).map (·.power)).sum) (s.loads a))).standEnabled n = s.standEnabled n := by
    unfold State.standEnabled State.fenced State.halfRuns
    by_cases low : n < 192
    · rw [first.ob _ (by unfold Obj.standState Obj.bubbleBeats; omega), first.ob _ (by unfold Obj.halfState Obj.bubbleBeats; omega)]
    · simp only [decide_eq_false low, Bool.false_and]
  have member (n : Nat) : n ∈ (s.loads a).map (·.stand) ↔ n < 192 ∧ s.standEnabled n = true ∧ (s.runningOn n).isSome = true := by
    rw [s.loads_stands, List.mem_filter, Bool.and_eq_true]
    exact and_congr_left' List.mem_range
  refine ⟨first.trans second, fun x mem => ?_, fun n low on free => ?_, fun n off => ?_⟩
  · have inside : x.1.stand ∈ (s.loads a).map (·.stand) := by
      rw [← divide_stands s.budget (power - ((s.loads a).map (·.power)).sum)]
      exact List.mem_map_of_mem mem
    exact (congrArg StandSt.w (kept _ (.inr inside))).trans (each x mem)
  · have out : n ∉ (s.loads a).map (·.stand) := by
      rw [member, free]
      exact fun h => Bool.noConfusion h.2.2
    have same := others n out
    exact (idle n low ((enabled n).trans on) out).trans (by rw [same, first.laterHeld, first.leak same])
  · refine (kept n (.inl ((enabled n).trans off))).trans (others n ?_)
    rw [member, off]
    exact fun h => Bool.noConfusion h.2.1

/-- What an interval leaves: the shares, the power with its ballast, and memory, channels and fabric as they were. -/
theorem State.tenMicros_leaves (a : PowerSample) : let t := s.tenMicros a
    let raw := withLosses (s.consumers (s.counted10 a))
    let power := withLosses (s.consumers (s.corrected (s.counted10 a)))
    t.stands = (s.shared a power).stands ∧ t.power.powerMw = power + t.power.ballastMw ∧ (s.steady = false → t.power.ballastMw = 0) ∧
    t.power.rawMw = s.power.rawMw + raw + t.power.ballastMw * 4096 / s.power.k ∧ t.mem = s.mem ∧ t.chan = s.chan ∧ t.fab = s.fab := by
  intro t raw power
  have shares := (s.shared_leaves a power).1
  have yields := steadied_yieldSteps (s.shared a power) power s.budget
  have steadies := yields.trans (steadied_steadyLoad ((s.shared a power).yieldSteps power s.budget) a power)
  have off := State.steadyLoad_off (s := (s.shared a power).yieldSteps power s.budget) (a := a) (power := power)
  have steady : ((s.shared a power).yieldSteps power s.budget).steady = s.steady := shares.steady
  rw [steady] at off
  let v := ((s.shared a power).yieldSteps power s.budget).steadyLoad a power
  obtain ⟨b, c, is⟩ : ∃ b c, t = ((v.setBit Obj.powerStatus 1 b).setBit Obj.powerStatus 9 c).meter raw power := ⟨_, _, rfl⟩
  have bits : Steadied (s.shared a power) ((v.setBit Obj.powerStatus 1 b).setBit Obj.powerStatus 9 c) := steadies.setBit.setBit
  obtain ⟨rest, total, ballast, energy⟩ := State.meter_leaves ((v.setBit Obj.powerStatus 1 b).setBit Obj.powerStatus 9 c) raw power
  rw [← is] at rest total ballast energy
  have k : (s.shared a power).power.k = s.power.k := by rw [shares.power]
  have rawMw : (s.shared a power).power.rawMw = s.power.rawMw := by rw [shares.power]
  refine ⟨(congrArg State.stands rest).trans bits.stands, total, fun calm => ballast.trans (off calm), ?_,
    (congrArg State.mem rest).trans (bits.mem.trans shares.mem), (congrArg State.chan rest).trans (bits.chan.trans shares.chan),
    (congrArg State.fab rest).trans (bits.fab.trans shares.fab)⟩
  rw [energy, bits.rawMw, bits.k, k, rawMw]

/-! ## The correction and the rails -/

/-- The correction lies within 0.90 and 1.10 of 4,096 (R323). -/
theorem correction_bounds {m raw : Nat} (some_ : raw ≠ 0) :
    let k := if m * 10 < raw * 9 then 3686 else if raw * 11 < m * 10 then 4506 else (m * 4096 + raw / 2) / raw
    3686 ≤ k ∧ k ≤ 4506 := by
  have pos : 0 < raw := Nat.pos_of_ne_zero some_
  intro k
  by_cases low : m * 10 < raw * 9
  · simp only [k, if_pos low]
    decide
  · by_cases high : raw * 11 < m * 10
    · simp only [k, if_neg low, if_pos high]
      decide
    · simp only [k, if_neg low, if_neg high]
      constructor
      · rw [Nat.le_div_iff_mul_le pos]
        omega
      · rw [← Nat.lt_succ_iff, Nat.div_lt_iff_lt_mul pos]
        omega

/-- `t` is `s` but for the stands. -/
def StandsOnly (s t : State) : Prop := t = { s with stands := t.stands }

/-- The rail of a stand follows from that stand and what no stand holds. -/
theorem StandsOnly.adjustRail {t : State} (only : StandsOnly s t) {n : Nat} (same : t.stand n = s.stand n) :
    (t.adjustRail n).stand n = (s.adjustRail n).stand n := by
  have ob : t.ob Obj.tjMax = s.ob Obj.tjMax := by
    unfold StandsOnly at only
    rw [only]
    rfl
  unfold State.adjustRail State.powerUp State.leak State.minRail
  simp only [State.modStand_same, same, ob]

/-- The pass over the rails: each enabled stand on its own. -/
theorem State.rails_leave : let t := ((upto 192).filter s.standEnabled).foldl (fun s n => s.adjustRail n) s
    StandsOnly s t ∧ (∀ n, n < 192 → s.standEnabled n = true → t.stand n = (s.adjustRail n).stand n) ∧
      ∀ n, s.standEnabled n = false → t.stand n = s.stand n := by
  have once : (((upto 192).filter s.standEnabled).map id).Nodup := by
    rw [List.map_id]
    exact List.nodup_range.filter _
  have step (u : State) (n : Nat) (kept : StandsOnly s u) : StandsOnly s (u.adjustRail n) := by
    unfold StandsOnly at kept ⊢
    rw [kept]
    rfl
  obtain ⟨kept, rest, each⟩ := foldl_stands (f := fun s n => s.adjustRail n) (key := id) (keeps := StandsOnly s)
    step (fun u x k apart => State.modStand_other _ _ apart) _ s rfl once
  refine ⟨kept, fun n low enabled => ?_, fun k out => rest k ?_⟩
  · obtain ⟨u, only, same, result⟩ := each n (List.mem_filter.mpr ⟨List.mem_range.mpr low, enabled⟩)
    have same : u.stand n = s.stand n := same
    exact result.trans (only.adjustRail same)
  · rw [List.map_id, List.mem_filter, not_and]
    exact fun _ on => Bool.noConfusion (out.symm.trans on)

/-- The sums of a stand's shares start afresh. -/
theorem State.adjustRail_sums (s : State) (n : Nat) : ((s.adjustRail n).stand n).wSum = 0 ∧ ((s.adjustRail n).stand n).wCount = 0 := by
  unfold State.adjustRail
  rw [State.modStand_same]
  exact ⟨rfl, rfl⟩

/-- OWN_PACE of the millisecond (R335). -/
def State.pace (s : State) : Nat := if s.power.paceCount = 0 then 0 else min 224 (s.power.paceSum / s.power.paceCount)

/-- The greatest pace of each job's slot. -/
def State.notePace (s : State) (pace : Nat) : State :=
  (upto 16).foldl (fun s slot => if (s.jobOf slot).isSome then s.modJob slot (fun j => { j with maxPace := max j.maxPace pace }) else s) s

/-- It changes the jobs alone. -/
theorem State.notePace_field {β : Type} (field : State → β) (keeps : ∀ u slot f, field (State.modJob u slot f) = field u) (pace : Nat) (s : State) :
    field (s.notePace pace) = field s := by
  refine foldl_field field (fun u slot => ?_) _ s
  split
  · exact keeps u slot _
  · rfl

/-- What a millisecond comes to. -/
def State.millisecond (s : State) : State :=
  let pace := s.pace
  let s := ((upto 192).filter s.standEnabled).foldl (fun s n => s.adjustRail n) s
  let s := (s.setOb Obj.ownPace pace).modPower (fun p => { p with
    paceSum := 0, paceCount := 0
    paceSince := if pace = 0 then none else some (p.paceSince.getD s.now)
    idleSince := if pace = 0 then some (p.idleSince.getD s.now) else none })
  s.notePace pace

theorem exec_railAdjustTick_due (powered : s.edge.powered = true) (due : s.due 2 1000000 = true) :
    exec .railAdjustTick s = .next (s.ticked 2).millisecond := by
  change execRailAdjustTick s = _
  unfold execRailAdjustTick
  simp only [powered, due, Bool.not_true, Bool.or_self, Bool.false_eq_true, if_false]
  rfl

theorem State.millisecond_leaves : s.millisecond.stands = (((upto 192).filter s.standEnabled).foldl (fun s n => s.adjustRail n) s).stands ∧
    s.millisecond.ob Obj.ownPace = s.pace ∧ s.millisecond.mem = s.mem ∧ s.millisecond.chan = s.chan := by
  have rails := (s.rails_leave).1
  unfold StandsOnly at rails
  unfold State.millisecond
  dsimp only
  generalize ((upto 192).filter s.standEnabled).foldl (fun s n => s.adjustRail n) s = u at rails
  have mem : u.mem = s.mem := (congrArg State.mem rails :)
  have chan : u.chan = s.chan := (congrArg State.chan rails :)
  refine ⟨State.notePace_field State.stands (fun _ _ _ => rfl) _ _, ?_, (State.notePace_field State.mem (fun _ _ _ => rfl) _ _).trans mem,
    (State.notePace_field State.chan (fun _ _ _ => rfl) _ _).trans chan⟩
  exact (State.notePace_field (fun s => s.ob Obj.ownPace) (fun _ _ _ => rfl) _ _).trans (u.setOb_same _ _)

/-- The model corrected by k, with the input power it was measured by. -/
def State.recorrected (s : State) (watts k : Nat) (out : Bool) : State :=
  ((((s.setOb Obj.inputPower watts).modPower (fun p => { p with k := k, rawMw := 0 })).setOb Obj.modelCorrection k).setBit Obj.powerStatus 11 out)

theorem State.recorrected_leaves (s : State) (watts k : Nat) (out : Bool) : let t := s.recorrected watts k out
    t.ob Obj.inputPower = watts ∧ t.ob Obj.modelCorrection = k ∧ t.power.k = k ∧ t.power.rawMw = 0 ∧ t.mem = s.mem ∧ t.chan = s.chan ∧
      t.stands = s.stands := by
  have other (key : Nat) (apart : key ≠ Obj.powerStatus) (v : State) : (v.setBit Obj.powerStatus 11 out).ob key = v.ob key :=
    State.setOb_other _ _ _ _ apart
  unfold State.recorrected
  refine ⟨?_, ?_, rfl, rfl, rfl, rfl, rfl⟩
  · rw [other Obj.inputPower (by decide), State.setOb_other _ _ _ _ (by decide), State.modPower_ob, State.setOb_same]
  · rw [other Obj.modelCorrection (by decide), State.setOb_same]

/-- What the correction of the model comes to. -/
theorem exec_modelCorrectionTick_due {mj : Nat} (powered : s.edge.powered = true) (due : s.due 1 100000000 = true) (some_ : s.power.rawMw ≠ 0) :
    ∃ k out, 3686 ≤ k ∧ k ≤ 4506 ∧ exec (.modelCorrectionTick mj) s = .next ((s.ticked 1).recorrected (mj / 100) k out) := by
  obtain ⟨low, high⟩ := correction_bounds (m := mj * 100000) some_
  refine ⟨_, decide (mj * 100000 * 10 < s.power.rawMw * 9) || decide (s.power.rawMw * 11 < mj * 100000 * 10), low, high, ?_⟩
  have raw : ((s.ticked 1).setOb Obj.inputPower (mj / 100)).power.rawMw = s.power.rawMw := rfl
  change execModelCorrectionTick mj s = _
  unfold execModelCorrectionTick
  simp only [powered, due, Bool.not_true, Bool.or_self, Bool.false_eq_true, if_false, raw, some_]
  rfl

/-- Settles O41: each tick by what it comes to. -/
theorem powerTicksComplete : Obligations.PowerTicksComplete := by
  unfold Obligations.PowerTicksComplete
  intro s powered
  refine ⟨fun a due => ?_, fun mj due some_ => ?_, fun due => ?_⟩
  · obtain ⟨stands, total, off, energy, mem, chan, fab⟩ := (s.ticked 0).tenMicros_leaves a
    obtain ⟨_, shares, idle, others⟩ := (s.ticked 0).shared_leaves a (withLosses ((s.ticked 0).consumers ((s.ticked 0).corrected ((s.ticked 0).counted10 a))))
    refine ⟨_, exec_powerModelTick_due powered due, fun x mem => ?_, fun n low on free => ?_, fun n off => ?_, total, off, energy, mem, chan, fab⟩
    · exact (congrArg StandSt.w (State.stand_congr stands _)).trans (shares x mem)
    · exact (State.stand_congr stands _).trans (idle n low on free)
    · exact (State.stand_congr stands _).trans (others n off)
  · obtain ⟨k, out, low, high, run⟩ := exec_modelCorrectionTick_due (mj := mj) powered due some_
    obtain ⟨input, correction, isK, raw, mem, chan, stands⟩ := (s.ticked 1).recorrected_leaves (mj / 100) k out
    exact ⟨_, run, input, correction.trans isK.symm, isK ▸ low, isK ▸ high, raw, mem, chan, stands⟩
  · obtain ⟨stands, pace, mem, chan⟩ := (s.ticked 2).millisecond_leaves
    obtain ⟨_, each, others⟩ := (s.ticked 2).rails_leave
    refine ⟨_, exec_railAdjustTick_due powered due, fun n low on => ?_, fun n _ off => ?_, pace, mem, chan⟩
    · have own := (State.stand_congr stands n).trans (each n low on)
      obtain ⟨sum, count⟩ := (s.ticked 2).adjustRail_sums n
      exact ⟨congrArg StandSt.rail own, (congrArg StandSt.wSum own).trans sum, (congrArg StandSt.wCount own).trans count⟩
    · exact (State.stand_congr stands n).trans (others n off)

end Sys2Proof.Machine
end

section
/-! PROOFS. The events of budget lending (R339 to R341, R343), with O42. -/

namespace Sys2Proof.Machine

variable {s t u : State}

/-- `t` is `s` with `n` packets more to send, and of the power and the fabric nothing else than numbers of messages and what they wait for. -/
structure MessagesSent (n : Nat) (s t : State) : Prop where
  queue : t.fab.sendQ.length = s.fab.sendQ.length + n
  lent : t.power.lent = s.power.lent
  borrowed : t.power.borrowed = s.power.borrowed
  mem : t.mem = s.mem
  chan : t.chan = s.chan

theorem MessagesSent.trans {n k : Nat} (a : MessagesSent n s t) (b : MessagesSent k t u) : MessagesSent (n + k) s u where
  queue := by rw [b.queue, a.queue, Nat.add_assoc]
  lent := b.lent.trans a.lent
  borrowed := b.borrowed.trans a.borrowed
  mem := b.mem.trans a.mem
  chan := b.chan.trans a.chan

/-- A loan message is one packet. -/
theorem messagesSent_sendLoan (s : State) (peer type lender borrower watts : Nat) :
    MessagesSent 1 s (s.sendLoan peer type lender borrower watts) :=
  ⟨List.length_append, rfl, rfl, rfl, rfl⟩

theorem messagesSent_foldl {α : Type} {f : State → α → State} (step : ∀ u x, MessagesSent 1 u (f u x)) (l : List α) :
    ∀ s : State, MessagesSent l.length s (l.foldl f s) := by
  induction l with
  | nil => exact fun s => ⟨rfl, rfl, rfl, rfl, rfl⟩
  | cons x l ih =>
    intro s
    have all := (step s x).trans (ih (f s x))
    rw [Nat.add_comm] at all
    exact all

/-- Settles O42: each event by the equation of its command. -/
theorem lendingEventsComplete : Obligations.LendingEventsComplete := by
  unfold Obligations.LendingEventsComplete
  intro s
  refine ⟨fun t since late may own short => ?_, fun t l since late newest spare => ?_, fun l newest short => ?_, fun due => ?_⟩
  · change execBorrowTrigger s = _
    unfold execBorrowTrigger
    simp only [since, decide_eq_true late, may, own, short, beq_self_eq_true, Bool.and_self, if_true]
  · change execLoanReturnTrigger s = _
    unfold execLoanReturnTrigger
    simp only [since, decide_eq_true late, newest, decide_eq_true spare, Bool.and_self, if_true]
  · change execLoanRecallTrigger s = _
    unfold execLoanRecallTrigger
    simp only [newest, short, if_true]
  · by_cases none : s.power.lent = []
    · refine ⟨s, ?_, by rw [none]; rfl, rfl, rfl, rfl, rfl⟩
      change execLoanAuditTimer s = _
      unfold execLoanAuditTimer
      rw [none]
      rfl
    · have some_ : s.power.lent.isEmpty = false := by rw [Bool.eq_false_iff, Ne, List.isEmpty_iff]; exact none
      have sent := messagesSent_foldl (f := fun s (l : Loan) => s.sendLoan l.peer 6 s.me l.peer l.watts)
        (fun u l => messagesSent_sendLoan u l.peer 6 u.me l.peer l.watts) s.power.lent (s.ticked 6)
      refine ⟨_, ?_, sent.queue, sent.lent, sent.borrowed, sent.mem, sent.chan⟩
      change execLoanAuditTimer s = _
      unfold execLoanAuditTimer
      simp only [some_, due, Bool.not_true, Bool.or_self, Bool.false_eq_true, if_false]

end Sys2Proof.Machine
end

section
/-! PROOFS. Limiters, alerts and THERMTRIP (R350 to R352), with O43. -/

namespace Sys2Proof.Machine

variable {s t u : State}

/-! ## Causes of ALERT_N -/

/-- Every cause but QUEUE_OVERFLOW is raised in `t` just where it is in `s`. -/
def SameAlerts (s t : State) : Prop := ∀ a, a ≠ Alert.queueOverflow → (a ∈ t.edge.alerts ↔ a ∈ s.edge.alerts)

namespace SameAlerts

theorem of_eq (same : t.edge.alerts = s.edge.alerts) : SameAlerts s t := fun a _ => by rw [same]

theorem trans (a : SameAlerts s t) (b : SameAlerts t u) : SameAlerts s u := fun x other => (b x other).trans (a x other)

end SameAlerts

theorem State.mem_raise_iff (s : State) (a b : Alert) : b ∈ (s.raise a).edge.alerts ↔ b ∈ s.edge.alerts ∨ b = a := by
  unfold State.raise
  split
  · next held =>
    have held : a ∈ s.edge.alerts := by simpa using held
    exact ⟨.inl, fun h => h.elim id fun same => same ▸ held⟩
  · simp

theorem sameAlerts_loseRecord (s : State) (unit : Nat) (lost : ErrRec) (q : ErrQueue) : SameAlerts s (s.loseRecord unit lost q) := by
  unfold State.loseRecord
  dsimp only
  split
  · intro a other
    rw [State.mem_raise_iff]
    exact ⟨fun h => h.elim id fun same => absurd same other, .inl⟩
  · exact .of_eq rfl

theorem sameAlerts_enqueue (s : State) (unit : Nat) (r : ErrRec) : SameAlerts s (s.enqueue unit r) := by
  unfold State.enqueue
  dsimp only
  split
  · exact .of_eq rfl
  · split
    · split <;> exact sameAlerts_loseRecord _ _ _ _
    · exact sameAlerts_loseRecord _ _ _ _

theorem sameAlerts_sign (s : State) (r : ErrRec) (info : SigInfo) : SameAlerts s (s.sign r info) := by
  unfold State.sign
  split
  · split <;> exact .of_eq rfl
  · exact .of_eq rfl

/-- An error record raises no cause but QUEUE_OVERFLOW. -/
theorem sameAlerts_log (s : State) (r : ErrRec) : SameAlerts s (s.log r) := by
  have numbered : SameAlerts s { s with fire := { s.fire with nextRecord := (s.fire.nextRecord + 1) % 2 ^ 32 } } := .of_eq rfl
  exact (numbered.trans (sameAlerts_enqueue _ _ _)).trans (sameAlerts_sign _ _ _)

/-! ## Readings -/

/-- What a reading of Tj leaves: its object and its cause of ALERT_N. -/
theorem State.readTj_leaves (s : State) (tj : Int) : (s.readTj tj).ob Obj.tjMax = ofInt32 tj ∧
    (∀ k, k ≠ Obj.tjMax → (s.readTj tj).ob k = s.ob k) ∧ (Alert.tj ∈ (s.readTj tj).edge.alerts ↔ 1100 ≤ tj) ∧
    s.readTj tj = { s with dict := (s.readTj tj).dict, edge := { s.edge with alerts := (s.readTj tj).edge.alerts } } := by
  have raised (v : State) : (v.raise .tj).dict = v.dict := by unfold State.raise; split <;> rfl
  unfold State.readTj
  dsimp only
  split
  · next hot =>
    have same (k : Nat) : ((s.setOb Obj.tjMax (ofInt32 tj)).raise .tj).ob k = (s.setOb Obj.tjMax (ofInt32 tj)).ob k :=
      State.ob_congr (congrArg DictSt.objs (raised _)) k
    refine ⟨(same _).trans (s.setOb_same _ _), fun k other => (same k).trans (s.setOb_other _ _ _ other),
      ⟨fun _ => hot, fun _ => State.mem_raise _ _⟩, ?_⟩
    unfold State.raise
    split <;> rfl
  · next cold =>
    exact ⟨s.setOb_same _ _, fun k other => s.setOb_other _ _ _ other, ⟨fun held => absurd held (State.not_mem_calm _ _), fun hot => absurd hot cold⟩,
      rfl⟩

/-- The cap in force follows from the objects of the power controller, the loans, PWRBRK_N and the capabilities. -/
theorem State.capInForce_congr (ob : ∀ k, k ∈ [Obj.powerCap, Obj.steadySetpoint, Obj.shedLevel, Obj.steadyEnable] → t.ob k = s.ob k)
    (lent : t.power.lent = s.power.lent) (borrowed : t.power.borrowed = s.power.borrowed) (brake : t.edge.pwrbrk = s.edge.pwrbrk)
    (caps : t.caps = s.caps) : t.capInForce = s.capInForce := by
  unfold State.capInForce State.steady State.shown State.cap State.capNoSteady State.userCap State.borrowedSum State.lentSum State.pwrbrk State.shed
  rw [lent, borrowed, brake, caps, ob Obj.powerCap (by decide), ob Obj.steadySetpoint (by decide), ob Obj.shedLevel (by decide),
    ob Obj.steadyEnable (by decide)]

/-! ## Limiters (R350, R351) -/

theorem limiter_hot (now : Option Nat) (cap down up : Nat) (cool : Bool) :
    limiter now cap true cool down up = some (max 1100000 (now.getD cap - down)) := rfl

theorem limiter_cool (x cap down up : Nat) :
    limiter (some x) cap false true down up = if cap ≤ x + up then none else some (x + up) := rfl

theorem limiter_off (cap down up : Nat) (cool : Bool) : limiter none cap false cool down up = none := rfl

/-- A limiter's next limit, by its threshold and its reading. -/
def limitFor (now : Option Nat) (cap : Nat) (at_ reading : Int) (down up : Nat) : Option Nat :=
  limiter now cap (decide (at_ ≤ reading)) (decide (reading < at_ - 20)) down up

/-- The three cases of a limiter (R351). -/
theorem limitFor_cases (now : Option Nat) (cap : Nat) (at_ reading : Int) (down up : Nat) :
    (at_ ≤ reading → limitFor now cap at_ reading down up = some (max 1100000 (now.getD cap - down))) ∧
    (reading < at_ - 20 → ∀ x, now = some x → limitFor now cap at_ reading down up = if cap ≤ x + up then none else some (x + up)) ∧
    (reading < at_ → now = none → limitFor now cap at_ reading down up = none) := by
  unfold limitFor
  refine ⟨fun hot => ?_, fun cool x is => ?_, fun below is => ?_⟩
  · rw [decide_eq_true hot, limiter_hot]
  · rw [is, decide_eq_false (by omega), decide_eq_true cool, limiter_cool]
  · rw [is, decide_eq_false (by omega), limiter_off]

/-- A limiter's new limit, with the record of its first and the count of its time. -/
def State.limitThermal (s : State) (x : Option Nat) : State :=
  let s := if s.power.thermal.isNone && x.isSome then s.log (errRec 0x0503) else s
  let s := if x.isSome then s.bump Obj.thermalTime else s
  (s.modPower (fun p => { p with thermal := x })).setBit Obj.powerStatus 2 x.isSome

theorem State.limitThermal_leaves (s : State) (x : Option Nat) : let t := s.limitThermal x
    t.power = { s.power with thermal := x } ∧ t.ob Obj.tjMax = s.ob Obj.tjMax ∧ SameAlerts s t ∧ t.mem = s.mem ∧ t.chan = s.chan := by
  obtain ⟨u, told, alerts, is⟩ : ∃ u, Reported [Obj.thermalTime] s u ∧ SameAlerts s u ∧
      s.limitThermal x = (u.modPower (fun p => { p with thermal := x })).setBit Obj.powerStatus 2 x.isSome := by
    have first (v : State) (b : Bool) : Reported [Obj.thermalTime] v (if b then v.log (errRec 0x0503) else v) ∧
        SameAlerts v (if b then v.log (errRec 0x0503) else v) := by
      cases b
      · exact ⟨.refl _ _, .of_eq rfl⟩
      · exact ⟨reported_log _ _ _, sameAlerts_log _ _⟩
    have timed (v : State) (b : Bool) : Reported [Obj.thermalTime] v (if b then v.bump Obj.thermalTime else v) ∧
        SameAlerts v (if b then v.bump Obj.thermalTime else v) := by
      cases b
      · exact ⟨.refl _ _, .of_eq rfl⟩
      · exact ⟨reported_bump _ List.mem_cons_self, .of_eq rfl⟩
    exact ⟨_, (first s _).1.trans (timed _ _).1, (first s _).2.trans (timed _ _).2, rfl⟩
  rw [is]
  have tj : u.ob Obj.tjMax = s.ob Obj.tjMax := told.ob _ (by unfold Quiet; decide) (by decide)
  exact ⟨congrArg (fun p : PowerSt => { p with thermal := x }) told.power, (State.setOb_other _ _ _ _ (by decide)).trans tj, alerts.trans (.of_eq rfl),
    told.mem, told.chan⟩

/-- What a tick of the Tj limiter leaves. -/
theorem State.thermalLimiterTick_leaves (on : s.edge.powered = true) (due : s.due 3 1000000 = true) (tj : Int) :
    ∃ t, exec (.thermalLimiterTick tj) s = .next t ∧ t.ob Obj.tjMax = ofInt32 tj ∧ (Alert.tj ∈ t.edge.alerts ↔ 1100 ≤ tj) ∧
      t.power.thermal = limitFor s.power.thermal (s.capInForce * 1000) (toInt32 (s.ob Obj.throttleTj)) tj 50000 10000 ∧
      t.power.outlet = s.power.outlet ∧ t.mem = s.mem ∧ t.chan = s.chan := by
  obtain ⟨reading, others, alerting, frame⟩ := (s.ticked 3).readTj_leaves tj
  have power : ((s.ticked 3).readTj tj).power = (s.ticked 3).power := (congrArg State.power frame :)
  have brake : ((s.ticked 3).readTj tj).edge.pwrbrk = s.edge.pwrbrk := (congrArg (fun v : State => v.edge.pwrbrk) frame :)
  have frameMem : ((s.ticked 3).readTj tj).mem = s.mem := (congrArg State.mem frame :)
  have frameChan : ((s.ticked 3).readTj tj).chan = s.chan := (congrArg State.chan frame :)
  have throttle : ((s.ticked 3).readTj tj).ob Obj.throttleTj = s.ob Obj.throttleTj := others _ (by decide)
  have cap : ((s.ticked 3).readTj tj).capInForce = s.capInForce :=
    State.capInForce_congr (fun k listed => others k (fun is => absurd (is ▸ listed) (by decide))) (congrArg PowerSt.lent power :)
      (congrArg PowerSt.borrowed power :) brake (congrArg (fun v : State => v.caps) frame :)
  have thermal : ((s.ticked 3).readTj tj).power.thermal = s.power.thermal := (congrArg PowerSt.thermal power :)
  let x := limitFor s.power.thermal (s.capInForce * 1000) (toInt32 (s.ob Obj.throttleTj)) tj 50000 10000
  have run : exec (.thermalLimiterTick tj) s = .next (((s.ticked 3).readTj tj).limitThermal x) := by
    change execThermalLimiterTick tj s = _
    unfold execThermalLimiterTick
    rw [on, due]
    dsimp only [x, State.limitThermal, limitFor]
    rw [← throttle, ← cap, ← thermal]
    rfl
  obtain ⟨limited, max, same, mem, chan⟩ := ((s.ticked 3).readTj tj).limitThermal_leaves x
  refine ⟨_, run, max.trans reading, (same _ (by decide)).trans alerting, ?_, ?_, mem.trans frameMem, chan.trans frameChan⟩
  · rw [limited]
  · rw [limited, power]
    rfl

/-- A tick of the outlet limiter has taken its reading. -/
def State.readOutlet (s : State) (outlet : Int) : State := ((s.ticked 4).setOb Obj.outletTemp (ofInt32 outlet)).estimateFlow

theorem State.readOutlet_leaves (s : State) (outlet : Int) : let u := s.readOutlet outlet
    u.ob Obj.outletTemp = ofInt32 outlet ∧ (∀ k, k ≠ 0x201005 → k ≠ Obj.outletTemp → u.ob k = s.ob k) ∧ u.capInForce = s.capInForce ∧
      u.power.outlet = s.power.outlet ∧ u.power.thermal = s.power.thermal ∧ u.mem = s.mem ∧ u.chan = s.chan := by
  have others (k : Nat) (estimate : k ≠ 0x201005) (reading : k ≠ Obj.outletTemp) : (s.readOutlet outlet).ob k = s.ob k :=
    (State.setOb_other _ _ _ _ estimate).trans (State.setOb_other _ _ _ _ reading)
  refine ⟨(State.setOb_other _ _ _ _ (by decide)).trans (State.setOb_same _ _ _), others, ?_, rfl, rfl, rfl, rfl⟩
  exact State.capInForce_congr (fun k listed => others k (fun is => absurd (is ▸ listed) (by decide))
    (fun is => absurd (is ▸ listed) (by decide))) rfl rfl rfl rfl

/-- What a tick of the outlet limiter leaves. -/
theorem State.outletLimiterTick_leaves (on : s.edge.powered = true) (due : s.due 4 100000000 = true) (outlet : Int) :
    ∃ t, exec (.outletLimiterTick outlet) s = .next t ∧ t.ob Obj.outletTemp = ofInt32 outlet ∧
      t.power.outlet = limitFor s.power.outlet (s.capInForce * 1000) (toInt32 (s.ob Obj.outletLimit)) outlet 20000 5000 ∧
      t.power.thermal = s.power.thermal ∧ t.mem = s.mem ∧ t.chan = s.chan := by
  obtain ⟨reading, others, cap, now, thermal, mem, chan⟩ := s.readOutlet_leaves outlet
  have limit := others Obj.outletLimit (by decide) (by decide)
  have run : exec (.outletLimiterTick outlet) s = .next (((s.readOutlet outlet).modPower (fun p => { p with
      outlet := limitFor (s.readOutlet outlet).power.outlet ((s.readOutlet outlet).capInForce * 1000)
        (toInt32 ((s.readOutlet outlet).ob Obj.outletLimit)) outlet 20000 5000 })).setBit Obj.powerStatus 5
          (limitFor (s.readOutlet outlet).power.outlet ((s.readOutlet outlet).capInForce * 1000)
            (toInt32 ((s.readOutlet outlet).ob Obj.outletLimit)) outlet 20000 5000).isSome) := by
    change execOutletLimiterTick outlet s = _
    unfold execOutletLimiterTick
    rw [on, due]
    rfl
  refine ⟨_, run, (State.setBit_ob_other _ _ _ _ (by decide)).trans reading, ?_, thermal, mem, chan⟩
  rw [now, cap, limit]
  rfl

/-! ## The other readings (R350, R352) -/

theorem State.setBit_bit (s : State) (k n : Nat) (b : Bool) : (s.setBit k n b).ob k / 2 ^ n % 2 = if b then 1 else 0 := by
  unfold State.setBit
  rw [State.setOb_same]
  generalize s.ob k = x
  have pos : 0 < 2 ^ n := Nat.two_pow_pos n
  have cleared : (x - x / 2 ^ n % 2 * 2 ^ n) / 2 ^ n = x / 2 ^ n - x / 2 ^ n % 2 := by
    rw [Nat.mul_comm, Nat.sub_mul_div]
  cases b
  · change (x - x / 2 ^ n % 2 * 2 ^ n) / 2 ^ n % 2 = 0
    rw [cleared]
    omega
  · change (x - x / 2 ^ n % 2 * 2 ^ n + 2 ^ n) / 2 ^ n % 2 = 1
    rw [Nat.add_div_right _ pos, cleared]
    omega

theorem State.raise_ob (s : State) (a : Alert) (k : Nat) : (s.raise a).ob k = s.ob k := by
  unfold State.raise
  split <;> rfl

theorem State.raise_mem (s : State) (a : Alert) : (s.raise a).mem = s.mem := by
  unfold State.raise
  split <;> rfl

theorem State.raise_chan (s : State) (a : Alert) : (s.raise a).chan = s.chan := by
  unfold State.raise
  split <;> rfl

/-- What a reading of the inlet leaves. -/
theorem State.inletOutOfRange_leaves (on : s.edge.powered = true) (inlet : Int) :
    ∃ t, exec (.inletOutOfRange inlet) s = .next t ∧ t.ob Obj.inletTemp = ofInt32 inlet ∧
      (Alert.inlet ∈ t.edge.alerts ↔ (inlet < 200 ∨ 650 < inlet)) ∧ (t.ob Obj.powerStatus / 128 % 2 = 1 ↔ (inlet < 200 ∨ 650 < inlet)) ∧
      t.mem = s.mem ∧ t.chan = s.chan := by
  let out := decide (inlet < 200) || decide (650 < inlet)
  let u := ((s.setOb Obj.inletTemp (ofInt32 inlet)).estimateFlow).setBit Obj.powerStatus 7 out
  have run : exec (.inletOutOfRange inlet) s = .next (if out then u.raise .inlet else u.calm .inlet) := by
    change execInletOutOfRange inlet s = _
    unfold execInletOutOfRange
    rw [on]
    rfl
  have reading : u.ob Obj.inletTemp = ofInt32 inlet :=
    (State.setBit_ob_other _ _ _ _ (by decide)).trans ((State.setOb_other _ _ _ _ (by decide)).trans (State.setOb_same _ _ _))
  have bit : u.ob Obj.powerStatus / 128 % 2 = if out then 1 else 0 := State.setBit_bit _ _ 7 _
  have frame : u.mem = s.mem ∧ u.chan = s.chan := ⟨rfl, rfl⟩
  clear_value u
  have is : (inlet < 200 ∨ 650 < inlet) ↔ out = true := by simp [out]
  clear_value out
  rw [run, is]
  cases out
  · exact ⟨_, rfl, reading, ⟨fun held => absurd held (State.not_mem_calm _ _), nofun⟩,
      ⟨fun one => absurd (bit.symm.trans one) (by decide), nofun⟩, frame⟩
  · refine ⟨_, rfl, (State.raise_ob _ _ _).trans reading, ⟨fun _ => rfl, fun _ => State.mem_raise _ _⟩, ⟨fun _ => rfl, fun _ => ?_⟩,
      (State.raise_mem _ _).trans frame.1, (State.raise_chan _ _).trans frame.2⟩
    change (u.raise .inlet).ob Obj.powerStatus / 128 % 2 = 1
    rw [State.raise_ob]
    exact bit

theorem State.stackTemperatureLimit_hot (on : s.edge.powered = true) {stack : Nat} (real : stack < 32) {temp : Int} (hot : 950 ≤ temp) :
    exec (.stackTemperatureLimit stack temp) s =
      .next (s.modPower (fun p => { p with stackTemp := kset p.stackTemp stack (kget p.stackTemp 16 stack - 1) })) := by
  change execStackTemperatureLimit stack temp s = _
  unfold execStackTemperatureLimit
  rw [on, decide_eq_false (Nat.not_le.2 real), if_pos hot]
  rfl

theorem State.stackTemperatureLimit_cool (on : s.edge.powered = true) {stack : Nat} (real : stack < 32) {temp : Int} (cool : temp < 930) :
    exec (.stackTemperatureLimit stack temp) s = .next (s.modPower (fun p => { p with stackTemp := kdel p.stackTemp stack })) := by
  change execStackTemperatureLimit stack temp s = _
  unfold execStackTemperatureLimit
  rw [on, decide_eq_false (Nat.not_le.2 real), if_neg (by omega : ¬950 ≤ temp), if_pos cool]
  rfl

theorem State.thermtrip_eq (on : s.edge.powered = true) {tj : Int} (hot : 1250 ≤ tj) : exec (.thermtrip tj) s = .next
    { (s.readTj tj).halvesOff with
      mem := { (s.readTj tj).halvesOff.mem with okBlocks := [], okWords := [], badWords := [] }
      edge := { (s.readTj tj).halvesOff.edge with tripped := true, coldHalves := [0, 1] } } := by
  change execThermtrip tj s = _
  unfold execThermtrip
  rw [on, decide_eq_false (by omega)]
  rfl

/-- Settles O43: a limiter's next limit is `limitFor` of its reading, its threshold and the cap in force, which no reading changes. -/
theorem heatEventsComplete : Obligations.HeatEventsComplete := by
  unfold Obligations.HeatEventsComplete
  intro s on
  refine ⟨fun tj due => ?_, fun outlet due => ?_, fun tj => ?_, fun inlet => s.inletOutOfRange_leaves on inlet, fun stack temp real => ⟨fun hot => ?_, fun cool => ?_⟩,
    fun tj hot => ⟨_, State.thermtrip_eq on hot, rfl, rfl, rfl, rfl⟩⟩
  · obtain ⟨t, run, reading, alert, limit, outlet, mem, chan⟩ := s.thermalLimiterTick_leaves on due tj
    obtain ⟨hot, cool, off⟩ := limitFor_cases s.power.thermal (s.capInForce * 1000) (toInt32 (s.ob Obj.throttleTj)) tj 50000 10000
    rw [← limit] at hot cool off
    exact ⟨t, run, reading, alert, hot, cool, off, outlet, mem, chan⟩
  · obtain ⟨t, run, reading, limit, thermal, mem, chan⟩ := s.outletLimiterTick_leaves on due outlet
    obtain ⟨hot, cool, off⟩ := limitFor_cases s.power.outlet (s.capInForce * 1000) (toInt32 (s.ob Obj.outletLimit)) outlet 20000 5000
    rw [← limit] at hot cool off
    exact ⟨t, run, reading, hot, cool, off, thermal, mem, chan⟩
  · obtain ⟨reading, _, alert, frame⟩ := s.readTj_leaves tj
    refine ⟨s.readTj tj, ?_, reading, alert, (congrArg State.power frame :), (congrArg State.mem frame :), (congrArg State.chan frame :)⟩
    change execTjAlert tj s = _
    exact if_pos on
  · exact ⟨_, State.stackTemperatureLimit_hot on real hot, kget_kset_same _ _ _ _, fun k other => kget_kset_other _ _ _ _ _ other, rfl, rfl⟩
  · refine ⟨_, State.stackTemperatureLimit_cool on real cool, ?_, fun k other => ?_, rfl, rfl⟩
    · exact congrArg (Option.getD · 16) (kget?_kdel_same _ _)
    · exact congrArg (Option.getD · 16) (kget?_kdel_other _ _ _ other)

end Sys2Proof.Machine
end

section
/-! PROOFS. Supply samples and shed levels (R353 to R358), with O44. -/

namespace Sys2Proof.Machine

variable {s t : State}

/-! ## A sample of the supply (R353) -/

/-- The mean of a sample and the four before it, mV. -/
def State.meanVoltage (s : State) (mv : Nat) : Nat := ((mv :: s.power.samples).take 5).sum / ((mv :: s.power.samples).take 5).length

/-- A sample has been taken into the mean and into the times above the exit values. -/
def State.takeSample (s : State) (mv : Nat) : State :=
  let avg := s.meanVoltage mv
  let u := (s.ticked 5).modPower (fun p => { p with
    samples := (mv :: s.power.samples).take 5
    onSince := if 44000 ≤ avg then some (p.onSince.getD s.now) else none
    exitSince := (List.range' 1 4).foldl (fun m l => if shedExit l ≤ avg then kset m l (kget m s.now l) else kdel m l) p.exitSince })
  if avg < 36000 then { u with edge := { u.edge with tripped := false } } else u

/-- INPUT_VOLTAGE and the alert above 60 V. -/
def State.showVoltage (s : State) (avg : Nat) : State :=
  let s := s.setOb Obj.inputVoltage avg
  if 60000 < avg then (s.setBit Obj.powerStatus 10 true).raise .overVoltage else (s.setBit Obj.powerStatus 10 false).calm .overVoltage

/-- A sample and what it shows. -/
def State.readSupply (s : State) (mv : Nat) : State := (s.takeSample mv).showVoltage (s.meanVoltage mv)

theorem State.takeSample_leaves (s : State) (mv : Nat) : let u := s.takeSample mv
    u = { s with power := u.power, edge := { s.edge with tripped := u.edge.tripped } } ∧ u.power.samples = (mv :: s.power.samples).take 5 ∧
      u.power.borrowed = s.power.borrowed ∧ u.edge.powered = s.edge.powered := by
  unfold State.takeSample
  dsimp only
  split <;> exact ⟨rfl, rfl, rfl, rfl⟩

theorem State.showVoltage_leaves (s : State) (avg : Nat) : let u := s.showVoltage avg
    u.ob Obj.inputVoltage = avg ∧ (Alert.overVoltage ∈ u.edge.alerts ↔ 60000 < avg) ∧
      (∀ k, k ≠ Obj.inputVoltage → k ≠ Obj.powerStatus → u.ob k = s.ob k) ∧
      u = { s with dict := u.dict, edge := { s.edge with alerts := u.edge.alerts } } := by
  have others (b : Bool) (k : Nat) (voltage : k ≠ Obj.inputVoltage) (status : k ≠ Obj.powerStatus) :
      ((s.setOb Obj.inputVoltage avg).setBit Obj.powerStatus 10 b).ob k = s.ob k :=
    (State.setBit_ob_other _ _ _ _ status).trans (s.setOb_other _ _ _ voltage)
  have shown (b : Bool) : ((s.setOb Obj.inputVoltage avg).setBit Obj.powerStatus 10 b).ob Obj.inputVoltage = avg :=
    (State.setBit_ob_other _ _ _ _ (by decide)).trans (s.setOb_same _ _)
  unfold State.showVoltage
  dsimp only
  split
  · next high =>
    refine ⟨(State.raise_ob _ _ _).trans (shown _), ⟨fun _ => high, fun _ => State.mem_raise _ _⟩,
      fun k voltage status => (State.raise_ob _ _ _).trans (others _ k voltage status), ?_⟩
    unfold State.raise
    split <;> rfl
  · next low =>
    exact ⟨shown _, ⟨fun held => absurd held (State.not_mem_calm _ _), fun high => absurd high low⟩, others _, rfl⟩

theorem State.readSupply_leaves (s : State) (mv : Nat) : let u := s.readSupply mv
    u.power.samples = (mv :: s.power.samples).take 5 ∧ u.ob Obj.inputVoltage = s.meanVoltage mv ∧
      (Alert.overVoltage ∈ u.edge.alerts ↔ 60000 < s.meanVoltage mv) ∧ u.shed = s.shed ∧
      (∀ k, k ≠ Obj.inputVoltage → k ≠ Obj.powerStatus → u.ob k = s.ob k) ∧ u.power.borrowed = s.power.borrowed ∧ u.mem = s.mem ∧
      u.chan = s.chan ∧ u.fab = s.fab ∧ u.stands = s.stands := by
  obtain ⟨taken, samples, borrowed, _⟩ := s.takeSample_leaves mv
  obtain ⟨shown, alert, others, frame⟩ := (s.takeSample mv).showVoltage_leaves (s.meanVoltage mv)
  have power : (s.readSupply mv).power = (s.takeSample mv).power := (congrArg State.power frame :)
  have same (k : Nat) (voltage : k ≠ Obj.inputVoltage) (status : k ≠ Obj.powerStatus) : (s.readSupply mv).ob k = s.ob k :=
    (others k voltage status).trans (State.ob_congr (congrArg (fun v : State => v.dict.objs) taken :) k)
  exact ⟨(congrArg PowerSt.samples power).trans samples, shown, alert, same _ (by decide) (by decide), same,
    (congrArg PowerSt.borrowed power).trans borrowed, (congrArg State.mem frame :).trans (congrArg State.mem taken :),
    (congrArg State.chan frame :).trans (congrArg State.chan taken :), (congrArg State.fab frame :).trans (congrArg State.fab taken :),
    (congrArg State.stands frame :).trans (congrArg State.stands taken :)⟩

/-- The shed levels above `now` that a voltage calls for. -/
def levelsTo (now target : Nat) : List Nat := (List.range' 1 5).filter (fun l => decide (now < l) && decide (l ≤ target))

theorem State.supplySample_eq (on : s.edge.powered = true) (due : s.due 5 10000 = true) (mv holdUp : Nat) : exec (.supplySample mv holdUp) s = .next
    (if 63000 < s.meanVoltage mv then (s.readSupply mv).orderlyOff
      else (levelsTo (s.readSupply mv).shed (shedTarget (s.meanVoltage mv) holdUp)).foldl (fun u l => u.enterShed l) (s.readSupply mv)) := by
  have on' : (s.takeSample mv).edge.powered = true := (s.takeSample_leaves mv).2.2.2.trans on
  have run : exec (.supplySample mv holdUp) s = if !(s.takeSample mv).edge.powered then .next (s.takeSample mv)
      else if 63000 < s.meanVoltage mv then .next (s.readSupply mv).orderlyOff
      else .next ((levelsTo (s.readSupply mv).shed (shedTarget (s.meanVoltage mv) holdUp)).foldl (fun u l => u.enterShed l) (s.readSupply mv)) := by
    change execSupplySample mv holdUp s = _
    unfold execSupplySample
    rw [due]
    rfl
  rw [run, on', if_neg (by decide)]
  exact (apply_ite Host.Outcome.next _ _ _).symm

theorem levelsTo_none {now target : Nat} (le : target ≤ now) : levelsTo now target = [] := by
  unfold levelsTo
  rw [List.filter_eq_nil_iff]
  intro l _
  simp only [Bool.and_eq_true, decide_eq_true_eq]
  omega

theorem levelsTo_five {now : Nat} (lt : now < 5) : ∃ pre, levelsTo now 5 = pre ++ [5] := by
  unfold levelsTo
  rw [show List.range' 1 5 = [1, 2, 3, 4] ++ [5] from rfl, List.filter_append]
  exact ⟨_, congrArg _ (List.filter_cons_of_pos (by simpa using lt))⟩

/-! ## A shed level (R354, Table 10-7) -/

/-- SUPPLY_SHED, its record and its count. -/
def State.markShed (s : State) (level : Nat) : State :=
  (((s.setOb Obj.shedLevel level).log { errRec 0x0501 with detail0 := level }).bump (Obj.shedEntries (level - 1))).setBit Obj.powerStatus 4 true

theorem State.markShed_leaves (s : State) {level : Nat} (real : level < 6) : let u := s.markShed level
    u.shed = level ∧ u.ob (Obj.shedEntries (level - 1)) = s.ob (Obj.shedEntries (level - 1)) + 1 ∧ u.ob Obj.powerStatus / 16 % 2 = 1 ∧
      u.power = s.power ∧ u.mem = s.mem ∧ u.chan = s.chan ∧ u.fab = s.fab ∧ u.stands = s.stands := by
  have told : Reported [] (s.setOb Obj.shedLevel level) ((s.setOb Obj.shedLevel level).log { errRec 0x0501 with detail0 := level }) := reported_log _ _ _
  have apart : ∀ n < 6, Obj.shedEntries (n - 1) ≠ Obj.shedLevel ∧ Obj.shedEntries (n - 1) ≠ Obj.powerStatus ∧ Quiet (Obj.shedEntries (n - 1)) := by
    unfold Quiet
    decide
  obtain ⟨notLevel, notStatus, quiet⟩ := apart level real
  have shed := (told.ob Obj.shedLevel (by unfold Quiet; decide) (by decide)).trans (State.setOb_same _ _ _)
  have count := (told.ob _ quiet (by simp)).trans (State.setOb_other _ _ _ _ notLevel)
  have frame := And.intro told.power (And.intro told.mem (And.intro told.chan (And.intro told.fab told.stands)))
  unfold State.markShed
  generalize (s.setOb Obj.shedLevel level).log { errRec 0x0501 with detail0 := level } = v at shed count frame ⊢
  obtain ⟨power, mem, chan, fab, stands⟩ := frame
  refine ⟨?_, ?_, State.setBit_bit _ _ 4 _, power, mem, chan, fab, stands⟩
  · exact (State.setBit_ob_other _ _ _ _ (by decide)).trans ((State.bump_other _ _ _ notLevel.symm).trans shed)
  · exact (State.setBit_ob_other _ _ _ _ notStatus).trans ((State.bump_same _ _).trans (congrArg (· + 1) count))

theorem State.enterShed_eq (s : State) (level : Nat) : s.enterShed level =
    if level == 1 then (s.markShed level).returnAll
    else if level == 3 then
      ((s.markShed level).chan.tasks.filter (fun t => t.phase == .running || t.phase == .held || t.phase == .preempted)).foldl
        (fun s t => s.abort t Status.supplyShed) (s.markShed level)
    else if level == 4 then
      (((upto 9).foldl (fun s n => ((if s.portUp n then s.leaveUp n else s).enterPort n 0 0).modPort n (fun p => { p with heldByReset := true }))
        (s.markShed level)).setOb (Obj.halfState 0) 0).setOb (Obj.halfState 1) 0
    else if level == 5 then (s.markShed level).orderlyOff
    else s.markShed level := by
  unfold State.enterShed State.markShed
  rfl

theorem State.enterShed_one (s : State) : s.enterShed 1 = (s.markShed 1).returnAll := by
  rw [State.enterShed_eq, if_pos (by decide)]
theorem State.enterShed_two (s : State) : s.enterShed 2 = s.markShed 2 := by
  rw [State.enterShed_eq, if_neg (by decide), if_neg (by decide), if_neg (by decide), if_neg (by decide)]
theorem State.enterShed_three (s : State) : s.enterShed 3 =
    ((s.markShed 3).chan.tasks.filter (fun t => t.phase == .running || t.phase == .held || t.phase == .preempted)).foldl
      (fun s t => s.abort t Status.supplyShed) (s.markShed 3) := by
  rw [State.enterShed_eq, if_neg (by decide), if_pos (by decide)]
theorem State.enterShed_four (s : State) : s.enterShed 4 =
    (((upto 9).foldl (fun s n => ((if s.portUp n then s.leaveUp n else s).enterPort n 0 0).modPort n (fun p => { p with heldByReset := true }))
      (s.markShed 4)).setOb (Obj.halfState 0) 0).setOb (Obj.halfState 1) 0 := by
  rw [State.enterShed_eq, if_neg (by decide), if_neg (by decide), if_pos (by decide)]
theorem State.enterShed_five (s : State) : s.enterShed 5 = (s.markShed 5).orderlyOff := by
  rw [State.enterShed_eq, if_neg (by decide), if_neg (by decide), if_neg (by decide), if_pos (by decide)]

/-- What the orderly off leaves of what must be off. -/
theorem State.orderlyOff_leaves (s : State) : s.orderlyOff.edge.powered = false ∧ s.orderlyOff.edge.orderlyOff = true ∧ s.orderlyOff.bank.heldCommits = [] :=
  ⟨rfl, rfl, rfl⟩

/-! ## A level is left (R354, R356) -/

theorem State.shedLevelExit_eq {since : Nat} (on : s.edge.powered = true) (raised : 1 ≤ s.shed) (above : kget? s.power.exitSince s.shed = some since)
    (past : since + 100000000 ≤ s.now) : exec .shedLevelExit s = .next
      (let u := s.setOb Obj.shedLevel (s.shed - 1)
       let u := if s.shed == 4 then u.moduleReset else if s.shed == 3 then u.flushCommits else u
       if s.shed == 1 then u.setBit Obj.powerStatus 4 false else u) := by
  have zero : (s.shed == 0) = false := beq_false_of_ne (by omega)
  change execShedLevelExit s = _
  unfold execShedLevelExit
  dsimp only
  rw [on, above, zero]
  exact if_neg (by simp [past])

theorem State.shedLevelExit_three {since : Nat} (on : s.edge.powered = true) (is : s.shed = 3) (above : kget? s.power.exitSince s.shed = some since)
    (past : since + 100000000 ≤ s.now) : exec .shedLevelExit s = .next (s.setOb Obj.shedLevel 2).flushCommits := by
  rw [State.shedLevelExit_eq on (by omega) above past, is]
  dsimp only
  rw [if_neg (by decide), if_neg (by decide), if_pos (by decide)]

theorem State.shedLevelExit_four {since : Nat} (on : s.edge.powered = true) (is : s.shed = 4) (above : kget? s.power.exitSince s.shed = some since)
    (past : since + 100000000 ≤ s.now) : exec .shedLevelExit s = .next (s.setOb Obj.shedLevel 3).moduleReset := by
  rw [State.shedLevelExit_eq on (by omega) above past, is]
  dsimp only
  rw [if_neg (by decide), if_pos (by decide)]

theorem State.shedLevelExit_low {since : Nat} (on : s.edge.powered = true) (raised : 1 ≤ s.shed) (low : s.shed ≤ 2)
    (above : kget? s.power.exitSince s.shed = some since) (past : since + 100000000 ≤ s.now) :
    ∃ t, exec .shedLevelExit s = .next t ∧ t.shed = s.shed - 1 ∧ (s.shed = 1 → t.ob Obj.powerStatus / 16 % 2 = 0) ∧
      t.mem = s.mem ∧ t.chan = s.chan ∧ t.fab = s.fab := by
  have level (u : State) (b : Bool) : (u.setBit Obj.powerStatus 4 b).shed = u.shed := State.setBit_ob_other _ _ _ _ (by decide)
  refine ⟨_, State.shedLevelExit_eq on raised above past, ?_⟩
  have set : (s.setOb Obj.shedLevel (s.shed - 1)).shed = s.shed - 1 := State.setOb_same _ _ _
  rw [beq_false_of_ne (by omega : s.shed ≠ 4), beq_false_of_ne (by omega : s.shed ≠ 3)]
  cases first : s.shed == 1 with
  | true => exact ⟨(level _ _).trans set, fun _ => State.setBit_bit _ _ 4 false, rfl, rfl, rfl⟩
  | false => exact ⟨set, fun one => absurd first (by simp [one]), rfl, rfl, rfl⟩

/-! ## The obligation -/

/-- What a sample leaves below 63 V: each level it calls for above the present one is entered in turn. -/
theorem State.supplySample_levels (on : s.edge.powered = true) (due : s.due 5 10000 = true) {mv holdUp : Nat} (low : s.meanVoltage mv ≤ 63000)
    {target : Nat} (calls : shedTarget (s.meanVoltage mv) holdUp = target) {levels : List Nat} (levels_eq : levelsTo s.shed target = levels) :
    exec (.supplySample mv holdUp) s = .next (levels.foldl (fun u l => u.enterShed l) (s.readSupply mv)) := by
  rw [State.supplySample_eq on due, if_neg (by omega), (s.readSupply_leaves mv).2.2.2.1, calls, levels_eq]

theorem shedTarget_low {avg holdUp level : Nat} (calls : shedTarget avg holdUp = level) (some_ : 0 < level) (notOff : level < 5) : avg ≤ 63000 := by
  unfold shedTarget at calls
  repeat' split at calls
  all_goals omega

section

variable (on : s.edge.powered = true) (due : s.due 5 10000 = true) {mv holdUp : Nat}

include on due

/-- The one level above the present one is entered. -/
theorem State.supplySample_level {now level : Nat} (is : s.shed = now) (calls : shedTarget (s.meanVoltage mv) holdUp = level)
    (one : levelsTo now level = [level]) (notOff : level < 5) (some_ : 0 < level) :
    exec (.supplySample mv holdUp) s = .next ((s.readSupply mv).enterShed level) := by
  have run := State.supplySample_levels on due (shedTarget_low calls some_ notOff) calls ((congrArg (levelsTo · level) is).trans one)
  rwa [List.foldl_cons, List.foldl_nil] at run

theorem State.supplySample_one (is : s.shed = 0) (calls : shedTarget (s.meanVoltage mv) holdUp = 1) (none_ : s.power.borrowed = []) :
    ∃ t, exec (.supplySample mv holdUp) s = .next t ∧ t.shed = 1 ∧ t.ob (Obj.shedEntries 0) = s.ob (Obj.shedEntries 0) + 1 ∧
      t.ob Obj.powerStatus / 16 % 2 = 1 ∧ t.mem = s.mem ∧ t.chan = s.chan := by
  obtain ⟨_, _, _, _, others, borrowed, mem, chan, _, _⟩ := s.readSupply_leaves mv
  obtain ⟨shed, count, bit, power, mem', chan', _, _⟩ := (s.readSupply mv).markShed_leaves (level := 1) (by decide)
  have run := State.supplySample_level on due is calls (by decide) (by decide) (by decide)
  rw [State.enterShed_one, State.returnAll_of_none ((congrArg PowerSt.borrowed power).trans (borrowed.trans none_))] at run
  have count : ((s.readSupply mv).markShed 1).ob (Obj.shedEntries 0) = s.ob (Obj.shedEntries 0) + 1 :=
    count.trans (congrArg (· + 1) (others (Obj.shedEntries 0) (by decide) (by decide)))
  have mem := mem'.trans mem
  have chan := chan'.trans chan
  generalize (s.readSupply mv).markShed 1 = v at *
  exact ⟨_, run, shed, count, bit, mem, chan⟩

theorem State.supplySample_two (is : s.shed = 1) (calls : shedTarget (s.meanVoltage mv) holdUp = 2) :
    ∃ t, exec (.supplySample mv holdUp) s = .next t ∧ t.shed = 2 ∧ t.mem = s.mem ∧ t.chan = s.chan := by
  obtain ⟨_, _, _, _, _, _, mem, chan, _, _⟩ := s.readSupply_leaves mv
  obtain ⟨shed, _, _, _, mem', chan', _, _⟩ := (s.readSupply mv).markShed_leaves (level := 2) (by decide)
  have run := State.supplySample_level on due is calls (by decide) (by decide) (by decide)
  rw [State.enterShed_two] at run
  exact ⟨_, run, shed, mem'.trans mem, chan'.trans chan⟩

theorem State.supplySample_three (is : s.shed = 2) (calls : shedTarget (s.meanVoltage mv) holdUp = 3) :
    ∃ t u : State, exec (.supplySample mv holdUp) s = .next t ∧ u.shed = 3 ∧ u.mem = s.mem ∧ u.chan = s.chan ∧ u.stands = s.stands ∧
      t = (s.chan.tasks.filter (fun x => x.phase == .running || x.phase == .held || x.phase == .preempted)).foldl
        (fun u x => u.abort x Status.supplyShed) u := by
  obtain ⟨_, _, _, _, _, _, mem, chan, _, stands⟩ := s.readSupply_leaves mv
  obtain ⟨shed, _, _, _, mem', chan', _, stands'⟩ := (s.readSupply mv).markShed_leaves (level := 3) (by decide)
  have run := State.supplySample_level on due is calls (by decide) (by decide) (by decide)
  have tasks : ((s.readSupply mv).markShed 3).chan.tasks = s.chan.tasks := congrArg ChanSt.tasks (chan'.trans chan)
  rw [State.enterShed_three, tasks] at run
  exact ⟨_, _, run, shed, mem'.trans mem, chan'.trans chan, stands'.trans stands, rfl⟩

theorem State.supplySample_four (is : s.shed = 3) (calls : shedTarget (s.meanVoltage mv) holdUp = 4) :
    ∃ t u : State, exec (.supplySample mv holdUp) s = .next t ∧ u.shed = 4 ∧ u.mem = s.mem ∧ u.chan = s.chan ∧
      u.fab = s.fab ∧ t.ob (Obj.halfState 0) = 0 ∧ t.ob (Obj.halfState 1) = 0 ∧
      t = (((upto 9).foldl (fun u n => ((if u.portUp n then u.leaveUp n else u).enterPort n 0 0).modPort n (fun p => { p with heldByReset := true })) u).setOb
        (Obj.halfState 0) 0).setOb (Obj.halfState 1) 0 := by
  obtain ⟨_, _, _, _, _, _, mem, chan, fab, _⟩ := s.readSupply_leaves mv
  obtain ⟨shed, _, _, _, mem', chan', fab', _⟩ := (s.readSupply mv).markShed_leaves (level := 4) (by decide)
  have run := State.supplySample_level on due is calls (by decide) (by decide) (by decide)
  rw [State.enterShed_four] at run
  exact ⟨_, _, run, shed, mem'.trans mem, chan'.trans chan, fab'.trans fab, (State.setOb_other _ _ _ _ (by decide)).trans (State.setOb_same _ _ _),
    State.setOb_same _ _ _, rfl⟩

theorem State.supplySample_five (is : s.shed < 5) (calls : shedTarget (s.meanVoltage mv) holdUp = 5) (low : s.meanVoltage mv ≤ 63000) :
    ∃ t, exec (.supplySample mv holdUp) s = .next t ∧ t.edge.powered = false ∧ t.edge.orderlyOff = true ∧ t.bank.heldCommits = [] := by
  obtain ⟨pre, last⟩ := levelsTo_five is
  have run := State.supplySample_levels on due low calls last
  rw [List.foldl_append, List.foldl_cons, List.foldl_nil, State.enterShed_five] at run
  exact ⟨_, run, State.orderlyOff_leaves _⟩

theorem State.supplySample_high (high : 63000 < s.meanVoltage mv) :
    ∃ t, exec (.supplySample mv holdUp) s = .next t ∧ t.edge.powered = false ∧ t.edge.orderlyOff = true ∧ t.bank.heldCommits = [] := by
  have run := State.supplySample_eq on due mv holdUp
  rw [if_pos high] at run
  exact ⟨_, run, State.orderlyOff_leaves _⟩

end

theorem shedTarget_one {avg holdUp : Nat} (least : 42000 ≤ avg) (most : avg < 44000) (held : 30000 ≤ holdUp) : shedTarget avg holdUp = 1 := by
  unfold shedTarget
  rw [if_neg (by omega), if_neg (by omega), if_neg (by omega), if_neg (by omega), if_pos most]

/-- Settles O44: a sample is `readSupply` and then `enterShed` for each level above the present one. -/
theorem supplyEventsComplete : Obligations.SupplyEventsComplete := by
  unfold Obligations.SupplyEventsComplete
  refine ⟨fun s mv holdUp on due => ?_, fun s since on raised most above past => ⟨fun low => State.shedLevelExit_low on raised low above past,
    fun is => State.shedLevelExit_three on is above past, fun is => State.shedLevelExit_four on is above past⟩⟩
  intro samples avg
  refine ⟨fun below low => ?_, fun is least most held none_ => State.supplySample_one on due is (shedTarget_one least most held) none_,
    fun calls is => State.supplySample_two on due is calls, fun calls is => State.supplySample_three on due is calls,
    fun calls is => State.supplySample_four on due is calls, fun calls is low => State.supplySample_five on due is calls low,
    fun high => State.supplySample_high on due high⟩
  obtain ⟨taken, shown, alert, level, _, _, mem, chan, fab, _⟩ := s.readSupply_leaves mv
  exact ⟨_, State.supplySample_levels on due low rfl (levelsTo_none below), taken, shown, alert, level, mem, chan, fab⟩

end Sys2Proof.Machine
end

section
/-! PROOFS. Sentinels and the margin re-plan (R359 to R363), with O45. -/

namespace Sys2Proof.Machine

variable {s t u : State}

/-! ## A re-plan of one stand (R361) -/

/-- The offset that the re-plan sets on a stand: the one its slowdown requires, never less than before; beyond the limit the stand is
fenced instead, and a fenced stand is passed over. -/
def State.plannedOffset (s : State) (n : Nat) : Nat :=
  let need := max (s.ob (Obj.voltageOffset n)) (offsetFor (s.ob (Obj.slowdown n)))
  if s.fenced n || decide (s.ob Obj.offsetLimit < need) then s.ob (Obj.voltageOffset n) else need

theorem State.le_plannedOffset (s : State) (n : Nat) : s.ob (Obj.voltageOffset n) ≤ s.plannedOffset n := by
  unfold State.plannedOffset
  dsimp only
  split
  · exact Nat.le_refl _
  · exact Nat.le_max_left _ _

theorem State.plannedOffset_within {n : Nat} (sound : s.fenced n = false)
    (within : max (s.ob (Obj.voltageOffset n)) (offsetFor (s.ob (Obj.slowdown n))) ≤ s.ob Obj.offsetLimit) :
    s.plannedOffset n = max (s.ob (Obj.voltageOffset n)) (offsetFor (s.ob (Obj.slowdown n))) := by
  unfold State.plannedOffset
  dsimp only
  rw [sound, decide_eq_false (Nat.not_lt.2 within)]
  rfl

/-- Objects, power and the clock with its power-on are as they were. -/
structure SameRecords (s t : State) : Prop where
  dict : t.dict = s.dict
  power : t.power = s.power
  now : t.now = s.now
  powered : t.edge.powered = s.edge.powered
  bootAt : t.edge.bootAt = s.edge.bootAt

theorem SameRecords.trans (a : SameRecords s t) (b : SameRecords t u) : SameRecords s u :=
  ⟨b.dict.trans a.dict, b.power.trans a.power, b.now.trans a.now, b.powered.trans a.powered, b.bootAt.trans a.bootAt⟩

/-- The task that runs on a stand to be fenced ends; objects and power do not change by it. -/
theorem State.fenceDecide_records (s : State) (n fence bypass state : Nat) : SameRecords s (s.fenceDecide n fence bypass state) := by
  have stopped (v : State) (t : Task) (status : BitVec 8) : SameRecords v (v.stop t status) := by
    unfold State.stop State.leaveGroup
    cases t.group <;> exact ⟨rfl, rfl, rfl, rfl, rfl⟩
  have spoiled (v : State) (l : List (Nat × Nat)) : SameRecords v (v.spoil l) := by
    unfold State.spoil
    induction l generalizing v with
    | nil => exact ⟨rfl, rfl, rfl, rfl, rfl⟩
    | cons x l ih => exact SameRecords.trans (t := (v.store x.1 (v.freeBytes x.2)).drawn x.2) ⟨rfl, rfl, rfl, rfl, rfl⟩ (ih _)
  unfold State.fenceDecide
  dsimp only
  split
  · exact SameRecords.trans (t := s.decideStand n fence bypass state) ⟨rfl, rfl, rfl, rfl, rfl⟩ ((spoiled _ _).trans (stopped _ _ _))
  · exact ⟨rfl, rfl, rfl, rfl, rfl⟩

/-- Operating hours follow from their object, the clock and the power-on. -/
theorem State.hours_congr (ob : t.ob Obj.operatingHours = s.ob Obj.operatingHours) (now : t.now = s.now) (powered : t.edge.powered = s.edge.powered)
    (bootAt : t.edge.bootAt = s.edge.bootAt) : t.hours = s.hours := by
  unfold State.hours
  rw [ob, now, powered, bootAt]

/-- `t` is `s` after the re-plan of the stands listed. -/
structure Replanned (l : List Nat) (s t : State) : Prop where
  offset : ∀ n ∈ l, t.ob (Obj.voltageOffset n) = s.plannedOffset n
  others : ∀ k, Quiet k → (∀ n ∈ l, k ≠ Obj.voltageOffset n ∧ k ≠ Obj.lifeRemaining n) → t.ob k = s.ob k
  now : t.now = s.now
  powered : t.edge.powered = s.edge.powered
  bootAt : t.edge.bootAt = s.edge.bootAt

theorem quiet_voltageOffset {n : Nat} (small : n < 192) : Quiet (Obj.voltageOffset n) := by
  unfold Quiet Obj.voltageOffset
  omega

/-- A decision on objects alone: what one stand's re-plan leaves. -/
theorem State.replanStand_leaves {n : Nat} (small : n < 192) : Replanned [n] s (s.replanStand n) := by
  have apart : Obj.voltageOffset n ≠ Obj.lifeRemaining n := by unfold Obj.voltageOffset Obj.lifeRemaining; omega
  unfold State.replanStand
  by_cases fenced : s.fenced n = true
  · rw [if_pos fenced]
    refine ⟨fun k is => ?_, fun _ _ _ => rfl, rfl, rfl, rfl⟩
    obtain rfl := List.mem_singleton.1 is
    unfold State.plannedOffset
    rw [fenced]
    rfl
  · rw [if_neg fenced]
    have sound : s.fenced n = false := by simpa using fenced
    dsimp only
    have limit : (s.setOb (Obj.lifeRemaining n) (lifeHours (s.stand n).fitData (s.ob Obj.offsetLimit) s.hours)).ob Obj.offsetLimit = s.ob Obj.offsetLimit :=
      State.setOb_other _ _ _ _ (by unfold Obj.lifeRemaining Obj.offsetLimit; omega)
    rw [limit]
    have life (k : Nat) (other : k ≠ Obj.lifeRemaining n) := s.setOb_other (Obj.lifeRemaining n) (lifeHours (s.stand n).fitData (s.ob Obj.offsetLimit) s.hours) k other
    have frame := SameRecords.mk (s := s) (t := { s.setOb (Obj.lifeRemaining n) (lifeHours (s.stand n).fitData (s.ob Obj.offsetLimit) s.hours) with dict := s.dict })
      rfl rfl rfl rfl rfl
    generalize s.setOb (Obj.lifeRemaining n) (lifeHours (s.stand n).fitData (s.ob Obj.offsetLimit) s.hours) = v at life frame ⊢
    obtain ⟨_, _, now, powered, bootAt⟩ := frame
    have planned : s.plannedOffset n = if s.ob Obj.offsetLimit < max (s.ob (Obj.voltageOffset n)) (offsetFor (s.ob (Obj.slowdown n)))
        then s.ob (Obj.voltageOffset n) else max (s.ob (Obj.voltageOffset n)) (offsetFor (s.ob (Obj.slowdown n))) := by
      unfold State.plannedOffset
      rw [sound]
      simp
    generalize max (s.ob (Obj.voltageOffset n)) (offsetFor (s.ob (Obj.slowdown n))) = need at planned ⊢
    split
    · next beyond =>
      rw [if_pos beyond] at planned
      obtain ⟨dict, _, now', powered', bootAt'⟩ := v.fenceDecide_records n 0 0 5
      have same (k : Nat) (other : k ≠ Obj.lifeRemaining n) := (State.ob_congr (congrArg DictSt.objs dict) k).trans (life k other)
      refine ⟨fun k is => ?_, fun k _ other => same k (other n List.mem_cons_self).2, now'.trans now, powered'.trans powered, bootAt'.trans bootAt⟩
      obtain rfl := List.mem_singleton.1 is
      exact (same _ apart).trans planned.symm
    · next within =>
      rw [if_neg within] at planned
      split
      · next kept =>
        refine ⟨fun k is => ?_, fun k _ other => life k (other n List.mem_cons_self).2, now, powered, bootAt⟩
        obtain rfl := List.mem_singleton.1 is
        exact (life _ apart).trans ((beq_iff_eq.1 kept).symm.trans planned.symm)
      · have told := reported_logStand [] (v.setOb (Obj.voltageOffset n) need) n { errRec 0x0504 with detail0 := need } {}
        refine ⟨fun k is => ?_, fun k quiet other => ?_, told.now.trans now, ?_, ?_⟩
        · obtain rfl := List.mem_singleton.1 is
          exact (told.ob _ (quiet_voltageOffset small) List.not_mem_nil).trans ((State.setOb_same _ _ _).trans planned.symm)
        · obtain ⟨notOffset, notLife⟩ := other n List.mem_cons_self
          exact (told.ob _ quiet List.not_mem_nil).trans ((State.setOb_other _ _ _ _ notOffset).trans (life k notLife))
        · exact (congrArg EdgeSt.powered told.edge :).trans powered
        · exact (congrArg EdgeSt.bootAt told.edge :).trans bootAt

/-- A plan follows from four objects. -/
theorem State.plannedOffset_congr {n : Nat} (ob : ∀ k ∈ [Obj.voltageOffset n, Obj.slowdown n, Obj.standState n, Obj.offsetLimit], t.ob k = s.ob k) :
    t.plannedOffset n = s.plannedOffset n := by
  unfold State.plannedOffset State.fenced
  rw [ob _ (by simp), ob (Obj.slowdown n) (by simp), ob (Obj.standState n) (by simp), ob Obj.offsetLimit (by simp)]

/-- A re-plan of distinct stands sets each one's offset as the objects before it give it. -/
theorem State.foldl_replanStand (l : List Nat) : ∀ s : State, (∀ n ∈ l, n < 192) → l.Nodup → Replanned l s (l.foldl (fun s n => s.replanStand n) s) := by
  induction l with
  | nil => exact fun s _ _ => ⟨fun _ is => (List.not_mem_nil is).elim, fun _ _ _ => rfl, rfl, rfl, rfl⟩
  | cons y l ih =>
    intro s small once
    obtain ⟨fresh, once⟩ := List.nodup_cons.1 once
    have small_y := small y List.mem_cons_self
    have one : Replanned [y] s (s.replanStand y) := State.replanStand_leaves small_y
    have rest := ih (s.replanStand y) (fun n inside => small n (List.mem_cons_of_mem _ inside)) once
    refine ⟨fun n is => ?_, fun k quiet other => ?_, rest.now.trans one.now, rest.powered.trans one.powered, rest.bootAt.trans one.bootAt⟩
    · rcases List.mem_cons.1 is with rfl | inside
      · refine (rest.others _ (quiet_voltageOffset small_y) fun m inside => ?_).trans (one.offset n List.mem_cons_self)
        have apart : m ≠ n := fun same => fresh (same ▸ inside)
        have := small m (List.mem_cons_of_mem _ inside)
        unfold Obj.voltageOffset Obj.lifeRemaining
        omega
      · have apart : n ≠ y := fun same => fresh (same ▸ inside)
        have small_n := small n is
        refine (rest.offset n inside).trans (State.plannedOffset_congr fun k listed => one.others k ?_ fun m only => ?_)
        · simp only [List.mem_cons, List.not_mem_nil, or_false] at listed
          unfold Quiet
          rcases listed with rfl | rfl | rfl | rfl <;>
            simp only [Obj.voltageOffset, Obj.slowdown, Obj.standState, Obj.offsetLimit] <;> omega
        · obtain rfl := List.mem_singleton.1 only
          simp only [List.mem_cons, List.not_mem_nil, or_false] at listed
          rcases listed with rfl | rfl | rfl | rfl <;>
            simp only [Obj.voltageOffset, Obj.slowdown, Obj.standState, Obj.offsetLimit, Obj.lifeRemaining] <;> omega
    · exact (rest.others k quiet fun n inside => other n (List.mem_cons_of_mem _ inside)).trans
        (one.others k quiet fun n only => other n (List.mem_singleton.1 only ▸ List.mem_cons_self))

/-- The ageing area holds records; nothing else of the power controller changes. -/
theorem State.writeAges_leaves (s : State) : s.writeAges.dict = s.dict ∧ s.writeAges.power.replanAt = s.power.replanAt := by
  unfold State.writeAges State.modPower
  dsimp only
  split <;> exact ⟨rfl, rfl⟩

/-! ## Sentinels (R359, R360) -/

theorem State.sentinelMeasure_leaves {n : Nat} (on : s.edge.powered = true) (enabled : s.standEnabled n = true)
    (free : s.standIdle n = true ∨ (s.stand n).gapDue = true) (counts : List Nat) (tj : Int) :
    ∃ t, exec (.sentinelMeasure n counts tj) s = .next t ∧
      t.ob (Obj.slowdown n) = min 65535 (median ((slowest counts (s.factoryCounts n tj) :: (s.stand n).samples).take 16)) ∧
      (t.stand n).gapDue = false ∧ (t.stand n).measuredAt = s.now ∧ (∀ k, k ≠ n → t.stand k = s.stand k) ∧ t.mem = s.mem ∧ t.chan = s.chan := by
  let f (x : StandSt) : StandSt := { x with
    samples := (slowest counts (s.factoryCounts n tj) :: x.samples).take 16
    fitData := x.fitData ++ [(s.hours, slowest counts (s.factoryCounts n tj))], measuredAt := s.now, gapDue := false }
  have free' : (s.standIdle n || (s.stand n).gapDue) = true := by simpa using free
  have run : exec (.sentinelMeasure n counts tj) s = .next ((s.modStand n f).setOb (Obj.slowdown n) (min 65535 (median ((s.modStand n f).stand n).samples))) := by
    change execSentinelMeasure n counts tj s = _
    unfold execSentinelMeasure
    rw [on, enabled, free']
    rfl
  have set : (s.modStand n f).stand n = f (s.stand n) := s.modStand_same n f
  have stand (k : Nat) (v : Nat) : ((s.modStand n f).setOb (Obj.slowdown n) v).stand k = (s.modStand n f).stand k := State.stand_congr (State.setOb_stands ..) k
  rw [run, set]
  refine ⟨_, rfl, State.setOb_same _ _ _, ?_, ?_, fun k other => (stand k _).trans (s.modStand_other f other), rfl, rfl⟩
  · rw [stand, set]
  · rw [stand, set]

/-- Settles O45: each stand's offset is planned from objects that no other stand's re-plan changes. -/
theorem ageingEventsComplete : Obligations.AgeingEventsComplete := by
  unfold Obligations.AgeingEventsComplete
  intro s on
  refine ⟨fun n counts tj _ enabled free => State.sentinelMeasure_leaves on enabled free counts tj, fun n _ enabled late => ?_, fun due => ?_⟩
  · change execSentinelGap n s = _
    unfold execSentinelGap
    rw [on, enabled, decide_eq_true late]
    rfl
  · have each : Replanned (upto 192) s ((upto 192).foldl (fun s n => s.replanStand n) s) :=
      State.foldl_replanStand _ s (fun n inside => List.mem_range.1 inside) List.nodup_range
    have run : exec .marginReplan s = .next s.replan := by
      change execMarginReplan s = _
      unfold execMarginReplan
      rw [on, decide_eq_true due]
      rfl
    have hours : ((upto 192).foldl (fun s n => s.replanStand n) s).hours = s.hours := by
      refine State.hours_congr (each.others _ (by unfold Quiet; decide) fun n inside => ?_) each.now each.powered each.bootAt
      have := List.mem_range.1 inside
      unfold Obj.operatingHours Obj.voltageOffset Obj.lifeRemaining
      omega
    refine ⟨_, run, ?_⟩
    unfold State.replan
    dsimp only
    rw [hours]
    generalize (upto 192).foldl (fun s n => s.replanStand n) s = v at each
    obtain ⟨dict, replanAt⟩ := (v.modPower (fun p => { p with replanAt := s.hours })).writeAges_leaves
    have offset (n : Nat) (small : n < 192) : ((v.modPower (fun p => { p with replanAt := s.hours })).writeAges).ob (Obj.voltageOffset n) = s.plannedOffset n :=
      (State.ob_congr (congrArg DictSt.objs dict) _).trans (each.offset n (List.mem_range.2 small))
    exact ⟨fun n small => (offset n small).symm ▸ s.le_plannedOffset n,
      fun n small sound within => (offset n small).trans (State.plannedOffset_within sound within), replanAt⟩

end Sys2Proof.Machine
end

section
/-! PROOFS. The sideband inputs (R399 to R401, R403), with O46. -/

namespace Sys2Proof.Machine

variable {s t : State}

/-! ## Pins -/

theorem State.pin_setPin (s : State) (p : Pin) (x : PinSt) : (s.setPin p x).pin p = x := by
  cases p <;> rfl

theorem State.pin_congr (same : t.edge = { s.edge with alerts := t.edge.alerts }) (p : Pin) : t.pin p = s.pin p := by
  unfold State.pin
  rw [same]

/-- A rejected toggle is counted, and the pin keeps its accepted level (R399, R400). -/
theorem State.rejectToggle_leaves (s : State) (p : Pin) : let t := s.rejectToggle p
    t.ob (Obj.sidebandToggles (pinNo p)) = s.ob (Obj.sidebandToggles (pinNo p)) + 1 ∧ (t.pin p).pending = none ∧ (t.pin p).level = (s.pin p).level ∧
      (t.pin p).lastToggle = s.now ∧ t.mem = s.mem ∧ t.chan = s.chan := by
  let times := ((s.pin p).toggles.filter (fun t => s.now - t < 1000000000)) ++ [s.now]
  let x : PinSt := { s.pin p with pending := none, toggles := times, lastToggle := s.now }
  let u := (s.setPin p x).bump (Obj.sidebandToggles (pinNo p))
  have count : u.ob (Obj.sidebandToggles (pinNo p)) = s.ob (Obj.sidebandToggles (pinNo p)) + 1 := State.bump_same _ _
  have pin : u.pin p = x := s.pin_setPin p x
  have quiet : Quiet (Obj.sidebandToggles (pinNo p)) := by
    unfold Quiet
    cases p <;> decide
  have told : Reported [] u (s.rejectToggle p) := by
    change Reported [] u (if decide (times.length ≤ 100) || u.edge.alerts.contains (.toggles (pinNo p)) then u
      else (u.log { errRec 0x0604 with detail0 := pinNo p }).raise (.toggles (pinNo p)))
    split
    · exact .refl _ _
    · exact (reported_log _ _ _).trans (reported_raise _ _ _)
  have pin' : (s.rejectToggle p).pin p = x := (State.pin_congr told.edge p).trans pin
  exact ⟨(told.ob _ quiet List.not_mem_nil).trans count, by rw [pin'], by rw [pin'], by rw [pin'], told.mem, told.chan⟩

/-! ## Changes of an input (R399, R401) -/

theorem State.sidebandInputChange_off (off : s.edge.powered = false) (pin : Pin) (level : Nat) :
    exec (.sidebandInputChange pin level) s = .next (s.setPin pin { s.pin pin with level := level % pinLevels pin }) := by
  change execSidebandInputChange pin level s = _
  unfold execSidebandInputChange
  rw [off]
  rfl

/-- What a change of a two-level input does. -/
theorem State.sidebandInputChange_on (on : s.edge.powered = true) {pin : Pin} (two : pin ≠ .slotId) {level : Nat} (small : level < 2) :
    exec (.sidebandInputChange pin level) s = if level == (s.pin pin).level
      then .next (if (s.pin pin).pending.isSome then s.rejectToggle pin else s)
      else .next (if (s.pin pin).pending.isSome then s else s.setPin pin { s.pin pin with pending := some (level, s.now) }) := by
  have levels : level % pinLevels pin = level := by
    cases pin with
    | perst => exact Nat.mod_eq_of_lt small
    | pwrbrk => exact Nat.mod_eq_of_lt small
    | slotId => exact absurd rfl two
  change execSidebandInputChange pin level s = _
  unfold execSidebandInputChange
  dsimp only
  rw [levels, on, beq_false_of_ne two]
  rfl

theorem State.toggleAlertClear_eq {pin : Pin} (held : Alert.toggles (pinNo pin) ∈ s.edge.alerts) (quiet : (s.pin pin).lastToggle + 10000000000 ≤ s.now) :
    exec (.toggleAlertClear pin) s = .next (s.calm (.toggles (pinNo pin))) := by
  have held' : s.edge.alerts.contains (.toggles (pinNo pin)) = true := List.contains_iff_mem.2 held
  change execToggleAlertClear pin s = _
  unfold execToggleAlertClear
  rw [held', decide_eq_true quiet]
  rfl

/-! ## Accepted levels (R340, R401, R403) -/

/-- With PWRBRK_N low the cap is 1,100 W. -/
theorem State.capNoSteady_of_low (low : s.pwrbrk = true) : s.capNoSteady = 1100 := by
  unfold State.capNoSteady
  rw [low]
  rfl

/-- Loans are returned by a message each; objects and inputs are as they were. -/
theorem State.returnAll_leaves (s : State) : s.returnAll.power.borrowed = [] ∧ s.returnAll.dict = s.dict ∧ s.returnAll.edge = s.edge ∧
    s.returnAll.fab.sendQ.length = s.fab.sendQ.length + s.power.borrowed.length ∧ s.returnAll.mem = s.mem ∧ s.returnAll.chan = s.chan := by
  have sent := messagesSent_foldl (f := fun s (x : Loan) => s.sendLoan x.peer 4 x.peer s.me x.watts)
    (fun u x => messagesSent_sendLoan u x.peer 4 x.peer u.me x.watts) s.power.borrowed
    (s.modPower (fun p => { p with borrowed := [], shortfall := 0, asked := [] }))
  exact ⟨sent.borrowed, foldl_field (f := fun s (x : Loan) => s.sendLoan x.peer 4 x.peer s.me x.watts) State.dict (fun _ _ => rfl) _ _,
    foldl_field (f := fun s (x : Loan) => s.sendLoan x.peer 4 x.peer s.me x.watts) State.edge (fun _ _ => rfl) _ _, sent.queue, sent.mem, sent.chan⟩

theorem State.pwrbrkNFall_leaves (may : s.mayAccept .pwrbrk 0 = true) : ∃ t, exec .pwrbrkNFall s = .next t ∧ t.edge.pwrbrk.level = 0 ∧
    t.ob Obj.powerStatus / 8 % 2 = 1 ∧ t.power.borrowed = [] ∧ t.capNoSteady = 1100 ∧
      t.fab.sendQ.length = s.fab.sendQ.length + s.power.borrowed.length ∧ t.mem = s.mem ∧ t.chan = s.chan := by
  obtain ⟨borrowed, dict, edge, queue, mem, chan⟩ := ((s.acceptLevel .pwrbrk 0).setBit Obj.powerStatus 3 true).returnAll_leaves
  have run : exec .pwrbrkNFall s = .next ((s.acceptLevel .pwrbrk 0).setBit Obj.powerStatus 3 true).returnAll := by
    change execPwrbrkNFall s = _
    unfold execPwrbrkNFall
    rw [may]
    rfl
  have low := congrArg (fun e : EdgeSt => e.pwrbrk.level) edge
  have bit := State.ob_congr (congrArg DictSt.objs dict) Obj.powerStatus
  refine ⟨_, run, low, ?_, borrowed, State.capNoSteady_of_low ?_, queue, mem, chan⟩
  · rw [bit]
    exact State.setBit_bit _ _ 3 true
  · unfold State.pwrbrk
    rw [edge]
    rfl

/-- Settles O46: a pin by the branches of its change, an accepted level by its command. -/
theorem sidebandEventsComplete : Obligations.SidebandEventsComplete := by
  unfold Obligations.SidebandEventsComplete
  intro s
  refine ⟨fun pin level off => State.sidebandInputChange_off off pin level, fun pin level on two small => ⟨fun other none_ => ?_, fun back waits => ?_⟩,
    fun pin held quiet => ⟨State.toggleAlertClear_eq held quiet, State.not_mem_calm _ _⟩, fun may on => ?_, fun may => ?_, State.pwrbrkNFall_leaves, fun may => ?_⟩
  · rw [State.sidebandInputChange_on on two small, beq_false_of_ne other, none_]
    rfl
  · have some_ : (s.pin pin).pending.isSome = true := Option.isSome_iff_ne_none.2 waits
    rw [State.sidebandInputChange_on on two small, beq_iff_eq.2 back, some_]
    exact ⟨_, rfl, s.rejectToggle_leaves pin⟩
  · intro u
    change execPerstNFall s = _
    unfold execPerstNFall
    rw [may]
    exact congrArg Host.Outcome.next (if_pos on)
  · have run : exec .perstNRise s = .next (let u := s.acceptLevel .perst 1
        { u with edge := { u.edge with perstHighAt := some u.now, unlocked := u.edge.unlocked.filter (· != 0) } }) := by
      change execPerstNRise s = _
      unfold execPerstNRise
      rw [may]
      rfl
    exact ⟨_, run, rfl, rfl, rfl, rfl, fun _ => rfl⟩
  · have run : exec .pwrbrkNRise s = .next ((s.acceptLevel .pwrbrk 1).setBit Obj.powerStatus 3 false) := by
      change execPwrbrkNRise s = _
      unfold execPwrbrkNRise
      rw [may]
      rfl
    exact ⟨_, run, rfl, State.setBit_bit _ _ 3 false, rfl, rfl, rfl⟩

end Sys2Proof.Machine
end

section
/-! PROOFS. What a module reset leaves (R403), with O47. -/

namespace Sys2Proof.Machine

variable {s t u : State}

/-! ## Tasks and jobs -/

/-- Outputs of tasks become unspecified; every task and every channel is gone. -/
def State.dropTasks (s : State) : State :=
  let u := s.spoil (s.chan.tasks.flatMap writtenRanges)
  { u with chan := { u.chan with chans := [], tasks := [], freed := u.chan.freed ++ u.chan.chans.map (fun (x : Nat × Chan) => x.1) } }

/-- Every job is faulted and every restore fails. -/
def State.faultJobs (s : State) : State :=
  (upto 16).foldl (fun s slot => if (s.jobOf slot).isSome then (s.failRestore slot).jobFault slot else s) s

/-- What waits on memory, on checks and on stands is gone. -/
def State.dropWork (s : State) : State :=
  { s with
    mem := { s.mem with repairs := [], reads := [], groups := [] }
    fire := { s.fire with checks := [], queues := s.fire.queues.filter (fun (x : Nat × ErrQueue) => x.1 == moduleUnit) }
    bank := { s.bank with copies := [] }
    stands := s.stands.map (fun (x : Nat × StandSt) => (x.1, x.2.afterReset)) }

/-- READY is withdrawn and the Glades restart. -/
def State.restartGlades (s : State) : State :=
  { s with edge := { s.edge with
    ready := false, deadHalves := [], retriedHalf := [], lostAt := [], guestReqs := [], guestQueue := []
    faults := s.edge.faults.filter (fun (c : FaultCause) =>
      c != FaultCause.startUp 0 && c != FaultCause.startUp 1 && c != FaultCause.glades && c != FaultCause.pairing && c != FaultCause.mgmtClock)
    unlocked := s.edge.unlocked.filter (fun c => c != 2 && c != 3)
    glade0 := !s.edge.faults.contains .noImage
    glade1 := !s.edge.faults.contains .noImage } }

/-- Both halves read one state. -/
def State.setHalves (s : State) (v : Nat) : State := (s.setOb (Obj.halfState 0) v).setOb (Obj.halfState 1) v

/-- Memory lines, ports, the host link and the guest links are reset. -/
def State.resetLinks (s : State) : State :=
  (((((s.failSram 0).failSram 1).resetFabric).resetHostLink).setOb (Obj.guestLink 0) 0).setOb (Obj.guestLink 1) 0

/-- The state from which the halves take theirs. -/
def State.resetCore (s : State) : State := s.dropTasks.faultJobs.dropWork.resetLinks.restartGlades

theorem State.moduleReset_eq (s : State) : s.moduleReset = s.resetCore.setHalves (if s.resetCore.staysOff then 0 else 1) := by
  unfold State.moduleReset
  extract_lets spoiled chan dropped faulted mem fire bank worked linked guests edge glades start
  have drop : dropped = s.dropTasks := rfl
  clear_value dropped
  have fault : faulted = dropped.faultJobs := rfl
  clear_value faulted
  have work : worked = faulted.dropWork := rfl
  clear_value worked
  have link : guests = worked.resetLinks := rfl
  clear_value guests
  have restart : glades = guests.restartGlades := rfl
  clear_value glades
  unfold State.resetCore
  rw [← drop, ← fault, ← work, ← link, ← restart]
  rfl

/-- What a spoiled range leaves of everything but bytes and free values. -/
theorem State.spoil_rest (s : State) (l : List (Nat × Nat)) : s.spoil l = { s with
    mem := { s.mem with cells := (s.spoil l).mem.cells }, bank := (s.spoil l).bank, free := (s.spoil l).free } := by
  unfold State.spoil
  induction l generalizing s with
  | nil => rfl
  | cons x l ih => exact (ih ((s.store x.1 (s.freeBytes x.2)).drawn x.2)).trans rfl

/-- `t` is `s` but for jobs, generations, failures counted and objects other than SUPPLY_SHED. -/
structure JobsFaulted (s t : State) : Prop where
  rest : t = { s with jobs := t.jobs, bank := t.bank, dict := { s.dict with objs := t.dict.objs } }
  shed : t.ob Obj.shedLevel = s.ob Obj.shedLevel

namespace JobsFaulted

theorem refl (s : State) : JobsFaulted s s := ⟨rfl, rfl⟩

theorem trans (a : JobsFaulted s t) (b : JobsFaulted t u) : JobsFaulted s u where
  rest := b.rest.trans (congrArg (fun x : State => { x with jobs := u.jobs, bank := u.bank, dict := { x.dict with objs := u.dict.objs } }) a.rest)
  shed := b.shed.trans a.shed

theorem chan (a : JobsFaulted s t) : t.chan = s.chan := (congrArg State.chan a.rest :)

end JobsFaulted

theorem jobsFaulted_failRestore (s : State) {slot : Nat} (small : slot < 16) : JobsFaulted s (s.failRestore slot) := by
  unfold State.failRestore
  split
  · exact .refl s
  · refine ⟨rfl, (State.bump_other _ _ _ (by decide)).trans (State.setOb_other _ _ _ _ ?_)⟩
    unfold Obj.shedLevel Obj.restoreState
    omega

/-- With no channel and no task a job fault changes the job's state and counts. -/
theorem jobsFaulted_jobFault (slot : Nat) (noChans : s.chan.chans = []) (noTasks : s.chan.tasks = []) : JobsFaulted s (s.jobFault slot) := by
  unfold State.jobFault State.jobFaultIn
  cases s.jobOf slot with
  | none => exact .refl s
  | some job =>
    have noTask (uid : Nat) (id : BitVec 32) : s.taskBy uid id = none := by
      unfold State.taskBy
      rw [noTasks]
      rfl
    have noJobChans : s.jobChans job = [] := by
      unfold State.jobChans
      rw [noChans]
      rfl
    have withdrawn : s.withdraw job (s.step slot) Status.clearingTimeout = s := by
      unfold State.withdraw
      rw [noJobChans]
      rfl
    obtain ⟨_, _, _, objs⟩ := (s.modJob slot (fun j => { j with faulted := true, stepEnd := none, toCommit := [] })).abandonGen_rest slot
    have left : JobsFaulted s ((s.modJob slot (fun j => { j with faulted := true, stepEnd := none, toCommit := [] })).abandonGen slot).failure := by
      refine ⟨?_, objs _ (by decide)⟩
      unfold State.failure State.abandonGen
      split
      · split <;> rfl
      · rfl
    cases stepEnd : (s.job slot).stepEnd with
    | none => simpa only [withdrawn, noJobChans, List.foldl_nil] using left
    | some e => simpa only [noTask, withdrawn, noJobChans, List.foldl_nil] using left

theorem jobsFaulted_faultJobs (noChans : s.chan.chans = []) (noTasks : s.chan.tasks = []) : JobsFaulted s s.faultJobs := by
  have each (l : List Nat) (small : ∀ slot ∈ l, slot < 16) (v : State) (noChans : v.chan.chans = []) (noTasks : v.chan.tasks = []) :
      JobsFaulted v (l.foldl (fun s slot => if (s.jobOf slot).isSome then (s.failRestore slot).jobFault slot else s) v) := by
    induction l generalizing v with
    | nil => exact .refl v
    | cons slot l ih =>
      have one : JobsFaulted v (if (v.jobOf slot).isSome then (v.failRestore slot).jobFault slot else v) := by
        split
        · have failed := jobsFaulted_failRestore v (small slot List.mem_cons_self)
          exact failed.trans (jobsFaulted_jobFault slot ((congrArg ChanSt.chans failed.chan).trans noChans)
            ((congrArg ChanSt.tasks failed.chan).trans noTasks))
        · exact .refl v
      exact one.trans (ih (fun slot inside => small slot (List.mem_cons_of_mem _ inside)) _ ((congrArg ChanSt.chans one.chan).trans noChans)
        ((congrArg ChanSt.tasks one.chan).trans noTasks))
  exact each _ (fun slot inside => List.mem_range.1 inside) s noChans noTasks

/-! ## Ports and links -/

/-- `t` is `s` with the ports listed DISABLED. -/
structure PortsDisabled (l : List Nat) (s t : State) : Prop where
  rest : t = { s with fab := t.fab, dict := { s.dict with objs := t.dict.objs } }
  ept0 : t.fab.ept0 = s.fab.ept0
  ept1 : t.fab.ept1 = s.fab.ept1
  state : ∀ n ∈ l, t.portSt n = 0
  others : ∀ k, (∀ n ∈ l, notOfPort n k) → t.ob k = s.ob k

/-- A port is DISABLED and starts afresh. -/
def State.disablePort (s : State) (n : Nat) : State := (s.enterPort n 0 0).setPort n { heldByReset := true, since := s.now }

theorem portsDisabled_disablePort (s : State) (n : Nat) : PortsDisabled [n] s (s.disablePort n) where
  rest := by
    unfold State.disablePort State.enterPort
    split <;> rfl
  ept0 := by
    unfold State.disablePort State.enterPort
    split <;> rfl
  ept1 := by
    unfold State.disablePort State.enterPort
    split <;> rfl
  state k is := by
    obtain rfl := List.mem_singleton.1 is
    exact s.enterPort_portSt k 0 (by decide)
  others _ other := State.enterPort_ob_other (other n List.mem_cons_self)

theorem portsDisabled_foldl (l : List Nat) : ∀ s : State, (∀ n ∈ l, n < 9) → l.Nodup → PortsDisabled l s (l.foldl (fun (s : State) n => s.disablePort n) s) := by
  induction l with
  | nil => exact fun s _ _ => ⟨rfl, rfl, rfl, fun _ is => (List.not_mem_nil is).elim, fun _ _ => rfl⟩
  | cons y l ih =>
    intro s small once
    obtain ⟨fresh, once⟩ := List.nodup_cons.1 once
    have one := portsDisabled_disablePort s y
    have tail := ih (s.disablePort y) (fun n inside => small n (List.mem_cons_of_mem _ inside)) once
    refine ⟨tail.rest.trans (congrArg (fun x : State => { x with
      fab := (l.foldl (fun (s : State) n => s.disablePort n) (s.disablePort y)).fab
      dict := { x.dict with objs := (l.foldl (fun (s : State) n => s.disablePort n) (s.disablePort y)).dict.objs } }) one.rest), tail.ept0.trans one.ept0,
      tail.ept1.trans one.ept1, fun n is => ?_, fun k other => ?_⟩
    · rcases List.mem_cons.1 is with rfl | inside
      · have same := tail.others (Obj.portState n) fun m inside =>
          portState_notOfPort (fun is => fresh (is ▸ inside)) (small m (List.mem_cons_of_mem _ inside)) (small n is)
        exact (congrArg (· % 256) same).trans (one.state n List.mem_cons_self)
      · exact tail.state n inside
    · exact (tail.others k fun n inside => other n (List.mem_cons_of_mem _ inside)).trans
        (one.others k fun n only => other n (List.mem_singleton.1 only ▸ List.mem_cons_self))

/-- What the reset of the links leaves of the state before it. -/
structure LinksReset (s t : State) : Prop where
  chan : t.chan = s.chan
  power : t.power = s.power
  fire : t.fire = s.fire
  bank : t.bank = s.bank
  cells : t.mem.cells = s.mem.cells
  regions : t.mem.regions = s.mem.regions
  repairs : t.mem.repairs = s.mem.repairs
  lines : ∀ b ∈ t.mem.okBlocks, inSram 0 b = false ∧ inSram 1 b = false
  ports : ∀ n, n < 9 → t.portSt n = 0
  link : t.edge.hostLink = false
  tripped : t.edge.tripped = s.edge.tripped
  powered : t.edge.powered = s.edge.powered
  queues : t.fab.sendQ = [] ∧ t.fab.rx = [] ∧ t.fab.outXfers = [] ∧ t.fab.inXfers = []
  ept0 : t.fab.ept0 = s.fab.ept0
  ept1 : t.fab.ept1 = s.fab.ept1
  staged : t.dict.staged = s.dict.staged
  shed : t.ob Obj.shedLevel = s.ob Obj.shedLevel

theorem State.resetFabric_eq (s : State) : s.resetFabric = (let u := ((upto 9).foldl (fun (s : State) n => s.disablePort n) s).setOb Obj.drainState 0
    { u with fab := { u.fab with
      sendQ := [], requeue := [], rx := [], waitingFwd := [], outXfers := [], inXfers := [], resends := []
      paths := [], grantWait := [], oldEpoch := none, switch := {}, asks := [], polledAt := 0, pathWaits := [], launches := [] } }) := rfl

theorem linksReset_resetLinks (s : State) : LinksReset s s.resetLinks := by
  have off := portsDisabled_foldl (upto 9) ((s.failSram 0).failSram 1) (fun n inside => List.mem_range.1 inside) List.nodup_range
  unfold State.resetLinks
  rw [State.resetFabric_eq]
  generalize (upto 9).foldl (fun (s : State) n => s.disablePort n) ((s.failSram 0).failSram 1) = v at off
  have mem : v.mem = ((s.failSram 0).failSram 1).mem := (congrArg State.mem off.rest :)
  have edge : v.edge = s.edge := (congrArg State.edge off.rest :)
  have kept (k : Nat) (link : k ≠ Obj.pcieLink) (drain : k ≠ Obj.drainState) (zero : k ≠ Obj.guestLink 0) (one : k ≠ Obj.guestLink 1) (w : State)
      (is : w.dict.objs = ((v.setOb Obj.drainState 0).setOb Obj.pcieLink 0).dict.objs) :
      ((w.setOb (Obj.guestLink 0) 0).setOb (Obj.guestLink 1) 0).ob k = v.ob k := by
    rw [State.setOb_other _ _ _ _ one, State.setOb_other _ _ _ _ zero, State.ob_congr is, State.setOb_other _ _ _ _ link,
      State.setOb_other _ _ _ _ drain]
  have notSram (b : Nat) (held : b ∈ ((s.mem.okBlocks.filter (fun b => !inSram 0 b)).filter (fun b => !inSram 1 b))) :
      inSram 0 b = false ∧ inSram 1 b = false := by
    simp only [List.mem_filter, Bool.not_eq_true'] at held
    exact ⟨held.1.2, held.2⟩
  exact {
    chan := (congrArg State.chan off.rest :)
    power := (congrArg State.power off.rest :)
    fire := (congrArg State.fire off.rest :)
    bank := (congrArg State.bank off.rest :)
    cells := (congrArg MemSt.cells mem :)
    regions := (congrArg MemSt.regions mem :)
    repairs := (congrArg MemSt.repairs mem :)
    lines := fun b held => notSram b ((congrArg (b ∈ MemSt.okBlocks ·) mem).mp held)
    ports := fun n small => (congrArg (· % 256) (kept (Obj.portState n) (by unfold Obj.portState Obj.pcieLink; omega)
      (by unfold Obj.portState Obj.drainState; omega) (by unfold Obj.portState Obj.guestLink; omega)
      (by unfold Obj.portState Obj.guestLink; omega) _ rfl)).trans (off.state n (List.mem_range.2 small))
    link := rfl
    tripped := (congrArg EdgeSt.tripped edge :)
    powered := (congrArg EdgeSt.powered edge :)
    queues := ⟨rfl, rfl, rfl, rfl⟩
    ept0 := off.ept0
    ept1 := off.ept1
    staged := (congrArg (fun w : State => w.dict.staged) off.rest :)
    shed := (kept Obj.shedLevel (by decide) (by decide) (by decide) (by decide) _ rfl).trans
      (off.others _ fun n inside => by
        have := List.mem_range.1 inside
        unfold notOfPort Obj.shedLevel Obj.portState Obj.portPeer
        omega) }

theorem mem_keys_of_kget? {α : Type} {m : KMap α} {k : Nat} {v : α} (found : kget? m k = some v) : k ∈ m.map (fun x => x.1) := by
  induction m with
  | nil => exact absurd found (by simp [kget?])
  | cons x m ih =>
    unfold kget? at found
    split at found
    · next same => simp [same]
    · exact List.mem_cons_of_mem _ (ih found)

/-! ## The obligation -/

/-- What is left of tasks and jobs when the links are reset. -/
theorem State.dropWork_leaves (s : State) : let t := s.dropTasks.faultJobs.dropWork
    t.chan.chans = [] ∧ t.chan.tasks = [] ∧ t.chan.freed = s.chan.freed ++ s.chan.chans.map (fun x => x.1) ∧ t.power = s.power ∧ t.edge = s.edge ∧
      t.fab = s.fab ∧ t.dict.staged = s.dict.staged ∧ t.mem.regions = s.mem.regions ∧ t.ob Obj.shedLevel = s.ob Obj.shedLevel ∧
      (s.chan.tasks = [] → t.mem.cells = s.mem.cells) := by
  have faulted : JobsFaulted s.dropTasks s.dropTasks.faultJobs := jobsFaulted_faultJobs rfl rfl
  have spoilt := s.spoil_rest (s.chan.tasks.flatMap writtenRanges)
  generalize s.dropTasks.faultJobs = f at faulted ⊢
  have chan : f.dropWork.chan = s.dropTasks.chan := faulted.chan
  have same : (s.spoil (s.chan.tasks.flatMap writtenRanges)).chan = s.chan := (congrArg State.chan spoilt :)
  refine ⟨(congrArg ChanSt.chans chan :), (congrArg ChanSt.tasks chan :), ?_, (congrArg State.power faulted.rest).trans (congrArg State.power spoilt :),
    (congrArg State.edge faulted.rest).trans (congrArg State.edge spoilt :), (congrArg State.fab faulted.rest).trans (congrArg State.fab spoilt :),
    (congrArg (fun v : State => v.dict.staged) faulted.rest).trans (congrArg (fun v : State => v.dict.staged) spoilt :),
    (congrArg (fun v : State => v.mem.regions) faulted.rest).trans (congrArg (fun v : State => v.mem.regions) spoilt :),
    faulted.shed.trans (State.ob_congr (congrArg (fun v : State => v.dict.objs) spoilt :) _), fun none_ => ?_⟩
  · refine (congrArg ChanSt.freed chan).trans ?_
    change (s.spoil (s.chan.tasks.flatMap writtenRanges)).chan.freed ++ (s.spoil (s.chan.tasks.flatMap writtenRanges)).chan.chans.map (fun x => x.1) = _
    rw [same]
  · refine (congrArg (fun v : State => v.mem.cells) faulted.rest :).trans ?_
    change (s.spoil (s.chan.tasks.flatMap writtenRanges)).mem.cells = _
    rw [none_]
    rfl

theorem State.dropWork_empty (s : State) : s.dropWork.fire.checks = [] ∧ (∀ q ∈ s.dropWork.fire.queues, q.1 = moduleUnit) ∧
    s.dropWork.mem.repairs = [] ∧ s.dropWork.bank.copies = [] :=
  ⟨rfl, fun _ inside => by simpa using (List.mem_filter.1 inside).2, rfl, rfl⟩

theorem State.setHalves_halfState (s : State) (v : Nat) {h : Nat} (small : h < 2) : (s.setHalves v).ob (Obj.halfState h) = v := by
  obtain rfl | rfl : h = 0 ∨ h = 1 := by omega
  · exact (State.setOb_other _ _ _ _ (by decide)).trans (State.setOb_same _ _ _)
  · exact State.setOb_same _ _ _

theorem State.setHalves_ob_other (s : State) (v : Nat) {k : Nat} (zero : k ≠ Obj.halfState 0) (one : k ≠ Obj.halfState 1) : (s.setHalves v).ob k = s.ob k :=
  (State.setOb_other _ _ _ _ one).trans (State.setOb_other _ _ _ _ zero)

/-- Settles O47: what is left after tasks and jobs (`dropWork_leaves`), and of that after the links (`linksReset_resetLinks`). -/
theorem aModuleResetLeaves : Obligations.AModuleResetLeaves := by
  unfold Obligations.AModuleResetLeaves
  intro s on
  obtain ⟨chans, tasks, freed, power, edge, fab, staged, regions, shed, cells⟩ := s.dropWork_leaves
  have run : exec .pcieHotReset s = .next s.moduleReset := by
    change execPcieHotReset s = _
    unfold execPcieHotReset
    rw [if_pos on]
  obtain ⟨checks, queues, repairs, copies⟩ := s.dropTasks.faultJobs.dropWork_empty
  rw [run, State.moduleReset_eq]
  unfold State.resetCore
  have links := linksReset_resetLinks s.dropTasks.faultJobs.dropWork
  generalize s.dropTasks.faultJobs.dropWork = w at *
  generalize w.resetLinks = v at links
  have off : v.restartGlades.staysOff = s.staysOff := by
    have tripped : v.restartGlades.edge.tripped = s.edge.tripped := links.tripped.trans (congrArg EdgeSt.tripped edge)
    have level : v.restartGlades.shed = s.shed := links.shed.trans shed
    unfold State.staysOff
    rw [tripped, level]
  rw [off]
  generalize (if s.staysOff then 0 else 1) = start
  obtain ⟨sendQ, rx, outXfers, inXfers⟩ := links.queues
  have ports (n : Nat) (small : n < 9) : (v.restartGlades.setHalves start).portSt n = 0 :=
    (congrArg (· % 256) (State.setHalves_ob_other v.restartGlades start (k := Obj.portState n) (by unfold Obj.portState Obj.halfState; omega)
      (by unfold Obj.portState Obj.halfState; omega))).trans (links.ports n small)
  refine ⟨_, rfl, (congrArg ChanSt.chans links.chan).trans chans, (congrArg ChanSt.tasks links.chan).trans tasks,
    fun h small => State.setHalves_halfState _ _ small, ports, links.link, rfl, links.powered.trans ((congrArg EdgeSt.powered edge).trans on),
    sendQ, rx, outXfers, inXfers, links.ept0.trans (congrArg FabSt.ept0 fab), links.ept1.trans (congrArg FabSt.ept1 fab),
    links.staged.trans staged, links.regions.trans regions, links.lines, fun h => ?_, links.repairs.trans repairs, (congrArg BankSt.copies links.bank).trans copies,
    (congrArg FireSt.checks links.fire).trans checks, fun q inside => queues q ((congrArg (q ∈ FireSt.queues ·) links.fire).mp inside), ?_, ?_, fun none_ a _ => ?_⟩
  · cases found : s.chanAt h with
    | none => exact .inl rfl
    | some c =>
      refine .inr ((congrArg (h ∈ ChanSt.freed ·) links.chan).mpr ?_)
      rw [freed]
      exact List.mem_append_right _ (mem_keys_of_kget? found)
  · exact fun held => absurd (List.mem_filter.1 held).2 (by decide)
  · exact fun held => absurd (List.mem_filter.1 held).2 (by decide)
  · exact congrArg (fun m => kget m 0 a) (links.cells.trans (cells none_))

end Sys2Proof.Machine
end

section
/-! PROOFS. Records held back and commit words that go out at last (R409, R416, Table 9-7): what they leave of ports, halves and links. -/

namespace Sys2Proof.Machine

variable {s t u : State}

/-- `t` has the ports and the boundary of `s`, and its objects but counters and ERROR_OVERFLOW. -/
structure LinesKept (s t : State) : Prop where
  ob : ∀ k, k < 0xA00000 → k ≠ 0x605003 → t.ob k = s.ob k
  ports : t.fab.ports = s.fab.ports
  edge : t.edge = { s.edge with alerts := t.edge.alerts, msixPending := t.edge.msixPending, guestQueue := t.edge.guestQueue }

namespace LinesKept

theorem refl (s : State) : LinesKept s s := ⟨fun _ _ _ => rfl, rfl, rfl⟩

theorem trans (a : LinesKept s t) (b : LinesKept t u) : LinesKept s u where
  ob k small other := (b.ob k small other).trans (a.ob k small other)
  ports := b.ports.trans a.ports
  edge := b.edge.trans (congrArg (fun e : EdgeSt => { e with
    alerts := u.edge.alerts, msixPending := u.edge.msixPending, guestQueue := u.edge.guestQueue }) a.edge)

theorem of_eq (dict : t.dict.objs = s.dict.objs) (fab : t.fab.ports = s.fab.ports) (edge : t.edge = s.edge) : LinesKept s t where
  ob k _ _ := State.ob_congr dict k
  ports := fab
  edge := by rw [edge]

theorem foldl {α : Type} {f : State → α → State} (step : ∀ u x, LinesKept u (f u x)) (l : List α) (s : State) : LinesKept s (l.foldl f s) := by
  induction l generalizing s with
  | nil => exact .refl s
  | cons x l ih => exact (step s x).trans (ih (f s x))

/-- A pass that carries a flag along. -/
theorem foldl_fst {α β : Type} {f : State × β → α → State × β} (step : ∀ acc x, LinesKept acc.1 (f acc x).1) (l : List α) :
    ∀ acc : State × β, LinesKept acc.1 (l.foldl f acc).1 := by
  induction l with
  | nil => exact fun acc => .refl acc.1
  | cons x l ih => exact fun acc => (step acc x).trans (ih (f acc x))

/-- A pass that gathers a list beside the state. -/
theorem foldl_snd {α β : Type} {f : β × State → α → β × State} (step : ∀ acc x, LinesKept acc.2 (f acc x).2) (l : List α) :
    ∀ acc : β × State, LinesKept acc.2 (l.foldl f acc).2 := by
  induction l with
  | nil => exact fun acc => .refl acc.2
  | cons x l ih => exact fun acc => (step acc x).trans (ih (f acc x))

theorem ite {c : Prop} [Decidable c] (a : LinesKept s t) (b : LinesKept s u) : LinesKept s (if c then t else u) := by
  split
  · exact a
  · exact b

theorem of_stored (a : Stored s t) : LinesKept s t :=
  .of_eq (congrArg DictSt.objs a.dict) (congrArg (fun v : State => v.fab.ports) a.rest :) a.edge

theorem of_reported (a : Reported [] s t) : LinesKept s t where
  ob k small other := a.ob k (by unfold Quiet; omega) List.not_mem_nil
  ports := (congrArg FabSt.ports a.fab)
  edge := by rw [a.edge]

end LinesKept

/-! ## Counters, records and messages -/

theorem linesKept_bump (s : State) {k : Nat} (counter : 0xA00000 ≤ k) : LinesKept s (s.bump k) where
  ob j small _ := s.bump_other k j (by omega)
  ports := rfl
  edge := rfl

theorem linesKept_logAt (s : State) (unit : Nat) (r : ErrRec) (info : SigInfo) : LinesKept s (s.logAt unit r info) :=
  .of_reported ((logged_logAt s unit r info).reported [])

theorem linesKept_msix (s : State) (vector : Nat) : LinesKept s (s.msix vector) := by
  have rest := s.msix_rest vector
  refine ⟨fun k _ _ => State.ob_congr (congrArg (fun v : State => v.dict.objs) rest :) k, (congrArg (fun v : State => v.fab.ports) rest :), ?_⟩
  unfold State.msix
  split
  · rfl
  · split <;> rfl

/-! ## Completion records -/

theorem linesKept_setChan (s : State) (h : Nat) (c : Chan) : LinesKept s (s.setChan h c) := .of_eq rfl rfl rfl

theorem linesKept_writeRec (s : State) (h : Nat) (r : BitVec 512) (irq : Bool) : LinesKept s (s.writeRec h r irq) := by
  have put (v : State) (host : Bool) (a : Nat) (l : List Byte) : LinesKept v (if host then v.hostWrite a l else v.put a l) := by
    cases host
    · exact .of_stored (stored_put v a l)
    · exact .of_eq rfl rfl rfl
  have signal (v : State) (n : Nat) : LinesKept v (if irq then v.msix n else v) := by
    cases irq
    · exact .refl v
    · exact linesKept_msix v n
  unfold State.writeRec
  split
  · exact .refl s
  · exact ((put _ _ _ _).trans (linesKept_setChan _ _ _)).trans (signal _ _)

theorem linesKept_emitRec (s : State) (h : Nat) (r : BitVec 512) (irq : Bool) : LinesKept s (s.emitRec h r irq) := by
  unfold State.emitRec
  split
  · exact .refl s
  · split
    · exact linesKept_writeRec _ _ _ _
    · exact linesKept_setChan _ _ _

theorem linesKept_flushHeld (h n : Nat) : ∀ s : State, LinesKept s (s.flushHeld h n) := by
  induction n with
  | zero => exact LinesKept.refl
  | succ n ih =>
    intro s
    unfold State.flushHeld
    split
    · exact .refl s
    · split
      · exact .refl s
      · split
        · exact ((linesKept_setChan _ _ _).trans (linesKept_writeRec _ _ _ _)).trans (ih _)
        · exact .refl s

theorem linesKept_freeChan (s : State) (h : Nat) : LinesKept s (s.freeChan h) := by
  unfold State.freeChan
  split
  · exact .refl s
  · split
    · exact .of_eq rfl rfl rfl
    · exact .refl s

/-- Records held back go out, and channels are freed, with the lines as they were. -/
theorem linesKept_flushAll (s : State) : LinesKept s s.flushAll :=
  .foldl (f := fun (s : State) (x : Nat × Chan) => (s.flushHeld x.1 x.2.held.length).freeChan x.1)
    (fun u x => (linesKept_flushHeld x.1 x.2.held.length u).trans (linesKept_freeChan _ x.1)) _ s

theorem State.flushAll_of_none (none_ : s.chan.chans = []) : s.flushAll = s := by
  unfold State.flushAll
  rw [none_]
  rfl

/-! ## Errors met on the module's own account -/

theorem linesKept_spoil (s : State) (l : List (Nat × Nat)) : LinesKept s (s.spoil l) :=
  .foldl (f := fun (s : State) (x : Nat × Nat) => (s.store x.1 (s.freeBytes x.2)).drawn x.2) (fun _ _ => .of_eq rfl rfl rfl) l s

theorem linesKept_stop (s : State) (t : Task) (status : BitVec 8) (addr detail : Nat) : LinesKept s (s.stop t status addr detail) := by
  have left (v : State) : LinesKept v (v.leaveGroup t) := by
    unfold State.leaveGroup
    split <;> exact .of_eq rfl rfl rfl
  have forgotten : LinesKept s ((s.forget t).unsave t) := ⟨fun _ _ _ => rfl, rfl, rfl⟩
  exact (forgotten.trans (left _)).trans (.of_eq rfl rfl rfl)

theorem linesKept_abort (s : State) (t : Task) (status : BitVec 8) (addr detail : Nat) : LinesKept s (s.abort t status addr detail) :=
  (linesKept_spoil s _).trans (linesKept_stop _ t status addr detail)

theorem linesKept_fenceDecide (s : State) (n fence bypass state : Nat) : LinesKept s (s.fenceDecide n fence bypass state) := by
  have decided : LinesKept s (s.decideStand n fence bypass state) := .of_eq rfl rfl rfl
  unfold State.fenceDecide
  dsimp only
  split
  · exact decided.trans (linesKept_abort _ _ _ _ _)
  · exact decided

theorem linesKept_permanentFault (s : State) (b : Nat) (r : ErrRec) : LinesKept s (s.permanentFault b r) := by
  have told := linesKept_logAt s (s.memUnit b) { r with code := 0x0204 } {}
  unfold State.permanentFault
  dsimp only
  split
  · exact told.trans (.of_eq rfl rfl rfl)
  · split
    · exact told.trans (linesKept_fenceDecide _ _ _ _ _)
    · exact told

theorem linesKept_listBad (s : State) (b : Nat) : LinesKept s (s.listBad b) := by
  unfold State.listBad
  dsimp only
  split
  · exact .of_eq rfl rfl rfl
  · split
    · exact .of_eq rfl rfl rfl
    · exact LinesKept.trans (t := { s with mem := { s.mem with badLost := s.mem.badLost + 1 } }) (.of_eq rfl rfl rfl)
        (.of_reported ((logged_loseRecord _ _ _ _).reported []))

theorem linesKept_countDetected (s : State) (k : BadKind) (n : Nat) : LinesKept s (s.countDetected k n) := by
  cases k with
  | stackCheck => exact linesKept_bump s (by unfold Obj.stackCheckErrors; omega)
  | parity => exact linesKept_bump s (by decide)
  | line => exact linesKept_bump s (by decide)

theorem linesKept_detect (s : State) (b : Nat) (k : BadKind) (r : ErrRec) : LinesKept s (s.detect b k r) := by
  unfold State.detect
  extract_lets rec permanent logged mem noted listed
  have counted : LinesKept s logged := (linesKept_countDetected s k rec.stack).trans (linesKept_logAt _ _ _ _)
  clear_value logged
  have marked : LinesKept logged noted := .of_eq rfl rfl rfl
  clear_value noted
  have kept : LinesKept s listed := (counted.trans marked).trans (.ite (linesKept_listBad noted b) (.refl noted))
  clear_value listed
  exact kept.trans (.ite (linesKept_permanentFault listed b rec) (.refl listed))

theorem linesKept_meet (s : State) (b : Nat) (k : BadKind) (r : ErrRec) : LinesKept s (s.meet b k r) := by
  unfold State.meet
  split
  · exact .refl s
  · exact linesKept_detect s b k r

/-! ## Repairs -/

theorem linesKept_endXfer (s : State) (src xfer code : Nat) : LinesKept s (s.endXfer src xfer code) := by
  unfold State.endXfer
  split <;> exact .of_eq rfl rfl rfl

theorem linesKept_fetchFailed (s : State) (h addr : Nat) : LinesKept s (s.fetchFailed h addr) := by
  unfold State.fetchFailed
  split
  · exact .refl s
  · exact (((linesKept_setChan _ _ _).trans (linesKept_bump _ (by decide))).trans (linesKept_emitRec _ _ _ _)).trans (.of_eq rfl rfl rfl)

theorem linesKept_hostReadFails (s : State) (id : Nat) : LinesKept s (s.hostReadFails id) := by
  unfold State.hostReadFails
  split <;> exact .of_eq rfl rfl rfl

theorem linesKept_repairFailed (s : State) (r : Repair) : LinesKept s (s.repairFailed r) := by
  have first : LinesKept s { s with mem := { s.mem with repairs := s.mem.repairs.filter (fun x => x.block != r.block) } } := .of_eq rfl rfl rfl
  unfold State.repairFailed
  dsimp only
  refine (((first.trans (linesKept_bump _ (by decide))).trans (linesKept_logAt _ _ _ _)).trans (.foldl (fun u w => ?_) _ _)).trans
    ((LinesKept.foldl (fun u uid => ?_) _ _).trans (.foldl (fun u x => ?_) _ _))
  · obtain ⟨uid, id⟩ := w
    dsimp only
    split
    · exact linesKept_abort _ _ _ _ _
    · exact .refl u
  · split
    · exact linesKept_fetchFailed _ _ _
    · exact .refl u
  · cases x with
    | hostRead id => exact linesKept_hostReadFails u id
    | task uid id => exact .refl u
    | fetch uid => exact .refl u
    | peer p a l => exact .of_eq rfl rfl rfl
    | arrival a src xfer => exact linesKept_endXfer u src xfer 3
    | hostWrite a l => exact .refl u
    | ownWrite a l => exact .refl u

theorem linesKept_ask (s : State) (dest addr job gen block : Nat) : LinesKept s (s.ask dest addr job gen block).2 := by
  unfold State.ask
  split
  · exact .refl s
  · exact .of_eq rfl rfl rfl

theorem linesKept_startRepair (s : State) (r : Repair) : LinesKept s (s.startRepair r) := by
  have begun (v : State) (x : Repair) : LinesKept v { v with mem := { v.mem with repairs := v.mem.repairs ++ [x] } } := .of_eq rfl rfl rfl
  unfold State.startRepair
  dsimp only
  split
  · exact linesKept_repairFailed s r
  · split
    · exact .ite (linesKept_repairFailed s r) ((linesKept_ask s _ _ _ _ _).trans (begun _ _))
    · split
      · exact (linesKept_meet _ _ _ _).trans (linesKept_repairFailed _ r)
      · split
        · exact linesKept_repairFailed s r
        · refine LinesKept.trans (LinesKept.foldl_snd (fun acc x => ?_) _ ([], s)) (begun _ _)
          exact linesKept_ask acc.2 x.1 x.2 _ _ _

theorem linesKept_waitRepair (s : State) (b cls : Nat) (f : Repair → Repair) : LinesKept s (s.waitRepair b cls f) := by
  unfold State.waitRepair
  split
  · exact .of_eq rfl rfl rfl
  · exact linesKept_startRepair s _

/-! ## Writes of the module's own -/

theorem linesKept_blockWrite (s : State) (b lo : Nat) (data : List Byte) (x : BlockAccess) : LinesKept s (s.blockWrite b lo data x).1 := by
  unfold State.blockWrite
  split
  · exact .of_stored (stored_writeBlock s b lo data)
  · next k _ =>
    extract_lets met
    have kept : LinesKept s met := linesKept_meet s b k (errRec 0)
    clear_value met
    split
    · dsimp only
      exact kept.trans (linesKept_waitRepair met b _ _)
    · exact kept

theorem linesKept_ownWrite (s : State) (a : Nat) (data : List Byte) : LinesKept s (s.ownWrite a data) := by
  unfold State.ownWrite State.partsWrite
  refine LinesKept.foldl_fst (fun acc b => ?_) _ (s, true)
  exact linesKept_blockWrite acc.1 b _ _ _

/-- Commit words that the Glade has held go out, with the lines as they were. -/
theorem linesKept_flushCommits (s : State) : LinesKept s s.flushCommits := by
  unfold State.flushCommits
  split
  · exact .refl s
  · have taken : LinesKept s { s with bank := { s.bank with heldCommits := [] } } := .of_eq rfl rfl rfl
    refine taken.trans ?_
    generalize ({ s with bank := { s.bank with heldCommits := [] } } : State) = u
    exact LinesKept.foldl (fun v w => linesKept_ownWrite v _ _) s.bank.heldCommits u

/-- With no commit word held only the list, empty already, is set. -/
theorem State.flushCommits_of_none (none_ : s.bank.heldCommits = []) : s.flushCommits.mem = s.mem ∧ s.flushCommits.chan = s.chan := by
  unfold State.flushCommits
  split
  · exact ⟨rfl, rfl⟩
  · dsimp only
    rw [none_]
    exact ⟨rfl, rfl⟩

end Sys2Proof.Machine
end

section
/-! PROOFS. Power-on, the start of a half, READY and the host link (R402, R405, R413, R416, R423), with O48. -/

namespace Sys2Proof.Machine

variable {s t u : State}

/-! ## Power-on -/

/-- `t` has the boundary of `s` but for causes of ALERT_N, and its image version, memory and channels. -/
structure BootKept (s t : State) : Prop where
  edge : t.edge = { s.edge with alerts := t.edge.alerts }
  version : t.ob 0x100005 = s.ob 0x100005
  mem : t.mem = s.mem
  chan : t.chan = s.chan

namespace BootKept

theorem refl (s : State) : BootKept s s := ⟨rfl, rfl, rfl, rfl⟩

theorem trans (a : BootKept s t) (b : BootKept t u) : BootKept s u where
  edge := b.edge.trans (congrArg (fun e : EdgeSt => { e with alerts := u.edge.alerts }) a.edge)
  version := b.version.trans a.version
  mem := b.mem.trans a.mem
  chan := b.chan.trans a.chan

theorem ite {c : Prop} [Decidable c] (a : BootKept s t) : BootKept s (if c then t else s) := by
  split
  · exact a
  · exact .refl s

theorem of_reported (a : Reported [] s t) : BootKept s t := ⟨a.edge, a.ob _ (by unfold Quiet; decide) List.not_mem_nil, a.mem, a.chan⟩

theorem setBit (s : State) (n : Nat) (b : Bool) : BootKept s (s.setBit Obj.powerStatus n b) :=
  ⟨rfl, State.setBit_ob_other _ _ _ _ (by decide), rfl, rfl⟩

theorem logSettingsLost (s : State) : BootKept s s.logSettingsLost := by
  have drawn (next : Nat) : BootKept s { s with free := s.free + 2, fire := { s.fire with nextRecord := next } } := ⟨rfl, rfl, rfl, rfl⟩
  exact (drawn _).trans (of_reported ((logged_enqueue _ _ _).reported []))

end BootKept

/-- The module has what flash keeps, its power-on is counted, and an off that was not in order is a failure (R314, R402). -/
def State.booted (s : State) : State :=
  let mark := s.edge.orderlyOff
  let s := ((s.bare.bump Obj.powerOnCount).setOb 0x900001 s.edge.slot.level)
  if mark then { s with edge := { s.edge with orderlyOff := false } } else s.failure

theorem State.booted_leaves (s : State) : s.booted.edge.powered = true ∧ s.booted.edge.glade0 = false ∧ s.booted.edge.glade1 = false ∧
    s.booted.edge.minVersion = s.edge.minVersion ∧ s.booted.edge.images = s.edge.images ∧ s.booted.chan.chans = [] ∧ s.booted.mem.okBlocks = [] ∧
      s.booted.edge.bootAt = s.now := by
  unfold State.booted
  dsimp only
  split <;> exact ⟨rfl, rfl, rfl, rfl, rfl, rfl, rfl, rfl⟩

/-- The Glades start from an image. -/
def State.loaded (s : State) (i : Image) : State :=
  let s := s.setOb 0x100005 i.version
  { s with edge := { s.edge with image := some i, glade0 := true, glade1 := true } }

theorem State.powerOn_eq (may : s.mayPowerOn = true) : exec .powerOn s = match takeImage s.booted.edge.minVersion s.booted.edge.images with
    | none => .next (s.booted.faultN .noImage)
    | some i =>
      let v := s.booted.loaded i
      let v := if (areaInForce settingsBytes s.dict.flashA s.dict.flashB).isNone then v.logSettingsLost else v
      let v := if v.pwrbrk then v.setBit Obj.powerStatus 3 true else v
      .next (if v.ob Obj.powerCap < 1100 then ((v.setBit Obj.powerStatus 0 true).raise .capUnattainable).log (errRec 0x0502) else v) := by
  change execPowerOn s = _
  unfold execPowerOn
  rw [may]
  rfl

theorem State.mem_faultN (s : State) (c : FaultCause) : c ∈ (s.faultN c).edge.faults := by
  unfold State.faultN
  split
  · next held => exact List.contains_iff_mem.1 held
  · exact List.mem_append_right _ List.mem_cons_self

/-- FAULT_N is asserted for one cause; nothing else changes. -/
theorem State.faultN_rest (s : State) (c : FaultCause) : s.faultN c = { s with edge := { s.edge with faults := (s.faultN c).edge.faults } } := by
  unfold State.faultN
  split <;> rfl

theorem State.powerOn_none (may : s.mayPowerOn = true) (none_ : takeImage s.edge.minVersion s.edge.images = none) :
    ∃ t, exec .powerOn s = .next t ∧ t.edge.powered = true ∧ t.edge.glade0 = false ∧ t.edge.glade1 = false ∧ FaultCause.noImage ∈ t.edge.faults ∧
      t.chan.chans = [] := by
  obtain ⟨powered, glade0, glade1, minVersion, images, chans, _, _⟩ := s.booted_leaves
  have run := State.powerOn_eq may
  rw [minVersion, images, none_] at run
  have rest := s.booted.faultN_rest .noImage
  exact ⟨_, run, (congrArg (fun v : State => v.edge.powered) rest).trans powered, (congrArg (fun v : State => v.edge.glade0) rest).trans glade0,
    (congrArg (fun v : State => v.edge.glade1) rest).trans glade1, State.mem_faultN _ _, (congrArg (fun v : State => v.chan.chans) rest).trans chans⟩

theorem State.powerOn_some (may : s.mayPowerOn = true) {i : Image} (some_ : takeImage s.edge.minVersion s.edge.images = some i) :
    ∃ t, exec .powerOn s = .next t ∧ t.edge.powered = true ∧ t.edge.glade0 = true ∧ t.edge.glade1 = true ∧ t.edge.image = some i ∧
      t.ob 0x100005 = i.version ∧ t.chan.chans = [] ∧ t.mem.okBlocks = [] ∧ t.edge.bootAt = s.now := by
  obtain ⟨powered, _, _, minVersion, images, chans, okBlocks, bootAt⟩ := s.booted_leaves
  have run := State.powerOn_eq may
  rw [minVersion, images, some_] at run
  obtain ⟨t, is, kept⟩ : ∃ t, exec .powerOn s = .next t ∧ BootKept (s.booted.loaded i) t := by
    refine ⟨_, run, ?_⟩
    have low (v : State) : BootKept v (((v.setBit Obj.powerStatus 0 true).raise .capUnattainable).log (errRec 0x0502)) :=
      (BootKept.setBit v 0 true).trans (.of_reported ((reported_raise [] _ _).trans (reported_log [] _ _)))
    exact ((BootKept.ite (.logSettingsLost _)).trans (.ite (.setBit _ 3 true))).trans (.ite (low _))
  have edge {α : Type} (f : EdgeSt → α) (same : ∀ (e : EdgeSt) l, f { e with alerts := l } = f e) : f t.edge = f (s.booted.loaded i).edge :=
    (congrArg f kept.edge).trans (same _ _)
  exact ⟨t, is, (edge EdgeSt.powered fun _ _ => rfl).trans powered, edge EdgeSt.glade0 fun _ _ => rfl, edge EdgeSt.glade1 fun _ _ => rfl,
    edge EdgeSt.image fun _ _ => rfl, kept.version.trans (State.setOb_same _ _ _), (congrArg ChanSt.chans kept.chan).trans chans,
    (congrArg MemSt.okBlocks kept.mem).trans okBlocks, (edge EdgeSt.bootAt fun _ _ => rfl).trans bootAt⟩

/-! ## The start of a half -/

/-- `t` is `s` but for objects, records, the rows to repair and the rails of stands. -/
structure RowsAndRails (s t : State) : Prop where
  chan : t.chan = s.chan
  bank : t.bank = s.bank
  cells : t.mem.cells = s.mem.cells
  okBlocks : t.mem.okBlocks = s.mem.okBlocks
  edge : t.edge = { s.edge with alerts := t.edge.alerts }

namespace RowsAndRails

theorem refl (s : State) : RowsAndRails s s := ⟨rfl, rfl, rfl, rfl, rfl⟩

theorem trans (a : RowsAndRails s t) (b : RowsAndRails t u) : RowsAndRails s u where
  chan := b.chan.trans a.chan
  bank := b.bank.trans a.bank
  cells := b.cells.trans a.cells
  okBlocks := b.okBlocks.trans a.okBlocks
  edge := b.edge.trans (congrArg (fun e : EdgeSt => { e with alerts := u.edge.alerts }) a.edge)

theorem foldl {α : Type} {f : State → α → State} (step : ∀ u x, RowsAndRails u (f u x)) (l : List α) (s : State) : RowsAndRails s (l.foldl f s) := by
  induction l generalizing s with
  | nil => exact .refl s
  | cons x l ih => exact (step s x).trans (ih (f s x))

theorem of_reported {counts : List Nat} (a : Reported counts s t) : RowsAndRails s t :=
  ⟨a.chan, a.bank, congrArg MemSt.cells a.mem, congrArg MemSt.okBlocks a.mem, a.edge⟩

end RowsAndRails

theorem rowsAndRails_applyRowRepairs (s : State) (h : Nat) (left : List (Nat × Nat)) : RowsAndRails s (s.applyRowRepairs h left) := by
  unfold State.applyRowRepairs
  refine (RowsAndRails.foldl (fun u x => ?_) left s).trans (.foldl (fun u b => ?_) _ _)
  · dsimp only
    split <;> exact ⟨rfl, rfl, rfl, rfl, rfl⟩
  · dsimp only
    split
    · exact .refl u
    · split
      · exact RowsAndRails.trans (t := u.setOb (Obj.stackDegraded (stackOfPhys b)) 1) ⟨rfl, rfl, rfl, rfl, rfl⟩
          (.of_reported ((logged_logHalf _ _ _).reported []))
      · exact ⟨rfl, rfl, rfl, rfl, rfl⟩

theorem rowsAndRails_startRails (s : State) (h : Nat) : RowsAndRails s (s.startRails h) := by
  unfold State.startRails
  refine RowsAndRails.foldl (fun u n => ?_) _ s
  dsimp only
  split <;> exact ⟨rfl, rfl, rfl, rfl, rfl⟩

theorem State.enterPort_rest (s : State) (n st cause : Nat) : s.enterPort n st cause = { s with
    fab := (s.enterPort n st cause).fab, dict := { s.dict with objs := (s.enterPort n st cause).dict.objs } } := by
  unfold State.enterPort
  split <;> rfl

/-- `t` is `s` with the ports listed released from the reset, and some of them in training. -/
structure PortsReleased (l : List Nat) (s t : State) : Prop where
  rest : t = { s with fab := t.fab, dict := { s.dict with objs := t.dict.objs } }
  released : ∀ n ∈ l, (t.port n).heldByReset = false
  stays : ∀ n, (s.port n).heldByReset = false → (t.port n).heldByReset = false
  ob : ∀ k, (∀ n ∈ l, notOfPort n k) → t.ob k = s.ob k

theorem portsReleased_one (s : State) (n : Nat) : let u := s.modPort n (fun p => { p with heldByReset := false })
    PortsReleased [n] s (if u.ob (Obj.portEnable n) == 1 && u.me != 0 && u.portSt n == 0 then u.train n else u) := by
  intro u
  have free (k : Nat) : (u.port k).heldByReset = if k = n then false else (s.port k).heldByReset := by
    split
    · next same =>
      rw [same]
      exact congrArg Port.heldByReset (s.modPort_same n _)
    · next other => exact congrArg Port.heldByReset (s.modPort_other _ other)
  have plain : PortsReleased [n] s u := by
    refine ⟨rfl, fun k is => ?_, fun k held => ?_, fun _ _ => rfl⟩
    · rw [free, if_pos (List.mem_singleton.1 is)]
    · rw [free]
      split
      · rfl
      · exact held
  have trained : PortsReleased [n] u (u.train n) := by
    have own : (u.port n).heldByReset = false := by rw [free, if_pos rfl]
    unfold State.train
    split
    · exact ⟨rfl, fun k is => List.mem_singleton.1 is ▸ own, fun _ held => held, fun _ _ => rfl⟩
    · have held (k : Nat) : ((u.enterPort n 1 0).port k).heldByReset = (u.port k).heldByReset := by
        by_cases same : k = n
        · rw [same, u.enterPort_port]
        · rw [u.enterPort_port_other _ _ same]
      exact ⟨u.enterPort_rest n 1 0, fun k is => (held k).trans (List.mem_singleton.1 is ▸ own), fun k was => (held k).trans was,
        fun k other => State.enterPort_ob_other (other n List.mem_cons_self)⟩
  split
  · exact ⟨trained.rest.trans rfl, trained.released, fun k held => trained.stays k (plain.stays k held), fun k other => (trained.ob k other).trans (plain.ob k other)⟩
  · exact plain

theorem portsReleased_startPorts (s : State) (h : Nat) : PortsReleased (portsOf h) s (s.startPorts h) := by
  have each (l : List Nat) : ∀ v : State, PortsReleased l v (l.foldl (fun s n =>
      let u := s.modPort n (fun p => { p with heldByReset := false })
      if u.ob (Obj.portEnable n) == 1 && u.me != 0 && u.portSt n == 0 then u.train n else u) v) := by
    induction l with
    | nil => exact fun v => ⟨rfl, fun _ is => (List.not_mem_nil is).elim, fun _ held => held, fun _ _ => rfl⟩
    | cons n l ih =>
      intro v
      have one := portsReleased_one v n
      rw [List.foldl_cons]
      have tail := ih (let u := v.modPort n (fun p => { p with heldByReset := false })
        if u.ob (Obj.portEnable n) == 1 && u.me != 0 && u.portSt n == 0 then u.train n else u)
      dsimp only at one tail ⊢
      generalize (if (v.modPort n (fun p => { p with heldByReset := false })).ob (Obj.portEnable n) == 1 &&
        (v.modPort n (fun p => { p with heldByReset := false })).me != 0 && (v.modPort n (fun p => { p with heldByReset := false })).portSt n == 0
        then (v.modPort n (fun p => { p with heldByReset := false })).train n else v.modPort n (fun p => { p with heldByReset := false })) = w at one tail ⊢
      generalize List.foldl _ w l = t at tail ⊢
      refine ⟨tail.rest.trans (congrArg (fun x : State => { x with fab := t.fab, dict := { x.dict with objs := t.dict.objs } }) one.rest),
        fun k is => ?_, fun k held => tail.stays k (one.stays k held), fun k other => ?_⟩
      · rcases List.mem_cons.1 is with rfl | inside
        · exact tail.stays k (one.released k List.mem_cons_self)
        · exact tail.released k inside
      · exact (tail.ob k fun m inside => other m (List.mem_cons_of_mem _ inside)).trans
          (one.ob k fun m only => other m (List.mem_singleton.1 only ▸ List.mem_cons_self))
  exact each (portsOf h) s

/-- The memory of a half fails its checks: its SRAM, and its stacks after a power-on (R125). -/
def State.failLines (s : State) (h : Nat) : State := let u := s.failSram h; if u.edge.coldHalves.contains h then u.failStacks h else u

theorem State.failLines_leaves (s : State) (h : Nat) : (∀ b ∈ (s.failLines h).mem.okBlocks, inSram h b = false) ∧ (s.failLines h).mem.cells = s.mem.cells ∧
    (s.failLines h).chan = s.chan ∧ (s.failLines h).bank = s.bank ∧ (s.failLines h).edge = s.edge := by
  have sram : ∀ b ∈ (s.failSram h).mem.okBlocks, inSram h b = false := fun b inside => by simpa using (List.mem_filter.1 inside).2
  unfold State.failLines
  dsimp only
  split
  · exact ⟨fun b inside => sram b (List.mem_filter.1 inside).1, rfl, rfl, rfl, rfl⟩
  · exact ⟨sram, rfl, rfl, rfl, rfl⟩

/-- The half's rows and rails are set and it runs (Table 12-4, events 4 to 6). -/
def State.halfRunning (s : State) (h : Nat) (left : List (Nat × Nat)) : State :=
  (((s.failLines h).applyRowRepairs h left).startRails h).setOb (Obj.halfState h) 2

/-- It is lost and cold no longer. -/
def State.halfFound (s : State) (h : Nat) : State := { s with edge := { s.edge with
  coldHalves := s.edge.coldHalves.filter (· != h), retriedHalf := s.edge.retriedHalf.filter (· != h)
  lostAt := kdel s.edge.lostAt h } }

/-- Its clocks have locked. -/
def State.halfClocks (s : State) (h : Nat) : State := { s with edge := { s.edge with
  unlocked := s.edge.unlocked.filter (fun c => !(c == 1 || c == 2 + h || (decide (32 ≤ c) && (c - 32) / 16 == h))) } }

/-- Its clocks have locked, its Glade runs, and its guest site waits. -/
def State.halfLocked (s : State) (h : Nat) : State :=
  let s := ((s.halfFound h).halfClocks h).setGlade h true
  if s.cap 4 then s.setOb (Obj.guestLink h) 1 else s

theorem State.halfStart_eq {h : Nat} (may : s.mayStartHalf h = true) (accepted : s.pairRefused = false) (left : List (Nat × Nat)) :
    exec (.halfStart h left) s = .next ((((s.halfRunning h left).halfLocked h).startPorts h).flushAll).flushCommits := by
  change Host.Outcome.next (s.halfStart h left) = _
  unfold State.halfStart
  rw [may, accepted, if_neg (by decide), if_neg (by decide)]
  extract_lets sram lines rows edge found edge' clocks guest
  have run : rows = s.halfRunning h left := rfl
  clear_value rows
  have lock : guest = rows.halfLocked h := rfl
  clear_value guest
  rw [lock, run]

theorem State.setGlade_keeps (s : State) (h : Nat) (b : Bool) : (s.setGlade h b).edge.coldHalves = s.edge.coldHalves ∧
    (s.setGlade h b).edge.unlocked = s.edge.unlocked ∧ (s.setGlade h b).edge.lostAt = s.edge.lostAt := by
  unfold State.setGlade
  dsimp only
  split <;> exact ⟨rfl, rfl, rfl⟩

theorem State.halfLocked_leaves (s : State) (h : Nat) : let t := s.halfLocked h
    (∀ k, k ≠ Obj.guestLink h → t.ob k = s.ob k) ∧ h ∉ t.edge.coldHalves ∧ 1 ∉ t.edge.unlocked ∧ 2 + h ∉ t.edge.unlocked ∧
      kget? t.edge.lostAt h = none ∧ t.mem = s.mem ∧ t.chan = s.chan ∧ t.bank = s.bank := by
  obtain ⟨coldSame, unlockedSame, lostSame⟩ := ((s.halfFound h).halfClocks h).setGlade_keeps h true
  have cold : h ∉ (((s.halfFound h).halfClocks h).setGlade h true).edge.coldHalves := by
    rw [coldSame]
    exact fun held => absurd (List.mem_filter.1 held).2 (by simp)
  have one : 1 ∉ (((s.halfFound h).halfClocks h).setGlade h true).edge.unlocked := by
    rw [unlockedSame]
    exact fun held => absurd (List.mem_filter.1 held).2 (by simp)
  have own : 2 + h ∉ (((s.halfFound h).halfClocks h).setGlade h true).edge.unlocked := by
    rw [unlockedSame]
    exact fun held => absurd (List.mem_filter.1 held).2 (by simp)
  have lost : kget? (((s.halfFound h).halfClocks h).setGlade h true).edge.lostAt h = none := by
    rw [lostSame]
    exact kget?_kdel_same _ _
  unfold State.halfLocked
  dsimp only
  split
  · exact ⟨fun k other => State.setOb_other _ _ _ _ other, cold, one, own, lost, rfl, rfl, rfl⟩
  · exact ⟨fun _ _ => rfl, cold, one, own, lost, rfl, rfl, rfl⟩

theorem State.halfRunning_leaves (s : State) (h : Nat) (left : List (Nat × Nat)) : let t := s.halfRunning h left
    t.ob (Obj.halfState h) = 2 ∧ (∀ b ∈ t.mem.okBlocks, inSram h b = false) ∧ t.mem.cells = s.mem.cells ∧ t.chan = s.chan ∧ t.bank = s.bank := by
  obtain ⟨lines, cells, chan, bank, _⟩ := s.failLines_leaves h
  have kept := (rowsAndRails_applyRowRepairs (s.failLines h) h left).trans (rowsAndRails_startRails _ h)
  unfold State.halfRunning
  generalize ((s.failLines h).applyRowRepairs h left).startRails h = v at kept ⊢
  exact ⟨State.setOb_same _ _ _, fun b inside => lines b ((congrArg (b ∈ ·) kept.okBlocks).mp inside), kept.cells.trans cells, kept.chan.trans chan,
    kept.bank.trans bank⟩

theorem portsOf_lt {h n : Nat} (inside : n ∈ portsOf h) : n < 9 := by
  unfold portsOf at inside
  split at inside <;> simp only [List.mem_cons, List.not_mem_nil, or_false] at inside <;> omega

/-- What a start of a half leaves. -/
theorem State.halfStart_leaves {h : Nat} (may : s.mayStartHalf h = true) (accepted : s.pairRefused = false) (left : List (Nat × Nat)) :
    ∃ t, exec (.halfStart h left) s = .next t ∧ t.halfRuns h = true ∧ (∀ n ∈ portsOf h, (t.port n).heldByReset = false) ∧
      h ∉ t.edge.coldHalves ∧ 1 ∉ t.edge.unlocked ∧ 2 + h ∉ t.edge.unlocked ∧ kget? t.edge.lostAt h = none ∧
      (s.bank.heldCommits = [] → s.chan.chans = [] →
        (∀ b ∈ t.mem.okBlocks, inSram h b = false) ∧ t.mem.cells = s.mem.cells ∧ t.chan = s.chan) := by
  have small : h < 2 := by
    unfold State.mayStartHalf at may
    simp only [Bool.and_eq_true, decide_eq_true_eq] at may
    exact may.1.1.1.1.1.1
  obtain ⟨runs, lines, cells, chan, bank⟩ := s.halfRunning_leaves h left
  obtain ⟨objs, cold, one, own, lost, mem', chan', bank'⟩ := (s.halfRunning h left).halfLocked_leaves h
  have ports := portsReleased_startPorts ((s.halfRunning h left).halfLocked h) h
  have run := State.halfStart_eq may accepted left
  generalize (s.halfRunning h left).halfLocked h = v at *
  have out := (linesKept_flushAll (v.startPorts h)).trans (linesKept_flushCommits _)
  have edge : (v.startPorts h).edge = v.edge := (congrArg State.edge ports.rest :)
  have state : (v.startPorts h).ob (Obj.halfState h) = 2 := by
    refine (ports.ob _ fun n inside => ?_).trans ((objs _ ?_).trans runs)
    · have := portsOf_lt inside
      unfold notOfPort Obj.halfState Obj.portState Obj.portPeer
      omega
    · unfold Obj.halfState Obj.guestLink
      omega
  have kept {α : Type} (f : EdgeSt → α) (same : ∀ (e : EdgeSt) a b c, f { e with alerts := a, msixPending := b, guestQueue := c } = f e) :
      f (v.startPorts h).flushAll.flushCommits.edge = f v.edge := by
    rw [out.edge, same, edge]
  refine ⟨_, run, ?_, fun n inside => ?_, ?_, ?_, ?_, ?_, fun none_ noChans => ?_⟩
  · unfold State.halfRuns
    rw [out.ob _ (by unfold Obj.halfState; omega) (by unfold Obj.halfState; omega), state]
    rfl
  · unfold State.port
    rw [out.ports]
    exact ports.released n inside
  · rw [kept EdgeSt.coldHalves fun _ _ _ _ => rfl]
    exact cold
  · rw [kept EdgeSt.unlocked fun _ _ _ _ => rfl]
    exact one
  · rw [kept EdgeSt.unlocked fun _ _ _ _ => rfl]
    exact own
  · rw [kept EdgeSt.lostAt fun _ _ _ _ => rfl]
    exact lost
  · have chan2 : (v.startPorts h).chan = s.chan := (congrArg State.chan ports.rest :).trans (chan'.trans chan)
    have bank2 : (v.startPorts h).bank = s.bank := (congrArg State.bank ports.rest :).trans (bank'.trans bank)
    have mem2 : (v.startPorts h).mem = (s.halfRunning h left).mem := (congrArg State.mem ports.rest :).trans mem'
    rw [State.flushAll_of_none ((congrArg ChanSt.chans chan2).trans noChans)]
    obtain ⟨mem3, chan3⟩ := State.flushCommits_of_none (s := v.startPorts h) ((congrArg BankSt.heldCommits bank2).trans none_)
    rw [mem3, mem2, chan3]
    exact ⟨lines, cells, chan2⟩

/-- A pair of steppings that is refused (R413). -/
theorem State.halfStart_refused {h : Nat} (may : s.mayStartHalf h = true) (refused : s.pairRefused = true) (left : List (Nat × Nat)) :
    ∃ t, exec (.halfStart h left) s = .next t ∧ FaultCause.pairing ∈ t.edge.faults ∧ t.ob (Obj.halfState h) = 1 ∧ t.mem = s.mem ∧ t.chan = s.chan := by
  have run : exec (.halfStart h left) s = .next ((s.setOb (Obj.halfState h) 1).faultN .pairing) := by
    change Host.Outcome.next (s.halfStart h left) = _
    unfold State.halfStart
    rw [may, refused]
    rfl
  have rest := (s.setOb (Obj.halfState h) 1).faultN_rest .pairing
  exact ⟨_, run, State.mem_faultN _ _, (State.ob_congr (congrArg (fun v : State => v.dict.objs) rest) _).trans (State.setOb_same _ _ _),
    (congrArg State.mem rest :), (congrArg State.chan rest :)⟩

/-! ## The host link -/

theorem mem_nins {l : List Nat} {k v : Nat} : v ∈ nins l k ↔ v = k ∨ v ∈ l := by
  induction l with
  | nil => simp [nins]
  | cons a l ih =>
    unfold nins
    split
    · simp
    · split
      · next same => simp [same]
      · simp only [List.mem_cons, ih]
        exact or_left_comm

/-- The vectors in a list, sent where they are not masked. -/
theorem State.msixAll_unmasked (l : List Nat) : ∀ v : State, v.edge.hostLink = true → (∀ n ∈ l, v.msixMasked n = false) →
    (l.foldl (fun s n => s.msix n) v).edge = v.edge ∧
    (l.foldl (fun s n => s.msix n) v).out = v.out ++ l.filterMap (fun n => if n = 0xFFFF then none else some (.msix n)) := by
  induction l with
  | nil => exact fun v _ _ => ⟨rfl, (List.append_nil _).symm⟩
  | cons n l ih =>
    intro v link unmasked
    obtain ⟨edge, out⟩ := State.msix_of_unmasked link (unmasked n List.mem_cons_self)
    have masks (k : Nat) : (v.msix n).msixMasked k = v.msixMasked k := by
      unfold State.msixMasked State.msixEntry
      rw [edge]
    obtain ⟨edge', out'⟩ := ih (v.msix n) ((congrArg EdgeSt.hostLink edge).trans link)
      fun k inside => (masks k).trans (unmasked k (List.mem_cons_of_mem _ inside))
    refine ⟨edge'.trans edge, ?_⟩
    rw [List.foldl_cons, out', out, List.append_assoc, List.filterMap_cons]
    split <;> simp [*]

/-- Masked ones become pending bits. -/
theorem State.msixAll_masked (l : List Nat) : ∀ v : State, (∀ n ∈ l, v.msixMasked n = true ∧ n ≠ 0xFFFF) →
    (∀ n, n ∈ (l.foldl (fun s n => s.msix n) v).edge.msixPending ↔ n ∈ v.edge.msixPending ∨ n ∈ l) ∧
    (l.foldl (fun s n => s.msix n) v).out = v.out := by
  induction l with
  | nil => exact fun v _ => ⟨fun n => by simp, rfl⟩
  | cons k l ih =>
    intro v masked
    obtain ⟨own, used⟩ := masked k List.mem_cons_self
    rw [List.foldl_cons, State.msix_of_masked own used]
    obtain ⟨pending, out⟩ := ih { v with edge := { v.edge with msixPending := nins v.edge.msixPending k } }
      fun n inside => masked n (List.mem_cons_of_mem _ inside)
    refine ⟨fun n => ?_, out⟩
    rw [pending, mem_nins, List.mem_cons]
    rw [or_assoc, or_left_comm]

theorem State.msixAll_rest (l : List Nat) (v : State) : (l.foldl (fun s n => s.msix n) v).mem = v.mem ∧ (l.foldl (fun s n => s.msix n) v).chan = v.chan :=
  ⟨foldl_field (f := fun s n => s.msix n) State.mem (fun u n => (congrArg State.mem (u.msix_rest n) :)) l v,
    foldl_field (f := fun s n => s.msix n) State.chan (fun u n => (congrArg State.chan (u.msix_rest n) :)) l v⟩

/-- The link is up and no interrupt is pending: where those held back go out from. -/
def State.linkBack (s : State) : State := { s with edge := { s.edge with hostLink := true, msixPending := [] } }

/-- What the link leaves when it is up again. -/
theorem State.hostLinkUp_leaves (s : State) : let t := s.hostLinkUp
    t.edge.hostLink = true ∧ t.edge.ready = s.edge.ready ∧ t.edge.unlocked = s.edge.unlocked ∧ t.ob Obj.pcieLink = s.ob Obj.pcieLink ∧
    (s.chan.chans = [] → t.mem = s.mem ∧ t.chan = s.chan) ∧
    (s.chan.chans = [] → (∀ v ∈ s.edge.msixPending, s.msixMasked v = false) → t.edge.msixPending = [] ∧
      t.out = s.out ++ s.edge.msixPending.filterMap (fun v => if v = 0xFFFF then none else some (.msix v))) ∧
    (s.chan.chans = [] → (∀ v ∈ s.edge.msixPending, s.msixMasked v = true ∧ v ≠ 0xFFFF) →
      (∀ v, v ∈ t.edge.msixPending ↔ v ∈ s.edge.msixPending) ∧ t.out = s.out) := by
  have sent := LinesKept.foldl linesKept_msix s.edge.msixPending s.linkBack
  have kept := sent.trans (linesKept_flushAll _)
  obtain ⟨mem, chan⟩ := State.msixAll_rest s.edge.msixPending s.linkBack
  intro t
  have none_ (noChans : s.chan.chans = []) : t = s.edge.msixPending.foldl (fun s v => s.msix v) s.linkBack :=
    State.flushAll_of_none ((congrArg ChanSt.chans chan).trans noChans)
  refine ⟨(congrArg EdgeSt.hostLink kept.edge :), (congrArg EdgeSt.ready kept.edge :), (congrArg EdgeSt.unlocked kept.edge :),
    kept.ob _ (by decide) (by decide), fun noChans => ?_, fun noChans unmasked => ?_, fun noChans masked => ?_⟩
  · rw [none_ noChans]
    exact ⟨mem, chan⟩
  · rw [none_ noChans]
    obtain ⟨edge, out⟩ := State.msixAll_unmasked s.edge.msixPending s.linkBack rfl unmasked
    exact ⟨congrArg EdgeSt.msixPending edge, out⟩
  · rw [none_ noChans]
    obtain ⟨pending, out⟩ := State.msixAll_masked s.edge.msixPending s.linkBack masked
    exact ⟨fun v => (pending v).trans (or_iff_right List.not_mem_nil), out⟩

/-- The link as it has trained, with clock 0 locked. -/
def State.linkTrained (s : State) (ready : Bool) : State :=
  let s := { s with edge := { s.edge with ready := ready, unlocked := s.edge.unlocked.filter (· != 0) } }
  (s.setOb Obj.pcieLink s.trainedLink).drawn 1

theorem State.linkTrained_leaves (s : State) (ready : Bool) : let t := (s.linkTrained ready).hostLinkUp
    t.edge.ready = ready ∧ t.edge.hostLink = true ∧ 0 ∉ t.edge.unlocked ∧ t.ob Obj.pcieLink = s.trainedLink ∧
    (s.chan.chans = [] → t.mem = s.mem ∧ t.chan = s.chan) ∧
    (s.chan.chans = [] → (∀ v ∈ s.edge.msixPending, s.msixMasked v = false) → t.edge.msixPending = [] ∧
      t.out = s.out ++ s.edge.msixPending.filterMap (fun v => if v = 0xFFFF then none else some (.msix v))) ∧
    (s.chan.chans = [] → (∀ v ∈ s.edge.msixPending, s.msixMasked v = true ∧ v ≠ 0xFFFF) →
      (∀ v, v ∈ t.edge.msixPending ↔ v ∈ s.edge.msixPending) ∧ t.out = s.out) := by
  obtain ⟨link, isReady, unlocked, ob, rest, unmasked, masked⟩ := (s.linkTrained ready).hostLinkUp_leaves
  refine ⟨isReady, link, ?_, ob.trans (State.setOb_same _ _ _), rest, unmasked, masked⟩
  rw [unlocked]
  exact fun held => absurd (List.mem_filter.1 held).2 (by decide)

theorem State.pcieReady_eq {high : Nat} (on : s.edge.powered = true) (waits : s.edge.ready = false)
    (halves : ∀ h, h < 2 → s.halfRuns h = true ∨ s.halfDead h = true) (some_ : s.halfRuns 0 = true ∨ s.halfRuns 1 = true)
    (raised : s.edge.perstHighAt = some high) (late : high + 100000000 ≤ s.now) : exec .pcieReady s = .next (s.linkTrained true).hostLinkUp := by
  have all : ([0, 1].all (fun h => s.halfRuns h || s.halfDead h) && (s.halfRuns 0 || s.halfRuns 1)) = true := by
    simp only [List.all_cons, List.all_nil, Bool.and_true, Bool.and_eq_true, Bool.or_eq_true]
    exact ⟨⟨halves 0 (by decide), halves 1 (by decide)⟩, some_⟩
  have run : exec .pcieReady s = if s.edge.powered && !s.edge.ready &&
      ([0, 1].all (fun h => s.halfRuns h || s.halfDead h) && (s.halfRuns 0 || s.halfRuns 1)) && (match s.edge.perstHighAt with
        | some t => decide (t + 100000000 ≤ s.now)
        | none => false) then .next (s.linkTrained true).hostLinkUp else .next s := rfl
  rw [run, on, waits, all, raised]
  exact if_pos (by simpa using late)

theorem State.hostLinkUp_exec (on : s.edge.powered = true) (ready : s.edge.ready = true) (down : s.edge.hostLink = false) (high : s.edge.perst.level = 1) :
    exec .hostLinkUp s = .next (s.linkTrained true).hostLinkUp := by
  change execHostLinkUp s = _
  unfold execHostLinkUp
  rw [on, ready, down, high]
  exact (if_pos (by decide)).trans (by unfold State.linkTrained; rw [← ready])

/-- Settles O48: what starts leaves its lines as they are while held records and commit words go out (`LinesKept`). -/
theorem startingEventsComplete : Obligations.StartingEventsComplete := by
  unfold Obligations.StartingEventsComplete
  intro s
  refine ⟨fun may => ⟨State.powerOn_none may, fun i => State.powerOn_some may⟩, fun half left may => ⟨fun refused => State.halfStart_refused may refused left,
    fun accepted => State.halfStart_leaves may accepted left⟩, fun high on waits halves some_ raised late => ?_, fun up => ?_, fun on ready down high => ?_⟩
  · obtain ⟨ready, link, locked, shown, rest, unmasked, _⟩ := s.linkTrained_leaves true
    refine ⟨_, State.pcieReady_eq on waits halves some_ raised late, ready, link, locked, shown, fun noChans open_ => ?_⟩
    exact ⟨(unmasked noChans open_).1, (unmasked noChans open_).2, rest noChans⟩
  · have run : exec .hostLinkDown s = .next s.resetHostLink := by
      change execHostLinkDown s = _
      unfold execHostLinkDown
      rw [if_pos up]
    exact ⟨_, run, rfl, rfl, rfl, rfl, rfl, rfl, State.setOb_same _ _ _, rfl, rfl, rfl⟩
  · obtain ⟨_, link, locked, shown, rest, unmasked, masked⟩ := s.linkTrained_leaves true
    exact ⟨_, State.hostLinkUp_exec on ready down high, link, locked, shown, fun noChans open_ => ⟨(unmasked noChans open_).1, rest noChans⟩, masked⟩

end Sys2Proof.Machine
end

section
/-! PROOFS. Lost halves, clocks and Glades (R381, R405, R406, R410 to R412, R422), with O49. -/

namespace Sys2Proof.Machine

variable {s : State}

/-! ## Halves (R405, R406, R410, R411) -/

theorem State.loseHalf_drop {h : Nat} (small : h < 2) (runs : s.halfRuns h = true) (other : s.halfRuns (1 - h) = true) : s.loseHalf h = s.dropHalf h := by
  unfold State.loseHalf
  rw [runs, decide_eq_false (Nat.not_le.2 small), if_neg (by decide), if_pos other]

theorem State.loseHalf_reset {h : Nat} (small : h < 2) (runs : s.halfRuns h = true) (other : s.halfRuns (1 - h) = false) : s.loseHalf h = s.moduleReset := by
  unfold State.loseHalf
  rw [runs, decide_eq_false (Nat.not_le.2 small), other, if_neg (by decide), if_neg (by decide)]

theorem State.takenOver_same {u : State} (same : u.ob Obj.gladeActive = s.ob Obj.gladeActive) : s.takenOver u = u :=
  if_pos (beq_iff_eq.2 same)

theorem State.takenOver_other {u : State} (other : u.ob Obj.gladeActive ≠ s.ob Obj.gladeActive) : s.takenOver u = u.retryLater.serveHeld :=
  if_neg fun same => other (beq_iff_eq.1 same)

/-- Of two halves that run the one without the Glade in force, or the one that is no longer heard, is lost. -/
theorem State.halfLost_of_both {h : Nat} (small : h < 2) (zero : s.halfRuns 0 = true) (one : s.halfRuns 1 = true) :
    s.halfLost (1 - h) = s.takenOver (s.dropHalf (1 - h)) := by
  have runs : s.halfRuns (1 - h) = true ∧ s.halfRuns (1 - (1 - h)) = true := by
    obtain rfl | rfl : h = 0 ∨ h = 1 := by omega
    · exact ⟨one, zero⟩
    · exact ⟨zero, one⟩
  unfold State.halfLost
  rw [State.loseHalf_drop (by omega) runs.1 runs.2]

theorem State.halfRejoinTimeout_first {h since : Nat} (lost : kget? s.edge.lostAt h = some since) (down : s.halfRuns h = false)
    (late : since + 2000000000 ≤ s.now) (fresh : s.edge.retriedHalf.contains h = false) :
    ∃ t, exec (.halfRejoinTimeout h) s = .next t ∧ h ∈ t.edge.retriedHalf ∧ kget? t.edge.lostAt h = some s.now ∧ t.mem = s.mem ∧ t.chan = s.chan := by
  have run : exec (.halfRejoinTimeout h) s = .next { s with edge := { s.edge with
      retriedHalf := s.edge.retriedHalf ++ [h], lostAt := kset s.edge.lostAt h s.now } } := by
    change execHalfRejoinTimeout h s = _
    unfold execHalfRejoinTimeout
    simp only [lost, down, decide_eq_false (Nat.not_lt.2 late), fresh, Bool.or_self, Bool.false_eq_true, if_false]
  exact ⟨_, run, List.mem_append_right _ List.mem_cons_self, kget?_kset_same _ _ _, rfl, rfl⟩

theorem State.halfRejoinTimeout_second {h since : Nat} (lost : kget? s.edge.lostAt h = some since) (down : s.halfRuns h = false)
    (late : since + 2000000000 ≤ s.now) (again : s.edge.retriedHalf.contains h = true) :
    ∃ t, exec (.halfRejoinTimeout h) s = .next t ∧ h ∈ t.edge.deadHalves ∧ t.ob (Obj.halfState h) = 3 ∧ FaultCause.startUp h ∈ t.edge.faults ∧
      t.mem = s.mem ∧ t.chan = s.chan := by
  let u : State := ({ s with edge := { s.edge with
    deadHalves := s.edge.deadHalves ++ [h], lostAt := kdel s.edge.lostAt h } } : State).setOb (Obj.halfState h) 3
  have run : exec (.halfRejoinTimeout h) s = .next (u.faultN (.startUp h)) := by
    change execHalfRejoinTimeout h s = _
    unfold execHalfRejoinTimeout
    simp only [lost, down, decide_eq_false (Nat.not_lt.2 late), again, Bool.or_self, Bool.false_eq_true, if_false, if_true]
    rfl
  have rest := u.faultN_rest (.startUp h)
  have dead : h ∈ u.edge.deadHalves := List.mem_append_right _ List.mem_cons_self
  refine ⟨_, run, ?_, (State.ob_congr (congrArg (fun v : State => v.dict.objs) rest :) _).trans (State.setOb_same _ _ _), State.mem_faultN _ _,
    (congrArg State.mem rest :), (congrArg State.chan rest :)⟩
  rw [rest]
  exact dead

theorem State.bridgeHeartbeatMiss_side {h main side : Nat} (small : h < 2) (missed : 8 ≤ main) (zero : s.halfRuns 0 = true) (one : s.halfRuns 1 = true)
    (silent : 8 ≤ side) : exec (.bridgeHeartbeatMiss h main side) s = .next (s.takenOver (s.dropHalf (1 - h))) := by
  change execBridgeHeartbeatMiss h main side s = _
  unfold execBridgeHeartbeatMiss
  rw [decide_eq_false (Nat.not_le.2 small), decide_eq_false (Nat.not_lt.2 missed), zero, one, if_neg (by decide), if_pos silent,
    State.halfLost_of_both small zero one]

theorem State.bridgeHeartbeatMiss_main {h main side : Nat} (small : h < 2) (missed : 8 ≤ main) (zero : s.halfRuns 0 = true) (one : s.halfRuns 1 = true)
    (heard : side < 8) (active : s.ob Obj.gladeActive < 2) :
    exec (.bridgeHeartbeatMiss h main side) s = .next (s.takenOver (s.dropHalf (1 - s.ob Obj.gladeActive))) := by
  change execBridgeHeartbeatMiss h main side s = _
  unfold execBridgeHeartbeatMiss
  rw [decide_eq_false (Nat.not_le.2 small), decide_eq_false (Nat.not_lt.2 missed), zero, one, if_neg (by decide), if_neg (Nat.not_le.2 heard),
    State.halfLost_of_both active zero one]

/-! ## Clocks (R412) -/

theorem State.islandLockLoss_stack (on : s.edge.powered = true) {st : Nat} (small : st < 32) : exec (.islandLockLoss (.stackPhy st)) s =
    .next (((s.log { errRec 0x0602 with stack := st }).unlock (32 + st)).halfLost (st / 16)) := by
  have same : st % 64 = st := Nat.mod_eq_of_lt (by omega)
  change execIslandLockLoss (.stackPhy st) s = _
  unfold execIslandLockLoss
  rw [on, if_neg (by decide)]
  dsimp only
  rw [same]

theorem State.islandLockLoss_bridge (on : s.edge.powered = true) : exec (.islandLockLoss .bridgePhy) s = .next ((s.log (errRec 0x0602)).unlock 1) := by
  change execIslandLockLoss .bridgePhy s = _
  unfold execIslandLockLoss
  rw [on, if_neg (by decide)]

theorem State.islandLockLoss_port (on : s.edge.powered = true) {n : Nat} (small : n < 9) (up : s.portUp n = true) :
    exec (.islandLockLoss (.portSerdes n)) s = .next (((s.log { errRec 0x0602 with detail0 := n }).unlock (10 + n)).flap n) := by
  have told : Reported [] s (s.log { errRec 0x0602 with detail0 := n }) := reported_log _ _ _
  have state : ((s.log { errRec 0x0602 with detail0 := n }).unlock (10 + n)).portUp n = true := by
    have same : ((s.log { errRec 0x0602 with detail0 := n }).unlock (10 + n)).ob (Obj.portState n) = s.ob (Obj.portState n) :=
      told.ob _ (by unfold Quiet Obj.portState; omega) List.not_mem_nil
    unfold State.portUp State.portSt
    rw [same]
    exact up
  change execIslandLockLoss (.portSerdes n) s = _
  unfold execIslandLockLoss
  rw [on, if_neg (by decide)]
  dsimp only
  rw [if_pos state]

theorem State.islandLockLoss_pcie (on : s.edge.powered = true) :
    exec (.islandLockLoss .pcie) s = .next ((s.log (errRec 0x0602)).unlock 0).resetHostLink := by
  change execIslandLockLoss .pcie s = _
  unfold execIslandLockLoss
  rw [on, if_neg (by decide)]

theorem State.islandLockLoss_guest (on : s.edge.powered = true) {g : Nat} (small : g < 2) : exec (.islandLockLoss (.guestPhy g)) s =
    .next (((s.log { errRec 0x0602 with detail0 := g }).unlock (20 + g)).guestDown g) := by
  have same : g % 2 = g := Nat.mod_eq_of_lt small
  change execIslandLockLoss (.guestPhy g) s = _
  unfold execIslandLockLoss
  rw [on, if_neg (by decide)]
  dsimp only
  rw [same]

theorem State.gladeRuns_setGlade (s : State) {h : Nat} (small : h < 2) (b : Bool) : (s.setGlade h b).gladeRuns h = b := by
  obtain rfl | rfl : h = 0 ∨ h = 1 := by omega
  · rfl
  · rfl

/-- The Glade whose clock has lost lock stops; with both clocks lost FAULT_N says so. -/
theorem State.islandLockLoss_mgmt (on : s.edge.powered = true) {h : Nat} (small : h < 2) : ∃ t, exec (.islandLockLoss (.mgmtClock h)) s = .next t ∧
    t.gladeRuns h = false ∧ 2 + h ∈ t.edge.unlocked ∧ ((2 + (1 - h)) ∈ s.edge.unlocked → FaultCause.mgmtClock ∈ t.edge.faults) ∧
      t.mem = s.mem ∧ t.chan = s.chan := by
  have same : h % 2 = h := Nat.mod_eq_of_lt small
  have told : Reported [] s (s.log { errRec 0x0602 with detail0 := h }) := reported_log _ _ _
  have run : exec (.islandLockLoss (.mgmtClock h)) s = .next
      (let u := ((s.log { errRec 0x0602 with detail0 := h }).unlock (2 + h)).setGlade h false
       if u.edge.unlocked.contains 2 && u.edge.unlocked.contains 3 then u.faultN .mgmtClock else u) := by
    change execIslandLockLoss (.mgmtClock h) s = _
    unfold execIslandLockLoss
    rw [on, if_neg (by decide)]
    dsimp only
    rw [same]
  have mem : (s.log { errRec 0x0602 with detail0 := h }).mem = s.mem := told.mem
  have chan : (s.log { errRec 0x0602 with detail0 := h }).chan = s.chan := told.chan
  have unlocked : (s.log { errRec 0x0602 with detail0 := h }).edge.unlocked = s.edge.unlocked := (congrArg EdgeSt.unlocked told.edge :)
  rw [run]
  generalize s.log { errRec 0x0602 with detail0 := h } = v at mem chan unlocked ⊢
  have stopped := (v.unlock (2 + h)).gladeRuns_setGlade small false
  have lost : ((v.unlock (2 + h)).setGlade h false).edge.unlocked = nins s.edge.unlocked (2 + h) := by
    rw [((v.unlock (2 + h)).setGlade_keeps h false).2.1]
    exact congrArg (nins · (2 + h)) unlocked
  have frame : ((v.unlock (2 + h)).setGlade h false).mem = s.mem ∧ ((v.unlock (2 + h)).setGlade h false).chan = s.chan := ⟨mem, chan⟩
  generalize (v.unlock (2 + h)).setGlade h false = w at stopped lost frame ⊢
  have own : 2 + h ∈ w.edge.unlocked := by
    rw [lost]
    exact mem_nins.2 (.inl rfl)
  have rest := w.faultN_rest .mgmtClock
  refine ⟨_, rfl, ?_⟩
  dsimp only
  split
  · refine ⟨?_, ?_, fun _ => State.mem_faultN _ _, (congrArg State.mem rest :).trans frame.1, (congrArg State.chan rest :).trans frame.2⟩
    · rw [rest]
      exact stopped
    · rw [rest]
      exact own
  · next one =>
    refine ⟨stopped, own, fun other => absurd ?_ one, frame⟩
    have both : ∀ k, k < 2 → 2 + k ∈ w.edge.unlocked := fun k bound => by
      rw [lost, mem_nins]
      rcases (by omega : k = h ∨ k = 1 - h) with same | same
      · exact .inl (congrArg (2 + ·) same)
      · exact .inr (same ▸ other)
    rw [List.contains_iff_mem.2 (both 0 (by decide)), List.contains_iff_mem.2 (both 1 (by decide))]
    rfl

/-! ## Glades (R381, R396, R422) -/

/-- The standby takes over: it is the active one, and staged values are lost. -/
theorem State.failover_leaves {h : Nat} (active : s.ob Obj.gladeActive = h) (standby : s.gladeRuns (1 - h) = true) :
    (s.failover h).ob Obj.gladeActive = 1 - h ∧ (s.failover h).dict.staged = [] := by
  have is : s.failover h = ((({ s with dict := { s.dict with staged := [] } } : State).setOb Obj.gladeActive (1 - h)).log
      { errRec 0x0603 with detail0 := h }).failure := by
    unfold State.failover
    rw [if_neg (by simp [active]), if_neg (by simp [standby])]
  have told := reported_log [] (({ s with dict := { s.dict with staged := [] } } : State).setOb Obj.gladeActive (1 - h)) { errRec 0x0603 with detail0 := h }
  rw [is]
  exact ⟨(told.ob _ (by unfold Quiet; decide) List.not_mem_nil).trans (State.setOb_same _ _ _), (congrArg DictSt.staged told.dict :)⟩

section

variable (on : s.edge.powered = true) {h : Nat} (small : h < 2) (image : FaultCause.noImage ∉ s.edge.faults) (active : s.ob Obj.gladeActive = h)

include on small image active

theorem State.gladeTimeout_standby (req : Option (Via × DictMsg)) (standby : s.gladeRuns (1 - h) = true) : exec (.gladeTimeout h req) s =
    .next ((((s.failover h).setGlade h (!s.edge.unlocked.contains (2 + h))).answerRetry req).retryLater).serveHeld := by
  have active' : (s.ob Obj.gladeActive != h) = false := by simp [active]
  change execGladeTimeout h req s = _
  unfold execGladeTimeout
  rw [active', standby, if_neg (by simp [on, small, image]), if_neg (by decide), if_neg (by decide)]

theorem State.gladeTimeout_alone (req : Option (Via × DictMsg)) (alone : s.gladeRuns (1 - h) = false) :
    ∃ t, exec (.gladeTimeout h req) s = .next t ∧ t.gladeRuns h = false ∧ FaultCause.glades ∈ t.edge.faults ∧ t.mem = s.mem ∧ t.chan = s.chan := by
  have active' : (s.ob Obj.gladeActive != h) = false := by simp [active]
  have run : exec (.gladeTimeout h req) s = .next ((s.setGlade h false).faultN .glades) := by
    change execGladeTimeout h req s = _
    unfold execGladeTimeout
    rw [active', alone, if_neg (by simp [on, small, image]), if_neg (by decide), if_pos (by decide)]
  have rest := (s.setGlade h false).faultN_rest .glades
  have stopped := s.gladeRuns_setGlade small false
  refine ⟨_, run, ?_, State.mem_faultN _ _, (congrArg State.mem rest :), (congrArg State.chan rest :)⟩
  rw [rest]
  exact stopped

end

/-- Settles O49: each event by the equation of its command. -/
theorem halfAndGladeEventsComplete : Obligations.HalfAndGladeEventsComplete := by
  unfold Obligations.HalfAndGladeEventsComplete
  intro s
  refine ⟨fun h small runs => ⟨fun other => ?_, fun other => ?_⟩, fun u => ⟨State.takenOver_same, State.takenOver_other⟩,
    fun h since lost down late => ⟨State.halfRejoinTimeout_first lost down late, State.halfRejoinTimeout_second lost down late⟩,
    fun h main side small missed zero one => ⟨State.bridgeHeartbeatMiss_side small missed zero one, State.bridgeHeartbeatMiss_main small missed zero one⟩,
    fun on => ⟨fun st => State.islandLockLoss_stack on, State.islandLockLoss_bridge on, fun n => State.islandLockLoss_port on,
      State.islandLockLoss_pcie on, fun g => State.islandLockLoss_guest on, fun h => State.islandLockLoss_mgmt on⟩,
    fun h req small on image active => ⟨fun standby => ⟨State.gladeTimeout_standby on small image active req standby, State.failover_leaves active standby⟩,
      State.gladeTimeout_alone on small image active req⟩⟩
  · rw [← State.loseHalf_drop small runs other]
    exact ⟨rfl, rfl⟩
  · rw [← State.loseHalf_reset small runs other]
    exact ⟨rfl, rfl⟩

end Sys2Proof.Machine
end

section
/-! PROOFS. The events of a port and the moves of packets (R218 to R236, R255), with O31 and O34. -/

namespace Sys2Proof.Machine

variable {s : State}

/-! ## Ports (R218, R221 to R226) -/

section

variable {port : Nat} (training : s.portSt port = 1)

include training

theorem State.trainingDone_none : exec (.trainingDone port none) s = .next (s.backoff port) := by
  change execTrainingDone port none s = _
  unfold execTrainingDone
  rw [training, if_neg (by decide)]

/-- What training with a peer comes to. -/
theorem State.trainingDone_some (r : PeerReport) : exec (.trainingDone port (some r)) s =
    if s.me == 0 || decide ((s.port port).since + 100000000 < s.now) then .next (s.backoff port)
    else if 7 ≤ port then .next (s.comeUp port 0 fullCredits)
    else match s.peerRefused port r with
      | some cause => .next (((s.enterPort port 4 cause).lengthen port).log { errRec 0x0302 with detail0 := port })
      | none => .next (s.comeUp port r.endpoint r.credits) := by
  change execTrainingDone port (some r) s = _
  unfold execTrainingDone
  rw [training, if_neg (by decide)] <;> rfl

theorem State.trainingDone_late (r : PeerReport) (late : s.me = 0 ∨ (s.port port).since + 100000000 < s.now) :
    exec (.trainingDone port (some r)) s = .next (s.backoff port) := by
  rw [State.trainingDone_some training, if_pos (by simpa using late)]

/-- Training in time by a module that has an endpoint. -/
theorem State.trainingDone_timely (r : PeerReport) (me : s.me ≠ 0) (timely : s.now ≤ (s.port port).since + 100000000) :
    exec (.trainingDone port (some r)) s = if 7 ≤ port then .next (s.comeUp port 0 fullCredits)
    else match s.peerRefused port r with
      | some cause => .next (((s.enterPort port 4 cause).lengthen port).log { errRec 0x0302 with detail0 := port })
      | none => .next (s.comeUp port r.endpoint r.credits) := by
  rw [State.trainingDone_some training, if_neg (by simpa using ⟨me, timely⟩)]

end

theorem State.backoffReset_leaves {port : Nat} (up : s.portUp port = true) (long : (s.port port).since + 60000000000 ≤ s.now) :
    ∃ t, exec (.backoffReset port) s = .next t ∧ t.port port = { s.port port with backoff := 0 } ∧
      (∀ k, k ≠ port → t.port k = s.port k) ∧ (∀ k, t.ob k = s.ob k) ∧ t.mem = s.mem ∧ t.chan = s.chan := by
  have run : exec (.backoffReset port) s = .next (s.modPort port (fun p => { p with backoff := 0 })) := by
    change execBackoffReset port s = _
    unfold execBackoffReset
    rw [up, decide_eq_true long]
    rfl
  exact ⟨_, run, s.modPort_same port _, fun k other => s.modPort_other _ other, fun _ => rfl, rfl, rfl⟩

/-- Settles O31: each event by the equation of its command. -/
theorem portEventsComplete : Obligations.PortEventsComplete := by
  unfold Obligations.PortEventsComplete
  intro s port _
  refine ⟨fun training => ⟨State.trainingDone_none training, fun r => ⟨State.trainingDone_late training r, fun me timely => ⟨fun uplink => ?_,
    fun grove fit => ?_, fun c grove unfit => ?_⟩⟩⟩, fun up => ?_, fun waits past => ?_, State.backoffReset_leaves⟩
  · rw [State.trainingDone_timely training r me timely, if_pos uplink]
  · rw [State.trainingDone_timely training r me timely, if_neg (Nat.not_le.2 grove), fit]
  · rw [State.trainingDone_timely training r me timely, if_neg (Nat.not_le.2 grove), unfit]
  · change execLinkLoss port s = _
    exact if_pos up
  · change execBackoffExpiry port s = _
    unfold execBackoffExpiry
    rw [waits, decide_eq_true past]
    rfl

/-! ## Packets that leave (R226, R235, R247, R255, R261) -/

section

variable {n : Nat} {viaUp : List Nat} {p q : Packet} {again : Bool} {t : State} (pulled : s.pull n = some (p, again, t))
  (is : (if again then p else s.stamp p) = q) (me : s.me ≠ 0) (runs : s.suspended q = false)

include pulled is me runs

/-- The branches a waiting packet may take. -/
theorem State.packetSend_eq : exec (.packetSend n viaUp) s =
    if q.dest == s.me then .next { t with fab := { t.fab with rx := t.fab.rx ++ [(9, q.seal)] } }
    else if q.dest == 0xFFFF then
      if s.grovePeers.all (fun ep => !s.directUp (s.epEntry q.epoch ep) ep || s.portReady (s.epEntry q.epoch ep).port q) then .next (t.broadcast q)
      else .next (s.grovePeers.foldl (fun s ep => if s.directUp (s.epEntry q.epoch ep) ep then s.noteWait (s.epEntry q.epoch ep).port q else s) s)
    else if (s.routeOf q).route == 2 then
      match t.groveRoute (s.routeOf q) q viaUp with
      | some k => if s.portReady k q then .next (t.onPort k q) else .next (s.noteWait k q)
      | none => s.byForest t (s.routeOf q) q
    else if (s.routeOf q).route == 3 then s.byForest t (s.routeOf q) q
    else .next (t.noRoute q) := by
  have stays : ¬ (s.me == 0 || s.suspended q) = true := by simp [me, runs]
  change execPacketSend n viaUp s = _
  unfold execPacketSend
  rw [pulled]
  dsimp only
  rw [is, if_neg stays] <;> rfl

theorem State.packetSend_own (own : q.dest = s.me) :
    exec (.packetSend n viaUp) s = .next { t with fab := { t.fab with rx := t.fab.rx ++ [(9, q.seal)] } } := by
  rw [State.packetSend_eq pulled is me runs, if_pos (beq_iff_eq.2 own)]

theorem State.packetSend_broadcast (other : q.dest ≠ s.me) (all : q.dest = 0xFFFF)
    (ready : ∀ ep ∈ s.grovePeers, s.directUp (s.epEntry q.epoch ep) ep = true → s.portReady (s.epEntry q.epoch ep).port q = true) :
    exec (.packetSend n viaUp) s = .next (t.broadcast q) := by
  rw [State.packetSend_eq pulled is me runs, if_neg (by simp [other]), if_pos (by simp [all]), if_pos]
  rw [List.all_eq_true]
  intro ep inside
  cases up : s.directUp (s.epEntry q.epoch ep) ep with
  | false => rfl
  | true => simp [ready ep inside up]

theorem State.packetSend_broadcastWaits (other : q.dest ≠ s.me) (all : q.dest = 0xFFFF)
    (waits : ∃ ep ∈ s.grovePeers, s.directUp (s.epEntry q.epoch ep) ep = true ∧ s.portReady (s.epEntry q.epoch ep).port q = false) :
    exec (.packetSend n viaUp) s = .next (s.grovePeers.foldl (fun s ep =>
      if s.directUp (s.epEntry q.epoch ep) ep then s.noteWait (s.epEntry q.epoch ep).port q else s) s) := by
  obtain ⟨ep, inside, up, notReady⟩ := waits
  rw [State.packetSend_eq pulled is me runs, if_neg (by simp [other]), if_pos (by simp [all]), if_neg]
  rw [List.all_eq_true]
  exact fun ready => absurd (ready ep inside) (by simp [up, notReady])

theorem State.packetSend_grove (other : q.dest ≠ s.me) (one : q.dest ≠ 0xFFFF) {k : Nat} (route : (s.routeOf q).route = 2)
    (by_ : t.groveRoute (s.routeOf q) q viaUp = some k) :
    exec (.packetSend n viaUp) s = if s.portReady k q then .next (t.onPort k q) else .next (s.noteWait k q) := by
  rw [State.packetSend_eq pulled is me runs, if_neg (by simp [other]), if_neg (by simp [one]), if_pos (by simp [route]), by_]

theorem State.packetSend_forest (other : q.dest ≠ s.me) (one : q.dest ≠ 0xFFFF)
    (route : (s.routeOf q).route = 3 ∨ ((s.routeOf q).route = 2 ∧ t.groveRoute (s.routeOf q) q viaUp = none)) :
    exec (.packetSend n viaUp) s = s.byForest t (s.routeOf q) q := by
  rw [State.packetSend_eq pulled is me runs, if_neg (by simp [other]), if_neg (by simp [one])]
  rcases route with three | ⟨two, none_⟩
  · rw [if_neg (by simp [three]), if_pos (by simp [three])]
  · rw [if_pos (by simp [two]), none_]

theorem State.packetSend_noRoute (other : q.dest ≠ s.me) (one : q.dest ≠ 0xFFFF) (notTwo : (s.routeOf q).route ≠ 2) (notThree : (s.routeOf q).route ≠ 3) :
    exec (.packetSend n viaUp) s = .next (t.noRoute q) := by
  rw [State.packetSend_eq pulled is me runs, if_neg (by simp [other]), if_neg (by simp [one]), if_neg (by simp [notTwo]), if_neg (by simp [notThree])]

end

/-- The three ends of a packet that goes by the forest (R236, R247). -/
theorem State.byForest_cases (s t : State) (e : EpEntry) (p : Packet) :
    (∀ w, s.uplinksFor e ≠ [] → t.forestSend e p = (true, w) → s.byForest t e p = .next w) ∧
    (∀ w, s.uplinksFor e ≠ [] → t.forestSend e p = (false, w) → s.byForest t e p = .next (s.forestSend e p).2) ∧
    (s.uplinksFor e = [] → s.byForest t e p = .next (t.noRoute p)) := by
  unfold State.byForest
  refine ⟨fun w some_ left => ?_, fun w some_ waits => ?_, fun none_ => ?_⟩
  · rw [if_neg (by simpa using some_), left]
    rfl
  · rw [if_neg (by simpa using some_), waits]
    rfl
  · rw [if_pos (by simp [none_])]

/-! ## Intermediate modules (R233, R235) -/

theorem State.packetForward_eq {port : Nat} {p : Packet} (other : s.forMe p = false) (held : s.fab.rx.contains (port, p) = true) :
    exec (.packetForward port p) s =
      if p.hop || (s.routeOf p).route != 2 || !s.directUp (s.routeOf p) p.dest then .next ((s.unbuffer p).noRoute p)
      else if s.portReady (s.routeOf p).port p then .next (s.hopOn (s.routeOf p).port port p p.vc)
      else if s.fab.waitingFwd.any (fun w => w.port == port && w.packet == p) then .next (s.noteWait (s.routeOf p).port p)
      else .next (let u := s.noteWait (s.routeOf p).port p
        { u with fab := { u.fab with waitingFwd := u.fab.waitingFwd ++ [⟨port, p, u.now⟩] } }) := by
  change execPacketForward port p s = _
  unfold execPacketForward
  rw [other, held]
  rfl

theorem State.noteWait_now (s : State) (n : Nat) (p : Packet) : (s.noteWait n p).now = s.now := by
  unfold State.noteWait
  split <;> rfl

theorem State.packetForward_direct {port : Nat} {p : Packet} (other : s.forMe p = false) (held : s.fab.rx.contains (port, p) = true)
    (first : p.hop = false) (grove : (s.routeOf p).route = 2) (up : s.directUp (s.routeOf p) p.dest = true) :
    (s.portReady (s.routeOf p).port p = true → exec (.packetForward port p) s = .next (s.hopOn (s.routeOf p).port port p p.vc)) ∧
    (s.portReady (s.routeOf p).port p = false → s.fab.waitingFwd.any (fun w => w.port == port && w.packet == p) = false →
      exec (.packetForward port p) s = .next (let u := s.noteWait (s.routeOf p).port p
        { u with fab := { u.fab with waitingFwd := u.fab.waitingFwd ++ [⟨port, p, s.now⟩] } })) := by
  have routed : ¬ (p.hop || (s.routeOf p).route != 2 || !s.directUp (s.routeOf p) p.dest) = true := by simp [first, grove, up]
  rw [State.packetForward_eq other held, if_neg routed]
  refine ⟨fun ready => if_pos ready, fun notReady fresh => ?_⟩
  rw [if_neg (by simp [notReady]), fresh, if_neg (by decide)]
  dsimp only
  rw [State.noteWait_now]

theorem State.escapeWaitExpiry_eq {n : Nat} {w : Waiting} (found : s.fab.waitingFwd[n]? = some w) (late : w.since + s.ob Obj.escapeWait * 1000 ≤ s.now)
    (up : s.directUp (s.routeOf w.packet) w.packet.dest = true) (ready : s.portReady (s.routeOf w.packet).port { w.packet with vc := 5 } = true) :
    exec (.escapeWaitExpiry n) s = .next ((s.hopOn (s.routeOf w.packet).port w.port w.packet 5).bump Obj.escapeUses) := by
  change execEscapeWaitExpiry n s = _
  unfold execEscapeWaitExpiry
  rw [found]
  dsimp only
  rw [decide_eq_true late, up, ready]
  rfl

/-- Settles O34: the branches of the three commands. -/
theorem packetMovesComplete : Obligations.PacketMovesComplete := by
  unfold Obligations.PacketMovesComplete
  intro s
  refine ⟨fun n viaUp p again t pulled => ?_, fun port p other held => ?_, fun n w found late up ready => State.escapeWaitExpiry_eq found late up ready⟩
  · intro q me runs
    refine ⟨State.packetSend_own pulled rfl me runs, State.packetSend_broadcast pulled rfl me runs, State.packetSend_broadcastWaits pulled rfl me runs,
      fun other one => ⟨fun k route by_ => ?_, fun route => ?_, State.packetSend_noRoute pulled rfl me runs other one⟩⟩
    · rw [State.packetSend_grove pulled rfl me runs other one route by_]
      exact ⟨fun ready => if_pos ready, fun waits => if_neg (by simp [q, waits])⟩
    · rw [State.packetSend_forest pulled rfl me runs other one route]
      exact s.byForest_cases t _ _
  · intro e
    refine ⟨fun first grove up => State.packetForward_direct other held first grove up, fun lost => ?_⟩
    rw [State.packetForward_eq other held, if_pos]
    simpa [or_assoc] using lost

end Sys2Proof.Machine
end

section
/-! PROOFS. The guest sites (R419 to R421), with O50. -/

namespace Sys2Proof.Machine

variable {s : State} {site tag addr len : Nat}

/-! ## Addresses of a guest -/

theorem ownWindow_of_notGuest (notGuest : isGuest addr = false) : ownWindow site addr len = false := by
  have other : placeOf addr ≠ .guest site := by
    intro same
    unfold isGuest at notGuest
    rw [same] at notGuest
    cases notGuest
  unfold ownWindow
  rw [beq_false_of_ne other, Bool.false_and]

/-! ## Requests of a guest (R421) -/

theorem State.guestLinkTrainingDone_eq (real : site < 2) (cap : s.cap 4 = true) (runs : s.halfRuns site = true) (rate : Option Bool) :
    exec (.guestLinkTrainingDone site rate) s = match rate with
      | some r => .next (if s.guestUp site then s else (s.setOb (Obj.guestLink site) (2 + 4 * bit r)).relock (20 + site))
      | none => .next (s.guestDown site) := by
  change execGuestLinkTrainingDone site rate s = _
  unfold execGuestLinkTrainingDone
  rw [decide_eq_false (Nat.not_le.2 real), cap, runs]
  rfl

section

variable (hears : s.guestHears site = true)

include hears

theorem State.guestRead_refused (no : s.guestMay site 2 addr len = false) :
    exec (.guestRead site tag addr len) s = .next (s.guestRefuse site tag addr len) := by
  change execGuestRead site tag addr len s = _
  unfold execGuestRead
  rw [hears, no]
  rfl

/-- A read that a guest may make. -/
theorem State.guestRead_allowed (may : s.guestMay site 2 addr len = true) : exec (.guestRead site tag addr len) s =
    if ownWindow site addr len then .next ((s.toGuest site 3 tag addr len 0 (guestBlocks addr (s.freeBytes len))).drawn len)
    else if isGuest addr then .next (s.forwardGuest site tag 1 addr len [])
    else if s.touchesLost addr len then .next (s.toGuest site 5 tag addr len 1 [])
    else match s.badBlocksOf addr len with
      | [] => .next (s.toGuest site 3 tag addr len 0 (guestBlocks addr (s.bytesAt addr len)))
      | l => .next ((l.foldl (fun s (x : Nat × BadKind) => s.ownError x.1 x.2) s).toGuest site 5 tag addr len 3 []) := by
  change execGuestRead site tag addr len s = _
  unfold execGuestRead
  rw [hears, may, if_neg (by decide), if_neg (by decide)] <;> rfl

theorem State.guestRead_memory (may : s.guestMay site 2 addr len = true) (notGuest : isGuest addr = false) (there : s.touchesLost addr len = false)
    (good : s.badBlocksOf addr len = []) :
    exec (.guestRead site tag addr len) s = .next (s.toGuest site 3 tag addr len 0 (guestBlocks addr (s.bytesAt addr len))) := by
  rw [State.guestRead_allowed hears may, ownWindow_of_notGuest notGuest, notGuest, there, good]
  rfl

theorem State.guestRead_own (may : s.guestMay site 2 addr len = true) (own : ownWindow site addr len = true) :
    exec (.guestRead site tag addr len) s = .next ((s.toGuest site 3 tag addr len 0 (guestBlocks addr (s.freeBytes len))).drawn len) := by
  rw [State.guestRead_allowed hears may, if_pos own]

theorem State.guestRead_other (may : s.guestMay site 2 addr len = true) (other : ownWindow site addr len = false) (guest : isGuest addr = true) :
    exec (.guestRead site tag addr len) s = .next (s.forwardGuest site tag 1 addr len []) := by
  rw [State.guestRead_allowed hears may, other, if_neg (by decide), if_pos guest]

/-- A write of whole blocks that a guest may make, outside its own window and on a half that runs. -/
theorem State.guestWrite_allowed {blocks : List GuestBlock} (whole : badGuestBlock addr blocks = none) (may : s.guestMay site 3 addr (64 * blocks.length) = true)
    (other : ownWindow site addr (64 * blocks.length) = false) (there : s.touchesLost addr (64 * blocks.length) = false) :
    exec (.guestWrite site tag addr blocks) s = if isGuest addr then .next (s.forwardGuest site tag 2 addr (64 * blocks.length) blocks)
      else .next ((s.put addr (blocks.flatMap (fun b => b.data))).toGuest site 4 tag addr (64 * blocks.length) 0 []) := by
  change execGuestWrite site tag addr blocks s = _
  unfold execGuestWrite
  dsimp only
  rw [hears, may, whole, other, there]
  rfl

end

/-! ## Answers of a guest (R421) -/

section

variable {r : GuestReq} (hears : s.guestHears site = true) (asked : s.guestReq site tag = some r)

include hears asked

/-- The answer to a read, with as many blocks as were asked for. -/
theorem State.guestReadResp_eq {blocks : List GuestBlock} (read : r.op = 1) (length : 64 * blocks.length = r.len) :
    exec (.guestReadResp site tag blocks) s = match badGuestBlock r.addr blocks with
      | some a => .next ((s.log { errRec 0x0201 with address := a % 2 ^ 48 }).guestFailed r a 3)
      | none => .next (((if r.answer.isSome then s else s.poke r.addr (blocks.flatMap (fun b => b.data))).answerGuest r 3 0 blocks).guestAnswered r) := by
  change execGuestReadResp site tag blocks s = _
  unfold execGuestReadResp
  rw [asked]
  dsimp only
  rw [hears, read, length, if_neg (by decide), if_neg (by simp)] <;> rfl

theorem State.guestReadResp_own {blocks : List GuestBlock} (read : r.op = 1) (length : 64 * blocks.length = r.len)
    (whole : badGuestBlock r.addr blocks = none) (own : r.answer = none) :
    exec (.guestReadResp site tag blocks) s = .next ((s.poke r.addr (blocks.flatMap (fun b => b.data))).guestAnswered r) := by
  rw [State.guestReadResp_eq hears asked read length, whole]
  dsimp only
  unfold State.answerGuest
  rw [own]
  rfl

theorem State.guestReadResp_relayed {blocks : List GuestBlock} (read : r.op = 1) (length : 64 * blocks.length = r.len)
    (whole : badGuestBlock r.addr blocks = none) (relayed : r.answer ≠ none) :
    exec (.guestReadResp site tag blocks) s = .next ((s.answerGuest r 3 0 blocks).guestAnswered r) := by
  rw [State.guestReadResp_eq hears asked read length, whole, if_pos (Option.isSome_iff_ne_none.2 relayed)]

theorem State.guestReadResp_torn {blocks : List GuestBlock} (read : r.op = 1) (length : 64 * blocks.length = r.len) {a : Nat}
    (torn : badGuestBlock r.addr blocks = some a) :
    exec (.guestReadResp site tag blocks) s = .next ((s.log { errRec 0x0201 with address := a % 2 ^ 48 }).guestFailed r a 3) := by
  rw [State.guestReadResp_eq hears asked read length, torn]

theorem State.guestWriteAck_eq (write : r.op = 2) : exec (.guestWriteAck site tag) s = .next ((s.answerGuest r 4 0 []).guestAnswered r) := by
  change execGuestWriteAck site tag s = _
  unfold execGuestWriteAck
  rw [asked]
  dsimp only
  rw [hears, write, if_neg (by decide)]

theorem State.guestError_eq {code : Nat} (some_ : code ≠ 0) : exec (.guestError site tag code) s = .next (s.guestFailed r r.addr code) := by
  change execGuestError site tag code s = _
  unfold execGuestError
  rw [asked]
  dsimp only
  rw [hears, beq_false_of_ne some_, if_neg (by decide)]

omit hears in
theorem State.guestRequestTimeout_eq (late : r.at_ + 1000000 ≤ s.now) : exec (.guestRequestTimeout site tag) s = .next (s.guestFailed r r.addr 6) := by
  change execGuestRequestTimeout site tag s = _
  unfold execGuestRequestTimeout
  rw [asked]
  dsimp only
  rw [if_neg (Nat.not_lt.2 late)]

end

/-- Settles O50: each message by the equation of its command; a guest's own window reads as free bytes. -/
theorem guestEventsComplete : Obligations.GuestEventsComplete := by
  unfold Obligations.GuestEventsComplete
  refine ⟨fun s site real cap runs => ⟨fun rate down => ?_, State.guestLinkTrainingDone_eq real cap runs none⟩, fun s site hears => ⟨fun tag addr len =>
    ⟨State.guestRead_refused hears, State.guestRead_memory hears, fun may own => ?_, State.guestRead_other hears⟩,
    fun tag addr blocks whole may other there guest => ?_, fun tag addr blocks whole may other there notGuest => ?_, fun tag r asked =>
    ⟨fun blocks read length => ⟨fun whole => ⟨State.guestReadResp_own hears asked read length whole, State.guestReadResp_relayed hears asked read length whole⟩,
      fun a torn => State.guestReadResp_torn hears asked read length torn⟩,
    State.guestWriteAck_eq hears asked, fun code => State.guestError_eq hears asked, State.guestRequestTimeout_eq asked⟩⟩⟩
  · rw [State.guestLinkTrainingDone_eq real cap runs, down]
    rfl
  · refine ⟨s.freeBytes len, ?_, State.guestRead_own hears may own⟩
    exact (List.length_map _).trans List.length_range
  · rw [State.guestWrite_allowed hears whole may other there, if_pos guest]
  · rw [State.guestWrite_allowed hears whole may other there, notGuest]
    rfl

end Sys2Proof.Machine
end

section
/-! PROOFS. Attestation and the management endpoint (R11, R369, R424), with O51. -/

namespace Sys2Proof.Machine

variable {s : State} (manages : s.manages = true)

include manages

/-! ## Negotiation (R424) -/

theorem State.getVersion_eq : exec .getVersion s = .next (s.beginSpdm.spdmAnswer 0x04 0 0 spdmVersions) :=
  congrArg Host.Outcome.next (if_pos manages)

theorem State.getCapabilities_eq (begun : 1 ≤ s.edge.spdm) : exec .getCapabilities s = .next ((s.answerCapabilities (s.freeBytes 16)).drawn 16) := by
  change execGetCapabilities s = _
  unfold execGetCapabilities
  rw [manages, if_neg (by decide), if_neg (Nat.not_lt.2 begun)]

theorem State.negotiateAlgorithms_eq (capable : 2 ≤ s.edge.spdm) :
    exec .negotiateAlgorithms s = .next ((s.answerAlgorithms (s.freeBytes 28)).drawn 28) := by
  change execNegotiateAlgorithms s = _
  unfold execNegotiateAlgorithms
  rw [manages, if_neg (by decide), if_neg (Nat.not_lt.2 capable)]

/-! ## Requests that need the whole negotiation (R424, Table 12-12) -/

theorem State.attested_served {ok : Bool} {f : State → State} (negotiated : 3 ≤ s.edge.spdm) (valid : ok = true) : s.attested ok f = f s := by
  unfold State.attested
  rw [manages, valid, if_neg (by decide), if_neg (Nat.not_lt.2 negotiated), if_neg (by decide)]

theorem State.attested_invalid {ok : Bool} {f : State → State} (negotiated : 3 ≤ s.edge.spdm) (invalid : ok = false) : s.attested ok f = s.spdmError 0x01 := by
  unfold State.attested
  rw [manages, invalid, if_neg (by decide), if_neg (Nat.not_lt.2 negotiated), if_pos (by decide)]

theorem State.attested_early {ok : Bool} {f : State → State} (early : s.edge.spdm < 3) : s.attested ok f = s.spdmError 0x04 := by
  unfold State.attested
  rw [manages, if_neg (by decide), if_pos early]

omit manages in
/-- An answer on the I3C path leaves memory, channels and the dictionary. -/
theorem State.spdmAnswer_rest (s : State) (code p1 p2 : Nat) (body : List Byte) : (s.spdmAnswer code p1 p2 body).mem = s.mem ∧
    (s.spdmAnswer code p1 p2 body).chan = s.chan ∧ (s.spdmAnswer code p1 p2 body).dict = s.dict :=
  have traffic := trafficOnly_answerI3c s (.spdm code (spdmResp code p1 p2 body))
  ⟨traffic.mem, traffic.chan, traffic.dict⟩

theorem State.challenge_served (negotiated : 3 ≤ s.edge.spdm) {ask : ChallengeAsk} (known : ask.summary ∈ [0, 1, 0xFF]) :
    ∃ t, exec (.challenge 0 ask) s = .next t ∧ (∃ own : List Byte, own.length = 32 ∧ t = { s.answerChallenge ask own with free := t.free }) ∧
      t.mem = s.mem ∧ t.chan = s.chan ∧ t.dict = s.dict := by
  have run : exec (.challenge 0 ask) s = .next ((s.answerChallenge ask (s.freeBytes 32)).drawn 32) :=
    congrArg Host.Outcome.next (State.attested_served manages negotiated (by simpa using known))
  obtain ⟨mem, chan, dict⟩ := ({ s with edge := { s.edge with spdmCert := [] } } : State).spdmAnswer_rest 0x03 0 1
    (s.challengeBody ask.summary (s.freeBytes 32) ++ spdmSign "responder-challenge_auth signing" (s.edge.spdmVca ++ s.edge.spdmCert ++
      spdmMsg 0x12 0x83 0 ask.summary ask.nonce ++ spdmResp 0x03 0 1 (s.challengeBody ask.summary (s.freeBytes 32))))
  exact ⟨_, run, ⟨s.freeBytes 32, (List.length_map _).trans List.length_range, rfl⟩, mem, chan, dict⟩

theorem State.getMeasurements_served (negotiated : 3 ≤ s.edge.spdm) {index : Nat} (known : index ≤ 5 ∨ index = 0xFF) (nonce : List Byte) :
    ∃ t, exec (.getMeasurements index nonce) s = .next t ∧
      (∃ own : List Byte, own.length = 32 ∧ t = { s.answerMeasurements index nonce own with free := t.free }) ∧
      t.mem = s.mem ∧ t.chan = s.chan ∧ t.dict = s.dict := by
  have run : exec (.getMeasurements index nonce) s = .next ((s.answerMeasurements index nonce (s.freeBytes 32)).drawn 32) :=
    congrArg Host.Outcome.next (State.attested_served manages negotiated (by simpa using known))
  have rest : (s.answerMeasurements index nonce (s.freeBytes 32)).mem = s.mem ∧ (s.answerMeasurements index nonce (s.freeBytes 32)).chan = s.chan ∧
      (s.answerMeasurements index nonce (s.freeBytes 32)).dict = s.dict := s.spdmAnswer_rest _ _ _ _
  exact ⟨_, run, ⟨s.freeBytes 32, (List.length_map _).trans List.length_range, rfl⟩, rest⟩

omit manages in
/-- One measurement, or all, is signed over the negotiation and this exchange. -/
theorem State.answerMeasurements_of_pos (s : State) {index : Nat} (pos : 1 ≤ index) (nonce own : List Byte) :
    s.answerMeasurements index nonce own = s.spdmAnswer 0x60 0 0 (s.measurementsBody index own ++
      spdmSign "responder-measurements signing" (s.edge.spdmVca ++ spdmMsg 0x12 0xE0 1 index (nonce ++ [0]) ++
        spdmResp 0x60 0 0 (s.measurementsBody index own))) := by
  have zero : (if index == 0 then 5 else 0) = 0 := if_neg (by simp; omega)
  unfold State.answerMeasurements
  dsimp only
  rw [zero]

/-! ## I3C and MCTP (R11, R369) -/

theorem State.dynamicAddressAssignment_eq {addr : Nat} (small : addr < 128) :
    exec (.dynamicAddressAssignment addr) s = .next { s with edge := { s.edge with i3cAddr := some addr } } := by
  change execDynamicAddressAssignment addr s = _
  unfold execDynamicAddressAssignment
  rw [manages, decide_eq_true small]
  rfl

theorem State.mctp_setEid (data : List Byte) : exec (.mctpControlMessage 1 data) s = .next (s.setEid data) := by
  change execMctpControlMessage 1 data s = _
  unfold execMctpControlMessage
  rw [manages]
  rfl

omit manages in
theorem State.setEid_two (s : State) (op eid : Byte) : s.setEid [op, eid] =
    if decide (2 ≤ op.toNat % 4) || decide (eid.toNat < 8) || eid.toNat == 0xFF then s.answerI3c (.mctp 1 [2])
    else ({ s with edge := { s.edge with mctpEid := eid.toNat } } : State).answerI3c (.mctp 1 [0, 0, BitVec.ofNat 8 eid.toNat, 0]) := rfl

omit manages in
theorem byte_toNat_eq_max {eid : Byte} : eid.toNat = 0xFF ↔ eid = 0xFF :=
  ⟨fun same => BitVec.eq_of_toNat_eq same, fun same => congrArg BitVec.toNat same⟩

theorem State.mctp_getEid (data : List Byte) :
    exec (.mctpControlMessage 2 data) s = .next (s.answerI3c (.mctp 2 [0, BitVec.ofNat 8 s.edge.mctpEid, 0, 0])) := by
  change execMctpControlMessage 2 data s = _
  unfold execMctpControlMessage
  rw [manages]
  rfl

theorem State.mctp_versions (type : Byte) : exec (.mctpControlMessage 4 [type]) s = .next (s.answerI3c (.mctp 4 (mctpVersions type.toNat))) := by
  change execMctpControlMessage 4 [type] s = _
  unfold execMctpControlMessage
  rw [manages]
  rfl

omit manages in
/-- Settles O51: each request by the equation of its command; what a requester sends that the command does not carry is free bytes. -/
theorem attestationAndManagementComplete : Obligations.AttestationAndManagementComplete := by
  unfold Obligations.AttestationAndManagementComplete
  intro s manages
  refine ⟨State.getVersion_eq manages, fun begun => ⟨_, State.getCapabilities_eq manages begun, s.freeBytes 16, (List.length_map _).trans List.length_range, rfl⟩,
    fun capable => ⟨_, State.negotiateAlgorithms_eq manages capable, s.freeBytes 28, (List.length_map _).trans List.length_range, rfl⟩,
    fun negotiated => ⟨?_, fun offset len => ?_, fun slot offset len other => ?_, fun ask => State.challenge_served manages negotiated, fun slot ask other => ?_,
      fun index nonce known => State.getMeasurements_served manages negotiated known nonce⟩,
    fun own => ⟨fun ask => rfl, fun index nonce pos => s.answerMeasurements_of_pos pos nonce own⟩, fun early index nonce => ?_,
    fun addr => State.dynamicAddressAssignment_eq manages, fun op eid own least most => ?_, fun op eid bad => ?_, State.mctp_getEid manages, State.mctp_versions manages⟩
  · exact congrArg Host.Outcome.next (State.attested_served manages negotiated rfl)
  · exact congrArg Host.Outcome.next (State.attested_served manages negotiated rfl)
  · exact congrArg Host.Outcome.next (State.attested_invalid manages negotiated (beq_false_of_ne other))
  · exact congrArg Host.Outcome.next (State.attested_invalid manages negotiated (by rw [beq_false_of_ne other, Bool.false_and]))
  · exact congrArg Host.Outcome.next (State.attested_early manages early)
  · have max : eid.toNat ≠ 0xFF := mt byte_toNat_eq_max.1 most
    rw [State.mctp_setEid manages, State.setEid_two, if_neg, BitVec.ofNat_toNat, BitVec.setWidth_eq]
    simp only [Bool.or_eq_true, decide_eq_true_eq, beq_iff_eq]
    omega
  · rw [State.mctp_setEid manages, State.setEid_two, if_pos]
    simp only [Bool.or_eq_true, decide_eq_true_eq, beq_iff_eq, byte_toNat_eq_max]
    exact or_assoc.2 bad

end Sys2Proof.Machine
end
